-- ==== Sys2Proof/Word.lean ====
section
/-! DEFINITION. The word types of the Praica block and the sparse-map type its state is made of. -/

namespace Sys2Proof

/-- A byte of memory. -/
abbrev Byte := BitVec 8

/-- A register word (00 section Register tables: every register is 32 bits wide). -/
abbrev Word := BitVec 32

/-- A sparse table: entries by key, keys strictly rising. What an unlisted key holds is said where the table is read. -/
abbrev NMap (α : Type) := List (Nat × α)

end Sys2Proof
end

