-- ==== Sys2Proof/Syntax.lean ====
section
/-! DEFINITION. The commands of the block: one constructor per row of spec/opcode_table.json, with the operands that
the outside or time decides. -/

namespace Sys2Proof

/-- The three variants of the die (01 section Variants and the unit roster). -/
inductive Variant
  | z740 | z720 | z710
  deriving DecidableEq, Repr

/-- A requester of accesses; its hank ID is attached by its port (04 R88), its ID is that of R112. -/
inductive Requester
  /-- Spindle core c: the hank of the task it runs. -/
  | spindle (c : Nat)
  /-- Bobbin channel n: the hank of its program. -/
  | bobbin (n : Nat)
  /-- Application core c while it runs the guest bound to `hank`; 0 outside guests (the resident services). -/
  | app (c : Nat) (hank : Nat)
  /-- Whorl tile t: the hank of its job. -/
  | tile (t : Nat)
  /-- The carding back end, for the hank that owns the frame or sample. -/
  | carding (hank : Nat)
  /-- The tokenizer: the hank of its job. -/
  | tokenizer
  /-- The PCIe physical function: hank 0, host authority. -/
  | pf
  /-- PCIe virtual function n: the hank bound to it. -/
  | vf (n : Nat)
  /-- The steward core: hank 0. -/
  | steward
  /-- The authenticated console, through the steward: hank 0. -/
  | console
  /-- The tray master's command on a peer, through the steward: hank 0. -/
  | trayMaster
  /-- The tray link relay, for the hank of the relay job. -/
  | relay (hank : Nat)
  deriving DecidableEq, Repr

/-- Who orders a management, power, Warp or firmware command. -/
inductive Authority
  | steward | console | trayMaster | host | services
  deriving DecidableEq, Repr

/-- A board and boot environment, sampled at the release of POR_N. -/
structure BootEnv where
  /-- straps TRAY_MASTER and TRAY_ADDR (19 R425) -/
  master : Bool
  addr : Nat
  /-- reference clocks running (19 R429, R430) -/
  refSys : Bool
  refPcie : Bool
  refEth : Bool
  /-- for each DRAM interface 0 to 3: training converged, and its density code (05 R121, R122) -/
  dram : List (Bool × Nat)
  /-- islands whose regulator confirmed V(OP0) (17 R389 t4) -/
  confirmed : List Nat
  /-- the journal epoch could be programmed (16 R381) -/
  epochSaved : Bool
  /-- temperatures of the 16 sites (14 R334) -/
  sites : List Nat
  deriving DecidableEq, Repr

/-- One placement the device chose for a pool's memory (04 section Buffer pools). -/
structure Placement where
  ply : Nat
  pool : Nat
  base : Nat
  deriving DecidableEq, Repr

/-- What the units have metered of a job in flight when a boundary reads it (03 R70): tile-cycles, Spindle-cycles, DRAM bytes. -/
structure Meter where
  job : Nat
  tile : Nat
  spindle : Nat
  dram : Nat
  deriving DecidableEq, Repr

/-- What a boundary takes from outside: the places of the pools that a reweave step sets up, and what jobs in flight have used so far. -/
structure BoundaryInput where
  places : List Placement
  meters : List Meter
  deriving DecidableEq, Repr

/-- One read of the patrol scrubber: whether it ends a pass of its unit, and whether other accesses hold the bank or interface. -/
structure ScrubRead where
  passDone : Bool
  held : Bool
  deriving DecidableEq, Repr

/-- A memory request of at most 64 bytes inside one aligned 64-byte block (05 section Memory requests). -/
structure MemReq where
  who : Requester
  addr : Nat
  len : Nat
  /-- `none` for a read, the bytes for a write -/
  data : Option (List Byte)
  /-- an error of the stored bits the request meets: 0 none, 1 correctable, 2 uncorrectable, 3 an uncorrectable one of the tag line -/
  ecc : Nat
  /-- errors that stored bits have developed since the last request, met by whichever access comes first: address, 1 or 2 as `ecc` -/
  flips : List (Nat × Nat) := []
  /-- the bank or interface is taken when the request arrives: it waits (05 R130) -/
  held : Bool := false
  deriving DecidableEq, Repr

/-- A flit of the stream fabric (05 R133). -/
structure Flit where
  hank : Nat
  route : Nat
  first : Bool
  last : Bool
  poison : Bool
  bytesM1 : Nat
  data : List Byte
  deriving DecidableEq, Repr

/-- What a decode engine's header parse finds in an access unit (10 R246, R247): the codec standards define it. -/
structure AuInfo where
  width : Nat
  height : Nat
  /-- the parameter set the access unit uses -/
  paramSet : Nat
  /-- a random-access point (R248) -/
  rap : Bool
  /-- profile_idc and level_idc of the stream's parameter sets, and whether constraint_set1_flag is set -/
  profile : Nat
  level : Nat
  constrained : Bool
  bitDepth : Nat
  /-- chroma_format_idc, 1 for 4:2:0 -/
  chroma : Nat
  /-- a field picture, or a frame with MBAFF -/
  fields : Bool
  mbaff : Bool
  /-- slices in arbitrary order -/
  aso : Bool
  refFrames : Nat
  /-- a JPEG frame is baseline sequential with Huffman coding -/
  baseline : Bool
  /-- it would be a reference picture (R250) -/
  isRef : Bool
  deriving DecidableEq, Repr

/-- What an engine's decode of an access unit gives (10 R249): the codec standards define it. -/
structure Decoded where
  width : Nat
  height : Nat
  /-- planes in raster order; chroma at half height and width, or full height when `c422` (JPEG 4:2:2) -/
  luma : List Byte
  cb : List Byte
  cr : List Byte
  c422 : Bool
  syntaxError : Bool
  /-- the bitstream ended before every coding unit was filled: the luma rectangles (x, y, w, h) left unfilled -/
  missing : List (Nat × Nat × Nat × Nat)
  /-- it is a reference picture (R250) -/
  isRef : Bool
  /-- the frame buffers of the pictures it refers to (R249) -/
  uses : List Nat
  /-- frame buffers that are no longer references after this picture (R248) -/
  unref : List Nat
  /-- 0, or the reason 0x0D POISON or 0x0E ACCESS met in decode (R266) -/
  busReason : Nat
  deriving DecidableEq, Repr

/-- A received Ethernet frame (13 R309): its bytes from the destination address to before the FCS, and the MAC's verdict. -/
structure EthFrame where
  port : Nat
  bytes : List Byte
  fcsOk : Bool
  /-- the resident services' receive queue of the port is full (13 R309) -/
  rxFull : Bool
  deriving DecidableEq, Repr

/-- Readings of the regulators at a 10 ms sample (15 R345). -/
structure PowerReading where
  /-- input power in 10 mW -/
  power : Nat
  /-- READ_VOUT in mV per island -/
  vout : List Nat
  deriving DecidableEq, Repr

/-- The identity fields of an ANNOUNCE or REPLY (15 R365). -/
structure PeerId where
  deviceId : Nat
  woven : Bool
  serial : Nat
  ownerKey : Nat
  deriving DecidableEq, Repr

/-- The fields of an Ebvar frame header that judge its acceptance (15 R362). -/
structure Ebvar where
  src : Nat
  dst : Nat
  seq : Nat
  ack : Nat
  crcOk : Bool
  deriving DecidableEq, Repr

/-- A relay data frame (15 R368, 18 R414). -/
structure RelayFrame where
  hdr : Ebvar
  epoch : Nat
  hank : Nat
  /-- job number at the sender -/
  job : Nat
  cls : Nat
  fate : Nat
  remotePly : Nat
  /-- PUT (true) or a GET request (false) -/
  put : Bool
  addr : Nat
  len : Nat
  data : List Byte
  /-- the last frame of a PUT -/
  commit : Bool
  event : Nat
  deriving DecidableEq, Repr

/-- A relay acknowledgement with GET data or the far end's status (15 R368, 18 R414). -/
structure RelayAckFrame where
  hdr : Ebvar
  epoch : Nat
  job : Nat
  /-- GET bytes in order -/
  data : List Byte
  /-- 0 when the peer took the work, else its completion status code -/
  status : Nat
  detail : Nat
  /-- the PUT data has been delivered at COMMIT -/
  delivered : Bool
  deriving DecidableEq, Repr

/-- A requested management object, value and duration (15 R369). -/
structure MgmtArgs where
  from_ : Authority
  object : Nat
  value : Nat
  durationS : Nat
  deriving DecidableEq, Repr

/-- The commands. Each docstring names the row and its rule. -/
inductive Instr
  /-- REGISTER_WRITE (00 R3) -/
  | registerWrite (who : Requester) (block off : Nat) (value : Word)
  /-- PEAK_WRITE (01 R29) -/
  | peakWrite (who : Requester) (value : Word)
  /-- JOB_RESERVE_WRITE (01 R28) -/
  | jobReserveWrite (who : Requester) (value : Word)
  /-- DRAIN_TICKS_WRITE (02 R56) -/
  | drainTicksWrite (who : Requester) (ply : Nat) (value : Word)
  /-- LATCHING_LOW_READ (03 R60) -/
  | latchingLowRead (who : Requester) (block off : Nat)
  /-- ERR_LATCH_REARM_READ (05 R143) -/
  | errLatchRearmRead (who : Requester) (block off : Nat)
  /-- POR_N_ASSERT (19 R426): held low for `lowNs` nanoseconds -/
  | porNAssert (lowNs : Nat)
  /-- POR_N_RELEASE (17 R389) -/
  | porNRelease (env : BootEnv)
  /-- SERVICES_READY (17 R389) -/
  | servicesReady
  /-- RECOVERY_IMAGE (17 R390) -/
  | recoveryImage (image : List Byte)
  /-- VDD_WAKE_RISE (19 R423) -/
  | vddWakeRise
  /-- WAKE_N_QUALIFIED (14 R342): held low for `lowNs` nanoseconds -/
  | wakeNQualified (lowNs : Nat)
  /-- FUNCTION_LEVEL_RESET (13 R304): function 0 is the PF -/
  | functionLevelReset (fn : Nat)
  /-- PERST (19 R432) -/
  | perst
  /-- PCIE_LINK_DOWN (13 R308) -/
  | pcieLinkDown
  /-- RESET (17 R391) -/
  | reset (from_ : Authority) (confirmed : List Nat)
  /-- LOAD (02 R44) -/
  | load (from_ : Authority)
  /-- WEAVE_COMPLETE (02 R45) -/
  | weaveComplete (places : List Placement)
  /-- REWEAVE (02 R46) -/
  | reweave (from_ : Authority) (ply : Nat)
  /-- CANCEL (02 R52) -/
  | cancel (from_ : Authority) (ply : Nat)
  /-- PLY_BOUNDARY (03 R64) -/
  | plyBoundary (ply : Nat) (input : BoundaryInput)
  /-- SUBMIT_DOORBELL (03 R75) -/
  | submitDoorbell (who : Requester) (count : Nat)
  /-- JOB_SLOT_ACQUIRE (03 R79) -/
  | jobSlotAcquire
  /-- MEMORY_REQUEST (04 R91) -/
  | memoryRequest (r : MemReq)
  /-- REGION_CREATE (04 R100) -/
  | regionCreate (who : Requester) (slot : Nat)
  /-- REGION_DESTROY (04 R101) -/
  | regionDestroy (who : Requester) (slot : Nat)
  /-- REGION_SCRUB_DONE (04 R101) -/
  | regionScrubDone (slot : Nat)
  /-- GRANT (04 R103) -/
  | grant (who : Requester) (peer : Nat)
  /-- REVOKE (04 R104) -/
  | revoke (who : Requester) (index : Nat)
  /-- REVOKE_COMPLETE (04 R104) -/
  | revokeComplete (index : Nat)
  /-- POOL_ALLOCATE (04 R114): the requests presented in one cycle, each (requester, ply, pool, class) -/
  | poolAllocate (reqs : List (Requester × Nat × Nat × Nat))
  /-- POOL_FREE (04 R116) -/
  | poolFree (who : Requester) (ply pool index : Nat)
  /-- POOL_BUFFER_SCRUB_DONE (04 R117) -/
  | poolBufferScrubDone (ply pool index : Nat)
  /-- MR4_POLL (05 R128): each interface's refresh-rate field and whether it is above the operating limit -/
  | mr4Poll (readings : List (Nat × Bool))
  /-- DRAM_HOT_RELEASE (15 R346) -/
  | dramHotRelease
  /-- PATROL_SCRUB (05 R146): one block read; `ecc` as in a memory request -/
  | patrolScrub (addr : Nat) (ecc : Nat) (read : ScrubRead)
  /-- FLIT_ARRIVAL (05 R133) -/
  | flitArrival (f : Flit)
  /-- CREDIT_RETURN (05 R134) -/
  | creditReturn (route count : Nat)
  /-- SPINDLE_TASK_START (06 R148) -/
  | spindleTaskStart (core : Nat)
  /-- SPINDLE_TASK_COMPLETE (06 R149): the Spindle-cycles metered for the task -/
  | spindleTaskComplete (core cycles : Nat)
  /-- INTERRUPT_ENTRY (06 R166) -/
  | interruptEntry (core : Nat)
  /-- NOP (07 R170). Each Zagil command: the core issues the instruction its P memory holds at PC in the next slot. -/
  | nop (core : Nat)
  /-- ADD (07 R176) -/
  | add (core : Nat)
  /-- SUB (07 R176) -/
  | sub (core : Nat)
  /-- AND (07 R176) -/
  | and (core : Nat)
  /-- OR (07 R176) -/
  | or (core : Nat)
  /-- XOR (07 R176) -/
  | xor (core : Nat)
  /-- SLL (07 R176) -/
  | sll (core : Nat)
  /-- SRL (07 R176) -/
  | srl (core : Nat)
  /-- SRA (07 R176) -/
  | sra (core : Nat)
  /-- SLT (07 R176) -/
  | slt (core : Nat)
  /-- SLTU (07 R176) -/
  | sltu (core : Nat)
  /-- MUL (07 R176) -/
  | mul (core : Nat)
  /-- MULH (07 R176) -/
  | mulh (core : Nat)
  /-- MIN (07 R176) -/
  | min (core : Nat)
  /-- MAX (07 R176) -/
  | max (core : Nat)
  /-- MOVI (07 R176) -/
  | movi (core : Nat)
  /-- MOVHI (07 R176) -/
  | movhi (core : Nat)
  /-- LOCAL_SCALAR_LOAD (07 R177) -/
  | localScalarLoad (core : Nat)
  /-- LOCAL_SCALAR_STORE (07 R177) -/
  | localScalarStore (core : Nat)
  /-- AMOD (07 R177) -/
  | amod (core : Nat)
  /-- FAR_SCALAR_LOAD (07 R178) -/
  | farScalarLoad (core : Nat)
  /-- FAR_SCALAR_STORE (07 R178) -/
  | farScalarStore (core : Nat)
  /-- BR (07 R179) -/
  | br (core : Nat)
  /-- BRR (07 R179) -/
  | brr (core : Nat)
  /-- CALL (06 R163) -/
  | call (core : Nat)
  /-- CALLR (06 R163) -/
  | callr (core : Nat)
  /-- RET (06 R164) -/
  | ret (core : Nat)
  /-- RTI (06 R167) -/
  | rti (core : Nat)
  /-- REP (06 R159) -/
  | rep (core : Nat)
  /-- REPR (06 R159) -/
  | repr (core : Nat)
  /-- TEND (06 R149) -/
  | tend (core : Nat)
  /-- EVP (07 R181) -/
  | evp (core : Nat)
  /-- FENCE (07 R179) -/
  | fence (core : Nat)
  /-- WAITI (07 R179) -/
  | waiti (core : Nat)
  /-- MOVC_READ (07 R182) -/
  | movcRead (core : Nat)
  /-- MOVC_WRITE (07 R182) -/
  | movcWrite (core : Nat)
  /-- SKIP (07 R183) -/
  | skip (core : Nat)
  /-- VADD (07 R184) -/
  | vadd (core : Nat)
  /-- VSUB (07 R184) -/
  | vsub (core : Nat)
  /-- VADDS (07 R184) -/
  | vadds (core : Nat)
  /-- VSUBS (07 R184) -/
  | vsubs (core : Nat)
  /-- VMUL (07 R184) -/
  | vmul (core : Nat)
  /-- VMULQ (07 R184) -/
  | vmulq (core : Nat)
  /-- VAND (07 R184) -/
  | vand (core : Nat)
  /-- VOR (07 R184) -/
  | vor (core : Nat)
  /-- VXOR (07 R184) -/
  | vxor (core : Nat)
  /-- VSLL (07 R184) -/
  | vsll (core : Nat)
  /-- VSRA (07 R184) -/
  | vsra (core : Nat)
  /-- VSRL (07 R184) -/
  | vsrl (core : Nat)
  /-- VMIN (07 R184) -/
  | vmin (core : Nat)
  /-- VMAX (07 R184) -/
  | vmax (core : Nat)
  /-- VABS (07 R184) -/
  | vabs (core : Nat)
  /-- VSEL (07 R184) -/
  | vsel (core : Nat)
  /-- VSLD (07 R184) -/
  | vsld (core : Nat)
  /-- VBCAST (07 R184) -/
  | vbcast (core : Nat)
  /-- VPACK (07 R184) -/
  | vpack (core : Nat)
  /-- VUNPK (07 R184) -/
  | vunpk (core : Nat)
  /-- VCMPEQ (07 R184) -/
  | vcmpeq (core : Nat)
  /-- VCMPLT (07 R184) -/
  | vcmplt (core : Nat)
  /-- VCMPLE (07 R184) -/
  | vcmple (core : Nat)
  /-- PAND (07 R184) -/
  | pand (core : Nat)
  /-- POR (07 R184) -/
  | por (core : Nat)
  /-- PXOR (07 R184) -/
  | pxor (core : Nat)
  /-- PANDN (07 R184) -/
  | pandn (core : Nat)
  /-- VLD (07 R185) -/
  | vld (core : Nat)
  /-- VST (07 R185) -/
  | vst (core : Nat)
  /-- VLDH (07 R185) -/
  | vldh (core : Nat)
  /-- VSTH (07 R185) -/
  | vsth (core : Nat)
  /-- VLDB (07 R185) -/
  | vldb (core : Nat)
  /-- VLDF (07 R185) -/
  | vldf (core : Nat)
  /-- VSTF (07 R185) -/
  | vstf (core : Nat)
  /-- MAC (07 R186) -/
  | mac (core : Nat)
  /-- MACXY (07 R187) -/
  | macxy (core : Nat)
  /-- CMAC (07 R188) -/
  | cmac (core : Nat)
  /-- CMACXY (07 R188) -/
  | cmacxy (core : Nat)
  /-- ACCLR (07 R189) -/
  | acclr (core : Nat)
  /-- VTOAC (07 R189) -/
  | vtoac (core : Nat)
  /-- ACADD (07 R189) -/
  | acadd (core : Nat)
  /-- ACSUB (07 R189) -/
  | acsub (core : Nat)
  /-- ACMOV (07 R189) -/
  | acmov (core : Nat)
  /-- BEXP (07 R190) -/
  | bexp (core : Nat)
  /-- BEXP_M (07 R190) -/
  | bexpM (core : Nat)
  /-- SMOV (07 R191) -/
  | smov (core : Nat)
  /-- WHORL_JOB_STAGE (08 R197): the array by its ARRAY_ID -/
  | whorlJobStage (array : Nat)
  /-- WHORL_JOB_START (08 R198); `ce` and `ue` the errors that the SRAM of the array's tiles raises during the job (R195): the corrected ones by
  tile, and the tiles with an uncorrectable one -/
  | whorlJobStart (array : Nat) (ce : List (Nat × Nat)) (ue : List Nat)
  /-- WHORL_JOB_END (08 R199): the elapsed cycles metered -/
  | whorlJobEnd (array cycles : Nat)
  /-- OUTPUT_TABLE_SWAP (17 R398) -/
  | outputTableSwap (array : Nat)
  /-- HEADROOM_LOOP (09 R232) -/
  | headroomLoop (ply ctx : Nat)
  /-- CTX_H_WRITE (09 R240): a word write of QNT_CTX_CFG -/
  | ctxHWrite (who : Requester) (ply ctx : Nat) (value : Word)
  /-- CVT_GO (09 R238) -/
  | cvtGo (who : Requester) (ply : Nat)
  /-- CONVERSION_DONE (09 R238) -/
  | conversionDone (hank : Nat)
  /-- ETH_FRAME_RECEIVE (13 R309) -/
  | ethFrameReceive (f : EthFrame)
  /-- GAP_WAIT_EXPIRY (10 R244) -/
  | gapWaitExpiry (flow : Nat)
  /-- AU_ADMIT (10 R247) -/
  | auAdmit (flow : Nat) (info : AuInfo)
  /-- DECODE_START (10 R251) -/
  | decodeStart (engine : Nat)
  /-- PICTURE_DECODED (10 R249) -/
  | pictureDecoded (flow : Nat) (d : Decoded)
  /-- SAMPLING_RATE_LOOP (10 R254) -/
  | samplingRateLoop (flow sub : Nat)
  /-- AUG_DOORBELL (10 R259) -/
  | augDoorbell (who : Requester) (count : Nat)
  /-- AUG_RECORD (10 R260) -/
  | augRecord (hank : Nat)
  /-- BQ_CFG_WRITE (10 R268) -/
  | bqCfgWrite (who : Requester) (queue : Nat) (value : Word)
  /-- BATCH_RECORD_WRITE (10 R264) -/
  | batchRecordWrite (hank queue : Nat)
  /-- TOKENIZER_JOB_START (11 R271) -/
  | tokenizerJobStart
  /-- TOKENIZER_JOB_END (11 R276) -/
  | tokenizerJobEnd
  /-- BOBBIN_PROGRAM_START (12 R280) -/
  | bobbinProgramStart (ch : Nat)
  /-- MOVE (12 R283). Each channel instruction: the channel executes the instruction its program holds. -/
  | move (ch : Nat)
  /-- LOOP (12 R284) -/
  | loop (ch : Nat)
  /-- WAIT (12 R285) -/
  | wait (ch : Nat)
  /-- PACE (12 R286) -/
  | pace (ch : Nat)
  /-- SIGNAL (12 R288) -/
  | signal (ch : Nat)
  /-- END (12 R288) -/
  | end_ (ch : Nat)
  /-- CHANNEL_WAIT_SATISFIED (12 R298) -/
  | channelWaitSatisfied (event : Nat)
  /-- MOVE_DRAIN_DONE (12 R289) -/
  | moveDrainDone (ch : Nat)
  /-- BOBBIN_BUS_ERROR (12 R293): the failing access is tried again, or the halt starts -/
  | bobbinBusError (ch : Nat)
  /-- CHANNEL_HALT (12 R292) -/
  | channelHalt (ch : Nat)
  /-- CHANNEL_STOP_DONE (12 R296) -/
  | channelStopDone (ch : Nat)
  /-- RESUME (12 R294) -/
  | resume (who : Requester) (ch : Nat)
  /-- ABORT (12 R294) -/
  | abort (who : Requester) (ch : Nat)
  /-- START (12 R279) -/
  | start (who : Requester) (ch : Nat)
  /-- EVT_PULSE (12 R298) -/
  | evtPulse (who : Requester) (value : Word)
  /-- MSIX_MESSAGE (13 R305): `enabled` when the function's configuration has MSI-X and Bus Master enabled -/
  | msixMessage (fn vector : Nat) (enabled : Option Bool)
  /-- BAR_ACCESS (13 R302): function, BAR number, offset; the bytes of a write or the length of a read -/
  | barAccess (fn bar off len : Nat) (data : Option (List Byte))
  /-- MAILBOX_REQUEST_POST (13 R307): the value written to REQ_TAIL -/
  | mailboxRequestPost (fn tail : Nat)
  /-- MAILBOX_REPLY (13 R307) -/
  | mailboxReply (fn : Nat)
  /-- PING (13 R307): the services take the function's next request -/
  | ping (fn : Nat)
  /-- ROUTE_EVENT (13 R307); `sink` names the core input the services choose for an application core target -/
  | routeEvent (fn : Nat) (appCore : Nat)
  /-- PLAY_PROMPT (13 R307) -/
  | playPrompt (fn voice : Nat)
  /-- PUBLISH (13 R307); `dropped` when the far party's session dropped before it answered -/
  | publish (fn : Nat) (dropped : Bool)
  /-- FRAME_TRANSMIT (13 R310); `ptpEvent` for a PTP event message and `oneStep` for its mode -/
  | frameTransmit (port : Nat) (bytes : List Byte) (ptpEvent oneStep : Bool)
  /-- TXTS_POP (13 R310) -/
  | txtsPop (who : Requester) (port : Nat)
  /-- PHASE_ADJ_WRITE (13 R314) -/
  | phaseAdjWrite (who : Requester) (value : Word)
  /-- PTP_SYNC_LOSS (13 R313) -/
  | ptpSyncLoss
  /-- HOLDOVER_EXPIRED (13 R313) -/
  | holdoverExpired
  /-- VOICE_QUEUE (13 R316): the high word written -/
  | voiceQueue (who : Requester) (voice : Nat) (value : Word)
  /-- VOICE_STOP (13 R316) -/
  | voiceStop (who : Requester) (voice : Nat) (value : Word)
  /-- CLIP_END (13 R316) -/
  | clipEnd (voice : Nat)
  /-- AMP_FAULT (13 R318) -/
  | ampFault (amp : Nat)
  /-- AMP_RETRY (13 R318): the level of AMP_FAULT_N when the 2 s end -/
  | ampRetry (amp : Nat) (inputHigh : Bool)
  /-- AMP_RETRY_CLEAN (13 R318) -/
  | ampRetryClean (amp : Nat)
  /-- CLEAR (13 R318): `inputLow` when the amplifier faults at that moment -/
  | clear (from_ : Authority) (amp : Nat) (inputLow : Bool)
  /-- REGULATOR_CONFIRM (14 R328): READ_VOUT and the on-die monitor in mV, STATUS_WORD free of faults -/
  | regulatorConfirm (island vout monitor : Nat) (statusOk : Bool)
  /-- LINK_LOST (14 R331) -/
  | linkLost (island : Nat)
  /-- CONFIRM_TIMEOUT (14 R331) -/
  | confirmTimeout (island : Nat)
  /-- MONITOR_CHECK (14 R331): the monitor in mV -/
  | monitorCheck (island monitor : Nat)
  /-- PMBUS_RETRY (14 R332): whether the transaction succeeded -/
  | pmbusRetry (island : Nat) (ok : Bool)
  /-- THERMAL_SAMPLE (14 R334): the 16 sites in degrees C -/
  | thermalSample (sites : List Nat)
  /-- THROTTLE_STEP (14 R334) -/
  | throttleStep
  /-- THERMAL_TRIP (14 R334) -/
  | thermalTrip (site temp : Nat)
  /-- FORCED_HOLD (14 R335) -/
  | forcedHold
  /-- POWER_SAMPLE (14 R336) -/
  | powerSample (r : PowerReading)
  /-- TDP_CAP_STEP (14 R336) -/
  | tdpCapStep
  /-- RUN (14 R340) -/
  | run (from_ : Authority)
  /-- HOLD (14 R339) -/
  | hold (from_ : Authority)
  /-- DORMANT (14 R341) -/
  | dormant (from_ : Authority)
  /-- HOLD_ENTRY_COMPLETE (14 R339) -/
  | holdEntryComplete
  /-- HOLD_EXIT_COMPLETE (14 R340): islands confirmed -/
  | holdExitComplete (confirmed : List Nat)
  /-- FAN_CURVE_UPDATE (15 R347): tach readings in RPM -/
  | fanCurveUpdate (rpm : List Nat)
  /-- FAN_FAULT (15 R349) -/
  | fanFault (fan : Nat)
  /-- FAN_FAULT_CLEAR (15 R349) -/
  | fanFaultClear (fan : Nat)
  /-- WATCHDOG_KICK (15 R350) -/
  | watchdogKick (who : Requester) (value : Word)
  /-- WATCHDOG_EXPIRY (15 R351); `partOk` whether part 1 was loaded and started again -/
  | watchdogExpiry
  /-- WDOG_RELEASE (15 R352): sites scanned and islands confirmed by the restarted steward -/
  | wdogRelease (who : Requester) (sites : List Nat) (confirmed : List Nat)
  /-- OVERRIDE_EXPIRY (15 R357): the object code and index of the override -/
  | overrideExpiry (object index : Nat)
  /-- DANGER_AFTER_READING (15 R360) -/
  | dangerAfterReading
  /-- POLL_CYCLE (15 R364) -/
  | pollCycle
  /-- DISCOVER_ROUND (15 R364) -/
  | discoverRound
  /-- POLL_MISSED (15 R363) -/
  | pollMissed (peer : Nat)
  /-- POLL (15 R363): the EPOCH it carries -/
  | poll (h : Ebvar) (epoch : Nat)
  /-- REPLY (15 R365) -/
  | reply (h : Ebvar) (id : PeerId)
  /-- DISCOVER (15 R364) -/
  | discover (h : Ebvar)
  /-- ANNOUNCE (15 R365) -/
  | announce (h : Ebvar) (id : PeerId)
  /-- MGMT (15 R369): a command from the tray master: OP, its arguments, its origin at the master, data of a STAGE chunk -/
  | mgmt (h : Ebvar) (op object value durationS origin : Nat) (data : List Byte)
  /-- MGMT_RPL (16 R379) -/
  | mgmtRpl (h : Ebvar) (op status : Nat) (data : List Byte)
  /-- RELAY (18 R414) -/
  | relay (f : RelayFrame)
  /-- RELAY_ACK (18 R414) -/
  | relayAck (f : RelayAckFrame)
  /-- RELAY_JOB_START (15 R368) -/
  | relayJobStart (job : Nat)
  /-- MASTER_LOST (15 R367); also the conflicts of R367 when `conflict` -/
  | masterLost
  /-- LOGIN (15 R369): the operator's key and signature (r, s) over the nonce and serial -/
  | login (key : Nat) (r_ s_ : Nat)
  /-- LOGOUT (15 R369) -/
  | logout
  /-- SESSION_TIMEOUT (15 R369) -/
  | sessionTimeout
  /-- STATUS (15 R369) -/
  | status (from_ : Authority)
  /-- UNIT (15 R355): OBJECT the table index, VALUE 1 QUARANTINE, 2 OFFLINE, 3 RETURN -/
  | unit (a : MgmtArgs)
  /-- POWER (15 R369): VALUE 1 RUN, 2 HOLD, 3 DORMANT -/
  | power (a : MgmtArgs)
  /-- PIN (15 R369): OBJECT the island, VALUE bytes pin, floor, ceiling -/
  | pin (a : MgmtArgs)
  /-- TDP (15 R369): VALUE in watts -/
  | tdp (a : MgmtArgs)
  /-- FAN (15 R369): OBJECT the fan, VALUE the duty, 0xFF AUTO -/
  | fan (a : MgmtArgs)
  /-- RELEASE (15 R357): OBJECT the object code, VALUE the index -/
  | release (a : MgmtArgs)
  /-- WARPLOCK (15 R357) -/
  | warplock (a : MgmtArgs)
  /-- JOURNAL_READ (16 R379): first SEQ and count -/
  | journalRead (from_ : Authority) (first count : Nat)
  /-- JOURNAL_ACK (16 R379) -/
  | journalAck (from_ : Authority) (seq : Nat)
  /-- LEA_ACK_WRITE (16 R378): the high word written -/
  | leaAckWrite (who : Requester) (value : Word)
  /-- FLUSH (16 R380) -/
  | flush (who : Requester)
  /-- FLUSH_DONE (16 R380) -/
  | flushDone
  /-- FLUSH_TIMEOUT (16 R380) -/
  | flushTimeout
  /-- EPOCH_PROGRAM_RETRY (16 R381): whether the program succeeded -/
  | epochProgramRetry (ok : Bool)
  /-- STAGE (17 R395) -/
  | stage (from_ : Authority) (part : Nat)
  /-- STAGE_COMPLETE (17 R395): whether program and verify succeeded -/
  | stageComplete (ok : Bool)
  /-- ACTIVATE (17 R395) -/
  | activate (from_ : Authority) (part : Nat)
  /-- COMMIT (17 R393) -/
  | commit (from_ : Authority) (part : Nat)
  /-- REVERT (17 R394) -/
  | revert (from_ : Authority) (part : Nat)
  /-- ENROLL_OWNER (17 R384): the certificate's key, serial and root signature (r, s) -/
  | enrollOwner (from_ : Authority) (key serial r_ s_ : Nat)
  /-- REVOKE_OWNER (17 R385): the slot, the statement's key ID and serial, the signer's key and signature (r, s) -/
  | revokeOwner (from_ : Authority) (slot keyId serial signer r_ s_ : Nat)
  /-- TRIAL_COMMIT_TEST (17 R393): the part and whether its commit test passed -/
  | trialCommitTest (part : Nat) (passed : Bool)
  /-- FAULT_REPORT (18 R402): the table index and the cause -/
  | faultReport (index cause : Nat)
  /-- UNIT_NO_RESPONSE (18 R402) -/
  | unitNoResponse (index : Nat)
  /-- SUSPECT_CLEAR (18 R403) -/
  | suspectClear (index : Nat)
  /-- DRAIN_LIMIT_EXPIRY (18 R404) -/
  | drainLimitExpiry (index : Nat)
  /-- UNIT_DRAINED (18 R403) -/
  | unitDrained (index : Nat)
  /-- SELFTEST_DONE (18 R406) -/
  | selftestDone (index : Nat) (passed : Bool)
  /-- GRANULE_BOUNDARY (02 R47) -/
  | granuleBoundary (places : List Placement)
  /-- PWR_EN_OFF_TIME (14 R342) -/
  | pwrEnOffTime
  /-- VDD_WAKE_FALL (19 R428) -/
  | vddWakeFall
  /-- PMBUS_ALERT (19 R433): the master, and the STATUS_WORD the steward reads from each island's regulator -/
  | pmbusAlert (master : Nat) (statusWords : List Nat)
  /-- AUDIO_FRAME (13 R315): voices whose sample has not arrived in time -/
  | audioFrame (late : List Nat)
  /-- FRAME_ABORT (15 R362) -/
  | frameAbort
  /-- IDLE_AREA_ERASED (16 R380) -/
  | idleAreaErased
  /-- PCIE_LINK_UP (13 R300): width code and rate code -/
  | pcieLinkUp (width rate : Nat)
  /-- ETH_LINK_CHANGE (19 R430): port, link, SGMII speed code -/
  | ethLinkChange (port : Nat) (up : Bool) (speed : Nat)
  /-- VF_ENABLE (13 R300): the number of virtual functions enabled, 0 when VF Enable is cleared -/
  | vfEnable (count : Nat)
  deriving DecidableEq, Repr

end Sys2Proof
end

