-- ==== Sys2Proof/Decode.lean ====
section
/-! DEFINITION. Commands have no encoding: spec/opcode_table.json gives its rows no bits. -/

namespace Sys2Proof

/-- The command that a word of `nbits` bits spells. The table gives no row bits, so no word spells a command. -/
def decodeTableWord (_nbits _w : Nat) : Option Instr := none

end Sys2Proof
end

