-- ==== Sys2Proof/Config.lean ====
section
/-! DEFINITION. What the spec leaves open: free values, each an opaque constant without a body. -/

namespace Sys2Proof.Config

/-- A free value the device draws; the counter `State.freeCount` numbers the draws (log 11). Used for the grant index
(R103), the pool buffer (R114) and wherever the spec says that one of several outcomes holds. -/
opaque free : Nat → Nat

/-- Whether a POR_N pulse of 1 to 10 microseconds resets the device (19 R426: it may or may not). -/
opaque porShortPulse : Nat → Bool

/-- Whether a WAKE_N pulse of 5 to 10 microseconds wakes the device (14 R342 fixes only below 5 and from 10). -/
opaque wakeShortPulse : Nat → Bool

/-- The contents of the boot ROM, which the spec does not give (01 R18). -/
opaque rom : Nat → Byte

/-- Entry `i` (BASE in bits [31:0], SLOPE in [63:32]) of firmware activation table `act` of part 5's version: the part fixes it, the
spec does not print it (08 R209). -/
opaque actTable (version act i : Nat) : Nat

/-- Whether the resident hypervisor has bound a guest to a hank: its commands are none of the spec's (13 R306). -/
opaque guestBound : Nat → Bool

/-- The magnitude, in units of Z', with which an infinity counts for a group's largest value and the job maximum: R238 says only that
an infinity is clipped (09 R223, R224, R238). -/
opaque infMag : Nat

/-- The class of a request that no job issued, by requester ID (05 R129 gives only a job's class and hank 0's; log 189). -/
opaque requestClass : Nat → Nat

/-- The hank of the job on an input port of a Skein bank or of the application-core L2, by endpoint and draw: R133 compares with it, and
the spec runs no job there (log 191). -/
opaque portHank (endpoint draw : Nat) : Nat

/-- Seconds by which the PTP timescale leads NTP time, by the NTP seconds of the report: the resident PTP service knows them (10 R245). -/
opaque ptpLead : Nat → Nat

/-- priority1 of the device's own clock, and its accuracy, variance and priority2: 13 R312 gives only its class. -/
opaque ptpPriority1 : BitVec 8
opaque ptpQuality : BitVec 32

/-- What the 32-bit RMAX holds of a maximum that lies beyond 32 bits (09 R224, R238: a conversion's values may). -/
opaque wideRmax : Nat → BitVec 32

end Sys2Proof.Config
end

