-- ==== Sys2Proof/Machine/NMap.lean ====
section
/-! DEFINITION. Sparse tables by key: reading, setting, removing. Keys stay strictly rising. -/

namespace Sys2Proof

/-- The entry under `k`, if it is listed. -/
def mget? {α : Type} : NMap α → Nat → Option α
  | [], _ => none
  | (j, x) :: m, k => if j = k then some x else if k < j then none else mget? m k

/-- The entry under `k`, or `d`. -/
def mget {α : Type} (m : NMap α) (k : Nat) (d : α) : α := (mget? m k).getD d

/-- The table with `x` under `k`. -/
def mset {α : Type} : NMap α → Nat → α → NMap α
  | [], k, x => [(k, x)]
  | (j, y) :: m, k, x =>
    if j = k then (k, x) :: m else if k < j then (k, x) :: (j, y) :: m else (j, y) :: mset m k x

/-- The table with nothing under `k`. -/
def mdel {α : Type} : NMap α → Nat → NMap α
  | [], _ => []
  | (j, y) :: m, k => if j = k then m else if k < j then (j, y) :: m else (j, y) :: mdel m k

/-- The table with the entry under `k` (or `d`) changed by `f`. -/
def mupd {α : Type} (m : NMap α) (k : Nat) (d : α) (f : α → α) : NMap α := mset m k (f (mget m k d))

/-- `k` inserted in a rising list of keys, once. -/
def kins : List Nat → Nat → List Nat
  | [], k => [k]
  | j :: m, k => if j = k then k :: m else if k < j then k :: j :: m else j :: kins m k

/-- Whether a rising list of keys holds `k`. -/
def khas : List Nat → Nat → Bool
  | [], _ => false
  | j :: m, k => if j = k then true else if k < j then false else khas m k

end Sys2Proof
end

