-- ==== Sys2Proof/Machine/Formats.lean ====
section
/-! DEFINITION. Narrow formats, slivers, scales, rounding and the generator (09 R213 to R230; 07 R174). A value is a pair (m, e)
that stands for m x 2^e. -/

namespace Sys2Proof.Machine

/-! ### Rounding (07 R174; 08 R205) -/

/-- v / 2^k rounded half to even. -/
def rneShr (v : Int) (k : Nat) : Int :=
  if k = 0 then v
  else
    let q := v / 2 ^ k
    let r := v % 2 ^ k
    let h : Int := 2 ^ (k - 1)
    if h < r ∨ (r = h ∧ q % 2 = 1) then q + 1 else q

/-- Saturation to a signed width. -/
def satS (w : Nat) (v : Int) : Int := clampI (-(2 ^ (w - 1))) (2 ^ (w - 1) - 1) v

/-- Saturation to an unsigned width. -/
def satU (w : Nat) (v : Int) : Int := clampI 0 (2 ^ w - 1) v

/-- v x 2^s, rounded half to even when it does not divide (08 section The two multiply paths). -/
def alignI (v : Int) (s : Int) : Int := if 0 ≤ s then v * 2 ^ s.toNat else rneShr v (-s).toNat

/-- floor(v x 2^s). -/
def floorI (v : Int) (s : Int) : Int := if 0 ≤ s then v * 2 ^ s.toNat else v / 2 ^ (-s).toNat

/-- Number of bits of a magnitude. -/
def bitlen (n : Nat) : Nat := if n = 0 then 0 else n.log2 + 1

/-! ### Codes (R213, R214) -/

def fmtBits : Nat → Nat
  | 1 => 4 | 2 => 8 | 3 => 4 | 4 => 8 | 5 => 6 | _ => 8

/-- Twice Cmax. -/
def cmax2 : Nat → Nat
  | 1 => 14 | 2 => 254 | 3 => 30 | 4 => 510 | 5 => 15 | _ => 960

/-- B. -/
def fmtB : Nat → Nat
  | 1 => 3 | 2 => 7 | 3 => 4 | 4 => 8 | 5 => 3 | _ => 9

/-- The code value of a code; a zero point is taken off the unsigned formats. -/
def codeValue (fmt zp code : Nat) : Int × Int :=
  match fmt with
  | 1 => (sx 4 code, 0)
  | 2 => (sx 8 code, 0)
  | 3 => ((code % 16 : Nat) - zp, 0)
  | 4 => ((code % 256 : Nat) - zp, 0)
  | 5 =>
    let e := bits code 4 3
    let f := bits code 2 0
    let m : Int := if e = 0 then f else 8 + f
    (if bit code 5 then -m else m, if e = 0 then -3 else (e : Int) - 4)
  | _ =>
    let e := bits code 6 3
    let f := bits code 2 0
    let m : Int := if e = 0 then f else 8 + f
    (if bit code 7 then -m else m, if e = 0 then -9 else (e : Int) - 10)

/-- The largest code of a sign. -/
def maxCode (fmt : Nat) (neg : Bool) : Nat :=
  match fmt with
  | 1 => if neg then 9 else 7
  | 2 => if neg then 0x81 else 0x7F
  | 3 => 15
  | 4 => 255
  | 5 => if neg then 0x3F else 0x1F
  | _ => if neg then 0xFF else 0x7F

/-- Exponent of the step q at a non-zero value (section Rounding and clipping). -/
def stepExp (fmt : Nat) (m e : Int) : Int :=
  let l : Int := m.natAbs.log2 + e
  match fmt with
  | 5 => max l 0 - 3
  | 6 => max l (-6) - 3
  | _ => 0

/-- The code of r steps of 2^qe. -/
def encodeSteps (fmt : Nat) (r qe : Int) : Nat :=
  match fmt with
  | 1 | 3 => low 4 r
  | 2 | 4 => low 8 r
  | _ =>
    let a := r.natAbs
    if a = 0 then 0
    else
      let (a, qe) := if a = 16 then (8, qe + 1) else (a, qe)
      let ex : Int := if a < 8 then 0 else qe + (if fmt = 5 then 4 else 10)
      let w := if fmt = 5 then 5 else 7
      b2n (decide (r < 0)) * 2 ^ w + ex.toNat * 8 + a % 8

/-- Whether |v| > c2 / 2. -/
def magAbove (m e : Int) (c2 : Nat) : Bool :=
  let e := e + 1
  if 0 ≤ e then decide (c2 < m.natAbs * 2 ^ e.toNat) else decide (c2 * 2 ^ (-e).toNat < m.natAbs)

/-- Narrowing of v = m x 2^e to a code, and whether it was clipped; `u` the generator's value with STOCH (R226, R227, R229). -/
def narrow (fmt : Nat) (u : Option Nat) (m e : Int) : Nat × Bool :=
  if m = 0 then (0, false)
  else if (fmt = 3 ∨ fmt = 4) ∧ m < 0 then (0, true)
  else if magAbove m e (cmax2 fmt) then (maxCode fmt (decide (m < 0)), true)
  else
    let qe := stepExp fmt m e
    let r := match u with
      | some u => (floorI m (e - qe + 16) + u) / 65536
      | none => alignI m (e - qe)
    (encodeSteps fmt r qe, false)

/-! ### The generator (R228) -/

def u32 (x : Nat) : Nat := x % 2 ^ 32

def mix32 (x : Nat) : Nat :=
  let x := u32 ((x ^^^ (x >>> 16)) * 0x7feb352d)
  let x := u32 ((x ^^^ (x >>> 15)) * 0x846ca68b)
  x ^^^ (x >>> 16)

def srand16 (seed m n : Nat) : Nat :=
  mix32 (u32 seed ^^^ mix32 (u32 (m * 0x9e3779b1)) ^^^ mix32 (u32 (n * 0x85ebca77 + 1))) >>> 16

/-! ### Wide formats -/

/-- A source value of a conversion. -/
inductive Wide
  | fin (m e : Int)
  | inf (neg : Bool)
  | nan
  deriving DecidableEq, Repr

def binary32 (w : Nat) : Wide :=
  let e := bits w 30 23
  let f := bits w 22 0
  let neg := bit w 31
  if e = 255 then (if f = 0 then .inf neg else .nan)
  else
    let m : Int := if e = 0 then f else 2 ^ 23 + f
    .fin (if neg then -m else m) (if e = 0 then -149 else (e : Int) - 150)

def binary16 (w : Nat) : Wide :=
  let e := bits w 14 10
  let f := bits w 9 0
  let neg := bit w 15
  if e = 31 then (if f = 0 then .inf neg else .nan)
  else
    let m : Int := if e = 0 then f else 1024 + f
    .fin (if neg then -m else m) (if e = 0 then -24 else (e : Int) - 25)

/-- m x 2^e as binary16, half to even, and whether it was clipped at 65,504 (R230). -/
def toBinary16 (m e : Int) : Nat × Bool :=
  if m = 0 then (0, false)
  else
    let s := b2n (decide (m < 0)) * 2 ^ 15
    if magAbove m e (2 * 65504) then (s + 0x7BFF, true)
    else
      let l : Int := max (m.natAbs.log2 + e) (-14)
      let r := (alignI m.natAbs (e - (l - 10))).toNat
      (s + (if l = -14 ∧ r < 1024 then r else (l + 15).toNat * 1024 + (r - 1024)), false)

/-! ### Slivers (R216 to R221) -/

/-- Group size of a GROUP code. -/
def groupSize (g : Nat) : Nat := 32 * 2 ^ g

/-- Slivers of a row of K codes. -/
def slivers (fmt k : Nat) : Nat := ceilDiv (fmtBits fmt * k) 448

/-- Groups of a row of K codes whose first code lies in sliver `j`. -/
def groupsIn (fmt grp k j : Nat) : List Nat :=
  let b := fmtBits fmt * groupSize grp
  let lo := ceilDiv (448 * j) b
  ((List.range 5).map (lo + ·)).filter (fun g => decide (g * b / 448 = j) && decide (g * groupSize grp < k))

/-- Codes as one bit stream. -/
def streamOf (b : Nat) (codes : List Nat) : Nat := codes.foldr (fun c acc => c % 2 ^ b + acc * 2 ^ b) 0

/-- The slivers of an output row: codes, and one scale byte per group. -/
def packRow (fmt grp : Nat) (rot side : Bool) (codes scales : List Nat) : List Byte :=
  let k := codes.length
  let st := streamOf (fmtBits fmt) codes
  (List.range (slivers fmt k)).flatMap (fun j =>
    let gs := groupsIn fmt grp k j
    leBytes 56 (st >>> (448 * j))
    ++ [BitVec.ofNat 8 (b2n rot * 128 + b2n side * 64 + grp * 16 + fmt), BitVec.ofNat 8 gs.length]
    ++ (List.range 4).map (fun i => match gs[i]? with | some g => BitVec.ofNat 8 (scales.getD g 0) | none => 0)
    ++ [0, 0])

/-- A row as it is read: code values, group scales (none: the group reads as zero), invalid scale bytes, and the first sliver's
ROT unless it is empty. -/
structure Row where
  els : List (Int × Int) := []
  scales : List (Option Int) := []
  invalid : Nat := 0
  rot : Option Bool := none
  deriving DecidableEq, Repr

/-- The checks of R221 on a sliver: the cause, 0 when it passes or is empty. -/
def sliverCause (fmt grp k j : Nat) (t : List Byte) : Nat :=
  if leNat t = 0 then 0
  else
    let b := leAt t 0 1
    if bits b 3 0 ≠ fmt then 2
    else if bits b 5 4 ≠ grp then 7
    else if leAt t 1 1 % 8 ≠ (groupsIn fmt grp k j).length then 2
    else 0

/-- A row of K codes read from its slivers: the first cause of R221, with the invalid scale bytes read before it, or the row. -/
def readRow (fmt grp zp k : Nat) (bs : List Byte) : Nat × Row :=
  let n := slivers fmt k
  let sl := (List.range n).map (fun j => slice bs (64 * j) 64)
  let trailer := fun (j : Nat) => (sl.getD j []).drop 56
  let empty := fun (j : Nat) => leNat (trailer j) == 0
  let scaleBytes := fun (m : Nat) =>
    (List.range m).flatMap (fun j => (groupsIn fmt grp k j).mapIdx (fun i _ => if empty j then 0 else leAt (trailer j) (2 + i) 1))
  match (List.range n).find? (fun j => sliverCause fmt grp k j (trailer j) != 0) with
  | some j => (sliverCause fmt grp k j (trailer j), { invalid := ((scaleBytes j).filter (· = 0xFF)).length })
  | none =>
    let b := fmtBits fmt
    let st := ((List.range n).map (fun j => if empty j then 0 else leNat ((sl.getD j []).take 56))).foldr (fun p acc => p + acc * 2 ^ 448) 0
    let bytes := scaleBytes n
    let els := (List.range k).map (fun i =>
      if empty (b * i / 448) then ((0 : Int), (0 : Int)) else codeValue fmt zp ((st >>> (b * i)) % 2 ^ b))
    (0, {
      els := els
      scales := bytes.map (fun s => if s = 0 ∨ s = 0xFF then none else some ((s : Int) - 127))
      invalid := (bytes.filter (· = 0xFF)).length
      rot := if n = 0 ∨ empty 0 then none else some (bit (leAt (trailer 0) 0 1) 7) })

/-! ### Output scales (R223) -/

/-- Where a job's scales come from. -/
inductive ScaleSrc
  | const (t : Int)
  | own (h : Int)
  | running (rmax : Nat) (h : Int)
  deriving DecidableEq, Repr

/-- The scale of a group whose largest |Z'| is `big`; none for a zero group. -/
def groupScale (src : ScaleSrc) (fmt big : Nat) (allZero : Bool) : Option Int :=
  match src with
  | .const t => some t
  | .own h => if allZero then none else some (clampI (-126) 127 ((bitlen big : Int) - 16 - fmtB fmt + h))
  | .running r h => some (clampI (-126) 127 ((bitlen r : Int) - 16 - fmtB fmt + h))

end Sys2Proof.Machine
end

