-- ==== Sys2Proof/Machine/State.lean ====
section
/-! DEFINITION. The state of the block as plain data: every register, buffer, counter, queue, mode and pin the spec
names, and the queue of waiting commands. Sparse tables (`NMap`) hold only entries that were written; what an unlisted
key reads as is the reset value, given where the table is read (Machine/Ops.lean). -/

namespace Sys2Proof.Machine

/-- Faults. The block of this spec never stops on a fault: errors are answers, counters and job endings. -/
inductive Fault
  /-- Raised by no meaning; it stands here because the interface asks for a fault type (safe). -/
  | unreached
  deriving DecidableEq, Repr

/-- Refusals. -/
inductive Refusal
  /-- Raised by exec's arm of a command that has no meaning yet (safe). -/
  | notModelled (mnemonic : String)
  deriving DecidableEq, Repr

/-! ### Journal entries -/

/-- A journal entry (16 R374); CHECK is computed when it is read. -/
structure JEntry where
  seq : Nat := 0
  time : Nat := 0
  origin : Nat := 0
  kind : Nat := 0
  flags : Nat := 0
  code : Nat := 0
  hank : Nat := 0
  aux : Nat := 0xFFFF
  object : Nat := 0
  old : Nat := 0
  new : Nat := 0
  /-- 16 bytes, little-endian -/
  data : Nat := 0
  deriving DecidableEq, Repr

/-! ### OTP and flash -/

/-- An owner key slot (17 R382): the 96-byte public key as one big-endian number. -/
structure OwnerSlot where
  key : Nat := 0
  enrolled : Bool := false
  revoked : Bool := false
  deriving DecidableEq, Repr

/-- The OTP (17 R382). Log 1: the part at State.reset. -/
structure Otp where
  variant : Variant := .z740
  rev : Nat := 0xB0
  rootKey : Nat := 0
  serial : Nat := 0
  macs : List Nat := [0, 0, 0]
  owners : List OwnerSlot := [{}, {}, {}, {}]
  /-- anti-rollback counters of parts 1 to 6 -/
  arb : List Nat := [0, 0, 0, 0, 0, 0]
  deriving DecidableEq, Repr

/-- The state of a firmware slot (17 R393). -/
inductive SlotState
  | empty | valid | trial | active | bad
  deriving DecidableEq, Repr

/-- A part's entry of the boot directory (17 R386). -/
structure DirEntry where
  /-- active slot: false A, true B -/
  active : Bool := false
  stA : SlotState := .empty
  stB : SlotState := .empty
  tries : Nat := 0
  lastSerial : Nat := 0
  deriving DecidableEq, Repr

/-- One copy of the boot directory (17 R386); `crcOk` when its CRC holds. -/
structure DirCopy where
  gen : Nat := 0
  crcOk : Bool := false
  parts : NMap DirEntry := []
  deriving DecidableEq, Repr

/-- A journal flash area (16 R380). -/
structure JArea where
  entries : List JEntry := []
  epochs : List Nat := []
  erased : Bool := true
  deriving DecidableEq, Repr

/-- The boot flash (17 R386): images by 2 x part + slot. -/
structure Flash where
  dir0 : DirCopy := {}
  dir1 : DirCopy := {}
  images : NMap (List Byte) := []
  area0 : JArea := {}
  area1 : JArea := {}
  /-- the current journal area: false 0, true 1 -/
  current : Bool := false
  deriving DecidableEq, Repr

/-- What persists through every reset. -/
structure NonVolatile where
  otp : Otp := {}
  flash : Flash := {}
  deriving DecidableEq, Repr

/-! ### Pins -/

/-- Pin levels and the wake domain (19 R423 to R432). Log 1: the levels at State.reset. -/
structure Pins where
  vddWake : Bool := true
  pwrEn : Bool := true
  /-- 50 ms have passed since PWR_EN was deasserted (14 R342) -/
  offTimeDone : Bool := true
  /-- POR_N is high and the boot ran -/
  porN : Bool := false
  /-- WAKE_N was latched between d0 and PWR_EN's rise (14 R341, R342) -/
  wakeLatched : Bool := false
  wakeArmed : Bool := false
  thermAlert : Bool := false
  fanHiZ : Bool := true
  strapMaster : Bool := false
  strapAddr : Nat := 0
  refSys : Bool := true
  refPcie : Bool := true
  refEth : Bool := true
  deriving DecidableEq, Repr

/-! ### Warp image records (02 R31 to R38) -/

/-- A PLY_TABLE record. -/
structure PlyRec where
  id : Nat := 0
  flags : Nat := 0
  ticksPerS : Nat := 0
  phase : Nat := 0
  drainTicks : Nat := 0
  minTiles : Nat := 0
  minClusters : Nat := 0
  minDecode : Nat := 0
  tileMask : Nat := 0
  clusterMask : Nat := 0
  decodeMask : Nat := 0
  bankMask : Nat := 0
  channelMask : Nat := 0
  deriving DecidableEq, Repr

/-- A TILE_GEOMETRY record. -/
structure TileRec where
  array : Nat := 0
  ply : Nat := 0
  shape : Nat := 0
  first : Nat := 0
  deriving DecidableEq, Repr

/-- A ROUTE_TABLE record. -/
structure RouteRec where
  id : Nat := 0
  ply : Nat := 0
  priority : Nat := 0
  src : Nat := 0
  dst : Nat := 0
  deriving DecidableEq, Repr

/-- A HANK_TABLE record. -/
structure HankRec where
  hank : Nat := 0
  ply : Nat := 0
  flags : Nat := 0
  keyFirst : Nat := 0
  keyCount : Nat := 0
  dramLimit : Nat := 0
  skeinLimit : Nat := 0
  resTile : Nat := 0
  resSpindle : Nat := 0
  resMb : Nat := 0
  resDram : Nat := 0
  weight : Nat := 1
  depth : Nat := 1
  evBase : Nat := 0
  evCount : Nat := 0
  deriving DecidableEq, Repr

/-- A POOL_TABLE record. -/
structure PoolRec where
  ply : Nat := 0
  pool : Nat := 0
  flags : Nat := 0
  size : Nat := 0
  count : Nat := 0
  rsvRes : Nat := 0
  rsvWgt : Nat := 0
  deriving DecidableEq, Repr

/-- A CAMERA_REGISTRY record. -/
structure CamRec where
  cam : Nat := 0
  ply : Nat := 0
  codec : Nat := 0
  subs : List Nat := []
  maxW : Nat := 0
  maxH : Nat := 0
  maxFps : Nat := 0
  refreshN : Nat := 1
  colour : Nat := 0
  flags : Nat := 0
  srcAddr : Nat := 0
  port : Nat := 0
  vlan : Nat := 0
  eth : Nat := 0
  pt : Nat := 0
  roiEntries : Nat := 0
  deriving DecidableEq, Repr

/-- A POLICY record. -/
structure PolicyRec where
  key : Nat := 0
  scope : Nat := 0xFF
  value : List Byte := []
  deriving DecidableEq, Repr

/-- A FIRMWARE_REFS record; also a COMPAT record (17 R387). -/
structure FwRef where
  part : Nat := 0
  min : Nat := 0
  max : Nat := 0
  deriving DecidableEq, Repr

/-- A TRAY_MAP record. -/
structure TrayRec where
  addr : Nat := 0
  required : Bool := false
  deviceId : Nat := 0
  serial : Nat := 0
  ownerKey : Nat := 0
  relayPlies : Nat := 0
  deriving DecidableEq, Repr

/-- A Warp image's header fields and records. -/
structure Image where
  variantMask : Nat := 0
  minRev : Nat := 0
  rollback : Nat := 0
  target : Nat := 0xFF
  serial : Nat := 0
  ownerKey : Nat := 0
  digest : Nat := 0
  plies : List PlyRec := []
  tiles : List TileRec := []
  routes : List RouteRec := []
  hanks : List HankRec := []
  pools : List PoolRec := []
  cams : List CamRec := []
  policy : List PolicyRec := []
  fw : List FwRef := []
  tray : List TrayRec := []
  deriving DecidableEq, Repr

/-- A pending reweave (02 R46, R47). -/
structure Pending where
  ply : Nat := 0
  image : Image := {}
  origin : Nat := 0
  /-- boundaries of the ply since draining began (or since acceptance, when HELD) -/
  drained : Nat := 0
  draining : Bool := false
  deriving DecidableEq, Repr

/-- A result word: WRP_RESULT, HNK_RESULT, PWR_RESULT, BOOT_RESULT share this layout. -/
structure CmdResult where
  busy : Bool := false
  done : Bool := false
  authority : Nat := 0
  seq : Nat := 0
  code : Nat := 0
  deriving DecidableEq, Repr

/-- Control block 1 (02). -/
structure Wrp where
  device : Nat := 0
  pending : Option Pending := none
  serial : Nat := 0
  digest : Nat := 0
  imgAddr : Nat := 0
  imgLen : Nat := 0
  result : CmdResult := {}
  image : Option Image := none
  /-- the accepted image between t3 and t4 of R45, and the origin of its command -/
  weaving : Option (Image × Nat) := none
  deriving DecidableEq, Repr

/-! ### Tick engine (03) -/

/-- Where a job stands (03 R75 to R85). -/
inductive Phase
  /-- accepted, in its hank's queue -/
  | queued
  /-- selected and charged, waiting for a job slot -/
  | selected
  /-- holds a slot and waits for its unit -/
  | admitted
  /-- staged on its array (08 R197) -/
  | staged
  /-- running on its unit -/
  | running
  /-- stopping at its next instruction boundary (12 R296) -/
  | stopping
  /-- stopped by a fault, a halt or a stop; it ends at step 2 of the next boundary -/
  | halted
  deriving DecidableEq, Repr

/-- A job (01 Jobs in flight, 03 R74). -/
structure Job where
  id : Nat := 0
  hank : Nat := 0
  tag : Nat := 0
  desc : Nat := 0
  kind : Nat := 0
  cls : Nat := 0
  fate : Nat := 0
  ply : Nat := 0
  costTile : Nat := 0
  costSpindle : Nat := 0
  costDram : Nat := 0
  gate : Nat := 0xFFFF
  /-- target tick (R76) -/
  target : Nat := 0
  phase : Phase := .queued
  /-- order of selection and of taking its slot -/
  selSeq : Nat := 0
  slotSeq : Nat := 0
  /-- the unit it waits for or runs on: array ID, core, channel, peer -/
  unit : Nat := 0
  usedTile : Nat := 0
  usedSpindle : Nat := 0
  usedDram : Nat := 0
  /-- what of its use stands in a tick summary already (R87) -/
  seenTile : Nat := 0
  seenSpindle : Nat := 0
  seenDram : Nat := 0
  doneEvent : Nat := 0xFFFF
  /-- does not count towards an overrun (06 R150, 08 R201, 12 R295) -/
  excused : Bool := false
  /-- EPOCH of its relay (18 R414) -/
  epoch : Nat := 0
  /-- table entry of the draining unit that stopped it (18 R404) -/
  lostUnit : Option Nat := none
  deriving DecidableEq, Repr

/-- What a tick summary holds of the closing tick (03 R87): cycles, macroblocks and bytes, and the counts. -/
structure PlyStats where
  useTile : Nat := 0
  useSpindle : Nat := 0
  useMb : Nat := 0
  useDram : Nat := 0
  served : Nat := 0
  late : Nat := 0
  shed : Nat := 0
  dropped : Nat := 0
  refused : Nat := 0
  unavailable : Nat := 0
  deriving DecidableEq, Repr

/-- A served job's declared and metered cost, for rho (14 R323). -/
structure RhoSample where
  tick : Nat := 0
  declTile : Nat := 0
  metTile : Nat := 0
  declSpindle : Nat := 0
  metSpindle : Nat := 0
  deriving DecidableEq, Repr

/-- The governor's part of a ply (14 R322 to R324). -/
structure PlyGov where
  margin : Nat := 20
  holdDown : Nat := 4
  profile : Nat := 1
  slackLast : Nat := 0
  slacks : List Nat := []
  /-- TIME_NS of the last Reserved completion in the tick -/
  lastReserved : Option Nat := none
  /-- rho of the tile-cycles and of the Spindle-cycles at the last boundary, in 1/256 -/
  rho : Nat := 0
  rhoSpd : Nat := 0
  /-- the tile and Spindle loads of the last boundary -/
  loads : Nat × Nat := (0, 0)
  /-- standing request per island -/
  requests : NMap Nat := []
  /-- the values R323 gave at the last 64 boundaries, per island, oldest first -/
  lows : NMap (List Nat) := []
  /-- overrun floors per island: the value and the boundaries left (R324) -/
  floors : NMap (List (Nat × Nat)) := []
  samples : List RhoSample := []
  /-- the next decision uses rho = 1.00 (R340, 18 R413) -/
  rhoOne : Bool := true
  deriving DecidableEq, Repr

/-- A ply: its Warp loader, tick and governor registers and what the tick engine keeps of it. -/
structure Ply where
  /-- WRP_PLYn_STATE.STATE: 0 EMPTY 1 RUNNING 2 DEGRADED 3 HELD 4 PENDING 5 DRAINING -/
  state : Nat := 0
  training : Bool := false
  ticksPerS : Nat := 0
  phase : Nat := 0
  drainTicks : Nat := 0
  overrides : Nat := 0
  tick : Nat := 0
  /-- the ply's boundaries lie at or after this TIME_NS: the weave's, or one past the last boundary's (log 32) -/
  openAt : Nat := 0
  /-- a full boundary has run under the present pattern (R49) -/
  admitting : Bool := false
  /-- the boundary that opened the current tick overran (R84, R85) -/
  overranNow : Bool := false
  overruns : Nat := 0
  skipped : Nat := 0
  overrun : Bool := false
  profile : Nat := 1
  ageLimit : Nat := 64
  resPct : Nat := 90
  sumBase : Nat := 0
  sumLog2 : Nat := 0
  sumNext : Nat := 0
  /-- capacity of the opening tick left for selection -/
  leftTile : Nat := 0
  leftSpindle : Nat := 0
  stats : PlyStats := {}
  gov : PlyGov := {}
  deriving DecidableEq, Repr

/-- The PTP clock (13 R312): the rank and port of the better clock it follows, a two-step Sync that waits for its Follow_Up (sequence,
arrival, correction), departure and arrival of the last Sync, sequence and departure of the last Delay_Req, and the mean path delay. -/
structure Ptp where
  best : Option (Nat × Nat) := none
  sync : Option (Nat × Int × Int) := none
  last : Option (Int × Int) := none
  req : Option (Nat × Int) := none
  delay : Int := 0
  deriving DecidableEq, Repr

/-- Time, servo and synchronisation (03 R57 to R63, 13 R312 to R314). -/
structure Tck where
  ptp : Ptp := {}
  time : Nat := 0
  /-- remainder of TIME_NS below one nanosecond, in 2^-16 ppm of a nanosecond; the model's own (log 3) -/
  frac : Nat := 0
  /-- what is still to be slewed, in 2^-16 ppm of a nanosecond (R314) -/
  slew : Int := 0
  /-- 0 FREE 1 LOCKED 2 HOLDOVER -/
  sync : Nat := 0
  steps : Nat := 0
  backSteps : Nat := 0
  goodSyncs : Nat := 0
  domain : Nat := 0
  port : Nat := 0
  software : Bool := false
  offset : Int := 0
  freqAdj : Int := 0
  expired : Bool := false
  holdoverNs : Nat := 0
  slewPpm : Nat := 100
  holdMax : Nat := 60
  lossS : Nat := 3
  stepUs : Nat := 1000
  hsel : Nat := 0
  nextJob : Nat := 0
  nextSel : Nat := 0
  /-- plies whose boundary of the present granule a boundary of a higher PLY_ID has run first (R67; log 166) -/
  early : List Nat := []
  jobs : List Job := []
  deriving DecidableEq, Repr

/-! ### Hanks (04) -/

/-- A key slot: 0 FREE, 1 ACTIVE, 2 SCRUBBING; base address and length in granules; its pair of 256-bit keys as 64 bytes, a free value
(log 5), 0 once erased. Slots 0 to 15 hold the pool keys of the plies (R97). -/
structure KeySlot where
  state : Nat := 0
  owner : Nat := 0
  base : Nat := 0
  len : Nat := 0
  key : Nat := 0
  /-- the bank whose REGION_DESTROY waits for the scrub (R101) -/
  waiter : Option Nat := none
  deriving DecidableEq, Repr

/-- A share grant: 0 free, 1 live, 2 revoked and not yet complete. -/
structure Grant where
  state : Nat := 0
  grantor : Nat := 0
  grantee : Nat := 0
  base : Nat := 0
  /-- bytes -/
  len : Nat := 0
  /-- the grantor's REVOKE waits for its end (R104) -/
  waits : Bool := false
  deriving DecidableEq, Repr

/-- A pool buffer that is not free: held by a hank, or being scrubbed. -/
structure Buf where
  held : Bool := false
  hank : Nat := 0
  deriving DecidableEq, Repr

/-- A wait on a pool (R117). -/
structure PoolWait where
  hank : Nat := 0
  event : Nat := 0
  cls : Nat := 0
  deriving DecidableEq, Repr

/-- A woven pool. -/
structure Pool where
  woven : Bool := false
  base : Nat := 0
  skein : Bool := false
  size : Nat := 0
  count : Nat := 0
  rsvRes : Nat := 0
  rsvWgt : Nat := 0
  lastWinner : Nat := 0
  /-- buffers that are held or being scrubbed; all others are free -/
  bufs : NMap Buf := []
  waits : List PoolWait := []
  deriving DecidableEq, Repr

/-- A conversion that runs, with what it will report (09 R238). -/
structure CvtRun where
  code : Nat := 0
  clips : Nat := 0
  invalid : Nat := 0
  ctx : Option Nat := none
  jobMax : Nat := 0
  narrowed : Nat := 0
  deriving DecidableEq, Repr

/-- The conversion registers of a hank (09). Log 8: EVENT's reset value. -/
structure Cvt where
  src : Nat := 0
  dst : Nat := 0
  rowsM1 : Nat := 0
  lenM1 : Nat := 0
  srcStride : Nat := 0
  dstStride : Nat := 0
  cfg : Nat := 0
  seed : Nat := 0
  done : Bool := false
  code : Nat := 0
  clips : Nat := 0
  invalid : Nat := 0
  event : Nat := 0xFFFF
  run : Option CvtRun := none
  deriving DecidableEq, Repr

/-- A slot of an open batch (10 R263 to R265). -/
inductive BSlot
  | openSlot
  /-- it awaits a substitute: the original identifier, the reason, the tag, and whether it is an augmented sample's -/
  | awaiting (origId reason tag : Nat) (aug : Bool)
  /-- a sample: identifier, buffer index, pool, flags, tag -/
  | sample (id index pool flags tag : Nat)
  deriving DecidableEq, Repr

/-- A substitution entry of a batch. -/
structure BSub where
  orig : Nat := 0
  repl : Nat := 0
  slot : Nat := 0
  reason : Nat := 0
  deriving DecidableEq, Repr

/-- A batch queue (10 R263, R264). -/
structure BatchQ where
  ring : Nat := 0
  log2 : Nat := 0
  event : Nat := 0
  size : Nat := 1
  ply : Nat := 0
  modeTick : Bool := false
  enable : Bool := false
  head : Nat := 0
  tail : Nat := 0
  seq : Nat := 0
  slots : List BSlot := []
  subs : List BSub := []
  /-- closed batches whose records wait to be written (bytes) -/
  closed : List (List Byte) := []
  deriving DecidableEq, Repr

/-- The carding registers of a hank (10). -/
structure CardHank where
  roiBase : Nat := 0
  cacheBase : Nat := 0
  cacheSlot : Nat := 0
  cacheLog2 : Nat := 0
  cacheSkips : Nat := 0
  cacheSeq : Nat := 0
  augBase : Nat := 0
  augLog2 : Nat := 0
  augTaken : Nat := 0
  /-- records handed over and not yet taken -/
  augPending : Nat := 0
  augRefused : Bool := false
  augPly : Nat := 0
  queues : NMap BatchQ := []
  deriving DecidableEq, Repr

/-- The HANK-domain registers of a hank: TCK_Q_*, HNK_*, QNT_CVT_*, CRD_* banks. -/
structure Hank where
  subBase : Nat := 0
  subLog2 : Nat := 0
  cplBase : Nat := 0
  cplLog2 : Nat := 0
  cplHead : Nat := 0
  cplTail : Nat := 0
  /-- the ring entry the next doorbell starts at -/
  subNext : Nat := 0
  /-- completion entries written and not yet consumed -/
  cplUnread : Nat := 0
  baseLo : Nat := 0
  baseHi : Nat := 0
  len : Nat := 0
  result : CmdResult := {}
  resultGrant : Nat := 0
  unwrittenMode : Nat := 0
  unwrittenReads : Nat := 0
  accessErrors : Nat := 0
  badFrees : Nat := 0
  errAddr : Nat := 0
  errKind : Nat := 0
  errHeld : Bool := false
  poolWait : Nat := 0xFFFF
  cvt : Cvt := {}
  card : CardHank := {}
  deriving DecidableEq, Repr

/-! ### Memory and fabric (05) -/

/-- An error latch (R143): `held` until the low word is read. -/
structure ErrLatch where
  held : Bool := false
  addr : Nat := 0
  kind : Nat := 0
  requester : Nat := 0
  deriving DecidableEq, Repr

/-- A Skein bank's counters. -/
structure Bank where
  ue : Nat := 0
  ce : Nat := 0
  deriving DecidableEq, Repr

/-- An entry of the uncorrectable log (R139, R140): a 64-byte block, or the granules of a rebuilt tag line with the blocks
written since. -/
structure UeEntry where
  base : Nat := 0
  size : Nat := 64
  cleared : List Nat := []
  deriving DecidableEq, Repr

/-- What waits at a Skein bank or a DRAM interface (R130): a request with the hank and the class it carries (R129), a patrol scrub read and
whether it ends its unit's pass, or the write-back of a tag line (R126). -/
inductive MemWork
  | request (r : MemReq) (hank cls : Nat)
  | scrub (addr : Nat) (passDone : Bool)
  | tagLine (line : Nat)
  deriving DecidableEq, Repr

/-- A waiting request: the accesses it has waited through, the younger requests of its rank that have passed it, and whether the DRAM
interface has accepted it (R130, R131). -/
structure MemWait where
  work : MemWork
  waited : Nat := 0
  passed : Nat := 0
  accepted : Bool := false
  deriving DecidableEq, Repr

/-- A target's arbiter (R130): the requester last served per rank, and the accesses since tag-table traffic was last served, up to 3. -/
structure MemArb where
  last : NMap Nat := []
  sinceTag : Nat := 3
  deriving DecidableEq, Repr

/-- Control blocks 4 and 5. -/
structure Fab where
  sknCe : Nat := 0
  sknUe : Nat := 0
  sknErr : ErrLatch := {}
  sknPasses : Nat := 0
  sknPeriod : Nat := 10
  ceLimit : Nat := 64
  banks : NMap Bank := []
  decodeErrors : Nat := 0
  decodeLatch : ErrLatch := {}
  linkFaults : Nat := 0
  /-- the uncorrectable log, at most 256 entries -/
  ueLog : List UeEntry := []
  /-- times of corrected errors per unit table index, for the 60-minute window (R142) -/
  ceTimes : NMap (List Nat) := []
  /-- units whose corrected errors stand above the CE limit, as their last error found them (R142; log 187) -/
  ceOver : List Nat := []
  /-- errors of stored bits that no access has met yet, by code word: 1 correctable, 2 not (R138, R139; log 186) -/
  flaws : NMap Nat := []
  /-- lines in the tag cache, oldest first, and whether each is newer than the tag table (R126; log 188) -/
  tagLines : List (Nat × Bool) := []
  /-- what waits at banks and interfaces, oldest first (R130; log 189) -/
  waits : List MemWait := []
  /-- the targets' arbiters, by unit table index -/
  arbs : NMap MemArb := []
  /-- the fabric's arbiter (R135): the route last granted, and the grants since the last forced one, up to 3 -/
  lastRoute : Nat := 0
  sinceForced : Nat := 3
  deriving DecidableEq, Repr

/-- A DRAM interface (control blocks 6 to 9). -/
structure Dram where
  /-- 0 OFF 1 TRAINING 2 ACTIVE 3 SELF_REFRESH 4 FAILED -/
  state : Nat := 0
  density : Nat := 0
  rate : Nat := 0
  ecc : Bool := false
  ways : Nat := 0
  ce : Nat := 0
  ue : Nat := 0
  err : ErrLatch := {}
  passes : Nat := 0
  period : Nat := 24
  hot : Bool := false
  mr4 : Nat := 0
  deriving DecidableEq, Repr

/-- A route (R132 to R136). -/
structure Route where
  woven : Bool := false
  ply : Nat := 0xFF
  src : Nat := 0
  dst : Nat := 0
  priority : Nat := 0
  formed : Bool := false
  flits : Nat := 0
  credits : Nat := 32
  /-- flits that wait for a credit and a grant at the sender, flits under way, and consecutive grants that passed the route over (R134,
  R135; log 190) -/
  ready : List Flit := []
  wire : List Flit := []
  passed : Nat := 0
  /-- flits that wait in the destination's receive buffer -/
  buf : List Flit := []
  /-- a packet is open at the receiver -/
  open_ : Bool := false
  /-- flits are dropped up to the next FIRST flit (R144) -/
  resync : Bool := false
  deriving DecidableEq, Repr

/-! ### Spindle cores (06, 07) -/

/-- The registers the shadow bank doubles (06 section Architectural state): S16-S31, A4-A7, LS, LE, LC and LD. -/
structure Shadow where
  s : NMap (BitVec 64) := []
  a : NMap (BitVec 32) := []
  ls : NMap (BitVec 16) := []
  le : NMap (BitVec 16) := []
  lc : NMap (BitVec 32) := []
  ld : Nat := 0
  deriving DecidableEq, Repr

/-- A Spindle core. Unlisted registers read zero (P0 reads all ones). -/
structure Core where
  /-- SPD_CORE.STATE: 0 IDLE 1 ZEROING 2 LOADING 3 RUNNING 4 HALTED -/
  state : Nat := 0
  hank : Nat := 0
  /-- that hank has been destroyed since (04 R89, R110) -/
  stranger : Bool := false
  job : Option Nat := none
  faultActive : Nat := 0
  faultHalt : Bool := false
  faultSlot : Bool := false
  faultCause : Nat := 0
  faultPc : Nat := 0
  maxHeld : Nat := 0
  window : Nat := 0
  holdoff : Nat := 0
  doneEvent : Nat := 0xFFFF
  s : NMap (BitVec 64) := []
  a : NMap (BitVec 32) := []
  b : NMap (BitVec 32) := []
  l : NMap (BitVec 32) := []
  m : NMap (BitVec 32) := []
  v : NMap (BitVec 1024) := []
  ac : NMap (BitVec 3072) := []
  as_ : NMap (BitVec 6) := []
  p : NMap (BitVec 128) := []
  bx : Nat := 0
  ls : NMap (BitVec 16) := []
  le : NMap (BitVec 16) := []
  lc : NMap (BitVec 32) := []
  ld : Nat := 0
  shadowOn : Bool := false
  sat : Bool := false
  ie : Bool := false
  active : Nat := 0
  ipc : NMap (BitVec 16) := []
  isr : NMap (BitVec 32) := []
  vbase : BitVec 16 := 0
  ien : BitVec 32 := 0
  ilvl : BitVec 64 := 0
  ipend : BitVec 32 := 0
  pc : BitVec 16 := 0
  shadow : Shadow := {}
  /-- the next instruction stands in slot B -/
  slotB : Bool := false
  /-- target of a branch (true), or of a call, a return or a REP that runs no iteration, which takes effect after slot B
  (R159, R180) -/
  jump : Option (BitVec 16 × Bool) := none
  /-- a call (true) or a return of this bundle, with the registers of its frame: it takes effect after slot B (R163, R164, R180) -/
  frame : Option (Bool × List Nat) := none
  /-- an RTI of this bundle: it restores the status after slot B (R167, R180) -/
  rti : Bool := false
  /-- a SKIP governs the next instruction: whether its condition held (R162) -/
  skip : Option Bool := none
  /-- TEND stands in this bundle's slot A (R180) -/
  tend : Bool := false
  /-- the task has ended and waits for its completion record -/
  ended : Bool := false
  /-- WAITI holds issue until an interrupt (R179) -/
  waiting : Bool := false
  /-- per input: iterations of the tight repeat completed since it became takeable; 257 once that repeat has ended (R169) -/
  heldIters : NMap Nat := []
  /-- this boundary, or one before it that a SKIP put off, is an iteration boundary or the end of a repeat (R169) -/
  iterBoundary : Bool := false
  x : NMap Byte := []
  y : NMap Byte := []
  pm : NMap Byte := []
  deriving DecidableEq, Repr

/-! ### Whorl (08) -/

/-- A decoded operand row or column: code values as mantissa and exponent, and the scale exponent per group (none: a zero group). -/
structure OpRow where
  els : List (Int × Int) := []
  scales : List (Option Int) := []
  deriving DecidableEq, Repr

/-- Resident weights (R211). -/
structure Resident where
  hank : Nat := 0
  wkey : Nat := 0
  bAddr : Nat := 0
  bStride : Nat := 0
  fmtB : Nat := 0
  group : Nat := 0
  n : Nat := 0
  k : Nat := 0
  cols : List OpRow := []
  /-- ROT of their first slivers; none when every one is empty -/
  rot : Option Bool := none
  deriving DecidableEq, Repr

/-- A Whorl tile (control blocks 14 to 21). -/
structure Tile where
  /-- 0 UNFORMED 1 IDLE 2 ZEROING 3 RUNNING 4 STOPPING -/
  state : Nat := 0
  hank : Nat := 0
  arrayId : Nat := 0
  faultHank : Nat := 0
  faultCause : Nat := 0
  busy : Nat := 0
  ue : Nat := 0
  ce : Nat := 0
  accSat : Nat := 0
  deriving DecidableEq, Repr

/-- A running Whorl job and what it will report (R200). -/
structure WhlRun where
  job : Nat := 0
  desc : List Byte := []
  hank : Nat := 0
  /-- it waits for activation rows on its input port (R203) -/
  streaming : Bool := false
  accSat : Nat := 0
  clips : Nat := 0
  invalid : Nat := 0
  narrowed : Nat := 0
  jobMax : Nat := 0
  /-- the scale context it names, 256 x ply + context -/
  ctx : Option Nat := none
  /-- the scale source fixed at job start (R225) -/
  src : ScaleSrc := .const 0
  /-- tile SRAM raises an uncorrectable error during the job (R195) -/
  ue : Bool := false
  /-- saturated outputs per tile of the array -/
  satTile : NMap Nat := []
  rows : Nat := 0
  usedDram : Nat := 0
  /-- the weights to keep when it ends served -/
  keep : Option Resident := none
  reused : Bool := false
  cause : Nat := 0
  failAddr : Nat := 0
  deriving DecidableEq, Repr

/-- A formed array (R35, R197). -/
structure WArray where
  formed : Bool := false
  ply : Nat := 0
  shape : Nat := 1
  first : Nat := 0
  depth : Nat := 3
  wkeepEn : Bool := true
  staged : List Nat := []
  run : Option WhlRun := none
  resident : Option Resident := none
  /-- a swap of the output-stage tables waits, and a boundary of its ply has passed since it was ordered (17 R398) -/
  swapDue : Bool := false
  swapArmed : Bool := false
  /-- version of the tables it runs; none when part 5 is not loaded -/
  tables : Option Nat := none
  deriving DecidableEq, Repr

/-! ### Quantisation (09) -/

/-- A scale context. -/
structure Ctx where
  rmax : Nat := 0
  owner : Nat := 0
  claimed : Bool := false
  loop : Bool := true
  mode : Nat := 0
  h : Int := 0
  fixedT : Nat := 0x7F
  target : Nat := 1000
  clips : Nat := 0
  winNarrowed : Nat := 0
  winClipped : Nat := 0
  streak : Nat := 0
  /-- the tick at which the headroom loop last ran -/
  judged : Option Nat := none
  deriving DecidableEq, Repr

/-- QNT_PLYp_LOOP. -/
structure QLoop where
  hmax : Int := 3
  hmin : Int := -1
  window : Nat := 8
  decay : Nat := 6
  deriving DecidableEq, Repr

/-- Control block 22. -/
structure Qnt where
  invalid : Nat := 0
  clips : Nat := 0
  hsel : Nat := 0
  loops : NMap QLoop := []
  /-- contexts that differ from their ply's defaults, by 256 x ply + context -/
  ctxs : NMap Ctx := []
  /-- the defaults a PLY reset gives the ply's contexts -/
  defaults : NMap Ctx := []
  deriving DecidableEq, Repr

/-! ### Carding (10) -/

/-- A held RTP packet. -/
structure Pkt where
  seq : Nat := 0
  ts : Nat := 0
  marker : Bool := false
  payload : List Byte := []
  arrival : Nat := 0
  deriving DecidableEq, Repr

/-- An access unit (R245). -/
structure AccessUnit where
  frags : List (List Byte) := []
  ts : Nat := 0
  arrival : Nat := 0
  /-- arrival order over all flows -/
  order : Nat := 0
  capture : Nat := 0
  noSr : Bool := false
  gap : Bool := false
  /-- its header parse, once admitted to decode (R247) -/
  info : Option AuInfo := none
  deriving DecidableEq, Repr

/-- A decoded picture. -/
structure Pic where
  w : Nat := 0
  h : Nat := 0
  luma : List Byte := []
  cb : List Byte := []
  cr : List Byte := []
  c422 : Bool := false
  capture : Nat := 0
  noSr : Bool := false
  concealed : Bool := false
  frameNo : Nat := 0
  buf : Nat := 0
  deriving DecidableEq, Repr

/-- A picture's decode in progress. -/
structure Decoding where
  au : AccessUnit := {}
  engine : Nat := 0
  buf : Nat := 0
  deriving DecidableEq, Repr

/-- A latched ROI table (R252). -/
structure Roi where
  outW : Nat := 0
  outH : Nat := 0
  layout : Nat := 0
  elem : Nat := 0
  pool : Nat := 0
  batch : Nat := 0
  cache : Bool := false
  mean : List Nat := []
  scale : List Int := []
  /-- x, y, w, h, tag -/
  entries : List (Nat × Nat × Nat × Nat × Nat) := []
  deriving DecidableEq, Repr

/-- A camera flow. -/
structure Flow where
  /-- next expected sequence number; none after a reset -/
  next : Option Nat := none
  held : List Pkt := []
  ssrc : Option Nat := none
  /-- TIME_NS at which the first packet after the present gap arrived -/
  gapSince : Option Nat := none
  /-- a sequence number was declared lost since the last released packet -/
  lost : Bool := false
  cur : Option AccessUnit := none
  queue : List AccessUnit := []
  /-- 0 IDLE 1 WAIT_RAP 2 DECODING -/
  st : Nat := 0
  /-- latest sender report: RTP timestamp and its PTP time in ns (R245) -/
  sr : Option (Nat × Nat) := none
  frameNo : Nat := 0
  lastGood : Option Pic := none
  prev : Option Pic := none
  /-- frame buffers the flow holds -/
  bufs : List Nat := []
  /-- those of them that are references -/
  refs : List Nat := []
  /-- the references flagged CONCEALED since the last random-access point (R249) -/
  tainted : List Nat := []
  badParams : List Nat := []
  dec : List Decoding := []
  reasons : NMap Nat := []
  packets : Nat := 0
  frames : Nat := 0
  concealed : Nat := 0
  samples : Nat := 0
  clips : Nat := 0
  roiOutside : Nat := 0
  div : NMap Nat := []
  quiet : NMap Nat := []
  pin : NMap Nat := []
  roi : NMap Roi := []
  /-- discarding up to the next random-access point after an overload (R251) -/
  discard : Bool := false
  /-- per subscriber: the tick at which its divider was last judged (R254) -/
  judged : NMap Nat := []
  deriving DecidableEq, Repr

/-- A decode engine (control blocks 24, 25). -/
structure Engine where
  busy : Nat := 0
  mb : Nat := 0
  /-- 0 none, 1 waiting for its turn, 2 draining (17 R397) -/
  swap : Nat := 0
  /-- camera last served at Weighted standing (R251) -/
  rr : Nat := 0
  deriving DecidableEq, Repr

/-- Control blocks 23 to 26. -/
structure Crd where
  auDepth : Nat := 8
  wait : Nat := 20
  unmatched : Nat := 0
  hsel : Nat := 0
  flows : NMap Flow := []
  engines : NMap Engine := []
  /-- macroblocks charged to RES_MB in the present tick, by 4096 x ply + hank -/
  charged : NMap Nat := []
  /-- non-Reserved macroblocks with their time, for FAB's demand (14 R326) -/
  other : List (Nat × Nat) := []
  nextAu : Nat := 0
  /-- carding sequencer microcode swap ordered (17 R397) -/
  beSwap : Bool := false
  deriving DecidableEq, Repr

/-! ### Tokenizer (11) -/

/-- A checked dictionary header (R269, R271). -/
structure Dict where
  base : Nat := 0
  maxLen : Nat := 0
  nodes : Nat := 0
  edges : Nat := 0
  deriving DecidableEq, Repr

/-- A running tokenizer job and its report (R276). -/
structure TokRun where
  job : Nat := 0
  hank : Nat := 0
  desc : List Byte := []
  /-- the dictionary header checked at job start (R271) -/
  dict : Dict := {}
  streaming : Bool := false
  strings : Nat := 0
  tokens : Nat := 0
  invalid : Nat := 0
  raw : Nat := 0
  truncated : Nat := 0
  cause : Nat := 0
  failAddr : Nat := 0
  usedDram : Nat := 0
  deriving DecidableEq, Repr

/-- Control block 27. -/
structure Tok where
  hank : Nat := 0
  state : Nat := 0
  faultHank : Nat := 0
  faultCause : Nat := 0
  invalid : Nat := 0
  bytes : Nat := 0
  run : Option TokRun := none
  deriving DecidableEq, Repr

/-! ### Bobbin (12) -/

/-- An access of a MOVE that met a bus error. -/
structure BadAccess where
  src : Nat := 0
  dst : Nat := 0
  /-- offset of the failing block in the MOVE -/
  off : Nat := 0
  write : Bool := false
  cause : Nat := 0
  tries : Nat := 0
  /-- the bytes a failed write carries -/
  data : List Byte := []
  deriving DecidableEq, Repr

/-- A Bobbin channel. -/
structure Chan where
  hank : Nat := 0
  pc : Nat := 0
  paceOn : Bool := false
  paceIdx : Option Nat := none
  /-- 0 IDLE 1 RUNNING 2 WAITING 3 PACING 4 DRAINING 5 STOPPING 6 HALTED -/
  state : Nat := 0
  cause : Nat := 0
  dir : Bool := false
  tries : Nat := 0
  haddr : Nat := 0
  mode : Bool := false
  retries : Nat := 0
  start : Nat := 0
  retried : Nat := 0
  cls : Nat := 0
  job : Option Nat := none
  /-- hank 0's program (no job) -/
  own : Bool := false
  prog : Nat := 0
  progLen : Nat := 0
  errMode : Nat := 0
  errRetries : Nat := 0
  doneEvent : Nat := 0xFFFF
  haltEvent : Nat := 0xFFFF
  scur : Nat := 0
  dcur : Nat := 0
  lc0 : Nat := 0
  lc1 : Nat := 0
  dramBytes : Nat := 0
  /-- LEN and DRAIN of the MOVE in progress -/
  moveLen : Nat := 0
  moveDrain : Bool := false
  /-- the event a waiting WAIT or PACE waits on, the tally it waits for and what it takes (R285, R286) -/
  waitEvent : Nat := 0
  waitHigh : Nat := 1
  waitTake : Nat := 1
  /-- the access of the MOVE in progress that failed and is to be judged (R292, R293) -/
  bad : Option BadAccess := none
  /-- a halt waits for outstanding responses (R292) -/
  halting : Bool := false
  /-- RESUME was accepted and the failed access is to be issued again (R294) -/
  resumed : Bool := false
  deriving DecidableEq, Repr

/-! ### Events (12) -/

/-- Control block 32. -/
structure Evt where
  sat : Nat := 0
  tally : NMap Nat := []
  route : NMap Word := []
  /-- channel last served per event (R298) -/
  last : NMap Nat := []
  deriving DecidableEq, Repr

/-! ### Links (13) -/

/-- A function page (BAR4). -/
structure FnPage where
  /-- MSI-X table bytes -/
  msix : NMap Byte := []
  pba : Nat := 0
  reqSlots : NMap Byte := []
  rplSlots : NMap Byte := []
  reqHead : Nat := 0
  reqTail : Nat := 0
  rplHead : Nat := 0
  rplTail : Nat := 0
  aperture : Nat := 0
  /-- replies not yet written: bytes of each message -/
  replies : List (List Byte) := []
  /-- untaken requests whose replies are discarded (R308) -/
  lost : Nat := 0
  /-- the host has MSI-X and Bus Master enabled in the function (R304, R305) -/
  enabled : Bool := false
  /-- the request at the head is a RETURN that waits for the self-test of this table entry (15 R369, 18 R406) -/
  waiting : Option Nat := none
  deriving DecidableEq, Repr

/-- A VF binding. -/
structure Bind where
  bound : Bool := false
  hank : Nat := 0
  deriving DecidableEq, Repr

/-- Control block 33. -/
structure Pci where
  downEvents : Nat := 0
  up : Bool := false
  width : Nat := 0
  rate : Nat := 0
  numVfs : Nat := 0
  unbound : Nat := 0
  binds : NMap Bind := []
  evmap : NMap Word := []
  fns : NMap FnPage := []
  deriving DecidableEq, Repr

/-- An Ethernet port (control blocks 34 to 36). -/
structure Eth where
  link : Bool := false
  speed : Nat := 0
  rxFrames : Nat := 0
  rxDrop : Nat := 0
  fcsErrors : Nat := 0
  vlanDrop : Nat := 0
  oversize : Nat := 0
  txts : List Nat := []
  txtsLost : Nat := 0
  vlans : NMap Nat := []
  deriving DecidableEq, Repr

/-- A voice descriptor (13 R316). -/
structure Voice1 where
  clip : Nat := 0
  frames : Nat := 0
  slotMask : Nat := 0
  gain : Int := 0
  doneEvent : Nat := 0xFFFF
  /-- the hank the clip is played for -/
  hank : Nat := 0
  deriving DecidableEq, Repr

/-- A voice. -/
structure Voice where
  cmdLo : Nat := 0
  refused : Nat := 0
  queue : List Voice1 := []
  cur : Option Voice1 := none
  pos : Nat := 0
  stop : Bool := false
  deriving DecidableEq, Repr

/-- An amplifier (13 R318): factor A of 65,536, and the ramp in progress (target, frames left). -/
structure Amp where
  faults : Nat := 0
  inputHigh : Bool := true
  retries : Nat := 0
  /-- 0 PLAYING 1 MUTED 2 RETRY 3 LATCHED -/
  st : Nat := 0
  factor : Nat := 65536
  from_ : Nat := 65536
  goal : Nat := 65536
  left : Nat := 0
  deriving DecidableEq, Repr

/-- Control block 37. -/
structure Aud where
  enable : Bool := false
  i2s : Bool := false
  slotEn : Nat := 0
  ampOf : Nat := 0
  underrun : Nat := 0
  voices : NMap Voice := []
  amps : NMap Amp := []
  deriving DecidableEq, Repr

/-! ### Power (14) -/

/-- A governed island. -/
structure Island where
  cur : Nat := 0
  target : Nat := 0
  /-- 0 STABLE 1 LOWERING 2 RAISING 3 LINK_LOST 4 OFF 5 RETENTION -/
  st : Nat := 0
  /-- the clock is stopped with its power state: OFF, RETENTION, a forced Hold, RECOVERY -/
  stopped : Bool := false
  /-- the clock is stopped because the monitor of the lost link reads below 0.525 V (R331) -/
  lowVolt : Bool := false
  /-- voltage commanded, mV -/
  volt : Nat := 0
  monitor : Nat := 0
  readback : Nat := 0
  pin : Nat := 0xF
  floor : Nat := 0
  ceil : Nat := 7
  losses : Nat := 0
  changes : Nat := 0
  /-- STATUS_WORD as the steward last read it (19 R433) -/
  status : Nat := 0
  /-- a decision that waits for the transition in progress (R330): point, ply, load, rho in 1/256 -/
  waiting : Option (Nat × Nat × Nat × Nat) := none
  /-- a LINK_LOST island's V(f) was commanded and awaits its confirmation (R332) -/
  recover : Bool := false
  deriving DecidableEq, Repr

/-- Control block 43. -/
structure Pwr where
  /-- 0 RUN 1 ENTERING_HOLD 2 HOLD 3 LEAVING_HOLD 4 ENTERING_DORMANT -/
  state : Nat := 0
  forced : Bool := false
  result : CmdResult := {}
  /-- DORMANT ordered during a transition (R344), or wanted after Hold entry (R341) -/
  wantDormant : Bool := false
  islands : NMap Island := []
  /-- caps: 7 holds nothing back (log 9) -/
  thermCap : Nat := 7
  tdpCap : Nat := 7
  hotCap : Bool := false
  /-- the last 100 power readings, newest first (R336) -/
  powers : List Nat := []
  /-- last FAB request (R326) -/
  fabReq : Nat := 0
  /-- 10 ms samples for which the sum has stayed below 95 % of TDP -/
  below : Nat := 0
  tdp : Nat := 36
  /-- 0 normal 1 warn 2 throttle 3 trip -/
  level : Nat := 0
  marginDev : Nat := 20
  appOp : Nat := 4
  fabFloor : Nat := 3
  tSettle : Nat := 60
  deriving DecidableEq, Repr

/-! ### Steward (15, 18) -/

/-- An entry of the unit state table with its data-path word (15 R353, 18 R402). -/
structure UnitSt where
  /-- 0 ABSENT 1 ONLINE 2 SUSPECT 3 DRAINING 4 QUARANTINED 5 OFFLINE -/
  state : Nat := 0
  faults : Nat := 0
  auth : Nat := 0
  /-- the state a DRAINING unit goes to -/
  target : Nat := 4
  lastCause : Nat := 0
  latch : Bool := false
  /-- times of reports -/
  reports : List Nat := []
  /-- TIME_NS of a quarantine by steward policy (QUAR_HOLD, R403) -/
  policyHold : Option Nat := none
  /-- a self-test runs, ordered by this authority (R406) -/
  testing : Option Nat := none
  /-- the engine's local copy of its state word while TIME_NS is below `localAt` (R407; log 21) -/
  local_ : Nat := 0
  localAt : Nat := 0
  deriving DecidableEq, Repr

/-- A fan. -/
structure Fan where
  rpm : Nat := 0
  fault : Bool := false
  ppr : Nat := 2
  minRpm : Nat := 600
  deriving DecidableEq, Repr

/-- A tray peer in the master's view (15 R365); on a peer, entry 0 has the EPOCH of the last POLL. -/
structure Peer where
  epoch : Nat := 0
  deviceId : Nat := 0
  misses : Nat := 0
  /-- 0 ABSENT 1 JOINING 2 PRESENT 3 MISMATCH 4 LOST -/
  state : Nat := 0
  deriving DecidableEq, Repr

/-- A frame that was sent and waits for its ACK (15 R362), with the resends that are left. -/
structure Sent where
  type : Nat
  seq : Nat
  payload : List Nat
  left : Nat := 3
  deriving DecidableEq, Repr

/-- One side of an Ebvar link (15 R362): next SEQ to send, last SEQ accepted, the frame that waits for its ACK. -/
structure Link where
  txSeq : Nat := 0
  rxSeq : Option Nat := none
  unacked : Option Sent := none
  deriving DecidableEq, Repr

/-- An override (15 R357). -/
structure Override where
  auth : Nat := 5
  value : Nat := 0
  untilNs : Nat := 0
  deriving DecidableEq, Repr

/-- A tombstone (18 R415). -/
structure Tomb where
  tag : Nat := 0
  time : Nat := 0
  epoch : Nat := 0
  lenOut : Nat := 0
  hank : Nat := 0
  peer : Nat := 0
  ply : Nat := 0
  reason : Nat := 0
  deriving DecidableEq, Repr

/-- The master's side of a relay job in flight (18 R414). -/
structure RelayRun where
  job : Nat := 0
  peer : Nat := 0
  desc : List Byte := []
  got : List Byte := []
  getDone : Bool := false
  /-- PUT bytes sent, and whether the COMMIT frame has been sent -/
  sent : Nat := 0
  committed : Bool := false
  deriving DecidableEq, Repr

/-- A peer's relay staging (18 R414, R416). -/
structure RelayStage where
  hank : Nat := 0
  job : Nat := 0
  epoch : Nat := 0
  ply : Nat := 0
  cls : Nat := 0
  fate : Nat := 0
  base : Nat := 0
  data : List Byte := []
  /-- the peer's own job, and the status it ended with before its COMMIT (0 while it runs) -/
  own : Nat := 0
  ended : Nat := 0
  /-- frames that wait until the job has a slot (01 R25) -/
  waiting : List RelayFrame := []
  deriving DecidableEq, Repr

/-- Control block 44. -/
structure Stw where
  trayAddr : Nat := 0
  /-- 0 peer 1 master 2 ISOLATED -/
  role : Nat := 0
  roleConflict : Bool := false
  addrConflict : Bool := false
  strapInvalid : Bool := false
  masterLost : Bool := false
  session : Bool := false
  /-- the key-encryption key of the key table, drawn at every COLD reset: a free value (04 R98, log 5) -/
  kek : Nat := 0
  /-- the key that opened the console session -/
  sessionKey : Nat := 0
  /-- count of nonces drawn; the nonce itself is free -/
  nonce : Nat := 0
  /-- the next good kick is 0x5A5A -/
  kick5a : Bool := false
  expiries : Nat := 0
  badKicks : Nat := 0
  wdForced : Bool := false
  remoteDanger : Bool := false
  sites : List Nat := []
  peaks : List Nat := []
  fans : NMap Fan := []
  fanMask : Nat := 0x0F
  /-- curve duty in half points (R347) -/
  curve2 : Nat := 0
  tLow : Nat := 60
  tHigh : Nat := 90
  fanMin : Nat := 35
  miss : Nat := 3
  cycle : Nat := 10
  crc : Nat := 0
  peers : NMap Peer := []
  links : NMap Link := []
  units : NMap UnitSt := []
  /-- reports of the present command not yet taken: table index and cause (18 R402); empty between commands -/
  reports : List (Nat × Nat) := []
  disagree60 : Nat := 0
  disagree61 : Nat := 0
  staleRelay : Nat := 0
  tombHead : Nat := 0
  tombs : NMap Tomb := []
  reportLimit : Nat := 3
  reportWindow : Nat := 10
  suspectClear : Nat := 30
  drainLimit : Nat := 100
  dur : Nat := 3600
  overrides : NMap Override := []
  /-- danger actions whose after-readings are due (R360) -/
  dangers : List JEntry := []
  relays : List RelayRun := []
  stages : List RelayStage := []
  /-- a STAGE that arrives in chunks from the tray master: part and bytes so far (17 R399) -/
  chunk : Option (Nat × List Byte) := none
  deriving DecidableEq, Repr

/-! ### Journal (16) -/

/-- Control block 45. -/
structure Lea where
  /-- unacknowledged ring entries, oldest first, and the slot of the oldest -/
  ring : List JEntry := []
  ringSlot : Nat := 0
  /-- reserve entries by slot, 0 to 254, and the OVERFLOW entry of slot 255 -/
  reserve : NMap JEntry := []
  overflow : Option JEntry := none
  head : Nat := 0
  ack : Nat := 0
  ackLo : Nat := 0
  lost : Nat := 0
  unrecorded : Nat := 0
  refused : Nat := 0
  badAcks : Nat := 0
  warnPct : Nat := 75
  sources : Nat := 7
  flushing : Bool := false
  flushFailed : Bool := false
  epochUnsaved : Bool := false
  epoch : Nat := 0
  deriving DecidableEq, Repr

/-! ### Boot (17) -/

/-- Control block 46. -/
structure Boot where
  /-- 0 ROM 1 STEWARD 2 DRAM 3 PARTS 4 APP 5 WARP 6 DONE 7 RECOVERY -/
  state : Nat := 0
  src : Nat := 0
  len : Nat := 0
  result : CmdResult := {}
  /-- running version per part; none when it is not loaded -/
  versions : NMap Nat := []
  /-- parts that run the slot that is not the active one (17 R392) -/
  fallback : List Nat := []
  /-- the directory in force -/
  dir : NMap DirEntry := []
  gen : Nat := 0
  /-- directory copy last written: false 0, true 1 -/
  copy : Bool := false
  /-- TIME_NS at which the commit test of a trial in progress is due, per part -/
  trials : NMap Nat := []
  stage : Option (Nat × List Byte) := none
  opKeys : List Nat := []
  /-- the services are awaited (t7 to t8, r6 to r7) -/
  awaiting : Bool := false
  /-- a WARM reset runs (r0 to r8) -/
  warm : Bool := false
  /-- what the board gave at the release of POR_N, kept for a boot that RECOVERY holds up -/
  env : Option BootEnv := none
  deriving DecidableEq, Repr

/-! ### What the block sends out -/

/-- Answers and signals the last command sent out of the block (log 10). -/
inductive Out
  /-- a bus answer: 0 ok, 1 access error, 2 decode error, 3 data error, 4 poison; read bytes -/
  | answer (status : Nat) (data : List Byte)
  /-- Unsupported Request on PCIe (13 R303) -/
  | unsupported
  /-- an MSI-X message: function, vector -/
  | msix (fn vector : Nat)
  /-- an application-core interrupt: core, the owning hank into whose guest it is injected, event (13 R306) -/
  | appIrq (core hank event : Nat)
  /-- a frame sent on an Ethernet port, with its transmit stamp when it is a PTP event message in one-step mode -/
  | ethFrame (port : Nat) (bytes : List Byte) (stamp : Option Nat)
  /-- a frame handed to the resident services or to the PTP service, with its receive stamp -/
  | toServices (port : Nat) (bytes : List Byte) (stamp : Nat)
  | toPtp (port : Nat) (bytes : List Byte) (stamp : Nat)
  /-- an Ebvar frame: the fields of its header and the fields of its payload (15 R362) -/
  | ebvar (dst src type seq ack : Nat) (payload : List Nat)
  /-- a management reply: origin authority, STATUS, AUTHORITY, data -/
  | mgmt (authority status holder : Nat) (data : List Nat)
  /-- journal entries read -/
  | entries (es : List JEntry)
  /-- an audio frame: FSYNC and AUD_SD at each AUD_BCLK (13 R315) -/
  | audio (wire : List (Bool × Bool))
  /-- what the resident services publish on a topic (13 R307) -/
  | publish (topic : Nat) (data : List Byte)
  /-- the vendor and device ID that the endpoint presents once its link has trained (13 R300) -/
  | present (vendor device : Nat)
  /-- a flit sent by an engine: route -/
  | flit (f : Flit)
  /-- the answer of a memory request that waited: requester ID, address, status, bytes read (05 R130, R137) -/
  | response (requester addr status : Nat) (data : List Byte)
  /-- a VOUT_COMMAND: island, mV -/
  | vout (island mv : Nat)
  deriving DecidableEq, Repr

/-! ### The whole state -/

/-- The state of the block. -/
structure State where
  nv : NonVolatile := {}
  pins : Pins := {}
  /-- PIN_SERVICE_TIER, PIN_JOBS.PEAK, PIN_JOB_RESERVE (01) -/
  tier : Nat := 0
  tierChanges : Nat := 0
  peak : Nat := 0
  jobReserve : Nat := 64
  wrp : Wrp := {}
  tck : Tck := {}
  plies : NMap Ply := []
  hanks : NMap Hank := []
  hnkHsel : Nat := 0
  slots : NMap KeySlot := []
  grants : NMap Grant := []
  pools : NMap Pool := []
  /-- granules whose WRITTEN bit is set, by base address (04 R90) -/
  written : List Nat := []
  /-- granules whose OWNER a tag-line rebuild left at 0 (05 R140) -/
  lostOwner : List Nat := []
  mem : List Host.Cell := []
  fab : Fab := {}
  dram : NMap Dram := []
  routes : NMap Route := []
  /-- flits delivered to an engine's input port and not yet consumed, by endpoint -/
  streams : NMap (List Flit) := []
  cores : NMap Core := []
  tiles : NMap Tile := []
  arrays : NMap WArray := []
  qnt : Qnt := {}
  crd : Crd := {}
  tok : Tok := {}
  chans : NMap Chan := []
  evt : Evt := {}
  pci : Pci := {}
  eth : NMap Eth := []
  aud : Aud := {}
  pwr : Pwr := {}
  stw : Stw := {}
  lea : Lea := {}
  boot : Boot := {}
  /-- latched high halves of 64-bit counters, by requester ID, block and offset (03 R60) -/
  latches : List ((Nat × Nat × Nat) × Nat) := []
  /-- draws of free values so far (log 11) -/
  freeCount : Nat := 0
  out : List Out := []
  /-- the commands that wait, first in first out -/
  pending : List Instr := []
  deriving DecidableEq, Repr

/-- The machine right after a COLD reset (00 R7): every register at its Reset value, POR_N low, the boot sequence not yet
begun (17 R389 t0). Log 1: the part, its OTP and its flash. -/
def State.reset : State := {}

end Sys2Proof.Machine
end

