-- ==== Sys2Proof/Machine/Ops.lean ====
section
/-! DEFINITION. Shared operations: the part, the woven records, event tallies, journal entries, unit states and the tier. -/

namespace Sys2Proof.Machine

/-! ### The part (01 section Variants and the unit roster) -/

def State.variant (s : State) : Variant := s.nv.otp.variant

def nTiles : Variant → Nat | .z740 => 8 | .z720 => 4 | .z710 => 2
def nClusters : Variant → Nat | .z740 => 4 | .z720 => 2 | .z710 => 1
def nCores (v : Variant) : Nat := 4 * nClusters v
def nBanks : Variant → Nat | .z740 => 48 | .z720 => 32 | .z710 => 16
def nDecode : Variant → Nat | .z740 => 2 | .z720 => 2 | .z710 => 1
def nDecCtx : Variant → Nat | .z740 => 64 | .z720 => 48 | .z710 => 24
def nFlows : Variant → Nat | .z740 => 1024 | .z720 => 1024 | .z710 => 512
def nDram : Variant → Nat | .z740 => 4 | .z720 => 4 | .z710 => 2
def nApp : Variant → Nat | .z740 => 4 | .z720 => 4 | .z710 => 2
def hasTok : Variant → Bool | .z710 => false | _ => true
def hasAud : Variant → Bool | .z710 => false | _ => true
def nEth10 : Variant → Nat | .z710 => 1 | _ => 2
def masterCapable : Variant → Bool | .z710 => false | _ => true
def jobsMax : Variant → Nat | .z710 => 128 | _ => 256
def reserveDefault : Variant → Nat | .z710 => 32 | _ => 64
def deviceId : Variant → Nat | .z740 => 0x7400 | .z720 => 0x7200 | .z710 => 0x7100

/-- Whether the unit of control block `n` is present (01 variant table, R22, R23). -/
def blockPresent (v : Variant) (n : Nat) : Bool :=
  if n < 6 then true
  else if n < 10 then decide (n - 6 < nDram v)
  else if n < 14 then decide (n - 10 < nClusters v)
  else if n < 22 then decide (n - 14 < nTiles v)
  else if n < 24 then true
  else if n < 26 then decide (n - 24 < nDecode v)
  else if n = 26 then true
  else if n = 27 then hasTok v
  else if n < 35 then true
  else if n = 35 then decide (1 < nEth10 v)
  else if n = 36 then true
  else if n = 37 then hasAud v
  else if n < 42 then decide (n - 38 < nApp v)
  else decide (n < 47)

/-- Whether entry `i` of the unit state table stands for a present unit (15 R353). -/
def unitPresent (v : Variant) (i : Nat) : Bool :=
  if i < 47 then blockPresent v i
  else if 48 ≤ i && i < 64 then decide (i - 48 < nCores v)
  else if 64 ≤ i && i < 112 then decide (i - 64 < nBanks v)
  else decide (128 ≤ i ∧ i < 192)

/-! ### Woven records -/

/-- The records in force; none while unwoven. -/
def State.img (s : State) : Image := s.wrp.image.getD {}

def State.woven (s : State) : Bool := s.wrp.device == 2

def plyRec? (m : Image) (p : Nat) : Option PlyRec := m.plies.find? (fun r => r.id == p)

def hankRecs (m : Image) (h : Nat) : List HankRec := m.hanks.filter (fun r => r.hank == h)

def hankRec? (m : Image) (h p : Nat) : Option HankRec := m.hanks.find? (fun r => r.hank == h && r.ply == p)

/-- Whether hank `h` exists: hank 0 always, a tenant while it holds a woven record (04 R108, R109). -/
def State.hankExists (s : State) (h : Nat) : Bool := h == 0 || (s.img.hanks.any (fun r => r.hank == h))

/-- POLICY value of a key in a scope: the ply's value, else the device's (02 R37). -/
def policy? (m : Image) (key scope : Nat) : Option (List Byte) :=
  match m.policy.find? (fun r => r.key == key && r.scope == scope) with
  | some r => some r.value
  | none => (m.policy.find? (fun r => r.key == key && r.scope == 0xFF)).map (·.value)

/-- A policy value as a little-endian number. -/
def policyN (m : Image) (key scope d : Nat) : Nat :=
  match policy? m key scope with
  | some v => leNat v
  | none => d

/-! ### Sub-states -/

def State.ply (s : State) (p : Nat) : Ply := mget s.plies p {}
def State.setPly (s : State) (p : Nat) (x : Ply) : State := { s with plies := mset s.plies p x }
def State.hank (s : State) (h : Nat) : Hank := mget s.hanks h {}
def State.setHank (s : State) (h : Nat) (x : Hank) : State := { s with hanks := mset s.hanks h x }
def State.core (s : State) (c : Nat) : Core := mget s.cores c {}
def State.setCore (s : State) (c : Nat) (x : Core) : State := { s with cores := mset s.cores c x }
def State.tile (s : State) (t : Nat) : Tile := mget s.tiles t {}
def State.setTile (s : State) (t : Nat) (x : Tile) : State := { s with tiles := mset s.tiles t x }
def State.chan (s : State) (n : Nat) : Chan := mget s.chans n {}
def State.setChan (s : State) (n : Nat) (x : Chan) : State := { s with chans := mset s.chans n x }
def State.arr (s : State) (a : Nat) : WArray := mget s.arrays a {}
def State.setArr (s : State) (a : Nat) (x : WArray) : State := { s with arrays := mset s.arrays a x }
def State.dramIf (s : State) (i : Nat) : Dram := mget s.dram i {}
def State.setDram (s : State) (i : Nat) (x : Dram) : State := { s with dram := mset s.dram i x }
def State.route (s : State) (n : Nat) : Route := mget s.routes n {}
def State.setRoute (s : State) (n : Nat) (x : Route) : State := { s with routes := mset s.routes n x }
def State.isl (s : State) (i : Nat) : Island := mget s.pwr.islands i {}
def State.setIsl (s : State) (i : Nat) (x : Island) : State :=
  { s with pwr := { s.pwr with islands := mset s.pwr.islands i x } }
def State.flow (s : State) (f : Nat) : Flow := mget s.crd.flows f {}
def State.setFlow (s : State) (f : Nat) (x : Flow) : State :=
  { s with crd := { s.crd with flows := mset s.crd.flows f x } }
def State.ethPort (s : State) (p : Nat) : Eth := mget s.eth p {}
def State.setEth (s : State) (p : Nat) (x : Eth) : State := { s with eth := mset s.eth p x }
def State.fnPage (s : State) (f : Nat) : FnPage := mget s.pci.fns f {}
def State.setFn (s : State) (f : Nat) (x : FnPage) : State :=
  { s with pci := { s.pci with fns := mset s.pci.fns f x } }
def State.grantOf (s : State) (g : Nat) : Grant := mget s.grants g {}
def State.slotOf (s : State) (k : Nat) : KeySlot := mget s.slots k {}
def State.poolOf (s : State) (p q : Nat) : Pool := mget s.pools (8 * p + q) {}
def State.setPool (s : State) (p q : Nat) (x : Pool) : State := { s with pools := mset s.pools (8 * p + q) x }

/-- Something the command sends out of the block (log 10). -/
def State.emit (s : State) (o : Out) : State := { s with out := s.out ++ [o] }

/-- The next draw of a free value (log 11). -/
def State.draw (s : State) : Nat × State := (Config.free s.freeCount, { s with freeCount := s.freeCount + 1 })

/-! ### Requesters (04 R88, R112) -/

/-- The requester ID. -/
def reqId : Requester → Nat
  | .spindle c => c
  | .bobbin n => 16 + n
  | .app c _ => 80 + c
  | .tile t => 84 + t
  | .carding _ => 92
  | .tokenizer => 93
  | .pf => 94
  | .vf n => 94 + n
  | .steward => 158
  | .console => 158
  | .trayMaster => 158
  | .relay _ => 159

/-- No hank: a port without a binding carries it. It lies outside the 12-bit IDs, owns nothing and may nothing. -/
def noHank : Nat := 4096

/-- The hank ID its port attaches (R88): an unbound VF has none, nor have the carding port for a hank that does not exist and the relay
port for a hank without a relay job (log 183). -/
def State.reqHank (s : State) : Requester → Nat
  | .spindle c => (s.core c).hank
  | .bobbin n => (s.chan n).hank
  | .app _ h => h
  | .tile t => (s.tile t).hank
  | .carding h => if s.hankExists h then h else noHank
  | .tokenizer => s.tok.hank
  | .pf => 0
  | .vf n => if (mget s.pci.binds n {}).bound then (mget s.pci.binds n {}).hank else noHank
  | .steward => 0
  | .console => 0
  | .trayMaster => 0
  | .relay h =>
    if s.stw.stages.any (fun x => x.hank == h) || s.stw.relays.any (fun r => s.tck.jobs.any (fun j => j.id == r.job && j.hank == h)) then h
    else noHank

/-- A request of a port that carries no hank: Unsupported Request at an unbound VF, which PCI_UNBOUND counts (13 R303), and an access
error elsewhere. -/
def State.turnAway (s : State) (who : Requester) : State :=
  match who with
  | .vf _ => ({ s with pci := { s.pci with unbound := satAdd 32 s.pci.unbound 1 } } : State).emit .unsupported
  | _ => s.emit (.answer 1 [])

/-- What a port does for the hank it carries; without one it is turned away (R88; log 183). -/
def State.asHank (s : State) (who : Requester) (f : State → State) : State :=
  if s.reqHank who = noHank then s.turnAway who else f s

/-- The authority a hank 0 requester commands with (15 R356, log 22). -/
def reqAuth : Requester → Authority
  | .steward => .steward
  | .console => .console
  | .trayMaster => .trayMaster
  | .pf => .host
  | _ => .services

/-- Authority code of R356; services and network command as host management. -/
def authCode : Authority → Nat
  | .steward => 2 | .console => 3 | .trayMaster => 4 | .host => 5 | .services => 5

/-- ORIGIN of an entry an authority causes (16 R374, log 22). -/
def authOrigin : Authority → Nat
  | .steward => 3 | .console => 2 | .trayMaster => 4 | .host => 1 | .services => 1

/-- ORIGIN of an entry that an authority code of R356 causes. -/
def codeOrigin (a : Nat) : Nat :=
  if a = 1 then 7 else if a = 3 then 2 else if a = 4 then 4 else if a = 5 then 1 else 3

/-- ORIGIN of an entry a requester causes. -/
def State.reqOrigin (s : State) (w : Requester) : Nat :=
  if s.reqHank w ≠ 0 then 5 else authOrigin (reqAuth w)

/-! ### Events (12 R298, R299; 13 R305, R306) -/

/-- The hank that owns event `e` (04 R107). -/
def State.eventOwner (s : State) (e : Nat) : Nat :=
  if e < 0x40 then 0
  else match s.img.hanks.find? (fun r => decide (r.evBase ≤ e ∧ e < r.evBase + r.evCount)) with
    | some r => r.hank
    | none => 0

/-- Whether hank `h` may use event `e` (04 R107). -/
def State.ownsEvent (s : State) (h e : Nat) : Bool :=
  if h = 0 then decide (e < 0x40)
  else s.img.hanks.any (fun r => r.hank == h && decide (r.evBase ≤ e ∧ e < r.evBase + r.evCount))

def State.tallyOf (s : State) (e : Nat) : Nat := mget s.evt.tally e 0

/-- The resident services run. -/
def State.servicesUp (s : State) : Bool := s.boot.state == 5 || s.boot.state == 6

/-- A pulse on input `i` of core `c` (06 R165). -/
def State.pend (s : State) (c i : Nat) : State :=
  s.setCore c { s.core c with ipend := (s.core c).ipend ||| (1#32 <<< i) }

/-- Delivery of a pulse by its routes (12 R299) and the event map (13 R305). An application core takes it for the guest of the owning hank;
without a guest it is discarded (13 R306). -/
def State.deliver (s : State) (e : Nat) : State :=
  let w := (mget s.evt.route e 0#32).toNat
  let owner := s.eventOwner e
  let c := bits w 27 24
  let k := s.core c
  let s := if bit w 31 && (k.state == 3) && (owner == 0 || k.hank == owner) then s.pend c (bits w 20 16) else s
  let s := if bit w 15 && (owner == 0 || Config.guestBound owner) then s.emit (.appIrq (bits w 14 13) owner e) else s
  let m := (mget s.pci.evmap e 0#32).toNat
  if bit m 31 then
    let f := bits m 21 16
    s.setFn f { s.fnPage f with pba := (s.fnPage f).pba ||| 2 ^ bits m 4 0 }
  else s

/-- `n` pulses of event `e`: the tally saturates and each lost pulse is counted (12 R298); 0xFFFF pulses nothing. -/
def State.pulseN (s : State) (e n : Nat) : State :=
  if 1024 ≤ e ∨ n = 0 then s
  else
    let t := s.tallyOf e
    let lost := t + n - (2 ^ 32 - 1)
    (({ s with evt := { s.evt with
        tally := mset s.evt.tally e (min (t + n) (2 ^ 32 - 1)), sat := satAdd 32 s.evt.sat lost } } : State)).deliver e

/-- One pulse of event `e`. -/
def State.pulse (s : State) (e : Nat) : State := s.pulseN e 1

/-! ### The journal (16) -/

/-- OBJECT of an entry. -/
def jObj (cls index : Nat) : Nat := cls * 2 ^ 24 + index % 2 ^ 24

/-- OBJECT of a register word (class 1). -/
def regObj (block off : Nat) : Nat := jObj 1 (block * 2 ^ 18 + off / 4)

/-- An entry as it is stamped when written: SEQ, TIME and the flags of R374. -/
def State.jStamp (s : State) (e : JEntry) (inReserve : Bool) : JEntry :=
  { e with
    seq := s.lea.head
    time := s.tck.time
    flags := (e.flags &&& 4) + b2n inReserve + 2 * b2n (s.tck.sync ≠ 1) + 8 * b2n s.lea.epochUnsaved }

def State.ringFull (s : State) : Bool := decide (4096 ≤ s.lea.ring.length)

/-- Whether `k` entries have room in the ring (16 R372). -/
def State.jRoom (s : State) (k : Nat) : Bool := decide (s.lea.ring.length + k ≤ 4096)

/-- An entry into the ring: JOURNAL_WARN and JOURNAL_FULL are pulsed as their levels are reached (16 R375). -/
def State.jRing (s : State) (e : JEntry) : State :=
  let n := s.lea.ring.length
  let s := { s with lea := { s.lea with ring := s.lea.ring ++ [s.jStamp e false], head := s.lea.head + 1 } }
  let s := if n * 100 < s.lea.warnPct * 4096 ∧ s.lea.warnPct * 4096 ≤ (n + 1) * 100 then s.pulse 0x00E else s
  if n + 1 = 4096 then s.pulse 0x00F else s

/-- The lowest free slot of the reserve, of 0 to 254 (log 23). -/
def freeSlot (m : NMap JEntry) : Nat → Nat → Nat
  | 0, k => k
  | n + 1, k => if (mget? m k).isSome then freeSlot m n (k + 1) else k

/-- A record of fact: in the ring, else in the reserve, else counted under R376. -/
def State.jFact (s : State) (e : JEntry) : State :=
  if s.jRoom 1 then s.jRing e
  else if s.lea.reserve.length < 255 then
    let k := freeSlot s.lea.reserve 255 0
    { s with lea := { s.lea with reserve := mset s.lea.reserve k (s.jStamp e true), head := s.lea.head + 1 } }
  else
    let seq := s.lea.head
    let s := { s with lea := { s.lea with head := seq + 1, lost := satAdd 32 s.lea.lost 1 } }
    match s.lea.overflow with
    | some o => { s with lea := { s.lea with overflow := some { o with new := seq, data := o.data + 1 } } }
    | none =>
      let o : JEntry := { origin := 3, kind := 6, object := jObj 18 0, old := seq, new := seq, data := 1 }
      { s with lea := { s.lea with overflow := some (s.jStamp o true), head := s.lea.head + 1 } }

/-- The idle flash area, and the flash with an area made current. -/
def Flash.idle (f : Flash) : JArea := if f.current then f.area0 else f.area1
def Flash.cur (f : Flash) : JArea := if f.current then f.area1 else f.area0
def Flash.setIdle (f : Flash) (a : JArea) : Flash := if f.current then { f with area0 := a } else { f with area1 := a }
def Flash.setCur (f : Flash) (a : JArea) : Flash := if f.current then { f with area1 := a } else { f with area0 := a }

/-- Every unacknowledged entry of the ring and the reserve. -/
def State.jAll (s : State) : List JEntry := s.lea.ring ++ s.lea.reserve.map (·.2) ++ s.lea.overflow.toList

/-- The idle area takes every unacknowledged entry and epoch `e`, and becomes current (16 R380). -/
def State.programArea (s : State) (e : Nat) : State :=
  let f := s.nv.flash.setIdle { entries := s.jAll, epochs := [e], erased := false }
  { s with nv := { s.nv with flash := { f with current := !f.current } } }

/-- The epoch log takes epoch `e`, when the flash can be programmed; a full log is left by a flush first (16 R380, R381). -/
def State.programEpoch (s : State) (e : Nat) (ok : Bool) : State :=
  let a := s.nv.flash.cur
  if !ok then { s with lea := { s.lea with epochUnsaved := true } }
  else if a.epochs.length < 512 then
    { s with nv := { s.nv with flash := s.nv.flash.setCur { a with epochs := a.epochs ++ [e], erased := false } }
             lea := { s.lea with epochUnsaved := false } }
  else if s.nv.flash.idle.erased then
    let s := s.programArea e
    { s with lea := { s.lea with epochUnsaved := false } }
  else { s with lea := { s.lea with epochUnsaved := true } }

/-- A journal epoch begins: SEQ continues at E x 2^32 with a BOOT entry (16 R381); never at a SEQ already given. -/
def State.beginEpoch (s : State) (e : Nat) (ok : Bool) (oldSeq count : Nat) : State :=
  let s := s.programEpoch e ok
  let s := { s with lea := { s.lea with epoch := e, head := max s.lea.head (e * 2 ^ 32) } }
  s.jFact { origin := 3, kind := 7, object := jObj 18 0, old := oldSeq, new := count }

/-- When the count of an epoch is used up the next epoch begins (16 R381). -/
def State.jRoll (s : State) : State :=
  if s.lea.head / 2 ^ 32 = s.lea.epoch then s else s.beginEpoch (s.lea.epoch + 1) true 0 0

/-- A record of fact (16 R371). -/
def State.fact (s : State) (e : JEntry) : State := s.jRoll.jFact e

/-- A refusable change of several entries: none when the ring lacks room, and then LEA_REFUSED counts it (16 R371, R372). -/
def State.change (s : State) (es : List JEntry) : Bool × State :=
  let s := s.jRoll
  if s.jRoom es.length then (true, es.foldl State.jRing s)
  else (false, { s with lea := { s.lea with refused := satAdd 32 s.lea.refused 1 } })

/-- A refusal record: in the ring, or counted in LEA_UNRECORDED (16 R371). -/
def State.refusal (s : State) (e : JEntry) : State :=
  let s := s.jRoll
  if s.jRoom 1 then s.jRing { e with kind := 2 }
  else { s with lea := { s.lea with unrecorded := satAdd 32 s.lea.unrecorded 1 } }

/-! ### Readings (16 R374) -/

/-- Index and value of the first largest of a list. -/
def hottest : List Nat → Nat → Nat × Nat → Nat × Nat
  | [], _, b => b
  | t :: ts, i, (j, u) => hottest ts (i + 1) (if u < t then (i, t) else (j, u))

/-- The 1 s input power in 10 mW: the mean of the last 100 samples (14 R336, log 24). -/
def State.power1s (s : State) : Nat := s.pwr.powers.sum / 100

/-- The lowest speed of the enabled fans. -/
def State.minRpm (s : State) : Nat :=
  let l := ((List.range 4).filter (fun f => bit s.stw.fanMask f)).map (fun f => (mget s.stw.fans f {}).rpm)
  l.foldl min 0xFFFF % 2 ^ 16

/-- DATA bytes of readings. -/
def State.readings (s : State) : Nat :=
  let h := hottest s.stw.sites 0 (0, 0)
  let mons := (List.range 6).foldl (fun a i => a + ((s.isl i).monitor % 1024) * 2 ^ (10 * i)) 0
  let valid := (List.range 6).foldl (fun a i => a + b2n ((s.isl i).st ≠ 4) * 2 ^ i) 0
  h.1 + h.2 % 256 * 2 ^ 8 + s.power1s % 2 ^ 16 * 2 ^ 16 + s.minRpm * 2 ^ 32 + mons * 2 ^ 48 + valid * 2 ^ 112

/-! ### Unit states (15 R353, R354; 18 R400 to R410) -/

/-- An entry of the unit state table; a present unit is ONLINE after a COLD reset (18 R403). -/
def State.unitSt (s : State) (i : Nat) : UnitSt :=
  mget s.stw.units i (if unitPresent s.variant i then { state := 1, local_ := 1 } else {})

def State.setUnit (s : State) (i : Nat) (u : UnitSt) : State :=
  { s with stw := { s.stw with units := mset s.stw.units i u } }

/-- ONLINE or SUSPECT (01 R15). -/
def State.entryCounts (s : State) (i : Nat) : Bool :=
  (s.unitSt i).state == 1 || (s.unitSt i).state == 2

/-- The block entry that also covers an entry (15 R353). -/
def coverOf (i : Nat) : Option Nat :=
  if 48 ≤ i ∧ i < 64 then some (10 + (i - 48) / 4)
  else if 64 ≤ i ∧ i < 112 then some 4
  else if 128 ≤ i ∧ i < 192 then some (28 + (i - 128) / 16)
  else none

/-- Whether a unit counts under R15, with its block's entry (15 R353). -/
def State.counts (s : State) (i : Nat) : Bool :=
  s.entryCounts i && (match coverOf i with | none => true | some b => s.entryCounts b)

/-- Fixed units (18 R401). -/
def fixedUnit (i : Nat) : Bool := decide (i < 4) || i == 32 || decide (43 ≤ i ∧ i ≤ 46)

/-- Tiles of an array (02 R35). -/
def arrayTiles (shape first : Nat) : List Nat :=
  if shape = 1 then [first]
  else if shape = 2 then [first, first + 1]
  else if shape = 5 then List.range 8
  else [first, first + 1, first + 2, first + 3]

/-- The arrays of an image with their tiles: those of TILE_GEOMETRY, and a 64x64 array with the lowest free ARRAY_ID for
each other tile of a mask (02 R35). DESIGN CHOICE (log 177): lone tiles take their IDs in PLY_TABLE record order, then in tile order. -/
def addLone : List Nat → Nat → List TileRec → List TileRec
  | [], _, acc => acc
  | t :: ts, p, acc =>
    if acc.any (fun r => (arrayTiles r.shape r.first).contains t) then addLone ts p acc
    else
      let id := ((List.range 8).find? (fun i => !(acc.any (fun r => r.array == i)))).getD 7
      addLone ts p (acc ++ [{ array := id, ply := p, shape := 1, first := t }])

def imageArrays (m : Image) : List TileRec :=
  m.plies.foldl (fun acc r => addLone ((List.range 8).filter (fun t => bit r.tileMask t)) r.id acc) m.tiles

/-- Table entries of the units an endpoint stands for (05 R132). -/
def endpointUnits (m : Image) (e : Nat) : List Nat :=
  let i := bits e 11 4
  match bits e 15 12 with
  | 1 => [64 + i]
  | 2 => [48 + i]
  | 3 => match (imageArrays m).find? (fun r => r.first == i) with
    | some r => (arrayTiles r.shape r.first).map (14 + ·)
    | none => [14 + i]
  | 4 => [24 + i]
  | 5 => [26]
  | 6 => [27]
  | 7 => [128 + i]
  | 8 => [44]
  | 9 => [42]
  | _ => []

/-- Table entries of the units a PLY_TABLE record names (02 R42; a cluster is named with its cores, log 25). -/
def plyUnits (r : PlyRec) : List Nat :=
  ((List.range 8).filter (bit r.tileMask)).map (14 + ·)
  ++ ((List.range 4).filter (bit r.clusterMask)).flatMap (fun k => (10 + k) :: (List.range 4).map (48 + 4 * k + ·))
  ++ ((List.range 2).filter (bit r.decodeMask)).map (24 + ·)
  ++ ((List.range 48).filter (bit r.bankMask)).map (64 + ·)
  ++ ((List.range 64).filter (bit r.channelMask)).map (128 + ·)

/-- Table entries of every unit the woven Warp names (01 R14): those of its plies, routes and cameras. DESIGN CHOICE (log 170): a unit that
only a POLICY value refers to (key 0x0A44, key 0x0811) is not counted as named. -/
def namedUnits (m : Image) : List Nat :=
  m.plies.flatMap plyUnits
  ++ m.routes.flatMap (fun r => endpointUnits m r.src ++ endpointUnits m r.dst)
  ++ m.cams.map (fun c => 34 + c.eth)

/-- The service tier (01 R14 to R16, 13 R308, 15 R366, 17 R389 t8, 19 R430). -/
def State.tierNow (s : State) : Nat :=
  let services := s.boot.state == 5 || s.boot.state == 6
  let t1 := services && s.counts 38 && s.counts 6 && (List.range 8).all (fun b => s.counts (64 + b))
    && (List.range 4).all (fun n => s.counts (128 + n))
    && ((s.counts 33 && s.pins.refPcie) || (s.counts 34 && s.pins.refEth))
  let t2 := s.woven && (s.counts 24 || s.counts 25) && (List.range 4).any (fun k => s.counts (10 + k))
    && decide (2 ≤ ((List.range 8).filter (fun t => s.counts (14 + t))).length)
  let t3 := (namedUnits s.img).all s.counts
    && s.img.tray.all (fun r => !r.required || (mget s.stw.peers r.addr {}).state == 2)
  if !t1 then 0 else if !t2 then 1 else if !t3 then 2 else 3

/-- The tier is recomputed; a change is journalled and TIER_CHANGE pulsed (01 R17). -/
def State.retier (s : State) : State :=
  let t := s.tierNow
  if t = s.tier then s
  else
    let old := s.tier
    let s := { s with tier := t, tierChanges := satAdd 16 s.tierChanges 1 }
    (s.fact { origin := 3, kind := 1, object := jObj 16 0, old := old, new := t }).pulse 0x003

/-- The steward writes a state into the table: it is journalled with the authority, UNIT_CHANGE is pulsed and the tier
recomputed (15 R354, 01 R17); the local copy follows within 2 us (18 R407). -/
def State.writeUnit (s : State) (i st auth : Nat) : State :=
  let u := s.unitSt i
  let s := s.setUnit i { u with state := st, auth := auth, local_ := u.state, localAt := s.tck.time + 2000 }
  let s := s.fact { origin := codeOrigin auth, kind := 1, aux := auth, object := jObj 6 i, old := u.state, new := st }
  (s.pulse 0x00C).retier

/-- A report of the data path waits for the steward (18 R402). -/
def State.report (s : State) (i cause : Nat) : State :=
  { s with stw := { s.stw with reports := s.stw.reports ++ [(i, cause)] } }

end Sys2Proof.Machine
end

