-- ==== Sys2Proof/Machine/Memory.lean ====
section
/-! DEFINITION. Skein and DRAM: the address map, granule tags, the checks of an access, errors, and bytes (01 R18 to R21;
04 R90 to R96; 05 R119 to R146). -/

namespace Sys2Proof.Machine

def skeinBase : Nat := 0x10000000
def spdBase : Nat := 0x20000000
def ucbBase : Nat := 0x40000000
def dramBase : Nat := 0x100000000
def mib : Nat := 0x100000

/-! ### The address map -/

/-- Number of DRAM interfaces in use (05 R122). -/
def State.dramUsed (s : State) : Nat :=
  let d := s.dramIf 0
  if d.state = 2 ∨ d.state = 3 then 2 ^ d.ways else 0

/-- Installed capacity of the interfaces in use (01 R21, 05 R123). -/
def State.dramInstalled (s : State) : Nat := s.dramUsed * (2 ^ (s.dramIf 0).density * 2 ^ 30)

/-- Visible capacity (01 R21). -/
def State.dramVisible (s : State) : Nat :=
  if (s.dramIf 0).ecc then s.dramInstalled / 32 * 31 else s.dramInstalled

/-- Where the granule tag table starts (01 R21). -/
def State.tagBase (s : State) : Nat := dramBase + (s.dramVisible - s.dramVisible / 2048)

/-- The interface that serves a DRAM address (05 R123). -/
def State.dramIfOf (s : State) (a : Nat) : Nat :=
  let x := a - dramBase
  if s.dramUsed = 4 then bits x 13 12 ^^^ bits x 21 20
  else if s.dramUsed = 2 then bits x 12 12 ^^^ bits x 20 20
  else 0

/-- What decodes an address (01 R18 to R21; 18 R400 for units out of service). -/
inductive Target
  | rom
  | skein (bank : Nat)
  | coreMem (core off : Nat)
  | block (n off : Nat)
  | dram (ifc : Nat)
  /-- the window of an absent core (R20) -/
  | absent
  | none
  deriving DecidableEq, Repr

/-- Whether the memory of a unit entry is out of service (18 R400). -/
def State.outOfService (s : State) (i : Nat) : Bool := (s.unitSt i).state == 4 || (s.unitSt i).state == 5

/-- Whether Skein, DRAM and the Spindle memories are out of reach: from Hold's entry to its exit (14 R337, R338). DEDUCED (log 200): the
windows of cores that are off complete as Skein and DRAM do. -/
def State.memAsleep (s : State) : Bool := decide (2 ≤ s.pwr.state)

def State.target (s : State) (a : Nat) : Target :=
  if a < 0x40000 then .rom
  else if skeinBase ≤ a ∧ a < skeinBase + nBanks s.variant * mib then
    let b := (a - skeinBase) / mib
    if s.outOfService (64 + b) || s.outOfService 4 || s.memAsleep then .none else .skein b
  else if spdBase ≤ a ∧ a < spdBase + 16 * mib then
    let c := (a - spdBase) / mib
    let off := (a - spdBase) % mib
    if nCores s.variant ≤ c then .absent
    else if s.outOfService (48 + c) || s.outOfService (10 + c / 4) || s.memAsleep then .none
    else if off < 0x50000 ∨ (0x80000 ≤ off ∧ off < 0x81000) then .coreMem c off
    else .none
  else if ucbBase ≤ a ∧ a < ucbBase + 256 * mib then .block ((a - ucbBase) / mib) ((a - ucbBase) % mib)
  else if dramBase ≤ a ∧ a < dramBase + s.dramVisible then
    let i := s.dramIfOf a
    if s.outOfService (6 + i) || s.memAsleep then .none else .dram i
  else .none

/-! ### Granules and tags (04 R90) -/

/-- The base address of the granule of a Skein or DRAM address: 256 B in Skein, 4 KiB in DRAM. -/
def granule (a : Nat) : Nat := if a < dramBase then a - a % 256 else a - a % 4096

def granuleSize (a : Nat) : Nat := if a < dramBase then 256 else 4096

/-- The stride of a pool's buffers (04 section Buffer pools). -/
def Pool.stride (q : Pool) : Nat :=
  let g := if q.skein then 256 else 4096
  ceilDiv q.size g * g

/-- The hank that holds the pool buffer over address `a`, in any woven pool. -/
def poolOwner (pools : NMap Pool) (a : Nat) : Option Nat :=
  pools.findSome? (fun e =>
    let q := e.2
    if q.woven && decide (0 < q.stride) && decide (q.base ≤ a) && decide (a < q.base + q.count * q.stride) then
      match mget? q.bufs ((a - q.base) / q.stride) with
      | some b => if b.held then some b.hank else none
      | none => none
    else none)

/-- The ACTIVE region over address `a`: its slot and record. -/
def State.regionAt (s : State) (a : Nat) : Option (Nat × KeySlot) :=
  s.slots.find? (fun e => e.2.state == 1 && decide (e.2.base ≤ a) && decide (a < e.2.base + e.2.len * 4096))

/-- Whether a SCRUBBING range covers address `a`: every access to it is refused (04 R101). -/
def State.destroyed (s : State) (a : Nat) : Bool :=
  s.slots.any (fun e => e.2.state == 2 && decide (e.2.base ≤ a) && decide (a < e.2.base + e.2.len * 4096))

/-- OWNER of the granule of `a` (04 R90, 05 R140; log 6). -/
def State.owner (s : State) (a : Nat) : Nat :=
  if khas s.lostOwner (granule a) then 0
  else match s.regionAt a with
    | some e => e.2.owner
    | none => (poolOwner s.pools a).getD 0

/-- A live grant to hank `h` over `a`. -/
def State.granted (s : State) (h a : Nat) : Bool :=
  s.grants.any (fun e => e.2.state == 1 && e.2.grantee == h && decide (e.2.base ≤ a) && decide (a < e.2.base + e.2.len))

/-- SHARED of the granule of `a`: a live grant covers it. -/
def State.shared (s : State) (a : Nat) : Bool :=
  s.grants.any (fun e => e.2.state == 1 && decide (e.2.base ≤ a) && decide (a < e.2.base + e.2.len))

def State.inTagTable (s : State) (a : Nat) : Bool := decide (s.tagBase ≤ a) && decide (a < dramBase + s.dramVisible)

/-- WRITTEN of the granule of `a`; the tag table's own granules count as written (05 R125). -/
def State.isWritten (s : State) (a : Nat) : Bool := s.inTagTable a || khas s.written (granule a)

/-- The 16-bit tag of a granule (04 R90). -/
def State.tagOf (s : State) (a : Nat) : Nat :=
  s.owner a + b2n (s.isWritten a) * 2 ^ 12 + b2n (s.shared a) * 2 ^ 13

/-- The kind of the access error that an access of hank `h` to `a` meets, if any (04 R91, R101); granules whose tags were lost are hank
0's, and no grant serves there (05 R140). -/
def State.accessKind (s : State) (h a : Nat) (write : Bool) : Option Nat :=
  if s.destroyed a then some 4
  else if s.owner a = h then none
  else if khas s.lostOwner (granule a) then some 1
  else if s.granted h a then (if write then some 2 else none)
  else some 1

/-- Whether errors of the memory at `a` are detected at all (05 R124). -/
def State.eccOn (s : State) (a : Nat) : Bool := decide (a < dramBase) || (s.dramIf 0).ecc

/-! ### The tag cache (05 R126) -/

/-- The tag line of a DRAM granule: 32 tags. -/
def tagLineOf (a : Nat) : Nat := (a - dramBase) / (32 * 4096)

/-- A line enters the tag cache or turns newer than the tag table; the line that makes room waits to be written back. -/
def State.tagTouch (s : State) (line : Nat) (dirty : Bool) : State :=
  let ls := s.fab.tagLines
  if ls.any (fun e => e.1 == line) then
    if dirty then { s with fab := { s.fab with tagLines := ls.map (fun e => if e.1 = line then (line, true) else e) } } else s
  else if ls.length < 8192 then { s with fab := { s.fab with tagLines := ls ++ [(line, dirty)] } }
  else
    let out := (ls.take 1).filter (·.2)
    { s with fab := { s.fab with
        tagLines := ls.drop 1 ++ [(line, dirty)]
        waits := s.fab.waits ++ out.map (fun e => { work := .tagLine e.1 }) } }

/-- The tags of the DRAM granules in [lo, hi) are updated in the cache. -/
def State.tagUpdate (s : State) (lo hi : Nat) : State :=
  let lo := max lo dramBase
  if hi ≤ lo then s
  else (List.range (tagLineOf (hi - 1) + 1 - tagLineOf lo)).foldl (fun s i => s.tagTouch (tagLineOf lo + i) true) s

/-! ### Bytes in one canonical form -/

/-- The byte at `a`; an unlisted address reads zero (04 R93). -/
def memGet : List Host.Cell → Nat → Byte
  | [], _ => 0
  | (j, x) :: m, a => if j = a then x else if a < j then 0 else memGet m a

/-- The memory with `b` at `a`; a zero is not listed. -/
def memPut : List Host.Cell → Nat → Byte → List Host.Cell
  | [], a, b => if b = 0 then [] else [(a, b)]
  | (j, x) :: m, a, b =>
    if j = a then (if b = 0 then m else (a, b) :: m)
    else if a < j then (if b = 0 then (j, x) :: m else (a, b) :: (j, x) :: m)
    else (j, x) :: memPut m a b

/-- The memory with `bs` from `a`. -/
def memPuts : List Host.Cell → Nat → List Byte → List Host.Cell
  | m, _, [] => m
  | m, a, b :: bs => memPuts (memPut m a b) (a + 1) bs

/-- The memory with nothing in [lo, hi). -/
def memClear (m : List Host.Cell) (lo hi : Nat) : List Host.Cell := m.filter (fun c => !(decide (lo ≤ c.1) && decide (c.1 < hi)))

/-- Every address strictly above `lo`, rising, and no zero listed. -/
def memWfFrom : Option Nat → List Host.Cell → Bool
  | _, [] => true
  | lo, (a, b) :: m => (match lo with | none => true | some l => decide (l < a)) && b != 0 && memWfFrom (some a) m

/-- The canonical form of memory. -/
def Memory.wf (m : List Host.Cell) : Bool := memWfFrom none m

/-- `n` bytes from `a`. -/
def State.bytesAt (s : State) (a : Nat) : Nat → List Byte
  | 0 => []
  | n + 1 => memGet s.mem a :: s.bytesAt (a + 1) n

/-! ### Errors -/

/-- An access error of hank `h` at `a` (04 R92). -/
def State.accessError (s : State) (h a kind : Nat) : State :=
  let k := s.hank h
  let k := { k with accessErrors := satAdd 32 k.accessErrors 1 }
  s.setHank h (if k.errHeld then k else { k with errAddr := a, errKind := kind, errHeld := true })

/-- An address latch takes the first error after it was rearmed (05 R143). -/
def ErrLatch.take (l : ErrLatch) (a kind req : Nat) : ErrLatch :=
  if l.held then l else { held := true, addr := a, kind := kind, requester := req }

/-- A decode error (05 R145). -/
def State.decodeError (s : State) (req a : Nat) : State :=
  { s with fab := { s.fab with
      decodeErrors := satAdd 32 s.fab.decodeErrors 1, decodeLatch := s.fab.decodeLatch.take a 0 req } }

/-- The unit state table entry of the memory unit that holds `a`: a bank or an interface. -/
def State.memUnit (s : State) (a : Nat) : Nat :=
  if a < dramBase then 64 + (a - skeinBase) / mib else 6 + s.dramIfOf a

/-- The unit's counters and latch take a corrected (kind 1) or uncorrectable error (05 R138, R139, R143). -/
def State.countError (s : State) (a kind req : Nat) : State :=
  let ce := b2n (kind = 1)
  let ue := b2n (kind ≠ 1)
  if a < dramBase then
    let b := (a - skeinBase) / mib
    { s with fab := { s.fab with
        sknCe := satAdd 32 s.fab.sknCe ce, sknUe := satAdd 32 s.fab.sknUe ue, sknErr := s.fab.sknErr.take a kind req
        banks := mupd s.fab.banks b {} (fun k => { ue := satAdd 16 k.ue ue, ce := satAdd 16 k.ce ce }) } }
  else
    let i := s.dramIfOf a
    let d := s.dramIf i
    s.setDram i { d with ce := satAdd 32 d.ce ce, ue := satAdd 32 d.ue ue, err := d.err.take a kind req }

/-- A corrected error: counted, latched, and its rate judged over 60 minutes; the limit's crossing is reported once until the count has
stood below it again (05 R138, R142; log 187). -/
def State.correctedError (s : State) (a req : Nat) : State :=
  let s := s.countError a 1 req
  let u := s.memUnit a
  let old := (mget s.fab.ceTimes u []).filter (fun t => decide (s.tck.time < t + 3600000000000))
  let s := { s with fab := { s.fab with ceTimes := mset s.fab.ceTimes u (old ++ [s.tck.time]) } }
  if old.length < s.fab.ceLimit then { s with fab := { s.fab with ceOver := s.fab.ceOver.filter (· != u) } }
  else if s.fab.ceOver.contains u then s
  else (({ s with fab := { s.fab with ceOver := u :: s.fab.ceOver } } : State).pulse 0x006).report u 1

def State.ueLogFull (s : State) : Bool := decide (256 ≤ s.fab.ueLog.length)

/-- Whether an entry of the uncorrectable log still poisons `a` (05 R139, R140). -/
def UeEntry.covers (e : UeEntry) (a : Nat) : Bool :=
  decide (e.base ≤ a) && decide (a < e.base + e.size) &&
    (if e.size = 64 then true
     else !((List.range (granuleSize a / 64)).all (fun k => e.cleared.contains (granule a + 64 * k))))

def State.logged (s : State) (a : Nat) : Bool := s.fab.ueLog.any (fun e => e.covers a)

/-- An entry after the blocks of [lo, hi) were written whole or scrubbed; none when it frees. -/
def UeEntry.clear (lo hi : Nat) (e : UeEntry) : Option UeEntry :=
  if e.size = 64 then (if lo ≤ e.base ∧ e.base + 64 ≤ hi then none else some e)
  else
    let bs := ((List.range (e.size / 64)).map (fun k => e.base + 64 * k)).filter
      (fun b => decide (lo ≤ b ∧ b + 64 ≤ hi) && !(e.cleared.contains b))
    let c := e.cleared ++ bs
    if c.length = e.size / 64 then none else some { e with cleared := c }

def State.unlog (s : State) (lo hi : Nat) : State :=
  { s with fab := { s.fab with ueLog := s.fab.ueLog.filterMap (UeEntry.clear lo hi) } }

/-- An uncorrectable error on a read: counted, latched, logged while the log has room, MEM_UE pulsed (05 R139, R141, R142). -/
def State.uncorrectable (s : State) (a req : Nat) : State :=
  let s := s.countError a 2 req
  let s := if s.ueLogFull then (s.pulse 0x006).report (s.memUnit a) 2
    else { s with fab := { s.fab with ueLog := s.fab.ueLog ++ [{ base := a - a % 64 }] } }
  s.pulse 0x005

/-! ### Errors of stored bits (log 186) -/

/-- The code words that [a, a + n) touches: 64-bit words in Skein, 64-byte blocks in DRAM (05 R120, R124). -/
def codeWords (a n : Nat) : List Nat :=
  let w := if a < dramBase then 8 else 64
  (List.range ((a + n + w - 1) / w - a / w)).map (fun i => w * (a / w + i))

/-- The code words that a write of [a, a + n) covers in part only, which it reads and merges (05 R120, R124). -/
def mergedWords (a n : Nat) : List Nat :=
  let w := if a < dramBase then 8 else 64
  (codeWords a n).filter (fun u => !(decide (a ≤ u) && decide (u + w ≤ a + n)))

def State.flaw (s : State) (u : Nat) : Nat := mget s.fab.flaws u 0

/-- An error of the stored bits at `a`, where the memory has a code to detect it: a second one in a code word is uncorrectable. -/
def State.flip (s : State) (a kind : Nat) : State :=
  if kind = 0 ∨ !s.eccOn a ∨ !s.isWritten a then s
  else
    let u := (codeWords a 1).headD a
    { s with fab := { s.fab with flaws := mset s.fab.flaws u (if s.flaw u = 0 then min kind 2 else 2) } }

/-- Code words written anew, or no longer read, hold no error. -/
def State.mend (s : State) (lo hi : Nat) : State :=
  { s with fab := { s.fab with flaws := s.fab.flaws.filter (fun e => !(decide (lo ≤ e.1) && decide (e.1 < hi))) } }

/-- A correctable error met: the corrected word is written back (05 R138). -/
def State.corrected (s : State) (a u req : Nat) : State := (s.correctedError (max a u) req).mend u (u + 1)

/-- The correctable errors of some code words are met. -/
def State.correctAll (s : State) (a req : Nat) (us : List Nat) : State :=
  (us.filter (fun u => s.flaw u == 1)).foldl (fun s u => s.corrected a u req) s

/-- A tag line that holds an uncorrectable error is rebuilt, in the cache (05 R140). -/
def State.tagRebuild (s : State) (a req : Nat) : State :=
  let base := dramBase + (a - dramBase) / (32 * 4096) * (32 * 4096)
  let gs := ((List.range 32).map (fun k => base + 4096 * k)).filter (fun g => decide (g < s.tagBase))
  let line := s.tagBase + 2 * ((base - dramBase) / 4096)
  let u := s.memUnit line
  let s := s.countError line 3 req
  let s := { s with written := s.written.filter (fun g => !(gs.contains g)) }
  let s := if s.ueLogFull then
      (({ s with lostOwner := gs.foldl kins s.lostOwner } : State).pulse 0x006).report u 2
    else { s with lostOwner := s.lostOwner.filter (fun g => !(gs.contains g))
                  fab := { s.fab with ueLog := s.fab.ueLog ++ [{ base := base, size := 32 * 4096 }] } }
  let st := (s.unitSt u).state
  let s := (s.fact { origin := 3, kind := 1, object := jObj 6 u, old := st, new := st, data := line }).pulse 0x005
  ((s.unlog line (line + 64)).mend line (line + 64)).tagTouch (tagLineOf a) true

/-- The tag line of a DRAM granule is in the cache: a line read from the tag table is corrected or rebuilt (05 R126, R138, R140). -/
def State.tagFetch (s : State) (a req : Nat) : State :=
  if a < dramBase ∨ s.inTagTable a then s
  else if s.fab.tagLines.any (fun e => e.1 == tagLineOf a) then s
  else
    let line := s.tagBase + 64 * tagLineOf a
    if s.flaw line = 2 ∨ s.logged line then s.tagRebuild a req
    else (s.correctAll line req [line]).tagTouch (tagLineOf a) false

/-! ### Scrubbing and ownership -/

/-- The granules of [lo, hi) lose WRITTEN, their contents and their log entries (04 R101, R116; 05 R139). -/
def State.scrub (s : State) (lo hi : Nat) : State :=
  ((({ s with
      written := s.written.filter (fun g => !(decide (lo ≤ g) && decide (g < hi)))
      lostOwner := s.lostOwner.filter (fun g => !(decide (lo ≤ g) && decide (g < hi)))
      mem := memClear s.mem lo hi } : State).unlog lo hi).mend lo hi).tagUpdate lo hi

/-! ### Accesses -/

/-- The status of an access: ok, access error, decode error, data error, poison. -/
inductive Status
  | ok | access | decode | data | poison
  deriving DecidableEq, Repr

def Status.code : Status → Nat
  | .ok => 0 | .access => 1 | .decode => 2 | .data => 3 | .poison => 4

/-- Whether a hank's reads of never-written memory fault (04 R94 and section Expert control). -/
def State.faultMode (s : State) (h : Nat) : Bool :=
  match (s.hank h).unwrittenMode with
  | 0 => policyN s.img 0x0301 0xFF 0 == 1
  | 1 => false
  | _ => true

/-- Tags of the granules that bytes of the tag table hold. -/
def State.tagBytes (s : State) (a n : Nat) : List Byte :=
  (List.range n).map (fun k =>
    let r := a + k - s.tagBase
    let t := s.tagOf (dramBase + r / 2 * 4096)
    BitVec.ofNat 8 (if r % 2 = 0 then t else t / 256))

/-- What memory answers with: its bytes, or those of the tag table; a tag line that is newer in the cache has not reached the table yet, and
what the table holds of it is a free value (05 R126, log 6). -/
def State.heldBytes (s : State) (a n : Nat) : List Byte × State :=
  if !s.inTagTable a then (s.bytesAt a n, s)
  else if s.fab.tagLines.any (fun e => e.1 == (a - s.tagBase) / 64 && e.2) then
    let r := s.draw
    (leBytes n r.1, r.2)
  else (s.tagBytes a n, s)

/-- A poisoned response: its bytes are a free value (05 R139; log 11). -/
def State.poisoned (s : State) (n : Nat) : Status × List Byte × State :=
  let r := s.draw
  (.poison, leBytes n r.1, r.2)

/-- A read of `n` bytes inside one 64-byte block of Skein or DRAM by hank `h` (04 R91 to R94; 05 R138 to R140). -/
def State.memRead (s : State) (h req a n : Nat) : Status × List Byte × State :=
  let zeros := List.replicate n (0 : Byte)
  let s := s.tagFetch a req
  match s.accessKind h a false with
  | some k => (.access, zeros, s.accessError h a k)
  | none =>
    if s.logged a then s.poisoned n
    else if !s.isWritten a then
      let k := s.hank h
      let s := s.setHank h { k with unwrittenReads := satAdd 32 k.unwrittenReads 1 }
      if s.faultMode h then (.access, zeros, s.accessError h a 3) else (.ok, zeros, s)
    else
      let us := codeWords a n
      let s1 := s.correctAll a req us
      match us.find? (fun u => s.flaw u == 2) with
      | some u => (s1.uncorrectable (max a u) req).poisoned n
      | none =>
        let r := s1.heldBytes a n
        (.ok, r.1, r.2)

/-- The bytes of a write that the target performs: the rest of an unwritten granule becomes zero (04 R95). -/
def State.putBytes (s : State) (a : Nat) (bs : List Byte) : State :=
  let s := if s.isWritten a then s
    else (({ s with mem := memClear s.mem (granule a) (granule a + granuleSize a), written := kins s.written (granule a) } : State).mend
      (granule a) (granule a + granuleSize a)).tagUpdate (granule a) (granule a + granuleSize a)
  (({ s with mem := memPuts s.mem a bs } : State).unlog a (a + bs.length)).mend (a - a % 8) (a + bs.length)

/-- A write of bytes inside one 64-byte block of Skein or DRAM by hank `h` (04 R91, R95; 05 R120, R124, R139). A write of hank
0 into the tag table is served and leaves the tags, which the hank controller keeps, as they are (log 26). -/
def State.memWrite (s : State) (h req a : Nat) (bs : List Byte) : Status × State :=
  let s := s.tagFetch a req
  let whole := a % 64 = 0 ∧ bs.length = 64
  match s.accessKind h a true with
  | some k => (.access, s.accessError h a k)
  | none =>
    if s.logged a ∧ ¬ whole then (.data, s)
    else
      let us := if s.isWritten a then mergedWords a bs.length else []
      let s1 := s.correctAll a req us
      match us.find? (fun u => s.flaw u == 2) with
      | some u => (.data, s1.uncorrectable (max a u) req)
      | none => (.ok, if s.inTagTable a then (s1.unlog a (a + bs.length)).mend (a - a % 64) (a + bs.length) else s1.putBytes a bs)

/-! ### Local memories of the cores (06 R152, R153) -/

/-- A byte of X or Y at a local address. -/
def Core.lbyte (k : Core) (a : Nat) : Byte := if a < 0x20000 then memGet k.x a else memGet k.y (a - 0x20000)

/-- `n` bytes from a local address. -/
def Core.lbytes (k : Core) (a n : Nat) : List Byte := (List.range n).map (fun i => k.lbyte (a + i))

def Core.lput1 (k : Core) (a : Nat) (b : Byte) : Core :=
  if a < 0x20000 then { k with x := memPut k.x a b } else { k with y := memPut k.y (a - 0x20000) b }

/-- Bytes into X or Y from a local address. -/
def Core.lput : Core → Nat → List Byte → Core
  | k, _, [] => k
  | k, a, b :: bs => Core.lput (k.lput1 a b) (a + 1) bs

/-- Whether hank `h` reaches the local memory at an offset of a core's window: X and Y for hank 0 and for the hank of the task on the
core, P for hank 0 while the core is IDLE. -/
def Core.reaches (k : Core) (h off : Nat) : Bool :=
  if off < 0x40000 then h == 0 || (k.hank == h && k.state != 0) else h == 0 && k.state == 0 && decide (off < 0x50000)

/-- Bytes of a core's window. -/
def Core.wbytes (k : Core) (off n : Nat) : List Byte :=
  if off < 0x40000 then k.lbytes off n else (List.range n).map (fun i => memGet k.pm (off - 0x40000 + i))

def Core.wput (k : Core) (off : Nat) (bs : List Byte) : Core :=
  if off < 0x40000 then k.lput off bs else { k with pm := memPuts k.pm (off - 0x40000) bs }

/-- Pieces of [a, a + n) inside 64-byte blocks: address and length. -/
def pieces : Nat → Nat → Nat → List (Nat × Nat)
  | 0, _, _ => []
  | f + 1, a, n => if n = 0 then [] else
    let k := min n (64 - a % 64)
    (a, k) :: pieces f (a + k) (n - k)

def blocksOf (a n : Nat) : List (Nat × Nat) := pieces (n / 64 + 2) a n

/-- A read of memory by an engine, block by block, up to the first that fails: status, failing address, bytes. -/
def State.engRead (s : State) (h req a n : Nat) : Status × Nat × List Byte × State :=
  (blocksOf a n).foldl (fun acc p =>
    match acc with
    | (.ok, x, bs, s) =>
      (match s.target p.1 with
       | .skein _ | .dram _ =>
         (match s.memRead h req p.1 p.2 with
          | (.ok, d, s) => (.ok, x, bs ++ d, s)
          | (st, d, s) => (st, p.1, bs ++ d, s))
       | .coreMem c off =>
         if (s.core c).reaches h off then (.ok, x, bs ++ (s.core c).wbytes off p.2, s)
         else (.access, p.1, bs, s.accessError h p.1 1)
       | .none => (.decode, p.1, bs, s.decodeError req p.1)
       | .absent => (.ok, x, bs ++ List.replicate p.2 0, s)
       | .rom => (.ok, x, bs ++ (List.range p.2).map (fun k => Config.rom (p.1 + k)), s)
       | _ => (.access, p.1, bs, s.accessError h p.1 1))
    | r => r) (Status.ok, 0, ([] : List Byte), s)

/-- A write of memory by an engine, block by block, up to the first that fails: status, failing address. DESIGN CHOICE (log 15): the boot
ROM answers a write and keeps its bytes. -/
def State.engWrite (s : State) (h req a : Nat) (bs : List Byte) : Status × Nat × State :=
  (blocksOf a bs.length).foldl (fun acc p =>
    match acc with
    | (.ok, x, s) =>
      let d := (bs.drop (p.1 - a)).take p.2
      (match s.target p.1 with
       | .skein _ | .dram _ =>
         (match s.memWrite h req p.1 d with
          | (.ok, s) => (.ok, x, s)
          | (st, s) => (st, p.1, s))
       | .coreMem c off =>
         if (s.core c).reaches h off then (.ok, x, s.setCore c ((s.core c).wput off d))
         else (.access, p.1, s.accessError h p.1 1)
       | .none => (.decode, p.1, s.decodeError req p.1)
       | .absent | .rom => (.ok, x, s)
       | _ => (.access, p.1, s.accessError h p.1 1))
    | r => r) (Status.ok, 0, s)

/-- The bytes an engine would read, whatever the outcome, and the state after it. -/
def State.engBytes (s : State) (h req a n : Nat) : List Byte × State :=
  let r := s.engRead h req a n
  (slice r.2.2.1 0 n, r.2.2.2)

end Sys2Proof.Machine
end

