-- ==== Sys2Proof/Machine/RegBase.lean ====
section
/-! DEFINITION. What every register write shares: refusal of a hank without access, journalled fields, projections (00 R3 to R9;
02 R54, R55). -/

namespace Sys2Proof.Machine

/-- Address of a register. -/
def regAddr (block off : Nat) : Nat := ucbBase + block * mib + off

/-- An access the register refuses to the requester's hank: an access error, KIND 1, and zeros for a read (02 R30; log 41). -/
def State.denyReg (s : State) (who : Requester) (block off rd : Nat) : State :=
  (s.accessError (s.reqHank who) (regAddr block off) 1).emit (.answer 1 (List.replicate rd 0))

/-- A served write. -/
def State.served (s : State) : State := s.emit (.answer 0 [])

/-- A served read of a word. -/
def State.servedWord (s : State) (w : Nat) : State := s.emit (.answer 0 (leBytes 4 w))

/-- A write of a journalled field: its entry first; false when the journal refuses it (R6). -/
def State.jWrite (s : State) (who : Requester) (block off hank old new : Nat) : Bool × State :=
  let h := s.reqHank who
  s.change [{ origin := s.reqOrigin who, kind := 1, hank := if h ≠ 0 then h else hank, object := regObj block off, old := old, new := new }]

/-- A direct write to a projection of ply `p` is counted (R55). -/
def State.overrode (s : State) (p : Nat) : State :=
  let x := s.ply p
  if (mget? s.plies p).isSome then s.setPly p { x with overrides := satAdd 32 x.overrides 1 } else s

end Sys2Proof.Machine
end

