-- ==== Sys2Proof/Machine/Clock.lean ====
section
/-! DEFINITION. TIME_NS: its count, its corrections, the states of TCK_SYNC (03 R57, R58, R63; 13 R312 to
R314). -/

namespace Sys2Proof.Machine

/-- One nanosecond in units of 2^-16 ppm of a nanosecond. -/
def nsUnit : Nat := 65536 * 1000000

/-- One nanosecond of the oscillator passes: TIME_NS moves at the corrected rate, and what is to be slewed is slewed at SLEW_PPM
(R57, R314; log 3). -/
def Tck.tick (k : Tck) : Tck :=
  let cap : Int := k.slewPpm * 65536
  let r := clampI (-cap) cap k.slew
  let total := ((k.frac + nsUnit : Nat) + k.freqAdj + r).toNat
  { k with time := (k.time + total / nsUnit) % 2 ^ 64, frac := total % nsUnit, slew := k.slew - r
           holdoverNs := if k.sync = 2 then k.holdoverNs + total / nsUnit else k.holdoverNs }

/-- A clock-state change or time step (16 class 11). -/
def State.timeFact (s : State) (old : Nat) : State :=
  s.fact { origin := 6, kind := 1, object := jObj 11 0, old := old, new := s.tck.time, data := s.tck.sync }

/-- TIME_NS is stepped by `d` ns (R58, R63). -/
def State.timeStep (s : State) (d : Int) : State :=
  let k := s.tck
  let s := { s with tck := { k with
    time := (k.time + d).toNat % 2 ^ 64, slew := 0
    steps := if 0 ≤ d then satAdd 16 k.steps 1 else k.steps
    backSteps := if d < 0 then satAdd 8 k.backSteps 1 else k.backSteps } }
  s.timeFact k.time

/-- A correction is left to be slewed, added to what is still to be slewed or in its place. -/
def State.timeSlew (s : State) (d : Int) (add : Bool) : State :=
  { s with tck := { s.tck with slew := d * nsUnit + (if add then s.tck.slew else 0) } }

/-- A correction of `d` ns (R314). -/
def State.correct (s : State) (d : Int) (add : Bool) : State :=
  if s.woven then (if (s.tck.stepUs * 1000 : Int) ≤ d then s.timeStep d else s.timeSlew d add)
  else if 1000 ≤ d.natAbs then s.timeStep d
  else s.timeSlew d add

/-- The clock moves to a state of TCK_SYNC (R313). -/
def State.setSync (s : State) (st : Nat) : State :=
  let s := { s with tck := { s.tck with sync := st } }
  s.timeFact s.tck.time

/-- A Sync is accepted with the offset the protocol engine measured (R312 to R314). -/
def State.ptpSync (s : State) (d : Int) : State :=
  let k := s.tck
  let good := if d.natAbs < 100 then min (k.goodSyncs + 1) 16 else 0
  let s := { s with tck := { k with offset := clampI (-(2 ^ 31)) (2 ^ 31 - 1) d, goodSyncs := good } }
  let s := if k.sync ≠ 1 ∧ good = 16 then ({ s with tck := { s.tck with expired := false } } : State).setSync 1 else s
  if k.software then s else s.correct d false

/-- TCK_PHASE_ADJ written by hank 0: applied in SOFTWARE mode, ignored in HARDWARE mode. -/
def State.phaseAdj (s : State) (who : Requester) (v : Nat) : State :=
  if s.reqHank who ≠ 0 then s.denyReg who 2 0x2C 0
  else (if s.tck.software then s.correct (sx 32 v) true else s).served

/-! ### The commands -/

def execPhaseAdjWrite (who : Requester) (value : Word) (s : State) : Host.Outcome State Fault Refusal :=
  .next (({ s with out := [] } : State).asHank who (fun s => s.phaseAdj who value.toNat))

/-- PTP_SYNC_LOSS: LOCKED to HOLDOVER, and the clock it followed is no longer heard (R312; log 198). -/
def execPtpSyncLoss (s : State) : Host.Outcome State Fault Refusal :=
  let s := { s with out := [] }
  .next (if s.tck.sync = 1 then
    ({ s with tck := { s.tck with goodSyncs := 0, holdoverNs := 0, ptp := { s.tck.ptp with best := none, sync := none } } } : State).setSync 2
    else s)

/-- HOLDOVER_EXPIRED: the count has passed HOLD_MAX. -/
def execHoldoverExpired (s : State) : Host.Outcome State Fault Refusal :=
  let s := { s with out := [] }
  .next (if s.tck.sync = 2 then
    { s with tck := { s.tck with expired := true, holdoverNs := max s.tck.holdoverNs ((s.tck.holdMax * 60 + 1) * 1000000000) } } else s)

end Sys2Proof.Machine
end

