-- ==== Sys2Proof/Machine/Aes.lean ====
section
/-! DEFINITION. AES-256 and its XTS mode, with which a region's granules are encrypted in DRAM (04 section Regions and keys, 00 R10). Bytes
are numbers below 256; a block is 16 of them, column after column. -/

namespace Sys2Proof.Machine.Aes

/-- Times x in the field of 2^8 elements. -/
def twice (a : Nat) : Nat := if a < 128 then 2 * a else (2 * a) ^^^ 0x11B

/-- A product in the field, over the low `n` bits of `b`. -/
def times (a : Nat) : Nat → Nat → Nat
  | 0, _ => 0
  | n + 1, b => (if b % 2 = 1 then a else 0) ^^^ times (twice a) n (b / 2)

/-- a^(2^n - 2) by squaring; for n = 8 the inverse, and 0 of 0. -/
def power (a : Nat) : Nat → Nat
  | 0 => 1
  | 1 => 1
  | n + 1 => let r := power a n; let q := times r 8 r; times (times q 8 a) 8 a

/-- The substitution of a byte: its inverse, and the affine map over the bits. -/
def subByte (b : Nat) : Nat :=
  let i := power b 8
  let turn := fun (k : Nat) => (i * 2 ^ k) % 256 + i / 2 ^ (8 - k)
  i ^^^ turn 1 ^^^ turn 2 ^^^ turn 3 ^^^ turn 4 ^^^ 0x63

/-- Two lists of bytes added byte by byte. -/
def add (x y : List Nat) : List Nat := x.zipWith (· ^^^ ·) y

/-- The substitution of every byte and the turn of the rows. -/
def scramble (x : List Nat) : List Nat := (List.range 16).map (fun i => subByte (x.getD (5 * i % 16) 0))

/-- One column mixed. -/
def mixColumn (c : List Nat) : List Nat :=
  (List.range 4).map (fun i =>
    let at_ := fun (k : Nat) => c.getD ((i + k) % 4) 0
    twice (at_ 0) ^^^ (twice (at_ 1) ^^^ at_ 1) ^^^ at_ 2 ^^^ at_ 3)

def mix (x : List Nat) : List Nat := (List.range 4).flatMap (fun j => mixColumn ((x.drop (4 * j)).take 4))

/-- The next word of the key schedule of an eight-word key; `ws` are the words so far, the last first. -/
def nextWord (ws : List (List Nat)) : List Nat :=
  let n := ws.length
  let t := ws.headD []
  let t := if n % 8 = 0 then add ((t.drop 1 ++ t.take 1).map subByte) [2 ^ (n / 8 - 1), 0, 0, 0]
    else if n % 8 = 4 then t.map subByte else t
  add (ws.getD 7 []) t

def schedule : Nat → List (List Nat) → List (List Nat)
  | 0, ws => ws
  | n + 1, ws => schedule n (nextWord ws :: ws)

/-- The 15 round keys of a 32-byte key. -/
def roundKeys (key : List Nat) : List (List Nat) :=
  let ws := (schedule 52 ((List.range 8).map (fun i => (key.drop (4 * i)).take 4)).reverse).reverse
  (List.range 15).map (fun r => ((ws.drop (4 * r)).take 4).flatten)

/-- The rounds after the first key; the last one mixes no columns. -/
def rounds : List (List Nat) → List Nat → List Nat
  | [], x => x
  | [k], x => add (scramble x) k
  | k :: ks, x => rounds ks (add (mix (scramble x)) k)

/-- A block encrypted under round keys. -/
def block (ks : List (List Nat)) (x : List Nat) : List Nat := rounds (ks.drop 1) (add x (ks.headD []))

/-- The next tweak: times x in the field of 2^128 elements, the first byte lowest. -/
def nextTweak (t : Nat) : Nat := if t < 2 ^ 127 then 2 * t else (2 * t) ^^^ (2 ^ 128 + 0x87)

/-- The blocks of a data unit under their tweaks. -/
def xtsBlocks (ks : List (List Nat)) : Nat → Nat → List Nat → List Nat
  | 0, _, _ => []
  | n + 1, t, d =>
    let m := (leBytes 16 t).map (·.toNat)
    add (block ks (add (d.take 16) m)) m ++ xtsBlocks ks n (nextTweak t) (d.drop 16)

/-- A data unit of whole blocks encrypted under a pair of keys; `unit` is its number. -/
def xts (k1 k2 : List Nat) (unit : Nat) (d : List Nat) : List Nat :=
  let t := block (roundKeys k2) ((leBytes 16 unit).map (·.toNat))
  xtsBlocks (roundKeys k1) (d.length / 16) (leNat (t.map (BitVec.ofNat 8))) d

end Sys2Proof.Machine.Aes
end

