-- ==== Sys2Proof/Machine/Hanks.lean ====
section
/-! DEFINITION. Regions, share grants and pool buffers (04 R97 to R118). -/

namespace Sys2Proof.Machine

/-! ### Use and limits (R106) -/

/-- Granules of pool buffers a hank holds, in Skein or in DRAM. -/
def State.bufUse (s : State) (h : Nat) (skein : Bool) : Nat :=
  (s.pools.map (fun e =>
    if e.2.woven && e.2.skein == skein then
      (e.2.bufs.filter (fun b => b.2.held && b.2.hank == h)).length * (e.2.stride / (if skein then 256 else 4096))
    else 0)).sum

/-- DRAM use in granules: regions and DRAM buffers. -/
def State.dramUse (s : State) (h : Nat) : Nat :=
  ((s.slots.filter (fun e => e.2.state == 1 && e.2.owner == h)).map (·.2.len)).sum + s.bufUse h false

/-- Skein use in granules. -/
def State.skeinUse (s : State) (h : Nat) : Nat := s.bufUse h true

/-- Whether a hank may grow by `g` granules of DRAM (or Skein); hank 0 has no record and no limit. -/
def State.underLimit (s : State) (h g : Nat) (skein : Bool) : Bool :=
  match s.img.hanks.find? (fun r => r.hank == h) with
  | none => true
  | some r => if skein then decide ((s.skeinUse h + g) * 256 ≤ r.skeinLimit * 1024)
    else decide ((s.dramUse h + g) * 4096 ≤ r.dramLimit * mib)

/-! ### Command registers -/

/-- The bank a requester reaches: its own hank's, or for hank 0 that of HNK_HSEL (R99 ff.). -/
def State.hnkBank (s : State) (who : Requester) : Nat :=
  if s.reqHank who = 0 then s.hnkHsel else s.reqHank who

/-- A command ends with a code: SEQ steps, DONE is set. -/
def State.hnkEnd (s : State) (h code : Nat) : State :=
  let k := s.hank h
  s.setHank h { k with result := { k.result with done := true, seq := (k.result.seq + 1) % 256, code := code } }

/-- A command starts to execute: BUSY. -/
def State.hnkBusy (s : State) (h : Nat) : State :=
  let k := s.hank h
  s.setHank h { k with result := { k.result with busy := true, seq := (k.result.seq + 1) % 256 } }

/-- The executing command of a hank is done. -/
def State.hnkDone (s : State) (h : Nat) : State :=
  let k := s.hank h
  if k.result.busy then s.setHank h { k with result := { k.result with busy := false, done := true, code := 0 } } else s

/-- The slots a hank may key regions with (R97). -/
def State.slotInRange (s : State) (h k : Nat) : Bool :=
  if h = 0 then decide (16 ≤ k ∧ k < 64)
  else match s.img.hanks.find? (fun r => r.hank == h) with
    | some r => decide (r.keyFirst ≤ k ∧ k < r.keyFirst + r.keyCount)
    | none => false

/-- Whether [lo, hi) meets a region, a SCRUBBING range or the memory of a DRAM pool (R100). -/
def State.overlaps (s : State) (lo hi : Nat) : Bool :=
  s.slots.any (fun e => e.2.state != 0 && decide (e.2.base < hi) && decide (lo < e.2.base + e.2.len * 4096))
  || s.pools.any (fun e => e.2.woven && !e.2.skein && decide (e.2.base < hi) && decide (lo < e.2.base + e.2.count * e.2.stride))

/-- REGION_CREATE for bank `h` (R100, R102). -/
def State.regionCreate (s : State) (who : Requester) (slot : Nat) : State :=
  let h := s.hnkBank who
  let k := s.hank h
  let base := k.baseLo + k.baseHi % 2 ^ 16 * 2 ^ 32
  if k.result.busy then s.hnkEnd h 0x01
  else if s.reqHank who ≠ 0 then s.hnkEnd h 0x02
  else if !s.hankExists h then s.hnkEnd h 0x08
  else if base % 4096 ≠ 0 ∨ k.len = 0 ∨ base < dramBase ∨ s.tagBase < base + k.len * 4096 then s.hnkEnd h 0x03
  else if !s.slotInRange h slot then s.hnkEnd h 0x04
  else if (s.slotOf slot).state ≠ 0 then s.hnkEnd h 0x05
  else if s.overlaps base (base + k.len * 4096) then s.hnkEnd h 0x06
  else if !s.underLimit h k.len false then s.hnkEnd h 0x07
  else
    match s.change [{ origin := s.reqOrigin who, kind := 1, hank := h, object := jObj 4 slot, new := base, data := k.len }] with
    | (false, s) => s.hnkEnd h 0x50
    | (true, s) =>
      let s := s.scrub base (base + k.len * 4096)
      let (key, s) := s.draw
      ({ s with slots := mset s.slots slot { state := 1, owner := h, base := base, len := k.len, key := key % 2 ^ 512 } } : State).hnkEnd h 0

/-- The key pair of the DRAM granule at `g`: its region's, or the pool key of its buffer's ply (R97 to R99). -/
def State.granuleKey (s : State) (g : Nat) : Option Nat :=
  match s.regionAt g with
  | some e => some e.2.key
  | none =>
    (s.pools.find? (fun e => e.2.woven && !e.2.skein && decide (e.2.base ≤ g) && decide (g < e.2.base + e.2.count * e.2.stride))).map
      (fun e => (s.slotOf (e.1 / 8)).key)

/-- What the DRAM devices hold of the granule at `g`: AES-256-XTS with the granule as data unit and its address / 4,096 as tweak; granules
without a key are plain. -/
def State.dramHolds (s : State) (g : Nat) : List Byte :=
  let d := s.bytesAt g 4096
  match s.granuleKey g with
  | none => d
  | some k =>
    let b := (leBytes 64 k).map (·.toNat)
    (Aes.xts (b.take 32) (b.drop 32) (g / 4096) (d.map (·.toNat))).map (BitVec.ofNat 8)

/-! ### Share grants (R103 to R105) -/

/-- A live grant becomes void, which is journalled once (R105); one that was revoked has ended already. -/
def State.voidGrant (s : State) (g : Nat) : State :=
  let x := s.grantOf g
  if x.state ≠ 1 then s
  else
    let s := ({ s with grants := mset s.grants g { x with state := 0 } } : State).tagUpdate x.base (x.base + x.len)
    s.fact { origin := 3, kind := 1, hank := x.grantor, object := jObj 5 g, old := x.grantee, new := 0
             data := x.base + x.len * 2 ^ 64 }

def State.voidGrants (s : State) (p : Grant → Bool) : State :=
  (s.grants.filter (fun e => e.2.state == 1 && p e.2)).foldl (fun s e => s.voidGrant e.1) s

/-- The void grants over [lo, hi). -/
def State.voidRange (s : State) (lo hi : Nat) : State :=
  s.voidGrants (fun g => decide (g.base < hi) && decide (lo < g.base + g.len))

/-- REGION_DESTROY starts: the key is erased, the range refuses every access, its grants are void (R101); `waiter` the bank whose command
is done with the scrub. -/
def State.startScrub (s : State) (slot : Nat) (waiter : Option Nat) : State :=
  let k := s.slotOf slot
  let s := { s with slots := mset s.slots slot { k with state := 2, key := 0, waiter := waiter } }
  s.voidRange k.base (k.base + k.len * 4096)

/-- REGION_DESTROY for bank `h` (R100, R101, R102). -/
def State.regionDestroy (s : State) (who : Requester) (slot : Nat) : State :=
  let h := s.hnkBank who
  let k := s.slotOf slot
  if (s.hank h).result.busy then s.hnkEnd h 0x01
  else if s.reqHank who ≠ 0 then s.hnkEnd h 0x02
  else if k.state ≠ 1 ∨ k.owner ≠ h then s.hnkEnd h 0x0B
  else
    match s.change [{ origin := s.reqOrigin who, kind := 1, hank := h, object := jObj 4 slot, old := k.base, data := k.len }] with
    | (false, s) => s.hnkEnd h 0x50
    | (true, s) => (s.hnkBusy h).startScrub slot (some h)

/-- The scrubber finishes a range: the slot is FREE and the granules are hank 0's, unwritten; the command that waits is done (R101). -/
def State.regionScrubDone (s : State) (slot : Nat) : State :=
  let k := s.slotOf slot
  if k.state ≠ 2 then s
  else
    let s := s.scrub k.base (k.base + k.len * 4096)
    let s := { s with slots := mdel s.slots slot }
    match k.waiter with
    | some h => s.hnkDone h
    | none => s

/-- The pool buffer that starts at `base`: (ply, pool) key, index and record. -/
def State.bufferAt (s : State) (base : Nat) : Option (Nat × Nat × Buf) :=
  s.pools.findSome? (fun e =>
    let q := e.2
    if q.woven && decide (0 < q.stride) && decide (q.base ≤ base) && decide ((base - q.base) % q.stride = 0) then
      match mget? q.bufs ((base - q.base) / q.stride) with
      | some b => if b.held then some (e.1, (base - q.base) / q.stride, b) else none
      | none => none
    else none)

/-- Whether the window lies within one ACTIVE region of the grantor or is exactly one buffer it holds, and the grantor owns every granule
of it (R103, log 27): a granule whose tag was lost is hank 0's (05 R140). -/
def State.windowOwned (s : State) (h base len : Nat) : Bool :=
  (h == 0 || !s.lostOwner.any (fun g => decide (base ≤ g) && decide (g < base + len)))
  && ((s.slots.any (fun e => e.2.state == 1 && e.2.owner == h && decide (e.2.base ≤ base)
      && decide (base + len ≤ e.2.base + e.2.len * 4096)))
  || (match s.bufferAt base with
      | some (key, _, b) => b.hank == h && (mget s.pools key {}).stride == len
      | none => false))

/-- GRANT for the grantor `h` (R103). -/
def State.grant (s : State) (who : Requester) (peer : Nat) : State :=
  let h := s.hnkBank who
  let k := s.hank h
  let base := k.baseLo + k.baseHi % 2 ^ 16 * 2 ^ 32
  let len := k.len * granuleSize base
  let inMem := if base < dramBase then decide (skeinBase ≤ base ∧ base + len ≤ skeinBase + nBanks s.variant * mib)
    else decide (base + len ≤ s.tagBase)
  let free := (List.range 1024).filter (fun g => (s.grantOf g).state == 0)
  let mine := (s.grants.filter (fun e => e.2.state != 0 && e.2.grantor == h)).length
  if k.result.busy then s.hnkEnd h 0x01
  else if !s.hankExists peer then s.hnkEnd h 0x08
  else if granule base ≠ base ∨ k.len = 0 ∨ !inMem then s.hnkEnd h 0x03
  else if !s.windowOwned h base len then s.hnkEnd h 0x0A
  else if free = [] ∨ policyN s.img 0x0302 0xFF 32 ≤ mine then s.hnkEnd h 0x09
  else
    let (n, s1) := s.draw
    let g := free.getD (n % free.length) 0
    match s1.change [{ origin := s.reqOrigin who, kind := 1, hank := h, object := jObj 5 g, new := peer
                       data := base + len * 2 ^ 64 }] with
    | (false, s) => s.hnkEnd h 0x50
    | (true, s) =>
      let s := { s with grants := mset s.grants g { state := 1, grantor := h, grantee := peer, base := base, len := len } }
      ((s.tagUpdate base (base + len)).setHank h { s.hank h with resultGrant := g }).hnkEnd h 0

/-- REVOKE (R104). -/
def State.revoke (s : State) (who : Requester) (g : Nat) : State :=
  let h := s.hnkBank who
  let x := s.grantOf g
  if (s.hank h).result.busy then s.hnkEnd h 0x01
  else if x.state ≠ 1 ∨ x.grantor ≠ h then s.hnkEnd h 0x0B
  else
    match s.change [{ origin := s.reqOrigin who, kind := 1, hank := h, object := jObj 5 g, old := x.grantee
                      data := x.base + x.len * 2 ^ 64 }] with
    | (false, s) => s.hnkEnd h 0x50
    | (true, s) => (({ s with grants := mset s.grants g { x with state := 2, waits := true } } : State).tagUpdate x.base (x.base + x.len)).hnkBusy h

/-- Every read accepted under a revoked grant has been answered (R104). -/
def State.revokeComplete (s : State) (g : Nat) : State :=
  let x := s.grantOf g
  if x.state ≠ 2 then s
  else
    let s := { s with grants := mdel s.grants g }
    if x.waits then s.hnkDone x.grantor else s

/-! ### Pools (R111 to R118) -/

/-- The pool's free count F. -/
def Pool.free (q : Pool) : Nat := q.count - q.bufs.length

/-- The condition of a class on F (R113). -/
def Pool.classMay (q : Pool) (cls f : Nat) : Bool :=
  if cls = 0 then decide (0 < f) else if cls = 1 then decide (q.rsvRes < f) else decide (q.rsvRes + q.rsvWgt < f)

/-- The `n`-th index that a table does not list. -/
def nthFree {α : Type} : NMap α → Nat → Nat
  | [], n => n
  | (j, _) :: m, n => if j ≤ n then nthFree m (n + 1) else n

/-- An allocation request presented in a cycle: its position, requester, ply, pool and class. -/
structure PoolReq where
  pos : Nat
  who : Requester
  p : Nat
  q : Nat
  cls : Nat

/-- The class a request is served in: a Reserved request of a hank with no Reserved quota is served as Weighted (R113). -/
def State.poolClass (s : State) (r : PoolReq) : Nat :=
  match hankRec? s.img (s.reqHank r.who) r.p with
  | some k => if r.cls = 0 ∧ k.resTile = 0 ∧ k.resSpindle = 0 ∧ k.resMb = 0 ∧ k.resDram = 0 then 1 else r.cls
  | none => r.cls

/-- The order of a request in its cycle (R114). -/
def State.poolKey (s : State) (last : Nat) (r : PoolReq) : Nat :=
  s.poolClass r * 160 + (reqId r.who + 159 - last % 160) % 160

/-- The word an allocation read returns. -/
def allocWord (st index : Nat) (contended : Bool) : Nat :=
  b2n (st = 0) * 2 ^ 31 + b2n contended * 2 ^ 30 + st * 2 ^ 26 + index

/-- A one-shot wait is registered for a POOL_EMPTY answer (R117). -/
def State.poolWaitAdd (s : State) (h p q cls : Nat) : State :=
  let e := (s.hank h).poolWait
  let x := s.poolOf p q
  if e = 0xFFFF then s
  else if !s.ownsEvent h e then s.accessError h 0 5
  else if 64 ≤ x.waits.length then s
  else s.setPool p q { x with waits := x.waits ++ [{ hank := h, event := e, cls := cls }] }

/-- One request, judged against F as left by those before it; `f0` is F at the start of the cycle: CONTENDED when its class and its limit
would have let it have a buffer then (R113 to R115). -/
def State.poolServe (s : State) (f0 : Nat) (r : PoolReq) : Nat × State :=
  let h := s.reqHank r.who
  let x := s.poolOf r.p r.q
  if !x.woven ∨ h = 0 ∨ (hankRec? s.img h r.p).isNone then (allocWord 3 0 false, s)
  else
    let cls := s.poolClass r
    let g := if x.skein then 256 else 4096
    let room := s.underLimit h (x.stride / g) x.skein
    if !x.classMay cls x.free then (allocWord 1 0 (x.classMay cls f0 && room), s.poolWaitAdd h r.p r.q cls)
    else if !room then (allocWord 2 0 false, s)
    else
      let (n, s) := s.draw
      let i := nthFree x.bufs (n % x.free)
      let s := s.scrub (x.base + i * x.stride) (x.base + (i + 1) * x.stride)
      (allocWord 0 i false,
        s.setPool r.p r.q { x with bufs := mset x.bufs i { held := true, hank := h }, lastWinner := reqId r.who })

/-- The requests for one pool in the allocator's order (R114). -/
def insertReq (s : State) (last : Nat) (r : PoolReq) : List PoolReq → List PoolReq
  | [] => [r]
  | t :: ts => if s.poolKey last r < s.poolKey last t then r :: t :: ts else t :: insertReq s last r ts

/-- All requests of a cycle: words by position, and the state (R114). -/
def State.poolCycle (s : State) (rs : List PoolReq) : NMap Nat × State :=
  let keys := (rs.map (fun r => 8 * r.p + r.q)).eraseDups
  keys.foldl (fun acc key =>
    let s0 := acc.2
    let x := mget s0.pools key {}
    let mine := (rs.filter (fun r => 8 * r.p + r.q == key)).foldl (fun l r => insertReq s0 x.lastWinner r l) []
    mine.foldl (fun acc r =>
      let a := acc.2.poolServe x.free r
      (mset acc.1 r.pos a.1, a.2)) acc) ([], s)

/-- A request of one requester (an allocation read): its word. -/
def State.poolAlloc1 (s : State) (who : Requester) (p q cls : Nat) : Nat × State :=
  s.poolServe (s.poolOf p q).free { pos := 0, who := who, p := p, q := q, cls := cls }

/-- A free of a buffer (R116). -/
def State.poolFree (s : State) (h p q i : Nat) : State :=
  let x := s.poolOf p q
  match mget? x.bufs i with
  | some b =>
    if x.woven && b.held && b.hank == h then
      let lo := x.base + i * x.stride
      let s := s.setPool p q { x with bufs := mset x.bufs i { held := false, hank := 0 } }
      (s.scrub lo (lo + x.stride)).voidRange lo (lo + x.stride)
    else
      s.setHank h { s.hank h with badFrees := satAdd 32 (s.hank h).badFrees 1 }
  | none => s.setHank h { s.hank h with badFrees := satAdd 32 (s.hank h).badFrees 1 }

/-- The first registered wait of the highest class whose condition holds (R117). -/
def waitFor (x : Pool) : Nat → Nat → Option PoolWait
  | 0, _ => none
  | n + 1, cls =>
    match x.waits.find? (fun w => w.cls == cls && x.classMay cls x.free) with
    | some w => some w
    | none => waitFor x n (cls + 1)

/-- A buffer enters F after its scrub; a waiter whose class may take it is pulsed (R116, R117). -/
def State.poolScrubDone (s : State) (p q i : Nat) : State :=
  let x := s.poolOf p q
  match mget? x.bufs i with
  | some b =>
    if b.held then s
    else
      let x := { x with bufs := mdel x.bufs i }
      match waitFor x 3 0 with
      | none => s.setPool p q x
      | some w => (s.setPool p q { x with waits := x.waits.erase w }).pulse w.event
  | none => s

/-- A pool is released: its buffers are scrubbed and taken from their holders (R118). -/
def State.poolRelease (s : State) (p q : Nat) : State :=
  let x := s.poolOf p q
  if !x.woven then s
  else
    let hi := x.base + x.count * x.stride
    let s := (s.scrub x.base hi).voidRange x.base hi
    { s with pools := mdel s.pools (8 * p + q) }

/-- Buffers of a hank that is destroyed are freed (R109, R116). -/
def State.freeAll (s : State) (h : Nat) : State :=
  s.pools.foldl (fun s e =>
    (e.2.bufs.filter (fun b => b.2.held && b.2.hank == h)).foldl (fun s b => s.poolFree h (e.1 / 8) (e.1 % 8) b.1) s) s

/-- Granules that await scrub (HNK_SCRUB.PENDING). -/
def State.scrubPending (s : State) : Nat :=
  min (2 ^ 32 - 1)
    (((s.slots.filter (fun e => e.2.state == 2)).map (·.2.len)).sum
    + (s.pools.map (fun e => (e.2.bufs.filter (fun b => !b.2.held)).length * (e.2.stride / (if e.2.skein then 256 else 4096)))).sum)

/-! ### The commands -/

def execRegionCreate (who : Requester) (slot : Nat) (s : State) : Host.Outcome State Fault Refusal :=
  .next (({ s with out := [] } : State).asHank who (fun s => s.regionCreate who slot))

def execRegionDestroy (who : Requester) (slot : Nat) (s : State) : Host.Outcome State Fault Refusal :=
  .next (({ s with out := [] } : State).asHank who (fun s => s.regionDestroy who slot))

def execRegionScrubDone (slot : Nat) (s : State) : Host.Outcome State Fault Refusal :=
  .next (({ s with out := [] } : State).regionScrubDone slot)

def execGrant (who : Requester) (peer : Nat) (s : State) : Host.Outcome State Fault Refusal :=
  .next (({ s with out := [] } : State).asHank who (fun s => s.grant who peer))

def execRevoke (who : Requester) (index : Nat) (s : State) : Host.Outcome State Fault Refusal :=
  .next (({ s with out := [] } : State).asHank who (fun s => s.revoke who index))

def execRevokeComplete (index : Nat) (s : State) : Host.Outcome State Fault Refusal :=
  .next (({ s with out := [] } : State).revokeComplete index)

/-- POOL_ALLOCATE: each request is answered with its word, in the order presented. -/
def execPoolAllocate (reqs : List (Requester × Nat × Nat × Nat)) (s : State) : Host.Outcome State Fault Refusal :=
  let s := { s with out := [] }
  let rs := reqs.zipIdx.map (fun e => { pos := e.2, who := e.1.1, p := e.1.2.1, q := e.1.2.2.1, cls := e.1.2.2.2 : PoolReq })
  let r := s.poolCycle rs
  .next ((List.range rs.length).foldl (fun s i => s.emit (.answer 0 (leBytes 4 (mget r.1 i 0)))) r.2)

def execPoolFree (who : Requester) (ply pool index : Nat) (s : State) : Host.Outcome State Fault Refusal :=
  .next (({ s with out := [] } : State).asHank who (fun s => s.poolFree (s.reqHank who) ply pool index))

def execPoolBufferScrubDone (ply pool index : Nat) (s : State) : Host.Outcome State Fault Refusal :=
  .next (({ s with out := [] } : State).poolScrubDone ply pool index)

end Sys2Proof.Machine
end

