-- ==== Sys2Proof/Machine/Streams.lean ====
section
/-! DEFINITION. Packets on an engine's input and output ports (05 R132, R133). -/

namespace Sys2Proof.Machine

/-- A packet: whether a flit of it was poisoned, and its bytes. -/
structure Packet where
  poison : Bool := false
  bytes : List Byte := []
  deriving DecidableEq, Repr

/-- The packet whose LAST flit comes first, and the flits that stay: those of one route are in order, those of several may interleave
(05 R135, R137). -/
def firstPacket (l : List Flit) : Option (Packet × List Flit) :=
  let n := l.findIdx (·.last) + 1
  match l.find? (·.last) with
  | none => none
  | some f =>
    let mine := (l.take n).filter (·.route == f.route)
    some ({ poison := mine.any (·.poison), bytes := mine.flatMap (fun g => slice g.data 0 (g.bytesM1 % 64 + 1)) },
      (l.take n).filter (·.route != f.route) ++ l.drop n)

/-- Up to `n` whole packets of a stream, and the flits that stay. -/
def takePackets : Nat → List Flit → List Packet × List Flit
  | 0, l => ([], l)
  | n + 1, l =>
    match firstPacket l with
    | none => ([], l)
    | some (p, l) => let r := takePackets n l; (p :: r.1, r.2)

/-- How many whole packets wait at an endpoint. -/
def State.packetCount (s : State) (e : Nat) : Nat := (mget s.streams e []).countP (·.last)

/-- Up to `n` packets at an endpoint are consumed. -/
def State.consume (s : State) (e n : Nat) : List Packet × State :=
  let r := takePackets n (mget s.streams e [])
  (r.1, { s with streams := mset s.streams e r.2 })

/-- A job leaves an input port. DESIGN CHOICE (log 195): what was delivered of a packet it did not finish goes with it, and the rest of that
packet is dropped up to its route's next FIRST flit. -/
def State.clearPort (s : State) (e : Nat) : State :=
  (s.routes.filter (fun x => x.2.dst == e && x.2.open_)).foldl (fun s x =>
    let r := s.route x.1
    let b := r.buf.dropWhile (fun f => !f.first)
    s.setRoute x.1 { r with buf := b, open_ := false, resync := b == [] }) { s with streams := mset s.streams e [] }

/-- The flits of one packet on a route. -/
def flitsOf (h route : Nat) (bs : List Byte) : List Flit :=
  let n := max 1 (ceilDiv bs.length 64)
  (List.range n).map (fun k =>
    let d := (bs.drop (64 * k)).take 64
    { hank := h, route := route, first := k == 0, last := k + 1 == n, poison := false, bytesM1 := d.length - 1, data := d })

/-! ### Credits and the arbiter (05 R134, R135; log 190) -/

/-- Routes with a credit and a ready flit. -/
def State.readyRoutes (s : State) : List (Nat × Route) :=
  s.routes.filter (fun x => x.2.formed && !x.2.ready.isEmpty && decide (0 < x.2.credits))

/-- The first route of the least key. -/
def leastRoute (key : Nat × Route → Nat) : List (Nat × Route) → Option (Nat × Route)
  | [] => none
  | x :: xs => match leastRoute key xs with
    | none => some x
    | some y => if key x ≤ key y then some x else some y

/-- The route granted next, and whether by force: one passed over for 64 grants, at most once in four; else the highest PRIORITY, round
robin among equals. -/
def State.pickRoute (s : State) : Option (Nat × Route × Bool) :=
  let c := s.readyRoutes
  let turn := fun (x : Nat × Route) => (x.1 + 1023 - s.fab.lastRoute % 1024) % 1024
  match if s.fab.sinceForced < 3 then none else leastRoute turn (c.filter (fun x => decide (64 ≤ x.2.passed))) with
  | some x => some (x.1, x.2, true)
  | none => (leastRoute (fun x => (3 - x.2.priority) * 1024 + turn x) c).map (fun x => (x.1, x.2, false))

/-- One flit is granted: it spends a credit and goes on its way; every other ready route is passed over. -/
def State.grantFlit (s : State) (n : Nat) (r : Route) (forced : Bool) : State :=
  match r.ready with
  | [] => s
  | f :: rest =>
    let rest_ := (s.readyRoutes.map (·.1)).filter (· != n)
    let s := rest_.foldl (fun s m => s.setRoute m { s.route m with passed := (s.route m).passed + 1 }) s
    let s := { s with fab := { s.fab with lastRoute := n, sinceForced := if forced then 0 else min 3 (s.fab.sinceForced + 1) } }
    (s.setRoute n { r with ready := rest, wire := r.wire ++ [f], credits := r.credits - 1, passed := 0 }).emit (.flit f)

/-- Ready flits are granted while any route has a credit for one. -/
def State.grantFlits : Nat → State → State
  | 0, s => s
  | k + 1, s =>
    match s.pickRoute with
    | none => s
    | some x => State.grantFlits k (s.grantFlit x.1 x.2.1 x.2.2)

def State.arbitrate (s : State) : State := State.grantFlits (s.routes.map (fun x => x.2.ready.length)).sum s

/-- A packet leaves an output port on every route that begins there: its flits are ready, and stall where the route has no credit or is left
out (05 R134, R136). -/
def State.sendPacket (s : State) (e h : Nat) (bs : List Byte) : State :=
  ((s.routes.filter (fun x => x.2.src == e && x.2.woven)).foldl (fun s x =>
    s.setRoute x.1 { s.route x.1 with ready := (s.route x.1).ready ++ flitsOf h x.1 bs }) s).arbitrate

end Sys2Proof.Machine
end

