-- ==== Sys2Proof/Machine/TokPass.lean ====
section
/-! DEFINITION. The work of a tokenizer job: dictionary, strings and records (11 R269 to R276). -/

namespace Sys2Proof.Machine

/-! ### UTF-8 (R272 step 2) -/

/-- A continuation byte at position `i`, within lo..hi. -/
def contAt (b : List Byte) (i lo hi : Nat) : Bool :=
  match b[i]? with
  | some x => decide (lo ≤ x.toNat ∧ x.toNat ≤ hi)
  | none => false

/-- Length of the well-formed sequence that begins at `i` (RFC 3629); 0 for none. -/
def utf8Len (b : List Byte) (i : Nat) : Nat :=
  let x := (b.getD i 0).toNat
  let c := fun (k : Nat) => contAt b (i + k) 0x80 0xBF
  if x < 0x80 then 1
  else if 0xC2 ≤ x ∧ x ≤ 0xDF then (if c 1 then 2 else 0)
  else if 0xE0 ≤ x ∧ x ≤ 0xEF then
    (if contAt b (i + 1) (if x = 0xE0 then 0xA0 else 0x80) (if x = 0xED then 0x9F else 0xBF) && c 2 then 3 else 0)
  else if 0xF0 ≤ x ∧ x ≤ 0xF4 then
    (if contAt b (i + 1) (if x = 0xF0 then 0x90 else 0x80) (if x = 0xF4 then 0x8F else 0xBF) && c 2 && c 3 then 4 else 0)
  else 0

/-- How a byte stands in its string. -/
inductive ByteKind
  | lead | cont | invalid
  deriving DecidableEq, Repr

/-- The kinds of the bytes from `i` on. -/
def byteKinds (b : List Byte) : Nat → Nat → List ByteKind
  | 0, _ => []
  | f + 1, i =>
    if b.length ≤ i then []
    else match utf8Len b i with
      | 0 => .invalid :: byteKinds b f (i + 1)
      | n + 1 => .lead :: List.replicate n .cont ++ byteKinds b f (i + n + 1)

/-- ASCII folding (R272 step 1). -/
def foldByte (x : Byte) : Byte := if 0x41 ≤ x.toNat ∧ x.toNat ≤ 0x5A then x + 0x20 else x

/-! ### The dictionary (R269 to R271) -/

/-- A stop: cause code and failing address (R276). -/
structure Stop where
  cause : Nat
  addr : Nat := 0
  deriving DecidableEq, Repr

/-- The cause of a failed bus access. -/
def tokCause : Status → Nat
  | .access | .decode => 3
  | _ => 4

/-- Bytes read by the engine with the job's hank. -/
def State.tokRead (s : State) (h a n : Nat) : Except Stop (List Byte) × State :=
  let r := s.engRead h 93 a n
  if r.1 = .ok then (.ok r.2.2.1, r.2.2.2) else (.error { cause := tokCause r.1, addr := r.2.1 }, r.2.2.2)

/-- The end of the Skein range, on every variant (01 R18). -/
def skeinEnd : Nat := skeinBase + 48 * mib

/-- A header that keeps the rules of R269. -/
def dictHeaderOk (b : List Byte) : Bool :=
  let nodes := leAt b 8 4
  let edges := leAt b 12 4
  let size := ceilDiv (64 + 8 * nodes + 4 * edges) 64 * 64
  decide (leAt b 0 4 = 0x444B4F54 ∧ leAt b 4 2 = 1 ∧ 1 ≤ leAt b 6 1 ∧ leAt b 6 1 ≤ 48 ∧ leAt b 7 1 ≤ 1 ∧ 1 ≤ nodes ∧ nodes ≤ 2 ^ 23
    ∧ edges < nodes ∧ leAt b 16 4 ≤ 65280 ∧ leAt b 20 4 = size ∧ size ≤ 4 * mib ∧ leAt b 24 40 = 0)

/-- The dictionary's header and root are checked at job start (R271). -/
def State.openDict (s : State) (h a : Nat) (fold : Bool) : Except Stop Dict × State :=
  if a < skeinBase ∨ skeinEnd ≤ a then (.error { cause := 2, addr := a }, s)
  else match s.tokRead h a 64 with
    | (.error e, s) => (.error e, s)
    | (.ok b, s) =>
      if skeinEnd < a + leAt b 20 4 then (.error { cause := 2, addr := skeinEnd }, s)
      else if !dictHeaderOk b || (leAt b 7 1 == 1) != fold then (.error { cause := 2 }, s)
      else match s.tokRead h (a + 64) 8 with
        | (.error e, s) => (.error e, s)
        | (.ok n, s) =>
          if bit (leAt n 2 1) 0 then (.error { cause := 2 }, s)
          else (.ok { base := a, maxLen := leAt b 6 1, nodes := leAt b 8 4, edges := leAt b 12 4 }, s)

/-- A node: token, terminal, edge count, first edge. -/
structure Node where
  token : Nat
  term : Bool
  count : Nat
  first : Nat

def State.readNode (s : State) (h : Nat) (d : Dict) (n : Nat) : Except Stop Node × State :=
  match s.tokRead h (d.base + 64 + 8 * n) 8 with
  | (.error e, s) => (.error e, s)
  | (.ok b, s) =>
    let w := leAt b 4 4
    (.ok { token := leAt b 0 2, term := bit (leAt b 2 1) 0, count := w / 2 ^ 23, first := w % 2 ^ 23 }, s)

/-- `find` of R272 between lo and hi: the child, if an edge matches. Each edge read is checked (R271). -/
def State.findEdge (s : State) (h : Nat) (d : Dict) (first x : Nat) : Nat → Int → Int → Except Stop (Option Nat) × State
  | 0, _, _ => (.ok none, s)
  | f + 1, lo, hi =>
    if hi < lo then (.ok none, s)
    else
      let mid := (lo + hi) / 2
      let e := first + mid.toNat
      if d.edges ≤ e then (.error { cause := 2 }, s)
      else match s.tokRead h (d.base + 64 + 8 * d.nodes + 4 * e) 4 with
        | (.error k, s) => (.error k, s)
        | (.ok b, s) =>
          let w := leAt b 0 4
          let c := w / 2 ^ 24
          if d.nodes ≤ w % 2 ^ 24 then (.error { cause := 2 }, s)
          else if c = x then (.ok (some (w % 2 ^ 24)), s)
          else if c < x then s.findEdge h d first x f (mid + 1) hi
          else s.findEdge h d first x f lo (mid - 1)

/-- The walk from a node along the bytes at hand: the longest match so far (token, length) (R272 steps 3 and 4). -/
def State.walk (s : State) (h : Nat) (d : Dict) (node : Node) (len : Nat) (best : Option (Nat × Nat)) :
    List (Byte × ByteKind) → Except Stop (Option (Nat × Nat)) × State
  | [] => (.ok best, s)
  | (x, k) :: rest =>
    if k = .invalid ∨ d.maxLen ≤ len then (.ok best, s)
    else match s.findEdge h d node.first x.toNat 10 0 ((node.count : Int) - 1) with
      | (.error e, s) => (.error e, s)
      | (.ok none, s) => (.ok best, s)
      | (.ok (some c), s) =>
        match s.readNode h d c with
        | (.error e, s) => (.error e, s)
        | (.ok n, s) =>
          if n.term && decide (n.token < 256) then (.error { cause := 2 }, s)
          else
            let inside := match rest with | (_, .cont) :: _ => true | _ => false
            s.walk h d n (len + 1) (if n.term && !inside then some (n.token, len + 1) else best) rest

/-! ### A string (R272, R273, R275) -/

/-- The tokens of a string and its counts. -/
structure Toks where
  tokens : List Nat := []
  invalid : Nat := 0
  raw : Nat := 0
  deriving DecidableEq, Repr

/-- Job options: folding, INVALID mode, REPL_ID. -/
structure TokMode where
  fold : Bool
  invalid : Nat
  repl : Nat

/-- The scan of a string from its first unread byte. -/
def State.scan (s : State) (h : Nat) (d : Dict) (root : Node) (m : TokMode) : Nat → List (Byte × ByteKind) → Toks → Except (Stop × Toks) Toks × State
  | 0, _, t => (.ok t, s)
  | _ + 1, [], t => (.ok t, s)
  | f + 1, (x, k) :: rest, t =>
    if k = .invalid then
      let t := { t with invalid := t.invalid + 1 }
      if m.invalid = 2 then (.error ({ cause := 5 }, t), s)
      else if m.invalid = 1 then s.scan h d root m f rest { t with tokens := t.tokens ++ [m.repl] }
      else s.scan h d root m f rest { t with tokens := t.tokens ++ [x.toNat], raw := t.raw + 1 }
    else match s.walk h d root 0 none ((x, k) :: rest) with
      | (.error e, s) => (.error (e, t), s)
      | (.ok (some (tok, n)), s) => s.scan h d root m f (rest.drop (n - 1)) { t with tokens := t.tokens ++ [tok] }
      | (.ok none, s) => s.scan h d root m f rest { t with tokens := t.tokens ++ [x.toNat], raw := t.raw + 1 }

/-- A record of `stride` bytes (R275). -/
def tokRecord (stride pad : Nat) (fold : Bool) (t : Toks) : List Byte :=
  let cap := (stride - 8) / 2
  let n := t.tokens.length
  leBytes 2 (min n cap) ++ leBytes 2 n ++ leBytes 2 t.invalid ++ leBytes 1 (b2n (cap < n) + 2 * b2n fold) ++ [(0 : Byte)]
  ++ (List.range cap).flatMap (fun i => leBytes 2 (t.tokens.getD i pad))

/-! ### The job (R274, R276) -/

/-- Whether a descriptor keeps its rules. -/
def tokDescOk (addr : Nat) (d : List Byte) : Bool :=
  let prof := leAt d 0 1
  let x := leAt d 1 1
  let fl := leAt d 2 1
  let stride := leAt d 32 4
  (prof == 0 || prof == 1 || prof == 0xFF)
  && (if prof = 0xFF then decide (x < 8 ∧ x / 2 ≠ 3) else x == 0)
  && decide (addr % 64 = 0 ∧ fl < 4 ∧ leAt d 3 1 = 0 ∧ 1 ≤ leAt d 4 4 ∧ leAt d 4 4 ≤ 65536 ∧ stride % 64 = 0 ∧ 64 ≤ stride ∧ stride ≤ 65536
    ∧ leAt d 42 6 = 0 ∧ leAt d 56 8 = 0)
  && (!bit fl 0 || leAt d 16 8 == 0) && (!bit fl 1 || (leAt d 24 8 == 0 && decide (stride ≤ 4096)))

/-- The options of a descriptor. -/
def tokMode (d : List Byte) : TokMode :=
  let prof := leAt d 0 1
  { fold := if prof = 0xFF then bit (leAt d 1 1) 0 else prof == 1, invalid := if prof = 0xFF then leAt d 1 1 / 2 % 4 else 0, repl := leAt d 38 2 }

/-- DRAM bytes of an access. -/
def dramBytes (a n : Nat) : Nat := if dramBase ≤ a then n else 0

/-- The bytes of string `i`, from a packet or from the table, and the DRAM bytes read. -/
def State.stringOf (s : State) (r : TokRun) (packets : List Packet) (i : Nat) : Except Stop (List Byte × Nat) × State :=
  if bit (leAt r.desc 2 1) 0 then
    let p := packets.getD i {}
    (if p.poison then .error { cause := 4 } else .ok (p.bytes, 0), s)
  else
    let tab := leAt r.desc 16 8
    match s.tokRead r.hank (tab + 8 * i) 8 with
    | (.error e, s) => (.error e, s)
    | (.ok e, s) =>
      let a := tab + leAt e 0 4
      match s.tokRead r.hank a (leAt e 4 2) with
      | (.error k, s) => (.error k, s)
      | (.ok b, s) => (.ok (b, dramBytes tab 8 + dramBytes a b.length), s)

/-- Invalid and input bytes are counted in the registers. -/
def State.tokCount (s : State) (invalid bytes : Nat) : State :=
  { s with tok := { s.tok with invalid := satAdd 32 s.tok.invalid invalid, bytes := (s.tok.bytes + bytes) % 2 ^ 64 } }

/-- A job stops on a check or a fault. -/
def TokRun.stop (r : TokRun) (e : Stop) : TokRun := { r with cause := e.cause, failAddr := e.addr }

/-- Strings from number `i` on, each to its record, up to the first stop. -/
def State.runStrings (s : State) (d : Dict) (root : Node) (packets : List Packet) : Nat → Nat → TokRun → TokRun × State
  | 0, _, r => (r, s)
  | f + 1, i, r =>
    let m := tokMode r.desc
    match s.stringOf r packets i with
    | (.error e, s) => (r.stop e, s)
    | (.ok (text, read), s) =>
      let text := if m.fold then text.map foldByte else text
      let r := { r with usedDram := r.usedDram + read }
      match s.scan r.hank d root m (text.length + 1) (text.zip (byteKinds text (text.length + 1) 0)) {} with
      | (.error (e, t), s) => ({ r.stop e with invalid := r.invalid + t.invalid }, s.tokCount t.invalid 0)
      | (.ok t, s) =>
        let stride := leAt r.desc 32 4
        let s := s.tokCount t.invalid text.length
        let rec_ := tokRecord stride (leAt r.desc 36 2) m.fold t
        let a := leAt r.desc 24 8 + i * stride
        let w := if bit (leAt r.desc 2 1) 1 then (Status.ok, 0, s.sendPacket 0x6001 r.hank rec_) else s.engWrite r.hank 93 a rec_
        let r := { r with
          strings := r.strings + 1, tokens := r.tokens + t.tokens.length, invalid := r.invalid + t.invalid, raw := r.raw + t.raw
          truncated := r.truncated + b2n ((stride - 8) / 2 < t.tokens.length)
          usedDram := r.usedDram + (if bit (leAt r.desc 2 1) 1 then 0 else dramBytes a stride) }
        if w.1 = .ok then w.2.2.runStrings d root packets f (i + 1) r
        else ({ r with strings := r.strings - 1 }.stop { cause := tokCause w.1, addr := w.2.1 }, w.2.2)

/-- What the job does from its checked header: its strings, or those whose packets have arrived; a stopped one has done a number of them
that the spec leaves open. -/
def State.runTok (s : State) (r : TokRun) (packets : List Packet) (stopped : Bool) : TokRun × State :=
  let r := { r with streaming := false }
  match s.readNode r.hank r.dict 0 with
  | (.error e, s) => (r.stop e, s)
  | (.ok root, s) =>
    if root.term then (r.stop { cause := 2 }, s)
    else
      let n := leAt r.desc 4 4
      let can := if bit (leAt r.desc 2 1) 0 then min n packets.length else n
      let k : Nat × State := if stopped then let q := s.draw; (q.1 % (can + 1), q.2) else (can, s)
      k.2.runStrings r.dict root packets k.1 0 r

/-- The packets at the engine's input port, taken for a streaming job. -/
def State.tokPackets (s : State) (r : TokRun) : List Packet × State :=
  if r.streaming then s.consume 0x6000 (leAt r.desc 4 4) else ([], s)

/-- A running job's work up to a stop: a free number of its strings; a fault met in them ends the job before its stop does (R276). -/
def State.tokHalfway (s : State) (r : TokRun) : TokRun × State :=
  if r.cause ≠ 0 then (r, s)
  else let p := s.tokPackets r; let q := p.2.runTok r p.1 true; (if q.1.cause ≠ 0 then q.1 else { q.1 with cause := 8 }, q.2)

end Sys2Proof.Machine
end

