-- ==== Sys2Proof/Machine/Contexts.lean ====
section
/-! DEFINITION. Scale contexts and what the end of a job or conversion does to them (09 R222 to R231). -/

namespace Sys2Proof.Machine

/-! ### Contexts (R222 to R224) -/

def State.ctx (s : State) (p c : Nat) : Ctx := mget s.qnt.ctxs (256 * p + c) (mget s.qnt.defaults p {})
def State.setCtx (s : State) (p c : Nat) (x : Ctx) : State :=
  { s with qnt := { s.qnt with ctxs := mset s.qnt.ctxs (256 * p + c) x } }
def State.qloop (s : State) (p : Nat) : QLoop := mget s.qnt.loops p {}

/-- Whether hank `h` may name a context: it is free or its own. -/
def Ctx.usable (x : Ctx) (h : Nat) : Bool := !x.claimed || x.owner == h

/-- A context is claimed by the hank that names it. -/
def State.claimCtx (s : State) (p c h : Nat) : State :=
  s.setCtx p c { s.ctx p c with claimed := true, owner := h }

/-- The scale source a context gives at job start. -/
def Ctx.source (x : Ctx) : ScaleSrc :=
  match x.mode with
  | 0 => if x.rmax = 0 then .own x.h else .running x.rmax x.h
  | 1 => .own x.h
  | _ => .const ((x.fixedT : Int) - 127)

/-- The end of a job or conversion that named a context: its window and counts, and RMAX unless it was stopped (R224, R231). -/
def State.endCtx (s : State) (p c jobMax narrowed clips : Nat) (stopped : Bool) : State :=
  let x := s.ctx p c
  let dec := (s.qloop p).decay
  let keep := if dec = 0 then x.rmax else x.rmax - (x.rmax >>> dec)
  let r := max jobMax keep
  s.setCtx p c { x with
    rmax := if stopped then x.rmax else if r < 2 ^ 32 then r else (Config.wideRmax r).toNat
    clips := satAdd 32 x.clips clips, winNarrowed := x.winNarrowed + narrowed, winClipped := x.winClipped + clips }

/-- Device counts of clipped values and invalid inputs (R231). -/
def State.quantCounts (s : State) (clips invalid : Nat) : State :=
  { s with qnt := { s.qnt with clips := satAdd 32 s.qnt.clips clips, invalid := satAdd 32 s.qnt.invalid invalid } }

end Sys2Proof.Machine
end

