-- ==== Sys2Proof/Machine/WhlArith.lean ====
section
/-! DEFINITION. The arithmetic of a Whorl job: its descriptor, the two multiply paths and the output stage, as functions of values
(08 R196, R203 to R210; 09 R223 to R237). -/

namespace Sys2Proof.Machine

/-! ### The descriptor -/

/-- A Whorl job descriptor (08 section Jobs). -/
structure WDesc where
  jkind : Nat
  array : Nat
  path : Nat
  flags : Nat
  fa : Nat
  fb : Nat
  fo : Nat
  grp : Nat
  m : Nat
  n : Nat
  k : Nat
  zp : Nat
  frac : Nat
  act : Nat
  shift : Nat
  biasShl : Nat
  seg : Nat
  ctx : Nat
  mult : Nat
  seed : Nat
  wkey : Nat
  aStride : Nat
  bStride : Nat
  oStride : Nat
  a : Nat
  b : Nat
  o : Nat
  bias : Nat
  mults : Nat
  table : Nat
  report : Nat
  geom : List Byte
  zero : Nat
  deriving DecidableEq, Repr

def parseWhl (d : List Byte) : WDesc where
  jkind := leAt d 0 1
  array := leAt d 1 1
  path := leAt d 2 1
  flags := leAt d 3 1
  fa := leAt d 4 1
  fb := leAt d 5 1
  fo := leAt d 6 1
  grp := leAt d 7 1
  m := leAt d 8 4
  n := leAt d 12 4
  k := leAt d 16 4
  zp := leAt d 20 1
  frac := leAt d 21 1
  act := leAt d 22 1
  shift := leAt d 23 1
  biasShl := leAt d 24 1
  seg := leAt d 25 1
  ctx := leAt d 26 2
  mult := leAt d 28 4
  seed := leAt d 32 4
  wkey := leAt d 36 4
  aStride := leAt d 40 4
  bStride := leAt d 44 4
  oStride := leAt d 48 4
  a := leAt d 56 8
  b := leAt d 64 8
  o := leAt d 72 8
  bias := leAt d 80 8
  mults := leAt d 88 8
  table := leAt d 96 8
  report := leAt d 104 8
  geom := slice d 112 16
  zero := leAt d 54 2

def WDesc.wkeep (d : WDesc) : Bool := bit d.flags 0
def WDesc.softmax (d : WDesc) : Bool := bit d.flags 1
def WDesc.rotate (d : WDesc) : Bool := bit d.flags 2
def WDesc.side (d : WDesc) : Bool := bit d.flags 3
def WDesc.stoch (d : WDesc) : Bool := bit d.flags 4
def WDesc.aStream (d : WDesc) : Bool := bit d.flags 5
def WDesc.oStream (d : WDesc) : Bool := bit d.flags 6

def WDesc.attn (d : WDesc) : Bool := d.jkind == 3 || d.jkind == 4

/-! ### Geometry (Job kinds, R196) -/

/-- The spatial geometry of CONV and REDUCE: H, W, C, R, S, STRIDE, PAD, DIL, Hout, Wout. -/
structure Geo where
  h : Nat := 1
  w : Nat := 1
  c : Nat := 1
  r : Nat := 1
  s : Nat := 1
  stride : Nat := 1
  pad : Nat := 0
  dil : Nat := 1
  ho : Nat := 1
  wo : Nat := 1
  deriving DecidableEq, Repr

/-- Output extent along one axis. -/
def outExtent (h pad dil r stride : Nat) : Nat :=
  if h + 2 * pad < dil * (r - 1) + 1 then 0 else (h + 2 * pad - dil * (r - 1) - 1) / max stride 1 + 1

def WDesc.geo (d : WDesc) : Geo :=
  let g := d.geom
  if d.jkind = 2 then
    let x : Geo := { h := leAt g 0 2, w := leAt g 2 2, c := leAt g 4 2, r := leAt g 6 1, s := leAt g 7 1, stride := leAt g 8 1
                     pad := leAt g 9 1, dil := leAt g 10 1 }
    { x with ho := outExtent x.h x.pad x.dil x.r x.stride, wo := outExtent x.w x.pad x.dil x.s x.stride }
  else if d.jkind = 5 then
    let h := leAt g 4 2
    let w := leAt g 6 2
    let whole := leAt g 1 1 = 0 ∧ leAt g 2 1 = 0
    let r := if whole then h else leAt g 1 1
    let s := if whole then w else leAt g 2 1
    let x : Geo := { h := h, w := w, c := d.n, r := r, s := s, stride := leAt g 3 1 }
    { x with ho := outExtent h 0 1 r x.stride, wo := outExtent w 0 1 s x.stride }
  else {}

/-- REDUCE takes the maximum. -/
def WDesc.isMax (d : WDesc) : Bool := leAt d.geom 0 1 == 2

def WDesc.heads (d : WDesc) : Nat := if d.attn then leAt d.geom 0 2 else 1
def WDesc.kvHeads (d : WDesc) : Nat := if d.attn then leAt d.geom 2 2 else 1
def WDesc.aHead (d : WDesc) : Nat := if d.attn then leAt d.geom 4 4 else 0
def WDesc.bHead (d : WDesc) : Nat := if d.attn then leAt d.geom 8 4 else 0
def WDesc.oHead (d : WDesc) : Nat := if d.attn then leAt d.geom 12 4 else 0

/-- Codes of one activation row in memory: K, or the channels of a pixel. -/
def WDesc.aLen (d : WDesc) : Nat := if d.jkind = 2 ∨ d.jkind = 5 then d.geo.c else d.k

/-- Images of a CONV or REDUCE batch. -/
def WDesc.images (d : WDesc) : Nat := d.m / max (d.geo.ho * d.geo.wo) 1

/-- Activation rows of one head: rows, or pixels of the batch. -/
def WDesc.aRows (d : WDesc) : Nat := if d.jkind = 2 ∨ d.jkind = 5 then d.images * d.geo.h * d.geo.w else d.m

def headDim (n : Nat) : Bool := n == 32 || n == 64 || n == 128 || n == 256

/-- The kind's own limits. -/
def WDesc.geoOk (d : WDesc) : Bool :=
  let g := d.geo
  let hw := g.ho * g.wo
  match d.jkind with
  | 1 => leNat d.geom == 0
  | 2 => decide (leAt d.geom 11 5 = 0 ∧ 1 ≤ g.h ∧ 1 ≤ g.w ∧ 1 ≤ g.c ∧ 1 ≤ g.r ∧ g.r ≤ 11 ∧ 1 ≤ g.s ∧ g.s ≤ 11 ∧ 1 ≤ g.stride ∧ g.stride ≤ 4
      ∧ g.pad ≤ 5 ∧ 1 ≤ g.dil ∧ g.dil ≤ 4 ∧ d.k = g.r * g.s * g.c ∧ 0 < hw ∧ d.m % hw = 0)
  | 5 =>
    let wh := leAt d.geom 1 1
    let ww := leAt d.geom 2 1
    decide (leAt d.geom 8 8 = 0 ∧ (leAt d.geom 0 1 = 1 ∨ leAt d.geom 0 1 = 2) ∧ wh ≤ 16 ∧ ww ≤ 16 ∧ (wh = 0 ↔ ww = 0) ∧ 1 ≤ g.stride ∧ g.stride ≤ 4
      ∧ 1 ≤ g.h ∧ 1 ≤ g.w ∧ d.k = g.r * g.s ∧ 0 < hw ∧ d.m % hw = 0)
  | _ =>
    decide (0 < d.heads ∧ 0 < d.kvHeads ∧ d.heads % d.kvHeads = 0 ∧ d.aHead % 64 = 0 ∧ d.bHead % 64 = 0 ∧ d.oHead % 64 = 0)
    && headDim (if d.jkind = 3 then d.k else d.n)

/-- Bytes of an output row. -/
def WDesc.outBytes (d : WDesc) : Nat :=
  if d.fo = 7 then 4 * d.n else if d.fo = 8 then 2 * d.n else 64 * slivers d.fo d.n

def aligned (n : Nat) : Bool := n % 64 == 0

/-- The checks whose failure is BAD_DESC; `addr` is the descriptor's own address (R196, R201, R203, R210, R217, R222, R234, R236). -/
def WDesc.descOk (d : WDesc) (addr : Nat) : Bool :=
  decide (1 ≤ d.jkind ∧ d.jkind ≤ 5 ∧ d.path ≤ 1 ∧ d.flags < 128 ∧ 1 ≤ d.fa ∧ d.fa ≤ 8 ∧ d.fb ≤ 8 ∧ 1 ≤ d.fo ∧ d.fo ≤ 8 ∧ d.grp ≤ 2
    ∧ 1 ≤ d.m ∧ d.m ≤ 2 ^ 24 ∧ 1 ≤ d.n ∧ d.n ≤ 65536 ∧ 1 ≤ d.k ∧ d.k ≤ 65536 ∧ d.frac ≤ 63 ∧ (d.act ≤ 7 ∨ d.act = 0xFF) ∧ d.shift ≤ 63
    ∧ d.biasShl ≤ 31 ∧ d.mult < 2 ^ 31 ∧ d.zero = 0 ∧ (d.ctx < 256 ∨ d.ctx = 0xFFFF))
  && (if d.act = 0xFF then decide (8 ≤ d.seg ∧ d.seg ≤ 24) else d.seg == 0 && d.table == 0)
  && [addr, d.a, d.b, d.o, d.bias, d.mults, d.table, d.report, d.aStride, d.bStride, d.oStride].all aligned
  && (!d.aStream || d.a == 0) && (!d.oStream || d.o == 0)
  && d.geoOk
  && (!d.softmax || (d.jkind == 3 && d.act != 0 && decide (d.n ≤ 8192)))
  && (!d.rotate || d.n % 16 == 0)
  && (!d.side || (!d.aStream && !d.oStream))
  && (decide (6 < d.fa) || decide (64 * slivers d.fa d.aLen ≤ d.aStride))
  && (d.jkind == 5 || d.fb == 0 || decide (6 < d.fb) || decide (64 * slivers d.fb (if d.jkind = 4 then d.n else d.k) ≤ d.bStride))
  && ((decide (6 < d.fo) && !d.oStream) || decide (ceilDiv d.outBytes 64 * 64 ≤ d.oStride))
  && (!d.aStream || decide (d.aStride ≤ 4096)) && (!d.oStream || decide (d.oStride ≤ 4096))

/-- The checks whose failure is BAD_FORMAT (R204, R237). -/
def WDesc.formatOk (d : WDesc) : Bool :=
  let f0 := fun (x : Nat) => x == 1 || x == 2 || x == 5 || x == 6
  (if d.path = 1 then decide (1 ≤ d.fa ∧ d.fa ≤ 4) else f0 d.fa && d.zp == 0)
  && (d.zp == 0 || d.fa == 3 || d.fa == 4)
  && (if d.jkind = 5 then d.fb == 0 else if d.path = 1 then (d.fb == 1 || d.fb == 2) else f0 d.fb)
  && !(d.jkind == 4 && d.path == 1)

/-! ### Accumulation (R205, R236, R237) -/

/-- One term: its group key, the exact product (m, e), and the sum of the operands' group scales. -/
structure Term where
  key : Nat × Nat × Nat
  m : Int
  e : Int
  g : Int
  deriving DecidableEq, Repr

/-- Path 1: the partial sums of maximal runs of one group, each aligned once. -/
def runSums (frac : Int) : List Term → Nat × Nat × Nat → Int → Int → Int
  | [], _, p, g => alignI p (g + frac)
  | t :: ts, key, p, g =>
    if t.key = key then runSums frac ts key (p + t.m) g
    else alignI p (g + frac) + runSums frac ts t.key t.m t.g

/-- The exact sum of a reduction before saturation. -/
def accumulate (path : Nat) (frac : Int) (ts : List Term) : Int :=
  if path = 1 then (match ts with | [] => 0 | t :: ts => runSums frac ts t.key t.m t.g)
  else (ts.map (fun t => alignI t.m (t.e + t.g + frac))).sum

/-- The largest aligned value of a window. -/
def windowMax (frac : Int) : List Term → Int
  | [] => 0
  | [t] => alignI t.m (t.e + t.g + frac)
  | t :: ts => max (alignI t.m (t.e + t.g + frac)) (windowMax frac ts)

/-- A row's element `i`: value and group scale; none where the group reads as zero. -/
def elementOf (els : List (Int × Int)) (scales : List (Option Int)) (grp i : Nat) : Option (Int × Int × Int) :=
  match scales.getD (i / groupSize grp) none with
  | some g => let v := els.getD i (0, 0); some (v.1, v.2, g)
  | none => none

/-! ### Output stage (R208 to R210, R234) -/

/-- R209: a table entry pair applied to z. -/
def tableAt (entry : Nat → Int × Int) (s : Nat) (z : Int) : Int :=
  let i := clampI 0 255 (z / 2 ^ s + 128)
  let start := (i - 128) * 2 ^ s
  let e := entry i.toNat
  satS 32 (e.1 + rneShr (e.2 * (z - start)) 16)

/-- SEG_SHIFT of a firmware table. -/
def fwSeg (act : Nat) : Nat := if act = 1 then 16 else if act = 5 then 12 else 13

/-- rne(a / b) for b > 0. -/
def rneDiv (a b : Int) : Int :=
  let q := a / b
  let r := a % b
  if b < 2 * r ∨ (2 * r = b ∧ q % 2 = 1) then q + 1 else q

/-- Softmax of a row: the exact quotients rounded half to even; none where the sum of E is zero with a non-zero E (R210). -/
def softmaxRow (f : Int → Int) (zs : List Int) : Option (List Int) :=
  let top := zs.foldl max (zs.headD 0)
  let es := zs.map (fun z => f (z - top))
  let s := es.sum
  if es.all (· == 0) then some es
  else if s = 0 then none
  else some (es.map (fun e => if 0 < s then rneDiv (e * 65536) s else rneDiv (-(e * 65536)) (-s)))

/-- The normalised Hadamard transform of a block of 16: each value, and whether sat changed it (R234). -/
def hadamard (z : List Int) : List (Int × Bool) :=
  let raw := (List.range 16).map (fun i =>
    rneShr ((List.range 16).map (fun k => if popCount 4 (i &&& k) % 2 = 1 then -(z.getD k 0) else z.getD k 0)).sum 2)
  raw.map (fun v => (satS 32 v, satS 32 v != v))

def rotateRow (zs : List Int) : List (Int × Bool) :=
  (List.range (zs.length / 16)).flatMap (fun j => hadamard ((zs.drop (16 * j)).take 16))

/-- What one output row gives: its bytes, its side record, and its counts. -/
structure OutRow where
  bytes : List Byte := []
  side : List Byte := []
  clips : Nat := 0
  narrowed : Nat := 0
  big : Nat := 0
  deriving DecidableEq, Repr

/-- Side entries taken so far while a row is narrowed. -/
structure SideAcc where
  codes : List Nat := []
  entries : List (Nat × Int) := []
  excess : Nat := 0
  clips : Nat := 0

/-- Whether each group fixes its own scale: no value of it is taken for the side channel (R235; log 194). -/
def ScaleSrc.isOwn : ScaleSrc → Bool
  | .own _ => true
  | _ => false

/-- Steps 5 to 7 of R208 on a row of Z' (after rotation); `sat` marks the values that rotation has clipped, which count once (R231). -/
def narrowRow (d : WDesc) (src : ScaleSrc) (row : Nat) (zs : List Int) (sat : List Bool) : OutRow :=
  let g := groupSize d.grp
  let groups := (List.range (ceilDiv zs.length g)).map (fun i => (zs.drop (i * g)).take g)
  let scales := groups.map (fun l => groupScale src d.fo (l.foldl (fun b z => max b z.natAbs) 0) (l.all (· == 0)))
  let acc := (List.range zs.length).foldl (fun (acc : SideAcc) i =>
    let z := zs.getD i 0
    let was := sat.getD i false
    match scales.getD (i / g) none with
    | none => { acc with codes := acc.codes ++ [0], clips := acc.clips + b2n was }
    | some t =>
      let r := narrow d.fo (if d.stoch then some (srand16 d.seed row i) else none) z (-16 - t)
      if r.2 && d.side && !src.isOwn then
        (if acc.entries.length < 7 then { acc with codes := acc.codes ++ [0], entries := acc.entries ++ [(i, z)], clips := acc.clips + b2n was }
         else { acc with codes := acc.codes ++ [r.1], excess := acc.excess + 1, clips := acc.clips + 1 })
      else { acc with codes := acc.codes ++ [r.1], clips := acc.clips + b2n (r.2 || was) }) {}
  { bytes := packRow d.fo d.grp d.rotate d.side acc.codes (scales.map (fun t => match t with | none => 0 | some t => (t + 127).toNat))
    side := [BitVec.ofNat 8 acc.entries.length, BitVec.ofNat 8 (min acc.excess 255)] ++ List.replicate 6 0
      ++ slice (acc.entries.flatMap (fun e => leBytes 2 e.1 ++ leBytes 2 0 ++ leBytes 4 (low 32 e.2))) 0 56
    clips := acc.clips, narrowed := zs.length, big := zs.foldl (fun b z => max b z.natAbs) 0 }

/-- Steps 4 to 7 of R208. -/
def finishRow (d : WDesc) (src : ScaleSrc) (row : Nat) (zs : List Int) : OutRow :=
  let l := if d.rotate then rotateRow zs else zs.map (fun z => (z, false))
  let zs := l.map (·.1)
  let sat := l.map (·.2)
  if d.fo = 7 then
    { bytes := zs.flatMap (fun z => leBytes 4 (low 32 z)), side := List.replicate 64 0, clips := (sat.filter id).length }
  else if d.fo = 8 then
    let h := zs.map (fun z => toBinary16 z (-16))
    { bytes := h.flatMap (fun x => leBytes 2 x.1), side := List.replicate 64 0
      clips := ((h.zip sat).filter (fun x => x.1.2 || x.2)).length }
  else narrowRow d src row zs sat

end Sys2Proof.Machine
end

