-- ==== Sys2Proof/Machine/WhlPass.lean ====
section
/-! DEFINITION. The work of a Whorl job: its reads, passes and writes (08 R199, R203 to R211; 09 R221, R235 to R237). -/

namespace Sys2Proof.Machine

/-! ### A job's working values -/

/-- An activation row with its side record. -/
structure ARow where
  row : Row := {}
  side : List (Nat × Int) := []
  deriving DecidableEq, Repr

/-- The values a running job holds. -/
structure Work where
  run : WhlRun
  rows : NMap ARow := []
  cols : List OpRow := []
  bias : List Int := []
  mults : List (Option Nat) := []
  custom : List Byte := []
  packets : List Packet := []
  rot : Option Bool := none
  deriving DecidableEq, Repr

/-- A cause of R201 and the failing address. -/
structure WStop where
  cause : Nat := 0
  addr : Nat := 0
  deriving DecidableEq, Repr

def whlCause : Status → Nat
  | .access | .decode => 4
  | _ => 5

/-- A read for a job; DRAM bytes are counted. -/
def State.whlRead (s : State) (req : Nat) (w : Work) (a n : Nat) : Except WStop (List Byte × Work) × State :=
  match s.engRead w.run.hank req a n with
  | (.ok, _, bs, s) =>
    (.ok (slice bs 0 n, { w with run := { w.run with usedDram := w.run.usedDram + (if dramBase ≤ a then n else 0) } }), s)
  | (st, x, _, s) => (.error { cause := whlCause st, addr := x }, s)

/-- ROT of every first sliver that is not empty is the same (R221). -/
def Work.seeRot (w : Work) (d : WDesc) (rot : Option Bool) : Except WStop Work :=
  match rot, w.rot with
  | none, _ => .ok w
  | some _, _ =>
    if d.jkind = 5 then .ok w
    else if w.rot.isNone then .ok { w with rot := rot }
    else if w.rot = rot then .ok w else .error { cause := 2 }

/-- A row's slivers checked and taken in; a stop keeps what the work has counted (R219, R221, R231). -/
def Work.takeRow (w : Work) (d : WDesc) (fmt zp k : Nat) (bs : List Byte) : Except (WStop × Work) (Row × Work) :=
  let q := readRow fmt d.grp zp k bs
  let w := { w with run := { w.run with invalid := w.run.invalid + q.2.invalid } }
  if q.1 ≠ 0 then .error ({ cause := q.1 }, w)
  else match w.seeRot d q.2.rot with
    | .ok w => .ok (q.2, w)
    | .error e => .error (e, w)

/-- Rows of B: their number and, for row `i`, its address and codes (R237). -/
def WDesc.bRows (d : WDesc) : Nat := if d.jkind = 5 then 0 else d.kvHeads * (if d.jkind = 4 then d.k else d.n)
def WDesc.bPer (d : WDesc) : Nat := if d.jkind = 4 then d.k else d.n
def WDesc.bCodes (d : WDesc) : Nat := if d.jkind = 4 then d.n else d.k
def WDesc.bAddrOf (d : WDesc) (i : Nat) : Nat := d.b + i / d.bPer * d.bHead + i % d.bPer * d.bStride

/-- The weights are read. -/
def State.loadB (s : State) (req : Nat) (d : WDesc) : Nat → Nat → Work → Except (WStop × Work) Work × State
  | 0, _, w => (.ok w, s)
  | f + 1, i, w =>
    match s.whlRead req w (d.bAddrOf i) (64 * slivers d.fb d.bCodes) with
    | (.error e, s) => (.error (e, w), s)
    | (.ok (bs, w), s) =>
      match w.takeRow d d.fb 0 d.bCodes bs with
      | .error e => (.error e, s)
      | .ok (r, w) => s.loadB req d f (i + 1) { w with cols := w.cols ++ [{ els := r.els, scales := r.scales }] }

/-- Biases, multipliers and the custom table are read; a multiplier with bit 31 set gives no stated product (R196, R208). -/
def State.loadParams (s : State) (req : Nat) (d : WDesc) (w : Work) : Except WStop Work × State :=
  let r : Except WStop (List Byte × Work) × State := if d.bias = 0 then (.ok ([], w), s) else s.whlRead req w d.bias (4 * d.n)
  match r with
  | (.error e, s) => (.error e, s)
  | (.ok (b, w), s) =>
    let r : Except WStop (List Byte × Work) × State := if d.mults = 0 then (.ok ([], w), s) else s.whlRead req w d.mults (4 * d.n)
    match r with
    | (.error e, s) => (.error e, s)
    | (.ok (m, w), s) =>
      let r : Except WStop (List Byte × Work) × State := if d.act ≠ 0xFF then (.ok ([], w), s) else s.whlRead req w d.table 2048
      match r with
      | (.error e, s) => (.error e, s)
      | (.ok (t, w), s) =>
        (.ok { w with
            bias := if d.bias = 0 then [] else (List.range d.n).map (fun n => sx 32 (leAt b (4 * n) 4))
            mults := (List.range d.n).map (fun n =>
              if d.mults = 0 then some d.mult else let v := leAt m (4 * n) 4; if bit v 31 then none else some v)
            custom := t }, s)

/-- The entries of a side record (R235). -/
def sideEntries (b : List Byte) : List (Nat × Int) :=
  (List.range (min (leAt b 0 1) 7)).map (fun i => (leAt b (8 + 8 * i) 2, sx 32 (leAt b (12 + 8 * i) 4)))

/-- Activation row `m` of head `h`, read once. -/
def State.loadA (s : State) (req : Nat) (d : WDesc) (h m : Nat) (w : Work) : Except (WStop × Work) Work × State :=
  let key := h * d.aRows + m
  if (mget? w.rows key).isSome then (.ok w, s)
  else
    let n := 64 * slivers d.fa d.aLen
    let base := d.a + h * d.aHead
    let r : Except WStop (List Byte × Work) × State :=
      if d.aStream then
        let p := w.packets.getD key {}
        (if p.poison then .error { cause := 5 } else .ok (slice p.bytes 0 n, w), s)
      else s.whlRead req w (base + m * d.aStride) n
    match r with
    | (.error e, s) => (.error (e, w), s)
    | (.ok (bs, w), s) =>
      match w.takeRow d d.fa d.zp d.aLen bs with
      | .error e => (.error e, s)
      | .ok (row, w) =>
        if d.side then
          match s.whlRead req w (base + d.aRows * d.aStride + 64 * m) 64 with
          | (.error e, s) => (.error (e, w), s)
          | (.ok (sb, w), s) => (.ok { w with rows := mset w.rows key { row := row, side := sideEntries sb } }, s)
        else (.ok { w with rows := mset w.rows key { row := row } }, s)

def State.loadAs (s : State) (req : Nat) (d : WDesc) (h : Nat) : List Nat → Work → Except (WStop × Work) Work × State
  | [], w => (.ok w, s)
  | m :: l, w =>
    match s.loadA req d h m w with
    | (.ok w, s) => s.loadAs req d h l w
    | r => r

/-! ### Which elements an output uses -/

/-- Row and element of A for each k of output row `m`; none where padding contributes zero (Job kinds). -/
def WDesc.taps (d : WDesc) (m n : Nat) : List (Nat × Nat × Nat) :=
  let g := d.geo
  let hw := g.ho * g.wo
  let img := m / max hw 1
  let oy := m % max hw 1 / max g.wo 1
  let ox := m % max hw 1 % max g.wo 1
  if d.jkind = 2 then
    (List.range d.k).filterMap (fun k =>
      let c := k % max g.c 1
      let q := k / max g.c 1
      let y := oy * g.stride + q / max g.s 1 * g.dil
      let x := ox * g.stride + q % max g.s 1 * g.dil
      if g.pad ≤ y ∧ y < g.h + g.pad ∧ g.pad ≤ x ∧ x < g.w + g.pad then
        some (k, (img * g.h + (y - g.pad)) * g.w + (x - g.pad), c)
      else none)
  else if d.jkind = 5 then
    (List.range d.k).map (fun k => (k, (img * g.h + (oy * g.stride + k / max g.s 1)) * g.w + (ox * g.stride + k % max g.s 1), n))
  else (List.range d.k).map (fun k => (k, m, k))

/-- The rows of A that output row `m` reads. -/
def WDesc.rowsOf (d : WDesc) (m : Nat) : List Nat := ((d.taps m 0).map (·.2.1)).eraseDups

/-- Element (k, n) of B of head `h`. -/
def Work.bEl (w : Work) (d : WDesc) (h k n : Nat) : Option (Int × Int × Int) :=
  if d.jkind = 5 then some (1, 0, 0)
  else
    let kv := h / (d.heads / max d.kvHeads 1)
    let r := if d.jkind = 4 then w.cols.getD (kv * d.k + k) {} else w.cols.getD (kv * d.n + n) {}
    elementOf r.els r.scales d.grp (if d.jkind = 4 then n else k)

/-- The terms of output (m, n) of head `h`, and the side terms, one for each entry (R205, R236). -/
def Work.terms (w : Work) (d : WDesc) (h m n : Nat) : List Term × List Term :=
  let l := d.taps m n
  let main := l.filterMap (fun t =>
    let a := mget w.rows (h * d.aRows + t.2.1) {}
    match elementOf a.row.els a.row.scales d.grp t.2.2, w.bEl d h t.1 n with
    | some x, some y =>
      some { key := (t.2.1, t.2.2 / groupSize d.grp, t.1 / groupSize d.grp), m := x.1 * y.1, e := x.2.1 + y.2.1, g := x.2.2 + y.2.2 }
    | none, some _ => if d.jkind = 5 then some { key := (t.2.1, 0, 0), m := 0, e := 0, g := 0 } else none
    | _, none => none)
  let side := if d.side then l.flatMap (fun t =>
      let a := mget w.rows (h * d.aRows + t.2.1) {}
      match w.bEl d h t.1 n with
      | none => []
      | some y => (a.side.filter (fun e => e.1 == t.2.2)).map (fun e => { key := (0, 0, 0), m := e.2 * y.1, e := y.2.1 - 16, g := y.2.2 }))
    else []
  (main, side)

/-- X before saturation (R205, R236). -/
def Work.exact (w : Work) (d : WDesc) (h m n : Nat) : Int :=
  let t := w.terms d h m n
  let f : Int := d.frac
  (if d.jkind = 5 ∧ d.isMax then windowMax f t.1 else accumulate d.path f t.1) + (t.2.map (fun x => alignI x.m (x.e + x.g + f))).sum

/-- Entry `i` of the activation table the job uses. -/
def Work.entry (w : Work) (d : WDesc) (tables : Nat) (i : Nat) : Int × Int :=
  if d.act = 0xFF then (sx 32 (leAt w.custom (8 * i) 4), sx 32 (leAt w.custom (8 * i + 4) 4))
  else let v := Config.actTable tables d.act i; (sx 32 v, sx 32 (v / 2 ^ 32))

/-- The tile of an array whose output stage takes column `n`. -/
def colTile (shape first n : Nat) : Nat :=
  let rows := if shape = 3 ∨ shape = 5 then 2 else 1
  let cols := match shape with | 1 => 1 | 2 | 3 => 2 | _ => 4
  (arrayTiles shape first).getD ((rows - 1) * cols + n % (64 * cols) / 64) first

/-- The values of a row, with a free value for each element for which the spec states no result. -/
def State.drawRow (s : State) : List (Option Int) → List Int × State
  | [] => ([], s)
  | some v :: l => let q := s.drawRow l; (v :: q.1, q.2)
  | none :: l => let r := s.draw; let q := r.2.drawRow l; (sx 32 r.1 :: q.1, q.2)

/-- Steps 1 and 2 of R208 on column `n`, with a free value where the multiplier is not one. -/
def State.requant (s : State) (w : Work) (d : WDesc) (n : Nat) (x : Int) : Int × State :=
  let x' := if d.bias = 0 then x else satS 64 (x + w.bias.getD n 0 * 2 ^ d.biasShl)
  match w.mults.getD n none with
  | some m => (satS 32 (rneShr (x' * m) d.shift), s)
  | none => let r := s.draw; (sx 32 r.1, r.2)

/-- Z of a whole row, with the saturated accumulators counted (R206). -/
def State.rowZ (s : State) (d : WDesc) (shape first h m : Nat) (w : Work) : Nat → Nat → List Int → List Int × Work × State
  | 0, _, zs => (zs.reverse, w, s)
  | f + 1, n, zs =>
    let x := w.exact d h m n
    let y := satS 64 x
    let t := colTile shape first n
    let w := if x = y then w else
      { w with run := { w.run with accSat := w.run.accSat + 1, satTile := mupd w.run.satTile t 0 (· + 1) } }
    let r := s.requant w d n y
    r.2.rowZ d shape first h m w f (n + 1) (r.1 :: zs)

/-- Step 3 of R208 on a row: the table, or softmax (R209, R210). -/
def State.rowAct (s : State) (w : Work) (d : WDesc) (tables : Nat) (zs : List Int) : List Int × State :=
  if d.act = 0 then (zs, s)
  else
    let f := tableAt (w.entry d tables) (if d.act = 0xFF then d.seg else fwSeg d.act)
    if d.softmax then
      match softmaxRow f zs with
      | some l => s.drawRow (l.map (fun v => if satS 32 v = v then some v else none))
      | none => s.drawRow (zs.map (fun _ => none))
    else (zs.map f, s)

/-! ### The rows of a job -/

/-- Where a job runs: its array's shape, first tile and tables, its scale source, and whether its output meets what it reads. -/
structure WPlace where
  shape : Nat
  first : Nat
  tables : Nat
  src : ScaleSrc
  meets : Bool
  deriving DecidableEq, Repr

/-- The address ranges a job reads in memory: start and length; resident weights are not read (R211). -/
def WDesc.inRanges (d : WDesc) (reuse : Bool) : List (Nat × Nat) :=
  let rows := (List.range d.heads).flatMap (fun h => (List.range d.aRows).map (fun m => (h, m)))
  (if d.aStream then [] else rows.map (fun x => (d.a + x.1 * d.aHead + x.2 * d.aStride, 64 * slivers d.fa d.aLen)))
  ++ (if d.side then rows.map (fun x => (d.a + x.1 * d.aHead + d.aRows * d.aStride + 64 * x.2, 64)) else [])
  ++ (if reuse then [] else (List.range d.bRows).map (fun i => (d.bAddrOf i, 64 * slivers d.fb d.bCodes)))
  ++ (if d.bias = 0 then [] else [(d.bias, 4 * d.n)]) ++ (if d.mults = 0 then [] else [(d.mults, 4 * d.n)])
  ++ (if d.act = 0xFF then [(d.table, 2048)] else [])

/-- Those its outputs and side records are written to. -/
def WDesc.outRanges (d : WDesc) : List (Nat × Nat) :=
  if d.oStream then []
  else (List.range d.heads).flatMap (fun h => (List.range d.m).flatMap (fun m =>
    (d.o + h * d.oHead + m * d.oStride, d.outBytes)
      :: (if d.side then [(d.o + h * d.oHead + d.m * d.oStride + 64 * m, 64)] else [])))

/-- Whether an output range overlaps a range the job reads (R203). -/
def WDesc.meets (d : WDesc) (reuse : Bool) : Bool :=
  d.outRanges.any (fun x => (d.inRanges reuse).any (fun y => decide (x.1 < y.1 + y.2 ∧ y.1 < x.1 + x.2)))

/-- Of each byte a job computes, a free value chooses between it and what memory holds (R203; log 167). -/
def State.oldOrNew (s : State) (a : Nat) (bs : List Byte) : List Byte × State :=
  let r := s.draw
  (bs.mapIdx (fun i b => match s.target (a + i) with
    | .skein _ | .dram _ => if bit r.1 i then memGet s.mem (a + i) else b
    | _ => b), r.2)

/-- One write of an output or side record; where the output meets what the job reads, each byte is the old one or the computed one. -/
def State.whlWrite (s : State) (req h : Nat) (w : Work) (meets : Bool) (a : Nat) (bs : List Byte) : Except WStop Work × State :=
  let f : List Byte × State := if meets then s.oldOrNew a bs else (bs, s)
  match f.2.engWrite h req a f.1 with
  | (.ok, _, s) => (.ok { w with run := { w.run with usedDram := w.run.usedDram + (if dramBase ≤ a then bs.length else 0) } }, s)
  | (st, x, s) => (.error { cause := whlCause st, addr := x }, s)

/-- Output row `m` of head `h`: its reads, its values, its writes. -/
def State.whlRow (s : State) (p : WPlace) (d : WDesc) (h m : Nat) (w : Work) : (Option WStop × Work) × State :=
  let req := 84 + p.first
  match s.loadAs req d h (d.rowsOf m) w with
  | (.error (e, w), s) => ((some e, w), s)
  | (.ok w, s) =>
    let (zs, w, s) := s.rowZ d p.shape p.first h m w d.n 0 []
    let (zs, s) := s.rowAct w d p.tables zs
    let o := finishRow d p.src m zs
    let run := { w.run with clips := w.run.clips + o.clips, narrowed := w.run.narrowed + o.narrowed, jobMax := max w.run.jobMax o.big }
    let w := { w with run := run }
    let base := d.o + h * d.oHead
    let r : Except WStop Work × State :=
      if d.oStream then (.ok w, s.sendPacket (0x3000 + 16 * p.first + 2) w.run.hank (slice o.bytes 0 d.oStride))
      else s.whlWrite req w.run.hank w p.meets (base + m * d.oStride) o.bytes
    match r with
    | (.error e, s) => ((some e, w), s)
    | (.ok w, s) =>
      let r : Except WStop Work × State :=
        if d.side then s.whlWrite req w.run.hank w p.meets (base + d.m * d.oStride + 64 * m) o.side else (.ok w, s)
      match r with
      | (.error e, s) => ((some e, w), s)
      | (.ok w, s) => ((none, { w with run := { w.run with rows := w.run.rows + 1 } }), s)

/-- Rows from number `i` on, over all heads, up to `f` of them or the first stop. -/
def State.whlRows (s : State) (p : WPlace) (d : WDesc) : Nat → Nat → Work → (Option WStop × Work) × State
  | 0, _, w => ((none, w), s)
  | f + 1, i, w =>
    match s.whlRow p d (i / d.m) (i % d.m) w with
    | ((none, w), s) => s.whlRows p d f (i + 1) w
    | r => r

def WhlRun.stop (r : WhlRun) (e : WStop) : WhlRun := { r with cause := e.cause, failAddr := e.addr }

/-- Whether a job may use the array's resident weights (R211). -/
def WArray.reuses (x : WArray) (d : WDesc) (h : Nat) : Bool :=
  x.wkeepEn && d.wkeep && (d.jkind == 1 || d.jkind == 2) &&
  (match x.resident with
   | some r => r.hank == h && r.wkey == d.wkey && r.bAddr == d.b && r.bStride == d.bStride && r.fmtB == d.fb && r.group == d.grp
       && r.n == d.n && r.k == d.k
   | none => false)

/-- The weights a served job leaves resident (R211). -/
def residentOf (x : WArray) (d : WDesc) (w : Work) (rot : Option Bool) : Option Resident :=
  if d.wkeep ∧ d.wkey ≠ 0 ∧ (d.jkind = 1 ∨ d.jkind = 2) ∧ 2 * (d.n * slivers d.fb d.k * 64) ≤ (arrayTiles x.shape x.first).length * mib then
    some { hank := w.run.hank, wkey := d.wkey, bAddr := d.b, bStride := d.bStride, fmtB := d.fb, group := d.grp, n := d.n, k := d.k
           cols := w.cols, rot := rot }
  else none

/-- Output rows whose activation rows have all arrived, of a job that streams them. -/
def WDesc.arrived (d : WDesc) (packets : Nat) : Nat :=
  ((List.range (d.heads * d.m)).takeWhile (fun i => (d.rowsOf (i % d.m)).all (fun r => decide (i / d.m * d.aRows + r < packets)))).length

/-- What a checked job does from its first pass on: loads and rows, up to the first failure. A job that meets an uncorrectable tile
SRAM error, or is stopped, has done a number of its rows that the spec leaves open. -/
def State.whlRun (s : State) (a : Nat) (run : WhlRun) (packets : List Packet) (stopped : Bool) : WhlRun × State :=
  let x := s.arr a
  let d := parseWhl run.desc
  let req := 84 + x.first
  let w : Work := { run := { run with streaming := false }, packets := packets }
  let reuse := x.reuses d run.hank
  let held := x.resident.getD {}
  let r : Except (WStop × Work) Work × State :=
    if reuse then
      let w := { w with cols := held.cols, run := { w.run with reused := true } }
      (match w.seeRot d held.rot with | .ok w => .ok w | .error e => .error (e, w), s)
    else s.loadB req d d.bRows 0 w
  match r with
  | (.error (e, w), s) => (w.run.stop e, s)
  | (.ok w, s) =>
    let rot := if reuse then held.rot else w.rot
    match s.loadParams req d w with
    | (.error e, s) => (w.run.stop e, s)
    | (.ok w, s) =>
      let total := d.heads * d.m
      let can := if d.aStream then d.arrived packets.length else total
      let poison := d.aStream ∧ packets.length < d.heads * d.aRows ∧ packets.any (·.poison)
      let k : Nat × State := if run.ue ∨ stopped then let r := s.draw; (r.1 % (can + 1), r.2) else (can, s)
      match k.2.whlRows { shape := x.shape, first := x.first, tables := x.tables.getD 0, src := run.src, meets := d.meets reuse } d k.1 0 w with
      | ((some e, w), s) => (w.run.stop e, s)
      | ((none, w), s) =>
        if run.ue ∨ (poison ∧ !stopped) then (w.run.stop { cause := 5 }, s)
        else ({ w.run with keep := residentOf x d w rot }, s)

/-- The packets at the array's input port, taken for a streaming job. -/
def State.whlPackets (s : State) (a : Nat) (r : WhlRun) : List Packet × State :=
  if r.streaming then
    let e := 0x3000 + 16 * (s.arr a).first
    let d := parseWhl r.desc
    s.consume e (d.aRows * d.heads)
  else ([], s)

/-- A running job's work up to a stop: a free number of its rows; a fault met in them ends the job before its stop does (R201, R202). -/
def State.whlHalfway (s : State) (a : Nat) (r : WhlRun) : WhlRun × State :=
  if r.cause ≠ 0 then (r, s)
  else
    let p := s.whlPackets a r
    let q := p.2.whlRun a r p.1 true
    (if q.1.cause ≠ 0 then q.1 else { q.1 with keep := none, cause := 8 }, q.2)

end Sys2Proof.Machine
end

