-- ==== Sys2Proof/Machine/Jobs.lean ====
section
/-! DEFINITION. Jobs: tick numbers, capacity, submission, job slots, completion records and the stop of a job
(01 R24 to R29; 03 R61 to R86; 08 R200 to R202; 11 R276; 12 R296; 18 R415). -/

namespace Sys2Proof.Machine

/-! ### Boundaries (03 R61, R62) -/

def nsPerS : Nat := 1000000000
def granuleNs : Nat := 250000

/-- TIME_NS of the boundary that opens tick `t`. -/
def boundaryTime (n phase t : Nat) : Nat :=
  t / n * nsPerS + (phase + t % n * 4000 / n) * granuleNs

/-- The tick opened by the first boundary at or after TIME_NS `t`. -/
def firstTick (n phase t : Nat) : Nat :=
  let sec := t / nsPerS
  let g := ceilDiv (t % nsPerS) granuleNs
  if g ≤ phase then sec * n
  else
    let k := ceilDiv ((g - phase) * n) 4000
    if n ≤ k then (sec + 1) * n else sec * n + k

/-- The tick the next boundary sequence of a ply opens: the first boundary not yet run, or, when TIME_NS has passed several,
the last one passed (03 R63, R76). -/
def nextTickOf (time : Nat) (pl : Ply) : Nat :=
  max (firstTick pl.ticksPerS pl.phase pl.openAt) (firstTick pl.ticksPerS pl.phase (time + 1) - 1)

def State.nextTick (s : State) (p : Nat) : Nat := nextTickOf s.tck.time (s.ply p)

/-- The shorter period of a pattern in granules (03 R62). -/
def pMin (n : Nat) : Nat := 4000 / n

/-! ### Capacity (03 R68; 18 R411) -/

/-- Tiles of the formed arrays of ply `p`. -/
def State.formedTiles (s : State) (p : Nat) : Nat :=
  ((s.arrays.filter (fun e => e.2.formed && e.2.ply == p)).map (fun e => (arrayTiles e.2.shape e.2.first).length)).sum

/-- Tiles of the ply's arrays as woven. -/
def State.wovenTiles (s : State) (p : Nat) : Nat :=
  (((imageArrays s.img).filter (fun r => r.ply == p)).map (fun r => (arrayTiles r.shape r.first).length)).sum

/-- The clusters of a ply that count. -/
def State.countingClusters (s : State) (p : Nat) : List Nat :=
  match plyRec? s.img p with
  | some r => (List.range 4).filter (fun k => bit r.clusterMask k && s.counts (10 + k))
  | none => []

/-- The cores of a ply that count. -/
def State.countingCores (s : State) (p : Nat) : List Nat :=
  (s.countingClusters p).flatMap (fun k => ((List.range 4).map (4 * k + ·)).filter (fun c => s.counts (48 + c)))

def State.wovenCores (s : State) (p : Nat) : Nat :=
  match plyRec? s.img p with
  | some r => 4 * popCount 4 r.clusterMask
  | none => 0

def capTileOf (tiles n : Nat) : Nat := tiles * 275000 * pMin n / 1024
def capSpindleOf (cores n : Nat) : Nat := cores * 300000 * pMin n / 1024

def State.capTile (s : State) (p : Nat) : Nat := capTileOf (s.formedTiles p) (s.ply p).ticksPerS
def State.capSpindle (s : State) (p : Nat) : Nat := capSpindleOf (s.countingCores p).length (s.ply p).ticksPerS

/-- Decode capacity in macroblocks a second: all engines, or those that count. -/
def State.capMb (s : State) : Nat :=
  3916800 * ((List.range 2).filter (fun e => s.counts (24 + e))).length

/-- A quota scaled to the capacity that is left (18 R411). -/
def scaled (q now woven : Nat) : Nat := if woven = 0 then 0 else if woven ≤ now then q else q * now / woven

/-- A hank's Reserved quotas in a ply: tile, Spindle, DRAM. -/
def State.quota (s : State) (r : HankRec) : Nat × Nat × Nat :=
  let p := r.ply
  let n := (s.ply p).ticksPerS
  if (s.ply p).state = 2 then
    (scaled r.resTile (s.capTile p) (capTileOf (s.wovenTiles p) n),
      scaled r.resSpindle (s.capSpindle p) (capSpindleOf (s.wovenCores p) n), r.resDram)
  else (r.resTile, r.resSpindle, r.resDram)

/-- RES_MB of a hank in a ply, scaled in a DEGRADED ply (18 R411). -/
def State.quotaMb (s : State) (r : HankRec) : Nat :=
  if (s.ply r.ply).state = 2 then scaled r.resMb s.capMb (3916800 * nDecode s.variant) else r.resMb

/-! ### The job table -/

/-- A job that holds a slot (01 R24). -/
def Job.holds (j : Job) : Bool :=
  match j.phase with
  | .queued | .selected => false
  | _ => true

def State.jobs (s : State) : List Job := s.tck.jobs
def State.setJobs (s : State) (l : List Job) : State := { s with tck := { s.tck with jobs := l } }
def State.job? (s : State) (id : Nat) : Option Job := s.jobs.find? (fun j => j.id == id)
def State.updJob (s : State) (id : Nat) (f : Job → Job) : State :=
  s.setJobs (s.jobs.map (fun j => if j.id = id then f j else j))
def State.dropJob (s : State) (id : Nat) : State := s.setJobs (s.jobs.filter (fun j => j.id != id))

/-- Jobs in flight. -/
def State.inFlight (s : State) : Nat := (s.jobs.filter Job.holds).length

/-- Whether a job of a class may take a slot (01 R25, R27). -/
def State.slotFree (s : State) (cls : Nat) : Bool :=
  if cls = 0 then decide (s.inFlight < jobsMax s.variant)
  else decide (s.inFlight < jobsMax s.variant - s.jobReserve)

/-- The unit of a peer's own job for a relay: its relay port, which no descriptor names. -/
def peerUnit : Nat := 0x100

/-- A selected job takes a slot (01 R24, R29); a relay job takes its peer's EPOCH (18 R414). -/
def State.admitJob (s : State) (id : Nat) : State :=
  let n := s.tck.nextSel
  let s := s.updJob id (fun j => { j with phase := .admitted, slotSeq := n
                                          epoch := if j.kind = 5 ∧ j.unit ≠ peerUnit then (mget s.stw.peers j.unit {}).epoch else j.epoch })
  let s := { s with tck := { s.tck with nextSel := n + 1 } }
  { s with peak := max s.peak s.inFlight }

/-! ### Completion records (03 R85, R86) -/

/-- The status codes of R86. -/
inductive JobStatus
  | served | servedLate | shed | dropped | noQuota | unavailable | peerLost
  deriving DecidableEq, Repr

def JobStatus.code : JobStatus → Nat
  | .served => 1 | .servedLate => 2 | .shed => 3 | .dropped => 4 | .noQuota => 5 | .unavailable => 6 | .peerLost => 7

/-- OVER_DECLARED of a job (03 R70). -/
def Job.overDeclared (j : Job) : Bool :=
  decide (j.costTile < ceilDiv j.usedTile 1024) || decide (j.costSpindle < ceilDiv j.usedSpindle 1024)
  || decide (j.costDram < ceilDiv j.usedDram 65536)

/-- The 64 bytes of a completion record. -/
def recordBytes (j : Job) (tick time : Nat) (st : JobStatus) (detail : Nat) (overran : Bool) : List Byte :=
  let carried := if st = .servedLate then min 255 (tick - j.target) else 0
  let flags := j.cls % 4 + 4 * (j.fate % 2) + 8 * b2n overran + 16 * b2n j.overDeclared
  leBytes 8 j.tag ++ leBytes 8 tick ++ leBytes 8 time
  ++ [BitVec.ofNat 8 st.code, BitVec.ofNat 8 detail, BitVec.ofNat 8 carried, BitVec.ofNat 8 flags]
  ++ leBytes 2 j.hank ++ leBytes 1 j.ply ++ [0]
  ++ leBytes 4 (min (ceilDiv j.usedTile 1024) (2 ^ 32 - 1)) ++ leBytes 4 (min (ceilDiv j.usedSpindle 1024) (2 ^ 32 - 1))
  ++ leBytes 4 (min (ceilDiv j.usedDram 65536) (2 ^ 32 - 1))
  ++ leBytes 4 (if st = .peerLost then j.epoch else 0) ++ List.replicate 16 0

/-- Ring entries: 2^n for n of 4 to 12, else no ring (03 TCK_Q_SUB_LO; log 29). -/
def ringSize (log2 : Nat) : Nat := if 4 ≤ log2 ∧ log2 ≤ 12 then 2 ^ log2 else 0

/-- A hank's pulse of an event: an event outside its range is an access error, KIND 5 (04 R107). -/
def State.hankPulse (s : State) (h e : Nat) : State :=
  if e = 0xFFFF then s
  else if s.ownsEvent h e then s.pulse e
  else s.accessError h e 5

/-- A completion status counts in the closing tick's statistics (03 R87). -/
def PlyStats.count (t : PlyStats) : JobStatus → PlyStats
  | .served => { t with served := satAdd 16 t.served 1 }
  | .servedLate => { t with late := satAdd 16 t.late 1 }
  | .shed => { t with shed := satAdd 16 t.shed 1 }
  | .dropped => { t with dropped := satAdd 16 t.dropped 1 }
  | .noQuota => { t with refused := satAdd 16 t.refused 1 }
  | .unavailable => { t with unavailable := satAdd 16 t.unavailable 1 }
  | .peerLost => t

/-- The requester ID ring accesses of the tick engine are reported with (log 28). -/
def tickReq : Nat := 158

/-- What a job has used and no summary holds yet, added to the statistics of the tick that is open (03 R87). -/
def PlyStats.addUse (t : PlyStats) (j : Job) : PlyStats :=
  { t with
    useTile := t.useTile + (j.usedTile - j.seenTile), useSpindle := t.useSpindle + (j.usedSpindle - j.seenSpindle)
    useDram := t.useDram + (j.usedDram - j.seenDram) }

/-- A status and a job's use count in its ply's statistics (03 R87). -/
def State.countEnd (s : State) (j : Job) (st : JobStatus) : State :=
  let pl := s.ply j.ply
  if (mget? s.plies j.ply).isSome then s.setPly j.ply { pl with stats := (pl.stats.count st).addUse j } else s

/-- A job's record is written to its hank's completion ring and its event pulsed (03 R85). DESIGN CHOICE (log 179): TICK is the tick that is
open, the opening one for a job that ends during a boundary, and FLAGS[3] says whether the boundary that opened it overran. -/
def State.writeRecord (s : State) (j : Job) (st : JobStatus) (detail : Nat) : State :=
  let k := s.hank j.hank
  let n := ringSize k.cplLog2
  let pl := s.ply j.ply
  let s := if n = 0 then s else
    let r := s.engWrite j.hank tickReq (k.cplBase + 64 * k.cplHead)
      (recordBytes j pl.tick s.tck.time st detail pl.overranNow)
    let s := r.2.2
    let k := s.hank j.hank
    s.setHank j.hank { k with cplHead := (k.cplHead + 1) % n, cplUnread := min (k.cplUnread + 1) n }
  (s.countEnd j st).hankPulse j.hank j.doneEvent

/-- A served job's declared and metered cost, kept for rho (14 R323). -/
def State.rhoNote (s : State) (j : Job) : State :=
  let pl := s.ply j.ply
  let x : RhoSample := { tick := pl.tick, declTile := j.costTile, metTile := ceilDiv j.usedTile 1024
                         declSpindle := j.costSpindle, metSpindle := ceilDiv j.usedSpindle 1024 }
  let g := { pl.gov with
    samples := pl.gov.samples ++ [x]
    lastReserved := if j.cls = 0 then some s.tck.time else pl.gov.lastReserved }
  s.setPly j.ply { pl with gov := g }

/-- A job ends: its record, its slot, its booking; a peer's own job for a relay leaves its status for the master (18 R414). -/
def State.complete (s : State) (id : Nat) (st : JobStatus) (detail : Nat) : State :=
  match s.job? id with
  | none => s
  | some j =>
    let s := { s with stw := { s.stw with stages := s.stw.stages.map (fun (x : RelayStage) =>
      if x.own = id ∧ x.ended = 0 then { x with data := [], ended := st.code } else x) } }
    (s.writeRecord j st detail).dropJob id

/-- A job that has done all its work ends SERVED or SERVED_LATE (03 R86). -/
def State.serve (s : State) (id : Nat) : State :=
  match s.job? id with
  | none => s
  | some j =>
    (s.rhoNote j).complete id (if (s.ply j.ply).tick ≤ j.target then .served else .servedLate) 0

/-! ### The stop of a job -/

/-- The report of a Whorl job (08 R200). -/
def whlReport (tag cycles array : Nat) (r : WhlRun) : List Byte :=
  leBytes 8 tag ++ leBytes 8 cycles ++ leBytes 4 (min r.accSat (2 ^ 32 - 1)) ++ leBytes 4 (min r.clips (2 ^ 32 - 1))
  ++ leBytes 4 (min r.invalid (2 ^ 32 - 1))
  ++ [BitVec.ofNat 8 r.cause, BitVec.ofNat 8 array, BitVec.ofNat 8 (b2n r.reused + 2 * b2n (r.cause = 8)), 0]
  ++ leBytes 8 r.failAddr ++ leBytes 4 r.rows ++ List.replicate 20 0

/-- The report of a tokenizer job (11 R276). -/
def tokReport (tag : Nat) (r : TokRun) : List Byte :=
  leBytes 8 tag ++ leBytes 4 r.strings ++ leBytes 4 r.tokens ++ leBytes 4 r.invalid ++ leBytes 4 r.raw
  ++ leBytes 4 r.truncated ++ [BitVec.ofNat 8 r.cause, 0, 0, 0] ++ leBytes 8 r.failAddr ++ List.replicate 24 0

/-- The report is written when its address is not zero: how the write ends, and where it fails. -/
def State.writeReport (s : State) (h req addr : Nat) (bs : List Byte) : Status × Nat × State :=
  if addr = 0 then (.ok, 0, s) else s.engWrite h req addr bs

/-- What a job's values count in the device, its tiles and its context (08 R206; 09 R224, R231). -/
def State.whlCounts (s : State) (r : WhlRun) : State :=
  let s := s.quantCounts r.clips r.invalid
  let s := r.satTile.foldl (fun s e => s.setTile e.1 { s.tile e.1 with accSat := satAdd 32 (s.tile e.1).accSat e.2 }) s
  match r.ctx with
  | some k => s.endCtx (k / 256) (k % 256) r.jobMax r.narrowed r.clips (r.cause != 0)
  | none => s

/-- A Whorl job's report; a job that ends served stops with a fault when the report's own write fails (08 R200, R201). -/
def State.whlReported (s : State) (a cycles : Nat) (r : WhlRun) : WhlRun × State :=
  let x := s.arr a
  let tag := (s.job? r.job).elim 0 (·.tag)
  let w := s.writeReport r.hank (84 + x.first) (leAt r.desc 104 8)
    (whlReport tag (cycles * (arrayTiles x.shape x.first).length) a r)
  (if w.1 = .ok ∨ r.cause ≠ 0 then r else { r with keep := none, cause := whlCause w.1, failAddr := w.2.1 }, w.2.2)

/-- A Whorl job leaves its array after its report: its counts; the tiles are IDLE; a fault or a stop invalidates the resident weights
(08 R199, R201, R202, R211). `cycles` are the elapsed cycles from its first pass. -/
def State.whlRelease (s : State) (a cycles : Nat) (r : WhlRun) : State :=
  let x := s.arr a
  let tiles := arrayTiles x.shape x.first
  let s := (s.whlCounts r).clearPort (0x3000 + 16 * x.first)
  let s := s.setArr a { s.arr a with run := none, resident := if r.cause = 0 then (s.arr a).resident else none }
  let s := tiles.foldl (fun s t => s.setTile t { s.tile t with state := 1, busy := ((s.tile t).busy + cycles) % 2 ^ 64 }) s
  let s := if r.cause = 0 ∨ r.cause = 8 then s else
    tiles.foldl (fun s t => s.setTile t { s.tile t with faultHank := r.hank, faultCause := r.cause }) s
  s.updJob r.job (fun j => { j with usedTile := cycles * tiles.length, usedDram := r.usedDram })

/-- A stopped job leaves its array: the rows it has done and the cycles it has run are free values (R202). -/
def State.whlStop (s : State) (a : Nat) (r : WhlRun) : State :=
  let q := s.whlHalfway a r
  let c := q.2.draw
  let w := c.2.whlReported a c.1 q.1
  w.2.whlRelease a c.1 w.1

/-- The report of a staged job that is stopped: zero cycles (R202). -/
def State.whlUnstarted (s : State) (j : Job) : State :=
  let x := s.arr j.unit
  let d := s.engBytes j.hank (84 + x.first) j.desc 128
  (d.2.writeReport j.hank (84 + x.first) (leAt d.1 104 8) (whlReport j.tag 0 j.unit { cause := 8 })).2.2

/-- A tokenizer job's report; a job that ends served stops with a fault when the report's own write fails (11 R276). -/
def State.tokReported (s : State) (r : TokRun) : TokRun × State :=
  let w := s.writeReport r.hank 93 (leAt r.desc 48 8) (tokReport ((s.job? r.job).elim 0 (·.tag)) r)
  (if w.1 = .ok ∨ r.cause ≠ 0 then r else { r with cause := tokCause w.1, failAddr := w.2.1 }, w.2.2)

/-- A tokenizer job leaves the engine and its input port after its report (11 R276). -/
def State.tokRelease (s : State) (r : TokRun) : State :=
  let s := s.clearPort 0x6000
  let s := s.updJob r.job (fun j => { j with usedDram := r.usedDram })
  let s := { s with tok := { s.tok with run := none, state := 0 } }
  if r.cause = 0 ∨ r.cause = 8 then s else { s with tok := { s.tok with faultHank := r.hank, faultCause := r.cause } }

/-- A running tokenizer job is stopped (11 R276). -/
def State.tokStop (s : State) (r : TokRun) : State :=
  let q := s.tokHalfway r
  let w := q.2.tokReported q.1
  w.2.tokRelease w.1

/-- The report of a waiting job that is stopped: nothing done (08 R202; 11 R276). -/
def State.tokUnstarted (s : State) (j : Job) : State :=
  let d := s.engBytes j.hank 93 j.desc 64
  (d.2.writeReport j.hank 93 (leAt d.1 48 8) (tokReport j.tag { cause := 8 })).2.2

/-- A tombstone of a relay job (18 R415). -/
def State.tombstone (s : State) (j : Job) (peer lenOut reason : Nat) : State :=
  let k := s.stw.tombHead
  let t : Tomb := { tag := j.tag, time := s.tck.time, epoch := j.epoch, lenOut := lenOut, hank := j.hank, peer := peer
                    ply := j.ply, reason := reason }
  { s with stw := { s.stw with tombs := mset s.stw.tombs k t, tombHead := (k + 1) % 64 } }

/-- The units let go of a job that is stopped. True when it has stopped at once; a Bobbin program in RUNNING stops at its
next instruction boundary (08 R202; 06 R150; 11 R276; 12 R296; 18 R415). -/
def State.stopUnits (s : State) (j : Job) : Bool × State :=
  match j.kind with
  | 1 =>
    let a := j.unit
    let x := s.arr a
    let s := s.setArr a { x with staged := x.staged.filter (· != j.id) }
    (true, match x.run with
     | some r => if r.job = j.id then s.whlStop a r else if x.staged.contains j.id then s.whlUnstarted j else s
     | none => if x.staged.contains j.id then s.whlUnstarted j else s)
  | 2 =>
    let c := s.core j.unit
    (true, if c.job = some j.id then
        let q := s.draw
        (q.2.updJob j.id (fun j => { j with usedSpindle := q.1 })).setCore j.unit { c with state := 0, job := none, ended := false }
      else s)
  | 3 =>
    let c := s.chan j.unit
    if c.job = some j.id then
      if c.state = 1 then (false, s.setChan j.unit { c with state := 5, halting := false, bad := if c.halting then none else c.bad })
      else (true, (s.updJob j.id (fun j => { j with usedDram := c.dramBytes })).setChan j.unit
        { c with state := 0, job := none, bad := none, halting := false })
    else (true, s)
  | 4 =>
    (match s.tok.run with
     | some r => (true, if r.job = j.id then s.tokStop r else if j.phase = .admitted then s.tokUnstarted j else s)
     | none => (true, if j.phase = .admitted then s.tokUnstarted j else s))
  | 5 =>
    (match s.stw.relays.find? (fun r => r.job == j.id) with
     | some r =>
       let s := { s with stw := { s.stw with relays := s.stw.relays.filter (fun r => r.job != j.id) } }
       (true, s.tombstone j r.peer (leAt r.desc 12 4) 2)
     | none => (true, { s with stw := { s.stw with stages := s.stw.stages.map (fun (x : RelayStage) =>
         if x.own = j.id ∧ x.ended = 0 then { x with data := [], ended := 4 } else x) } }))
  | _ => (true, s)

/-- A job is stopped and completes DROPPED_AT_BOUNDARY, at once or at its channel's instruction boundary. -/
def State.dropStop (s : State) (id : Nat) : State :=
  match s.job? id with
  | none => s
  | some j =>
    match s.stopUnits j with
    | (true, s) => s.complete id .dropped 0
    | (false, s) => s.updJob id (fun j => { j with phase := .stopping })

/-! ### Submission (03 R73 to R77) -/

/-- The Reserved costs booked by hank `h` in ply `p` for tick `t`: tile, Spindle, DRAM (03 R75, R76). -/
def State.booked (s : State) (p : Nat) (h : Option Nat) (t : Nat) : Nat × Nat × Nat :=
  let l := s.jobs.filter (fun j => j.cls == 0 && j.ply == p && j.target == t && j.phase == .queued
    && (match h with | none => true | some h => j.hank == h))
  ((l.map (·.costTile)).sum, (l.map (·.costSpindle)).sum, (l.map (·.costDram)).sum)

/-- Whether a Reserved cost fits the hank's unbooked budget of a tick and the ply's RES_PCT (03 R75, Expert control). -/
def State.canBook (s : State) (r : HankRec) (t ct cs cd : Nat) : Bool :=
  let b := s.booked r.ply (some r.hank) t
  let q := s.quota r
  let all := s.booked r.ply none t
  let pct := (s.ply r.ply).resPct
  decide (b.1 + ct ≤ q.1 ∧ b.2.1 + cs ≤ q.2.1 ∧ b.2.2 + cd ≤ q.2.2)
  && (ct == 0 || decide ((all.1 + ct) * 100 ≤ pct * s.capTile r.ply))
  && (cs == 0 || decide ((all.2.1 + cs) * 100 ≤ pct * s.capSpindle r.ply))

/-- The unit a descriptor names and its DONE_EVENT; none where it cannot be read. -/
def descUnit (kind : Nat) (d : List Byte) : Nat × Nat :=
  match kind with
  | 1 => (leAt d 1 1, leAt d 52 2)
  | 2 => (leAt d 46 1, leAt d 44 2)
  | 3 => (leAt d 12 1, leAt d 16 2)
  | 4 => (0, leAt d 40 2)
  | _ => (leAt d 0 1, leAt d 6 2)

/-- Whether core `c` may run tasks of ply `p` (06 R147). -/
def State.coreUsable (s : State) (p c : Nat) : Bool := (s.countingCores p).contains c

/-- Whether channel `n` may run programs of ply `p` (12 R279). -/
def State.chanUsable (s : State) (p n : Nat) : Bool :=
  match plyRec? s.img p with
  | some r => bit r.channelMask n && decide (n < 64) && s.counts (128 + n)
  | none => false

/-- Whether a relay job of a ply to a peer may run (15 R366, R368). -/
def State.relayUsable (s : State) (p peer : Nat) : Bool :=
  s.stw.role == 1 && (mget s.stw.peers peer {}).state == 2
  && (match s.img.tray.find? (fun r => r.addr == peer) with | some r => bit r.relayPlies p | none => false)

/-- Whether the target unit or array of a job is present, formed and counting (03 R75 check 6, R78). -/
def State.unitOk (s : State) (kind ply unit : Nat) : Bool :=
  match kind with
  | 1 => (s.arr unit).formed && (s.arr unit).ply == ply
      && (arrayTiles (s.arr unit).shape (s.arr unit).first).all (fun t => s.counts (14 + t))
  | 2 => if unit = 0xFF then !(s.countingCores ply).isEmpty else s.coreUsable ply unit
  | 3 => if unit = 0xFF then (List.range 64).any (s.chanUsable ply) else s.chanUsable ply unit
  | 4 => s.counts 27
  | _ => unit == peerUnit || s.relayUsable ply unit

/-- RESULT of an entry is written (03 R74, R75). -/
def State.writeResult (s : State) (h entry code detail : Nat) : State :=
  (s.engWrite h tickReq (entry + 56) (leBytes 4 (2 ^ 31 + detail % 256 * 256 + code))).2.2

/-- Jobs of a hank that hold space in its completion ring. -/
def State.liveJobs (s : State) (h : Nat) : Nat := (s.jobs.filter (fun j => j.hank == h)).length

/-- A refused submission: its RESULT, and a record where the ring has an entry free beyond those of its jobs and those not yet consumed
(03 R77); it counts in the summary either way (R87). -/
def State.refuse (s : State) (entry : Nat) (j : Job) (st : JobStatus) (detail : Nat) : State :=
  let s := s.writeResult j.hank entry st.code detail
  let k := s.hank j.hank
  if detail ≠ 3 ∧ s.liveJobs j.hank + k.cplUnread < ringSize k.cplLog2 then s.writeRecord j st detail else s.countEnd j st

/-- The records a submission is checked against: those in force, or between t3 and t4 of a load those about to be (02 R45). -/
def State.records (s : State) : Image := match s.wrp.weaving with | some (m, _) => m | none => s.img

/-- An accepted entry: RESULT says so, and the job is queued. A gate outside the hank's events is an access error, and stays shut
(04 R107). -/
def State.accept (s : State) (entry : Nat) (j : Job) : State :=
  let s := s.writeResult j.hank entry 0 0
  let s := if j.gate ≠ 0xFFFF ∧ !s.ownsEvent j.hank j.gate then s.accessError j.hank j.gate 5 else s
  { s with tck := { s.tck with jobs := s.tck.jobs ++ [j], nextJob := s.tck.nextJob + 1 } }

/-- One submission entry is checked in the order of R75, then accepted, booked or refused. While the device is WEAVING what the entry needs
of its ply is not there yet, and it is queued (02 R45; log 180). DESIGN CHOICE (log 181): a descriptor that cannot be read is judged when
the job starts, and check 6 passes. -/
def State.submitEntry (s : State) (h entry : Nat) : State :=
  let r := s.engBytes h tickReq entry 64
  let e := r.1
  let s := r.2
  let kind := leAt e 16 1
  let cls := leAt e 17 1
  let fate := leAt e 18 1
  let p := leAt e 19 1
  let pl := s.ply p
  let j0 : Job := { id := s.tck.nextJob, hank := h, tag := leAt e 0 8, desc := leAt e 8 8, kind := kind, cls := cls, fate := fate
                    ply := p, costTile := leAt e 20 4, costSpindle := leAt e 24 4, costDram := leAt e 28 4
                    gate := leAt e 32 2, target := nextTickOf s.tck.time pl }
  let k := s.hank h
  if s.memAsleep then s.refuse entry j0 .unavailable 1
  else if leAt e 34 22 ≠ 0 ∨ leAt e 60 4 ≠ 0 ∨ kind = 0 ∨ 5 < kind ∨ 2 < cls ∨ 1 < fate then s.refuse entry j0 .noQuota 6
  else match hankRec? s.records h p with
    | none => s.refuse entry j0 .noQuota 4
    | some rec =>
      if ringSize k.cplLog2 < s.liveJobs h + 1 then s.refuse entry j0 .noQuota 3
      else if rec.depth < (s.jobs.filter (fun j => j.hank == h && j.ply == p && j.phase == .queued)).length + 1 then
        s.refuse entry j0 .noQuota 2
      else if s.wrp.weaving.isNone ∧ (pl.state = 0 ∨ pl.state = 3) then s.refuse entry j0 .unavailable 1
      else
        let d := s.engRead h tickReq j0.desc 64
        let s := d.2.2.2
        let u := descUnit kind (slice d.2.2.1 0 64)
        let readOk := d.1 == .ok
        let j := if readOk then { j0 with unit := u.1, doneEvent := u.2 } else { j0 with unit := 0xFF }
        if s.wrp.weaving.isSome then s.accept entry j
        else if readOk ∧ !s.unitOk kind p u.1 then s.refuse entry j .unavailable 2
        else if cls ≠ 0 ∧ (s.capTile p < j.costTile ∨ s.capSpindle p < j.costSpindle) then s.refuse entry j .noQuota 5
        else if cls = 0 ∧ !s.canBook rec j.target j.costTile j.costSpindle j.costDram then s.refuse entry j .noQuota 1
        else s.accept entry j

/-- COUNT entries are taken in ring order (03 R75). -/
def State.takeEntries (s : State) (h : Nat) : Nat → State
  | 0 => s
  | n + 1 =>
    let k := s.hank h
    let size := ringSize k.subLog2
    if size = 0 then s
    else
      let s1 := s.setHank h { k with subNext := (k.subNext + 1) % size }
      (s1.submitEntry h (k.subBase + 64 * (k.subNext % size))).takeEntries h n

/-- The bank of the tick engine a requester reaches (03 section Submission). -/
def State.tckBank (s : State) (who : Requester) : Nat := if s.reqHank who = 0 then s.tck.hsel else s.reqHank who

/-- A doorbell of a bank (03 R75). -/
def State.doorbell (s : State) (h count : Nat) : State := s.takeEntries h (count % 2 ^ 13)

/-! ### Job slots (01 R25 to R27; 03 R79) -/

/-- The selected job that takes the next slot: the highest class, then the order of selection. -/
def State.nextWaiting (s : State) : Option Job :=
  (s.jobs.filter (fun j => j.phase == .selected && s.slotFree j.cls)).foldl (fun b j =>
    match b with
    | none => some j
    | some x => if j.cls < x.cls ∨ (j.cls = x.cls ∧ j.selSeq < x.selSeq) then some j else b) none

/-- Waiting jobs take the slots there are, in the order of R25. -/
def State.fillSlots (s : State) : Nat → State
  | 0 => s
  | n + 1 => match s.nextWaiting with
    | some j => (s.admitJob j.id).fillSlots n
    | none => s

/-! ### The commands -/

def execSubmitDoorbell (who : Requester) (count : Nat) (s : State) : Host.Outcome State Fault Refusal :=
  .next (({ s with out := [] } : State).asHank who (fun s => s.doorbell (s.tckBank who) count))

def execJobSlotAcquire (s : State) : Host.Outcome State Fault Refusal :=
  let s := { s with out := [] }
  match s.nextWaiting with
  | some j => .next (s.admitJob j.id)
  | none => .next s

end Sys2Proof.Machine
end

