-- ==== Sys2Proof/Machine/Journal.lean ====
section
/-! DEFINITION. The Lea journal: acknowledgement, reading, flush and epochs (16 R377 to R381). -/

namespace Sys2Proof.Machine

/-- The bit of ACK_SOURCES of a requester: console, host PF, export service, tray master (16 Expert control). -/
def ackBit : Requester → Option Nat
  | .console => some 0
  | .pf => some 1
  | .app _ 0 => some 2
  | .trayMaster => some 3
  | _ => none

def authBit : Authority → Option Nat
  | .console => some 0
  | .host => some 1
  | .services => some 2
  | .trayMaster => some 3
  | .steward => none

/-- An acknowledgement of SEQ `v` from a source (R378). -/
def State.jAck (s : State) (source : Option Nat) (v : Nat) : State :=
  let ok := match source with | some b => bit s.lea.sources b | none => false
  if !ok then { s with lea := { s.lea with badAcks := satAdd 32 s.lea.badAcks 1 } }
  else if v < s.lea.ack ∨ s.lea.head = 0 then s
  else
    let v := min v (s.lea.head - 1)
    let keep := s.lea.ring.filter (fun e => decide (v < e.seq))
    { s with lea := { s.lea with
        ack := v, ring := keep, ringSlot := (s.lea.ringSlot + (s.lea.ring.length - keep.length)) % 4096
        reserve := s.lea.reserve.filter (fun e => decide (v < e.2.seq))
        overflow := s.lea.overflow.filter (fun e => decide (v < e.seq)) } }

/-- An entry inserted in ascending SEQ. -/
def insertSeq (e : JEntry) : List JEntry → List JEntry
  | [] => [e]
  | x :: xs => if e.seq ≤ x.seq then e :: x :: xs else x :: insertSeq e xs

/-- Ring and reserve merged in ascending SEQ order (R379). -/
def State.jMerged (s : State) : List JEntry :=
  ((s.lea.reserve.map (·.2)) ++ s.lea.overflow.toList).foldl (fun l e => insertSeq e l) s.lea.ring

/-- A management reply: STATUS of 13 R307 and the holder for OVERRIDDEN. -/
def State.answer (s : State) (from_ : Authority) (status holder : Nat) (data : List Nat) : State :=
  s.emit (.mgmt (authCode from_) status holder data)

/-- Whether the console lacks the session that every command but STATUS needs (15 R369). -/
def State.noSession (s : State) (from_ : Authority) : Bool := from_ == .console && !s.stw.session

/-- A flush starts; without an erased idle area it fails at once (R380). -/
def State.startFlush (s : State) : State :=
  if s.lea.flushing then s
  else if s.nv.flash.idle.erased then { s with lea := { s.lea with flushing := true } }
  else { s with lea := { s.lea with flushFailed := true } }

/-- The flush has programmed every entry written so far: its area becomes current (R380). -/
def State.endFlush (s : State) : State :=
  let s := s.programArea s.lea.epoch
  { s with lea := { s.lea with flushing := false, flushFailed := false } }

/-- A flush not done in 500 ms: the previous area stays current, and the idle area must be erased again (R380). -/
def State.failFlush (s : State) : State :=
  { s with
    nv := { s.nv with flash := s.nv.flash.setIdle { erased := false } }
    lea := { s.lea with flushing := false, flushFailed := true } }

/-! ### The commands -/

def execJournalRead (from_ : Authority) (first count : Nat) (s : State) : Host.Outcome State Fault Refusal :=
  let s := { s with out := [] }
  if s.noSession from_ then .next (s.answer from_ 0x03 0 [])
  else if from_ = .console ∨ from_ = .trayMaster then
    let n := if from_ = .trayMaster then min count 16 else count
    .next ((s.emit (.entries ((s.jMerged.filter (fun e => decide (first ≤ e.seq))).take n))).answer from_ 0 0 [])
  else .next (s.answer from_ 0x01 0 [])

def execJournalAck (from_ : Authority) (seq : Nat) (s : State) : Host.Outcome State Fault Refusal :=
  let s := { s with out := [] }
  if s.noSession from_ then .next (s.answer from_ 0x03 0 [])
  else .next ((s.jAck (authBit from_) seq).answer from_ 0 0 [])

def execEpochProgramRetry (ok : Bool) (s : State) : Host.Outcome State Fault Refusal :=
  let s := { s with out := [] }
  if s.lea.epochUnsaved then .next (s.programEpoch s.lea.epoch ok) else .next s

def execIdleAreaErased (s : State) : Host.Outcome State Fault Refusal :=
  let s := { s with out := [] }
  .next { s with nv := { s.nv with flash := s.nv.flash.setIdle {} } }

end Sys2Proof.Machine
end

