-- ==== Sys2Proof/Machine/Audio.lean ====
section
/-! DEFINITION. Audio output: voices, mixing, amplifier faults (13 R315 to R318). -/

namespace Sys2Proof.Machine

/-! ### Gains (R317) -/

/-- The nearest integer to 65,536 x 10^(-n/40), found bit by bit: the largest g with (2g - 1)^40 x 10^n at most (2^17)^40. -/
def gainBits (n : Nat) : Nat → Nat → Nat
  | 0, g => g
  | k + 1, g =>
    let x := g + 2 ^ k
    gainBits n k (if (2 * x - 1) ^ 40 * 10 ^ n ≤ (2 ^ 17) ^ 40 then x else g)

/-- g_v of a GAIN of -n half decibels. -/
def gainOf (n : Nat) : Nat := gainBits n 17 0

/-! ### State of the output -/

def State.voice (s : State) (v : Nat) : Voice := mget s.aud.voices v {}
def State.setVoice (s : State) (v : Nat) (x : Voice) : State := { s with aud := { s.aud with voices := mset s.aud.voices v x } }
def State.amp (s : State) (a : Nat) : Amp := mget s.aud.amps a {}
def State.setAmp (s : State) (a : Nat) (x : Amp) : State := { s with aud := { s.aud with amps := mset s.aud.amps a x } }

/-- A ramp from the present factor over 2,400 frames. -/
def Amp.ramp (x : Amp) (goal : Nat) : Amp := { x with from_ := x.factor, goal := goal, left := 2400 }

/-- A = 0 at once. -/
def Amp.cut (x : Amp) : Amp := { x with factor := 0, from_ := 0, goal := 0, left := 0 }

/-- 2,400 times the factor of an amplifier in the coming frame. -/
def Amp.num (x : Amp) : Int := (x.goal : Int) * 2400 - ((x.goal : Int) - x.from_) * x.left

/-! ### Voices (R316) -/

/-- A descriptor's 32 bytes; none when it breaks the ranges of R316. -/
def parseVoice (h : Nat) (b : List Byte) : Option Voice1 :=
  let clip := leAt b 0 8
  let frames := leAt b 8 4
  let gain := sx 8 (leAt b 13 1)
  if clip % 64 = 0 ∧ 1 ≤ frames ∧ frames ≤ 2 ^ 24 ∧ -127 ≤ gain ∧ gain ≤ 0 ∧ leAt b 16 16 = 0 then
    some { clip := clip, frames := frames, slotMask := leAt b 12 1, gain := gain, doneEvent := leAt b 14 2, hank := h }
  else none

/-- The next descriptor of the queue plays when none does. -/
def Voice.next (x : Voice) : Voice :=
  match x.cur, x.queue with
  | none, d :: rest => { x with cur := some d, queue := rest, pos := 0 }
  | _, _ => x

/-- A descriptor is queued; a full queue refuses it and counts. -/
def State.queueVoice (s : State) (v : Nat) (d : Voice1) : State :=
  let x := s.voice v
  if 8 ≤ x.queue.length then s.setVoice v { x with refused := satAdd 16 x.refused 1 }
  else s.setVoice v ({ x with queue := x.queue ++ [d] } : Voice).next

/-- The descriptor at an address is read with hank 0 and queued for hank `h`. -/
def State.queueAt (s : State) (v h addr : Nat) : State :=
  let x := s.voice v
  if 8 ≤ x.queue.length then s.setVoice v { x with refused := satAdd 16 x.refused 1 }
  else
    let r := s.engRead 0 158 addr 32
    match r.1, parseVoice h r.2.2.1 with
    | .ok, some d => r.2.2.2.queueVoice v d
    | _, _ => r.2.2.2

/-- The clip of a voice ends: DONE_EVENT, and the next descriptor plays. -/
def State.endClip (s : State) (v : Nat) : State :=
  let x := s.voice v
  match x.cur with
  | none => s.setVoice v { x with stop := false }
  | some d => (s.setVoice v ({ x with cur := none, stop := false } : Voice).next).hankPulse d.hank d.doneEvent

/-- AUD_VOICEv_CMD_HI. -/
def State.voiceCmd (s : State) (who : Requester) (v hi : Nat) : State :=
  if !hasAud s.variant then s.served
  else if s.reqHank who ≠ 0 then s.denyReg who 37 (0x44 + 0x10 * v) 0
  else if v < 4 then (s.queueAt v 0 ((s.voice v).cmdLo + hi * 2 ^ 32)).served
  else s.served

/-- AUD_VOICEv_STOP: bit 0 empties the queue and ends the clip at the next frame. -/
def State.voiceHalt (s : State) (who : Requester) (v w : Nat) : State :=
  if !hasAud s.variant then s.served
  else if s.reqHank who ≠ 0 then s.denyReg who 37 (0x4C + 0x10 * v) 0
  else if v < 4 ∧ bit w 0 then
    (s.setVoice v { s.voice v with queue := [], stop := (s.voice v).cur.isSome }).served
  else s.served

/-! ### A frame (R315 to R318) -/

/-- The sample of voice `v` in this frame: its product with the gain, and the state after the read. -/
def State.voiceSample (s : State) (late : List Nat) (v : Nat) : Int × State :=
  let x := s.voice v
  match x.cur with
  | none => (0, s)
  | some d =>
    if d.frames ≤ x.pos then (0, s)
    else
      let s := s.setVoice v { x with pos := x.pos + 1 }
      let under := { s with aud := { s.aud with underrun := satAdd 32 s.aud.underrun 1 } }
      if late.contains v then (0, under)
      else
        let r := s.engRead 0 158 (d.clip + 4 * x.pos) 4
        if r.1 = .ok then (sx 24 (leAt r.2.2.1 0 3) * gainOf (-d.gain).toNat, r.2.2.2)
        else (0, { r.2.2.2 with aud := { r.2.2.2.aud with underrun := satAdd 32 r.2.2.2.aud.underrun 1 } })

/-- The value of a slot from the voices' products (slot masks and products) and the amplifiers. -/
def State.slotOut (s : State) (vs : List (Nat × Int)) (slot : Nat) : Int :=
  if bit s.aud.slotEn slot then
    let out := satS 24 (rneShr ((vs.filter (fun v => bit v.1 slot)).map (·.2)).sum 16)
    rneDiv (out * (s.amp (bits s.aud.ampOf (2 * slot + 1) (2 * slot))).num) (2400 * 65536)
  else 0

/-- One frame further on a ramp. -/
def Amp.advance (x : Amp) : Amp :=
  if x.left = 0 then x
  else let y := { x with left := x.left - 1 }; { y with factor := (rneDiv y.num 2400).toNat }

/-- The bits of a slot: the sample left-justified in 32 bits, MSB first, 8 zero bits after it. -/
def slotBits (v : Int) : List Bool := (List.range 32).map (fun k => bit (low 24 v * 256) (31 - k))

/-- FSYNC and AUD_SD of a frame at each AUD_BCLK: TDM8 raises FSYNC for one clock, I2S holds it low for slot 0 and high for slot 1; data
starts one clock after, and the clock it leaves first carries the last zero bit of the frame before (R315). -/
def audWire (i2s : Bool) (slots : List Int) : List (Bool × Bool) :=
  let sd := false :: slots.flatMap slotBits
  (List.range (32 * slots.length)).map (fun k => (if i2s then decide (32 ≤ k) else k == 0, sd.getD k false))

/-- One audio frame: stopped clips end, the voices are mixed, the slots are sent, the ramps move on. -/
def State.audioFrame (s : State) (late : List Nat) : State :=
  if hasAud s.variant ∧ s.aud.enable then
    let s := (List.range 4).foldl (fun s v => if (s.voice v).stop then s.endClip v else s) s
    let masks := (List.range 4).map (fun v => match (s.voice v).cur with | some d => d.slotMask | none => 0)
    let r := (List.range 4).foldl (fun (acc : List Int × State) v => let q := acc.2.voiceSample late v; (acc.1 ++ [q.1], q.2)) ([], s)
    let s := { r.2 with aud := { r.2.aud with
      amps := (List.range 4).foldl (fun m a => if (mget m a {}).left = 0 then m else mset m a (mget m a {}).advance) r.2.aud.amps } }
    s.emit (.audio (audWire s.aud.i2s ((List.range (if s.aud.i2s then 2 else 8)).map (s.slotOut (masks.zip r.1)))))
  else s

/-! ### Amplifier faults (R318) -/

/-- A mute or another change of an amplifier, journalled. -/
def State.ampFact (s : State) (a kind old : Nat) : State :=
  s.fact { origin := 3, kind := kind, object := jObj 15 a, old := old, new := (s.amp a).st, data := if kind = 3 then s.readings else 0 }

/-- A fault mutes the slots of a playing or retrying amplifier, or latches it when its retries are used (R318). -/
def State.ampMute (s : State) (a : Nat) : State :=
  let x := s.amp a
  let s := s.setAmp a { x.cut with st := if x.retries = 3 then 3 else 1 }
  (s.ampFact a 3 x.st).pulse 0x008

def State.ampFault (s : State) (a : Nat) : State :=
  if hasAud s.variant ∧ a < 4 then
    let x := s.amp a
    let s := s.setAmp a { x with faults := satAdd 8 x.faults 1, inputHigh := false }
    if x.st = 0 ∨ x.st = 2 then s.ampMute a
    else if x.st = 1 ∧ x.retries = 3 then (s.setAmp a { s.amp a with st := 3 }).ampFact a 3 1
    else s
  else s

/-- The 2 s after a mute have passed. -/
def State.ampRetry (s : State) (a : Nat) (high : Bool) : State :=
  let x := s.amp a
  if x.st = 1 ∧ x.retries < 3 then
    let x := { x with retries := x.retries + 1, inputHigh := high }
    let s := s.setAmp a (if high then { x.ramp 16462 with st := 2 } else x)
    s.ampFact a 1 1
  else s

/-- CLEAR: full gain again; a fault at that moment is a new mute. It is a refusable change, accepted from the console and the PF. -/
def State.ampClear (s : State) (from_ : Authority) (a : Nat) (low : Bool) : Nat × State :=
  if s.noSession from_ ∨ (from_ ≠ .console ∧ from_ ≠ .host) then (0x03, s)
  else if hasAud s.variant ∧ a < 4 then
    let x := s.amp a
    match s.change [{ origin := authOrigin from_, kind := 1, object := jObj 15 a, old := x.st, new := 0 }] with
    | (false, s) => (0x50, s)
    | (true, s) =>
      let s := s.setAmp a { (x.ramp 65536) with st := 0, retries := 0, inputHigh := !low }
      (0, if low then
        let s := s.setAmp a { s.amp a with faults := satAdd 8 (s.amp a).faults 1 }
        s.ampMute a else s)
  else (0x03, s)

/-! ### The commands -/

def execVoiceQueue (who : Requester) (voice : Nat) (value : Word) (s : State) : Host.Outcome State Fault Refusal :=
  .next (({ s with out := [] } : State).asHank who (fun s => s.voiceCmd who voice value.toNat))

def execVoiceStop (who : Requester) (voice : Nat) (value : Word) (s : State) : Host.Outcome State Fault Refusal :=
  .next (({ s with out := [] } : State).asHank who (fun s => s.voiceHalt who voice value.toNat))

/-- CLIP_END: the clip has played its last sample. -/
def execClipEnd (voice : Nat) (s : State) : Host.Outcome State Fault Refusal :=
  let s := { s with out := [] }
  let x := s.voice voice
  .next (match x.cur with
    | some d => if d.frames ≤ x.pos then s.endClip voice else s
    | none => s)

def execAudioFrame (late : List Nat) (s : State) : Host.Outcome State Fault Refusal :=
  .next (({ s with out := [] } : State).audioFrame late)

def execAmpFault (amp : Nat) (s : State) : Host.Outcome State Fault Refusal :=
  .next (({ s with out := [] } : State).ampFault amp)

def execAmpRetry (amp : Nat) (inputHigh : Bool) (s : State) : Host.Outcome State Fault Refusal :=
  .next (({ s with out := [] } : State).ampRetry amp inputHigh)

/-- AMP_RETRY_CLEAN: 60 s in a retry without a fault. -/
def execAmpRetryClean (amp : Nat) (s : State) : Host.Outcome State Fault Refusal :=
  let s := { s with out := [] }
  let x := s.amp amp
  .next (if x.st = 2 then s.setAmp amp { (x.ramp 65536) with st := 0, retries := 0 } else s)

def execClear (from_ : Authority) (amp : Nat) (inputLow : Bool) (s : State) : Host.Outcome State Fault Refusal :=
  let r := ({ s with out := [] } : State).ampClear from_ amp inputLow
  .next (r.2.answer from_ r.1 0 [])

end Sys2Proof.Machine
end

