-- ==== Sys2Proof/Machine/Arbiter.lean ====
section
/-! DEFINITION. Arbitration at Skein banks and DRAM interfaces: class, rank, round robin, tag-table traffic, patrol scrubs and the limits of
outstanding requests (05 R126, R129 to R131, R137, R146; log 189). -/

namespace Sys2Proof.Machine

/-! ### What a request carries (R129) -/

/-- The class of a job. -/
def State.classOf (s : State) (job : Option Nat) (d : Nat) : Nat :=
  match job.bind (fun i => s.tck.jobs.find? (fun j => j.id == i)) with
  | some j => j.cls
  | none => d

/-- The class a request carries: its job's, Reserved for hank 0; one that no job issued carries a free class (log 189). -/
def State.reqClass (s : State) (who : Requester) : Nat :=
  let d := Config.requestClass (reqId who) % 3
  if s.reqHank who = 0 then 0
  else match who with
  | .spindle c => s.classOf (s.core c).job d
  | .bobbin n => s.classOf (s.chan n).job d
  | .tile t => s.classOf (((s.arr (s.tile t).arrayId).run).map (·.job)) d
  | .tokenizer => s.classOf (s.tok.run.map (·.job)) d
  | .relay h => match s.stw.stages.find? (fun x => x.hank == h) with
    | some x => x.cls
    | none => s.classOf ((s.stw.relays.find? (fun r => s.tck.jobs.any (fun j => j.id == r.job && j.hank == h))).map (·.job)) d
  | _ => d

/-! ### What waits -/

/-- The address it goes to. -/
def MemWork.addr (s : State) : MemWork → Nat
  | .request r _ _ => r.addr
  | .scrub a _ => a
  | .tagLine l => s.tagBase + 64 * l

/-- Its requester ID: 158 for the scrubber and the hank controller. -/
def MemWork.req : MemWork → Nat
  | .request r _ _ => reqId r.who
  | _ => 158

/-- Its rank (R130). -/
def MemWork.rank : MemWork → Nat
  | .request _ _ cls => min cls 2 + 1
  | .tagLine _ => 1
  | .scrub _ _ => 4

def MemWork.isRequest : MemWork → Bool
  | .request _ _ _ => true
  | _ => false

def MemWork.isTag : MemWork → Bool
  | .tagLine _ => true
  | _ => false

def MemWork.isScrub : MemWork → Bool
  | .scrub _ _ => true
  | _ => false

def MemWork.isWrite : MemWork → Bool
  | .request r _ _ => r.data.isSome
  | _ => false

/-- The port whose outstanding requests are counted together, and its limits of reads and writes (R131). -/
def portLimit (req : Nat) : Nat × Nat × Nat :=
  if req < 16 then (req, 16, 16)
  else if req < 80 then (req, 16, 16)
  else if req < 84 then (80, 64, 64)
  else if req < 92 then (req, 64, 32)
  else if req = 92 then (92, 64, 64)
  else if req = 93 then (93, 8, 4)
  else if req < 158 then (94, 128, 64)
  else (req, 4, 4)

/-- What waits at target `u`. -/
def State.waitsAt (s : State) (u : Nat) : List MemWait := s.fab.waits.filter (fun w => s.memUnit (w.work.addr s) == u)

/-- Whether an older request of its requester holds a request back: one to the same 64-byte block (R137), or as many outstanding as R131
allows. -/
def State.behind (s : State) (older : List MemWait) (w : MemWork) : Bool :=
  let p := portLimit w.req
  let mine := older.filter (fun x => x.work.isRequest && (portLimit x.work.req).1 == p.1)
  w.isRequest
  && (mine.any (fun x => x.work.req == w.req && x.work.addr s / 64 == w.addr s / 64)
    || decide ((if w.isWrite then p.2.2 else p.2.1) ≤ (mine.filter (fun x => x.work.isWrite == w.isWrite)).length))

/-- The oldest waiting entry equal to `w` is accepted. -/
def acceptFirst (w : MemWait) : List MemWait → List MemWait
  | [] => []
  | x :: xs => if x = w then { x with accepted := true } :: xs else x :: acceptFirst w xs

/-- A DRAM interface accepts up to 256 requests; of those at the network the best rank enters first, the oldest of equals (R131). -/
def State.acceptOne (s : State) (u : Nat) : State :=
  let here := s.waitsAt u
  let out := here.filter (fun w => !w.accepted)
  if 256 ≤ (here.filter (·.accepted)).length then s
  else match out.find? (fun w => out.all (fun x => decide (w.work.rank ≤ x.work.rank))) with
    | none => s
    | some w => { s with fab := { s.fab with waits := acceptFirst w s.fab.waits } }

/-- A request joins what waits at its target. -/
def State.enqueue (s : State) (w : MemWork) : State :=
  ({ s with fab := { s.fab with waits := s.fab.waits ++ [{ work := w }] } } : State).acceptOne (s.memUnit (w.addr s))

/-! ### The choice (R130) -/

/-- The waiting entries that target `u` may serve, with their places, oldest first. -/
def State.ready (s : State) (u : Nat) : List (Nat × MemWait) :=
  s.fab.waits.zipIdx.filterMap (fun e =>
    if s.memUnit (e.1.work.addr s) = u ∧ (e.1.accepted ∨ 64 ≤ u) ∧ !s.behind (s.fab.waits.take e.2) e.1.work then some (e.2, e.1) else none)

/-- The place of a requester in the round robin after the one last served. -/
def rrKey (last req : Nat) : Nat := (req + 159 - last % 160) % 160

/-- The first entry of the least key; the oldest of equals. -/
def leastBy (key : Nat × MemWait → Nat) : List (Nat × MemWait) → Option (Nat × MemWait)
  | [] => none
  | x :: xs => match leastBy key xs with
    | none => some x
    | some y => if key x ≤ key y then some x else some y

/-- The entry that target `u` serves next: a scrub read that has waited through 64 accesses; else by rank, tag-table traffic at most once in
four while other rank 1 requests wait; within a rank a DRAM request that 64 younger ones have passed, else round robin. -/
def State.pick (s : State) (u : Nat) : Option (Nat × MemWait) :=
  let c := s.ready u
  let k := mget s.fab.arbs u {}
  let c := if k.sinceTag < 3 ∧ c.any (fun e => e.2.work.isRequest && e.2.work.rank == 1) then c.filter (fun e => !e.2.work.isTag) else c
  match c.find? (fun e => e.2.work.isScrub && decide (64 ≤ e.2.waited)) with
  | some e => some e
  | none =>
    let r := (c.map (fun e => e.2.work.rank)).foldl min 4
    let c := c.filter (fun e => e.2.work.rank == r)
    match c.find? (fun e => decide (u < 64 ∧ 64 ≤ e.2.passed)) with
    | some e => some e
    | none => leastBy (fun e => rrKey (mget k.last r 159) e.2.work.req) c

/-- What waits after entry `i` was served at target `u`: the others there have waited through one more access, and older ones of its rank
have been passed by it. -/
def waitsAfter (s : State) (u i : Nat) (rank : Nat) : List MemWait :=
  s.fab.waits.zipIdx.filterMap (fun e =>
    if e.2 = i then none
    else if s.memUnit (e.1.work.addr s) ≠ u then some e.1
    else some { e.1 with
      waited := e.1.waited + 1, passed := if e.2 < i ∧ e.1.work.rank = rank then e.1.passed + 1 else e.1.passed })

/-- The arbiter grants entry `i`. -/
def State.grantMem (s : State) (u i : Nat) (w : MemWork) : State :=
  let k := mget s.fab.arbs u {}
  ({ s with fab := { s.fab with
      waits := waitsAfter s u i w.rank
      arbs := mset s.fab.arbs u
        { last := mset k.last w.rank w.req, sinceTag := if w.isTag then 0 else min 3 (k.sinceTag + 1) } } } : State).acceptOne u

/-! ### Service -/

/-- A patrol scrub read of one block, with its write-back of a corrected error; a block in the uncorrectable log is poisoned already and is
no new error (R138, R139, R146). -/
def State.scrubRead (s : State) (a : Nat) : State :=
  if !s.isWritten a ∨ s.logged a then s
  else
    let us := codeWords (a - a % 64) 64
    let s1 := s.correctAll a 158 us
    match us.find? (fun u => s.flaw u == 2) with
    | some u => s1.uncorrectable (max a u) 158
    | none => s1

/-- A unit's scrub pass ends. -/
def State.passEnd (s : State) (a : Nat) (passDone : Bool) : State :=
  if !passDone then s
  else if a < dramBase then { s with fab := { s.fab with sknPasses := (s.fab.sknPasses + 1) % 2 ^ 20 } }
  else
    let i := s.dramIfOf a
    s.setDram i { s.dramIf i with passes := ((s.dramIf i).passes + 1) % 2 ^ 24 }

/-- A target performs what it chose. `own` for the request of the present command, which is answered by itself; one that waited answers with
its requester and address. -/
def State.perform (s : State) (own : Bool) : MemWork → State
  | .request r h _ =>
    let reach := match s.target r.addr with | .skein _ | .dram _ => true | _ => false
    let a : Status × List Byte × State :=
      if !reach then (.decode, List.replicate (if r.data.isSome then 0 else r.len) 0, s.decodeError (reqId r.who) r.addr)
      else match r.data with
        | some d => let b := s.memWrite h (reqId r.who) r.addr d; (b.1, [], b.2)
        | none => s.memRead h (reqId r.who) r.addr r.len
    a.2.2.emit (if own then .answer a.1.code a.2.1 else .response (reqId r.who) r.addr a.1.code a.2.1)
  | .scrub a passDone => (s.scrubRead a).passEnd a passDone
  | .tagLine l => let a := s.tagBase + 64 * l; (s.unlog a (a + 64)).mend a (a + 64)

/-- Target `u` serves what its arbiter picks, one access; `own` for the request of the present command. -/
def State.serveOne (s : State) (own : Bool) (u : Nat) : State :=
  match s.pick u with
  | none => s
  | some e => (s.grantMem u e.1 e.2.work).perform own e.2.work

/-- A request arrives at its bank or interface: an idle target serves it; it waits while the target is taken or others wait there. -/
def State.arrive (s : State) (w : MemWork) (held : Bool) : State :=
  let u := s.memUnit (w.addr s)
  let idle := (s.waitsAt u).isEmpty && !held
  let s := s.enqueue w
  if idle then s.serveOne true u else s

/-- The targets at which something waits. -/
def State.busyTargets (s : State) : List Nat := (s.fab.waits.map (fun w => s.memUnit (w.work.addr s))).eraseDups

/-- Every target with something waiting serves one access. -/
def State.serveTick (s : State) : State := s.busyTargets.foldl (fun s u => s.serveOne false u) s

def State.serveTicks : Nat → State → State
  | 0, s => s
  | n + 1, s => State.serveTicks n s.serveTick

/-- Everything that waits anywhere is completed, and the tag cache written back (R127). -/
def State.drainMemory (s : State) : State :=
  let s := State.serveTicks (3 * s.fab.waits.length) s
  let ls := s.fab.tagLines
  let s := (ls.filter (·.2)).foldl (fun s e => s.perform false (.tagLine e.1)) s
  { s with fab := { s.fab with tagLines := s.fab.tagLines.map (fun e => (e.1, false)) } }

end Sys2Proof.Machine
end

