-- ==== Sys2Proof/Machine/Batch.lean ====
section
/-! DEFINITION. Batch queues and the reset of a camera flow (10 R243, R248, R263 to R265, R267). -/

namespace Sys2Proof.Machine

/-! ### Slots and closes -/

/-- The ring stride of a queue's records. -/
def BatchQ.stride (q : BatchQ) : Nat := ceilDiv (64 + 40 * q.size) 64 * 64

/-- A settled slot holds a sample. -/
def BSlot.settled : BSlot → Bool
  | .sample .. => true
  | _ => false

/-- What a close gathers of a batch. -/
structure BatchOut where
  slots : List Byte := []
  mask : Nat := 0
  valid : Nat := 0
  subs : List BSub := []

/-- The 16 bytes of a padded slot: INDEX 0xFFFF, no flag; its identifier, pool and tag are free values (log 33). -/
def padBytes (r : Nat) : List Byte :=
  leBytes 8 r ++ leBytes 2 0xFFFF ++ leBytes 1 (r >>> 64) ++ [(0 : Byte)] ++ leBytes 4 (r >>> 72)

/-- Slot `i` at a close (10 R263 to R265). -/
def closeSlot (q : BatchQ) (acc : BatchOut × State) (i : Nat) : BatchOut × State :=
  match q.slots.getD i .openSlot with
  | .sample id index pool flags tag =>
    ({ acc.1 with
        slots := acc.1.slots ++ leBytes 8 id ++ leBytes 2 index ++ leBytes 1 pool ++ leBytes 1 flags ++ leBytes 4 tag
        mask := acc.1.mask + 2 ^ i, valid := acc.1.valid + 1 }, acc.2)
  | .awaiting o reason _ _ =>
    let (r, s) := acc.2.draw
    ({ acc.1 with slots := acc.1.slots ++ padBytes r
                  subs := acc.1.subs ++ [{ orig := o, repl := 0, slot := i, reason := reason }] }, s)
  | .openSlot =>
    let (r, s) := acc.2.draw
    ({ acc.1 with slots := acc.1.slots ++ padBytes r
                  subs := acc.1.subs ++ [{ orig := r >>> 104, repl := 0, slot := i, reason := (r >>> 168) % 256 }] }, s)

/-- A substitution entry. -/
def subBytes (e : BSub) : List Byte :=
  leBytes 8 e.orig ++ leBytes 8 e.repl ++ leBytes 2 e.slot ++ leBytes 1 e.reason ++ List.replicate 5 0

def State.queue (s : State) (h k : Nat) : BatchQ := mget (s.hank h).card.queues k {}
def State.setQueue (s : State) (h k : Nat) (q : BatchQ) : State :=
  let x := s.hank h
  s.setHank h { x with card := { x.card with queues := mset x.card.queues k q } }

/-- The first batch of a queue closes; slots beyond SIZE belong to the next batch (10 R263, log 33). -/
def State.closeBatch (s : State) (h k code tick : Nat) : State :=
  let q := s.queue h k
  let r := (List.range q.size).foldl (closeSlot q) ({ subs := q.subs.filter (fun e => decide (e.slot < q.size)) }, s)
  let o := r.1
  let s := r.2
  let rec_ := leBytes 8 q.seq ++ leBytes 8 tick ++ leBytes 8 s.tck.time ++ leBytes 1 k ++ leBytes 1 code
    ++ leBytes 2 q.size ++ leBytes 2 o.valid ++ leBytes 2 o.subs.length ++ leBytes 32 o.mask
    ++ o.slots ++ o.subs.flatMap subBytes
  s.setQueue h k { q with
    seq := q.seq + 1, slots := q.slots.drop q.size
    subs := (q.subs.filter (fun e => decide (q.size ≤ e.slot))).map (fun e => { e with slot := e.slot - q.size })
    closed := q.closed ++ [slice rec_ 0 q.stride] }

/-- Every batch of a queue whose slots are all settled closes (CLOSE 0). -/
def State.closeFull (s : State) (h k : Nat) : Nat → State
  | 0 => s
  | n + 1 =>
    let q := s.queue h k
    if decide (q.size ≤ q.slots.length) && (q.slots.take q.size).all BSlot.settled then
      (s.closeBatch h k 0 (s.ply q.ply).tick).closeFull h k n
    else s

/-- Every open batch of a queue closes, whatever its slots (disabled, reweave, HELD). -/
def State.closeAll (s : State) (h k code tick : Nat) : Nat → State
  | 0 => s
  | n + 1 => if (s.queue h k).slots = [] then s else (s.closeBatch h k code tick).closeAll h k code tick n

/-- The close of a MODE TICK queue at a boundary, while at least one slot is settled. -/
def State.closeTick (s : State) (h k tick : Nat) : Nat → State
  | 0 => s
  | n + 1 =>
    let q := s.queue h k
    if (q.slots.take q.size).any BSlot.settled then (s.closeBatch h k 1 tick).closeTick h k tick n else s

/-! ### Samples -/

/-- The ring of a queue has a free entry. -/
def BatchQ.room (q : BatchQ) : Bool :=
  decide (0 < ringSize q.log2) && decide ((q.head + 65536 - q.tail) % 65536 < ringSize q.log2)

/-- Whether samples for the queue are discarded under RING_FULL (10 R264). -/
def BatchQ.blocked (q : BatchQ) : Bool := !q.closed.isEmpty && !q.room

/-- Whether an awaiting slot takes a sample with this identifier (10 R265). -/
def BSlot.takes (id : Nat) (aug : Bool) : BSlot → Bool
  | .awaiting o _ _ a => a == aug && (aug || decide (o / 2 ^ 54 = id / 2 ^ 54))
  | _ => false

/-- The position of the first element that satisfies `p`, from `i` on. -/
def findPos {α : Type} (p : α → Bool) : List α → Nat → Option Nat
  | [], _ => none
  | x :: xs, i => if p x then some i else findPos p xs (i + 1)

/-- A sample enters a batch queue: it fills the first slot that awaits it, else claims a slot (10 R263, R265). -/
def State.fillSample (s : State) (h k id index pool flags tag : Nat) (aug : Bool) : State :=
  let q := s.queue h k
  let s : State := match findPos (BSlot.takes id aug) q.slots 0 with
    | some i =>
      (match q.slots.getD i .openSlot with
       | .awaiting o reason _ _ =>
         s.setQueue h k { q with slots := q.slots.set i (.sample id index pool (flags ||| 8) tag)
                                 subs := q.subs ++ [{ orig := o, repl := id, slot := i, reason := reason }] }
       | _ => s)
    | none => s.setQueue h k { q with slots := q.slots ++ [.sample id index pool flags tag] }
  s.closeFull h k (q.slots.length + 1)

/-- A slot filled at once from the camera's last good picture: STALE and SUBSTITUTE (10 R265). -/
def State.fillStale (s : State) (h k orig reason id index pool flags tag : Nat) : State :=
  let q := s.queue h k
  (s.setQueue h k { q with slots := q.slots ++ [.sample id index pool (flags ||| 10) tag]
                           subs := q.subs ++ [{ orig := orig, repl := id, slot := q.slots.length, reason := reason }] }).closeFull
    h k (q.slots.length + 1)

/-- A corrupt or skipped sample claims a slot that awaits a substitute (10 R265). -/
def State.claimAwait (s : State) (h k id reason tag : Nat) (aug : Bool) : State :=
  let q := s.queue h k
  s.setQueue h k { q with slots := q.slots ++ [.awaiting id reason tag aug] }

/-- The open batches of every queue of ply `p` close (10 R263, R267; 18 R412). -/
def State.closePlyBatches (s : State) (p code tick : Nat) : State :=
  s.hanks.foldl (fun s e =>
    e.2.card.queues.foldl (fun s q =>
      if q.2.ply = p then s.closeAll e.1 q.1 code tick (q.2.slots.length + 1) else s) s) s

/-- The MODE TICK queues of ply `p` close at step 6 (10 R263). -/
def State.tickPlyBatches (s : State) (p tick : Nat) : State :=
  s.hanks.foldl (fun s e =>
    e.2.card.queues.foldl (fun s q =>
      if q.2.ply = p ∧ q.2.modeTick ∧ q.2.enable then s.closeTick e.1 q.1 tick (q.2.slots.length + 1) else s) s) s

/-! ### Flows -/

/-- The registry record of a camera. -/
def camRec? (m : Image) (c : Nat) : Option CamRec := m.cams.find? (fun r => r.cam == c)

/-- The owner of a camera's frames: its first subscriber. -/
def CamRec.owner (r : CamRec) : Nat := r.subs.headD 0

/-- The frame pool of a ply (key 0x0601). -/
def framePool (m : Image) (p : Nat) : Nat := policyN m 0x0601 p 0

/-- Frame buffers are returned to the frame pool. -/
def State.freeBufs (s : State) (r : CamRec) (l : List Nat) : State :=
  l.foldl (fun s i => s.poolFree r.owner r.ply (framePool s.img r.ply) i) s

/-- The pictures a flow decodes leave their contexts. -/
def State.dropDecoding (s : State) (c : Nat) : State :=
  (s.flow c).dec.foldl (fun s d =>
    { s with crd := { s.crd with engines := mupd s.crd.engines d.engine {} (fun e => { e with busy := e.busy - 1 }) } }) s

/-- A flow is reset (10 R243, R248): the reorder buffer empties, its pictures are released, and decoding waits for a
random-access point. `keep` the last good picture. -/
def State.flowReset (s : State) (c : Nat) (keep : Bool) : State :=
  let f := s.flow c
  let kept := if keep then (f.lastGood.map (·.buf)).toList else []
  let s := match camRec? s.img c with
    | some r => s.freeBufs r (f.bufs.filter (fun b => !(kept.contains b)))
    | none => s
  let s := s.dropDecoding c
  let f := s.flow c
  s.setFlow c { f with
    next := none, held := [], ssrc := none, gapSince := none, lost := false, cur := none, queue := [], st := 1, sr := none
    frameNo := 0, lastGood := if keep then f.lastGood else none, prev := none, bufs := kept, refs := [], tainted := [], badParams := []
    dec := [], discard := false }

end Sys2Proof.Machine
end

