-- ==== Sys2Proof/Machine/Islands.lean ====
section
/-! DEFINITION. The governed islands: operating points, the requests of the plies, the bounds, and how a point changes
(14 R320 to R330). -/

namespace Sys2Proof.Machine

/-! ### Islands and operating points (R320, R321) -/

/-- The governed islands of a variant. -/
def islandsOf : Variant → List Nat
  | .z740 => [0, 1, 2, 3, 4, 5]
  | _ => [0, 2, 4, 5]

def State.islands (s : State) : List Nat := islandsOf s.variant

/-- Voltage of an operating point in mV. -/
def opVolt (op : Nat) : Nat := 550 + 50 * op

/-- Clock of an island at an operating point in MHz. -/
def opClock (island op : Nat) : Nat :=
  let t := if island < 2 then [300, 450, 575, 700, 810, 910, 1010, 1100]
    else if island < 4 then [330, 490, 630, 765, 885, 995, 1100, 1200]
    else if island = 4 then [270, 410, 520, 640, 735, 830, 920, 1000]
    else [440, 650, 830, 1010, 1170, 1310, 1460, 1600]
  t.getD op 0

/-- Counting units of ply `p` in an island: tiles of a Whorl island, cores of a Spindle island. -/
def State.unitsIn (s : State) (p i : Nat) : Nat :=
  match plyRec? s.img p with
  | none => 0
  | some r =>
    if i < 2 then ((List.range 8).filter (fun t => decide (t / 4 = i) && bit r.tileMask t && s.counts (14 + t))).length
    else if i < 4 then ((s.countingCores p).filter (fun c => decide (2 + c / 8 = i))).length
    else 0

/-- Whether any ply holds a unit in an island. -/
def State.islandHeld (s : State) (i : Nat) : Bool := s.plies.any (fun e => decide (0 < s.unitsIn e.1 i))

/-- Whether an island's clock is stopped: with its power state, for want of voltage, or gated at OP0 because no ply holds a unit in it
(R322, R331). -/
def State.clockOff (s : State) (i : Nat) : Bool :=
  (s.isl i).stopped || (s.isl i).lowVolt || (decide (i < 4) && !s.islandHeld i && (s.isl i).cur == 0)

/-! ### Requests (R322 to R324) -/

/-- The standing request for an island: the highest of the plies that hold units in it; OP0 when none does (R322). -/
def State.islandRequest (s : State) (i : Nat) : Nat :=
  ((s.plies.filter (fun e => decide (0 < s.unitsIn e.1 i))).map (fun e => mget e.2.gov.requests i 0)).foldl max 0

/-- The ply whose request an island runs at, with the load and rho of its last boundary: the lowest number among the highest requests;
0xFFFF with zeros where no ply asks (R327). DESIGN CHOICE (log 200). -/
def State.asking (s : State) (i : Nat) : Nat × Nat × Nat :=
  match s.plies.find? (fun e => decide (0 < s.unitsIn e.1 i) && mget e.2.gov.requests i 0 == s.islandRequest i) with
  | some e => if i < 2 then (e.1, e.2.gov.loads.1, e.2.gov.rho) else (e.1, e.2.gov.loads.2, e.2.gov.rhoSpd)
  | none => (0xFFFF, 0, 0)

/-- Numerator and denominator of rho of ply `p`: tile-cycles, or Spindle-cycles; a ratio to no declared cost is a free value
(R323, log 35). -/
def State.rho (s : State) (p : Nat) (spindle : Bool) : (Nat × Nat) × State :=
  let pl := s.ply p
  let l := pl.gov.samples.filter (fun x => decide (pl.tick ≤ x.tick + 16))
  if pl.gov.rhoOne ∨ pl.gov.samples.length < 16 then ((1, 1), s)
  else
    let d := (l.map (fun x => if spindle then x.declSpindle else x.declTile)).sum
    let m := (l.map (fun x => if spindle then x.metSpindle else x.metTile)).sum
    if d = 0 then let (v, s) := s.draw; ((128 + v % 385, 256), s)
    else if 2 * m < d then ((1, 2), s) else if 2 * d < m then ((2, 1), s) else ((m, d), s)

/-- The lowest operating point, from `op` up, whose clock does the work in the usable time; OP7 when nothing lower fits (R323).
A usable time that is not positive fits nothing. -/
def fitPoint (island cur tick margin settle load n rn rd : Nat) : Nat → Nat → Nat
  | 0, op => op
  | f + 1, op =>
    if 7 ≤ op then 7
    else
      let t : Int := tick * 250 - (op - cur : Nat) * settle
      if 0 < t ∧ (load * 1024 * rn * 100 : Int) ≤ opClock island op * t * (100 - margin) * n * rd then op
      else fitPoint island cur tick margin settle load n rn rd f (op + 1)

/-- The larger of a list. -/
def maxOf (l : List Nat) : Nat := l.foldl max 0

/-- A ply's standing request for an island after a boundary at which R323 gives `raw` (R324): a lower request needs HOLD_DOWN
consecutive values below the last request, and takes the highest of them. -/
def PlyGov.request (g : PlyGov) (i raw : Nat) (overran : Bool) : PlyGov :=
  let v := if overran then min 7 (raw + 2) else raw
  let fl := mget g.floors i []
  let base := maxOf (fl.map (·.1))
  let left := ((fl.map (fun (x : Nat × Nat) => (x.1, x.2 - 1))).filter (fun x => decide (0 < x.2)))
    ++ (if overran then [(v, 16)] else [])
  let g : PlyGov := { g with floors := mset g.floors i left }
  let all : List Nat := mget g.lows i [] ++ [raw]
  let win := all.drop (all.length - g.holdDown)
  let r := match mget? g.requests i with
    | none => v
    | some q => if q ≤ v then v else if g.holdDown ≤ all.length ∧ maxOf win < q then max v (maxOf win) else q
  { g with requests := mset g.requests i (max base r), lows := mset g.lows i (all.drop (all.length - 64)) }

/-! ### Bounds (R325) -/

/-- The authority that holds an object of R357, if any; 1 and 2 hold by their conditions where those rules say so. -/
def State.holder (s : State) (object index : Nat) : Option Override := mget? s.stw.overrides (object * 256 + index)

/-- PIN, FLOOR and CEIL in force on an island: an override's, or the registers'. -/
def State.pinned (s : State) (i : Nat) : Nat × Nat × Nat :=
  match s.holder 0x0104 i with
  | some o => (bits o.value 7 0 % 16, min (bits o.value 15 8) (bits o.value 23 16), bits o.value 23 16)
  | none => ((s.isl i).pin, (s.isl i).floor, (s.isl i).ceil)

/-- The highest point the caps and the trip leave an island. -/
def State.capOf (s : State) (i : Nat) : Nat :=
  if i = 5 then 7
  else if s.pwr.level = 3 ∨ s.stw.wdForced then 0
  else min (min s.pwr.thermCap s.pwr.tdpCap) (if s.pwr.hotCap ∧ i < 4 then 3 else 7)

/-- The point of an island under the bounds of R325, from a request. -/
def State.bounded (s : State) (i req : Nat) : Nat :=
  let (pin, lo, hi) := s.pinned i
  let r := if pin < 8 then pin else clampN lo hi req
  min r (s.capOf i)

/-! ### Changing a point (R327 to R330) -/

/-- DATA of a governor entry: load in bytes 0 to 3, rho in bytes 4 and 5, the monitors from byte 6 (log 36). -/
def State.govData (s : State) (load rho : Nat) : Nat :=
  load % 2 ^ 32 + rho % 2 ^ 16 * 2 ^ 32 + s.readings / 2 ^ 48 * 2 ^ 48

/-- VOUT_COMMAND for a point. -/
def State.command (s : State) (i mv : Nat) : State :=
  (s.setIsl i { s.isl i with volt := mv }).emit (.vout i mv)

/-- A raise: the clock stays until the confirmation (R328). -/
def State.raise (s : State) (i op ply load rho : Nat) : State :=
  let x := s.isl i
  let s := s.fact { origin := 6, kind := 3, aux := ply, object := jObj 8 i, old := x.cur, new := op, data := s.govData load rho }
  let s := s.setIsl i { s.isl i with target := op, st := 2, changes := satAdd 16 x.changes 1, waiting := none }
  s.command i (opVolt op)

/-- A lowering sets the clock at once (R329). -/
def State.lower (s : State) (i op : Nat) : State :=
  let x := s.isl i
  let s := s.setIsl i { x with cur := op, target := op, st := 1, changes := satAdd 16 x.changes 1, waiting := none }
  s.command i (opVolt op)

/-- A lowering by the governor, which the journal may refuse (R327). -/
def State.lowerAsked (s : State) (i op ply load rho : Nat) : State :=
  let x := s.isl i
  match s.change [{ origin := 6, kind := 1, aux := ply, object := jObj 8 i, old := x.cur, new := op, data := s.govData load rho }] with
  | (true, s) => s.lower i op
  | (false, s) => s

/-- An island is decided to run at point `op`. -/
def State.decideIsland (s : State) (i op ply load rho : Nat) : State :=
  let x := s.isl i
  if 3 ≤ x.st then s
  else if x.st ≠ 0 then s.setIsl i { x with waiting := if op = x.target then none else some (op, ply, load, rho) }
  else if op = x.cur then s
  else if op < x.cur then s.lowerAsked i op ply load rho
  else s.raise i op ply load rho

/-- The entry of a change of point that no request made: a record of fact (R327). -/
def State.pointFact (s : State) (kind i old new : Nat) : State :=
  let a := s.asking i
  if old = new then s
  else s.fact { origin := 6, kind := kind, aux := a.1, object := jObj 8 i, old := old, new := new, data := s.govData a.2.1 a.2.2 }

/-- A lowering that protection orders: the entry is a record of fact, and a transition or a lost link does not hold it up. A raise that it
ends is recorded from the point that the raise was to reach (log 200). -/
def State.forceDown (s : State) (i op : Nat) : State :=
  let x := s.isl i
  if x.st = 4 ∨ x.st = 5 ∨ (x.cur ≤ op ∧ (x.st ≠ 2 ∨ x.target ≤ op)) then s
  else
    let s := s.pointFact 3 i (if x.st = 2 then x.target else x.cur) (min x.cur op)
    if x.st = 3 then s.setIsl i { s.isl i with cur := min x.cur op, target := min x.cur op, changes := satAdd 16 x.changes 1 }
    else s.lower i (min x.cur op)

/-- The caps hold islands 0 to 4 down at once. -/
def State.applyCaps (s : State) : State :=
  (s.islands.filter (fun i => decide (i < 5))).foldl (fun s i => s.forceDown i (s.capOf i)) s

/-! ### FAB and APP (R326) -/

/-- Macroblocks a second that FAB must carry. -/
def State.mbDemand (s : State) : Nat :=
  (s.img.hanks.map (fun r => r.resMb * (s.ply r.ply).ticksPerS)).sum
  + ((s.crd.other.filter (fun e => decide (s.tck.time < e.1 + nsPerS))).map (·.2)).sum

/-- FAB's request: the higher of FAB_FLOOR and the lowest point whose clock carries the demand (OP7 when none does, log 37). -/
def State.fabPoint (s : State) : Nat :=
  let d := s.mbDemand
  let op := ((List.range 8).find? (fun op => decide (1000 * d * 100 ≤ opClock 4 op * s.capMb * (100 - s.pwr.marginDev)))).getD 7
  max s.pwr.fabFloor op

/-- APP runs at APP_OP. -/
def State.appDecide (s : State) : State :=
  if s.pwr.state = 0 ∨ s.pwr.state = 1 then s.decideIsland 5 (s.bounded 5 s.pwr.appOp) 0xFFFF 0 0 else s

end Sys2Proof.Machine
end

