-- ==== Sys2Proof/Machine/Units.lean ====
section
/-! DEFINITION. Unit states: reports, draining, leaving service, self-tests and the two views of a unit (18 R400 to R409). -/

namespace Sys2Proof.Machine

/-- The jobs a unit runs, holds staged, or keeps waiting, by its table entry. `run` asks for the running one. -/
def State.jobsOn (s : State) (i : Nat) (run : Bool) : List Job :=
  s.jobs.filter (fun j =>
    let active := match j.phase with
      | .running | .stopping => run
      | .admitted | .staged => !run
      | _ => false
    active &&
      (match j.kind with
       | 1 => decide (14 ≤ i ∧ i < 22) && (arrayTiles (s.arr j.unit).shape (s.arr j.unit).first).contains (i - 14)
          && (s.arr j.unit).formed
       | 2 => i == 48 + j.unit || (i == 10 + j.unit / 4 && decide (j.unit < 16))
       | 3 => i == 128 + j.unit || (i == 28 + j.unit / 16 && decide (j.unit < 64))
       | 4 => i == 27
       | 5 => false
       | _ => false))

/-- Whether a ply owns a memory unit or routes through it. -/
def State.plyUses (s : State) (p i : Nat) : Bool :=
  (match plyRec? s.img p with | some r => (plyUnits r).contains i | none => false)
  || s.img.routes.any (fun r => r.ply == p && (endpointUnits s.img r.src ++ endpointUnits s.img r.dst).contains i)

/-- Whether a DRAINING unit is idle (18 R404). -/
def State.unitIdle (s : State) (i : Nat) : Bool :=
  if (64 ≤ i ∧ i < 112) ∨ (6 ≤ i ∧ i < 10) ∨ i = 4 then
    !(s.jobs.any (fun j => j.holds && (i == 4 || decide (i < 10) || s.plyUses j.ply i)))
  else (s.jobsOn i true).isEmpty

/-- A unit becomes DRAINING: jobs staged or waiting for it end UNIT_UNAVAILABLE, DETAIL 2 (18 R404). -/
def State.startDrain (s : State) (i target auth : Nat) : State :=
  let s := s.setUnit i { s.unitSt i with target := target }
  let s := s.writeUnit i 3 auth
  (s.jobsOn i false).foldl (fun s j => (s.stopUnits j).2.complete j.id .unavailable 2) s

/-- Skein bank `b` leaves service: its contents are lost, its pools released (18 R404). -/
def State.loseBank (s : State) (b : Nat) : State :=
  let lo := skeinBase + b * mib
  let hi := lo + mib
  let s := (s.scrub lo hi).voidRange lo hi
  (s.pools.filter (fun e => e.2.woven && e.2.skein && decide (e.2.base < hi)
      && decide (lo < e.2.base + e.2.count * e.2.stride))).foldl (fun s e => s.poolRelease (e.1 / 8) (e.1 % 8)) s

/-- Tile `t` leaves service: its array is unformed and its resident weights are invalid (18 R404). -/
def State.loseTile (s : State) (t : Nat) : State :=
  (s.arrays.filter (fun e => e.2.formed && (arrayTiles e.2.shape e.2.first).contains t)).foldl (fun s e =>
    let s := s.setArr e.1 { e.2 with formed := false, resident := none, run := none, staged := [] }
    (arrayTiles e.2.shape e.2.first).foldl (fun s u => s.setTile u { s.tile u with state := 0 }) s) s

/-- A unit moves to the state it drains to, or is put there. -/
def State.leaveService (s : State) (i st auth : Nat) : State :=
  let s := s.writeUnit i st auth
  let s := if st = 4 ∧ auth = 2 then s.setUnit i { s.unitSt i with policyHold := some s.tck.time } else s
  if 64 ≤ i ∧ i < 112 then s.loseBank (i - 64)
  else if i = 4 then (List.range (nBanks s.variant)).foldl State.loseBank s
  else if 14 ≤ i ∧ i < 22 then s.loseTile (i - 14)
  else s

/-- The steward takes a report (18 R401 to R403). -/
def State.takeReport (s : State) (i cause : Nat) : State :=
  let u := s.unitSt i
  let win := u.reports.filter (fun t => decide (s.tck.time < t + s.stw.reportWindow * 60 * nsPerS)) ++ [s.tck.time]
  let s := s.setUnit i { u with faults := satAdd 16 u.faults 1, lastCause := cause, latch := true, reports := win }
  if fixedUnit i then
    s.fact { origin := 3, kind := 1, code := cause, object := jObj 6 i, old := u.state, new := u.state }
  else
    let s := if u.state = 1 then s.writeUnit i 2 2 else s
    if (s.unitSt i).state = 2 ∧ (s.stw.reportLimit ≤ win.length ∨ cause = 4 ∨ cause = 6 ∨ cause = 8) then
      s.startDrain i 4 2
    else s

/-- The reports of a command are taken in order. -/
def State.takeReports (s : State) : State :=
  let l := s.stw.reports
  let s := { s with stw := { s.stw with reports := [] } }
  l.foldl (fun s r => if unitPresent s.variant r.1 then s.takeReport r.1 r.2 else s) s

/-- A job stopped by its unit's drain limit waits for its boundary (18 R404). -/
def State.drainStop (s : State) (i : Nat) (j : Job) : State :=
  let s := if j.kind = 2 then
      let c := s.core j.unit
      s.setCore j.unit { c with state := 4, faultHalt := true, faultCause := 0, ended := false }
    else (s.stopUnits j).2
  s.updJob j.id (fun j => { j with phase := .halted, excused := false, lostUnit := some i })

/-! ### The two views (18 R407, R408) -/

/-- The engine's local copy of its state word. -/
def State.localView (s : State) (i : Nat) : Nat :=
  let u := s.unitSt i
  if s.tck.time < u.localAt then u.local_ else u.state

/-- The check of a unit's two views at a job's start: whether the job starts (18 R407). -/
def State.startCheck (s : State) (i : Nat) : Bool × State :=
  let u := s.unitSt i
  if !s.counts i then
    if s.localView i = 1 then
      let s := s.setUnit i { u with local_ := u.state, localAt := 0 }
      let s := { s with stw := { s.stw with disagree60 := satAdd 16 s.stw.disagree60 1 } }
      (false, s.fact { origin := 3, kind := 1, code := 0x60, object := jObj 6 i, old := u.state, new := 1 })
    else (false, s)
  else if u.latch ∧ u.state = 1 then
    let s := { s with stw := { s.stw with disagree61 := satAdd 16 s.stw.disagree61 1 } }
    let s := s.fact { origin := 3, kind := 1, code := 0x61, object := jObj 6 i, old := 1, new := 2 }
    (true, s.writeUnit i 2 2)
  else (true, s)

/-! ### The commands -/

def execFaultReport (index cause : Nat) (s : State) : Host.Outcome State Fault Refusal :=
  .next ((({ s with out := [] } : State).report index cause).takeReports)

def execUnitNoResponse (index : Nat) (s : State) : Host.Outcome State Fault Refusal :=
  .next ((({ s with out := [] } : State).report index 6).takeReports)

/-- SUSPECT_CLEAR: no report for SUSPECT_CLEAR minutes (18 R403). -/
def execSuspectClear (index : Nat) (s : State) : Host.Outcome State Fault Refusal :=
  let s := { s with out := [] }
  let u := s.unitSt index
  if u.state = 2 then .next ((s.setUnit index { u with latch := false, reports := [] }).writeUnit index 1 2) else .next s

/-- DRAIN_LIMIT_EXPIRY: running jobs are stopped and the unit moves to its target (18 R403, R404). -/
def execDrainLimitExpiry (index : Nat) (s : State) : Host.Outcome State Fault Refusal :=
  let s := { s with out := [] }
  let u := s.unitSt index
  if u.state = 3 then
    let s := (s.jobsOn index true).foldl (fun s j => s.drainStop index j) s
    .next (s.leaveService index u.target u.auth)
  else .next s

/-- UNIT_DRAINED: the DRAINING unit is idle (18 R403). -/
def execUnitDrained (index : Nat) (s : State) : Host.Outcome State Fault Refusal :=
  let s := { s with out := [] }
  let u := s.unitSt index
  if u.state = 3 ∧ s.unitIdle index then .next (s.leaveService index u.target u.auth) else .next s

end Sys2Proof.Machine
end

