-- ==== Sys2Proof/Machine/Crypto.lean ====
section
/-! DEFINITION. SHA-384 and ECDSA P-384 verification, which 02 R34, 02 R40, 15 R369 and 17 R382 ask for by name. PRESUMED
from FIPS 180-4 and FIPS 186-5 (log 12). Words are numbers below 2^64. -/

namespace Sys2Proof.Crypto

/-- The primes below 410: the first eighty. A composite number below 410 has a divisor below 21. -/
def primes : List Nat :=
  (List.range 410).filter (fun q => decide (2 ≤ q) && (List.range 19).all (fun i => q % (i + 2) != 0 || decide (q ≤ i + 2)))

/-- The largest r with r^k at most `x` whose bits from `b` on are those of the argument. -/
def rootBits (k x : Nat) : Nat → Nat → Nat
  | 0, r => r
  | b + 1, r => rootBits k x b (if (r + 2 ^ b) ^ k ≤ x then r + 2 ^ b else r)

/-- The first 64 bits of the fractional part of the k-th root of `q`, for roots below 32. -/
def rootFraction (k q : Nat) : Nat := rootBits k (q * 2 ^ (64 * k)) 69 0 % 2 ^ 64

/-- The round constants: the cube roots of the first eighty primes. -/
def roundK : List Nat := primes.map (rootFraction 3)

/-- The initial hash value of SHA-384: the square roots of the ninth to the sixteenth prime. -/
def iv : List Nat := ((primes.drop 8).take 8).map (rootFraction 2)

def w64 (x : Nat) : Nat := x % 2 ^ 64

/-- Rotation right of a 64-bit word. -/
def rotr (x n : Nat) : Nat := (x >>> n) ||| w64 (x <<< (64 - n))

def sig0 (x : Nat) : Nat := rotr x 1 ^^^ rotr x 8 ^^^ (x >>> 7)
def sig1 (x : Nat) : Nat := rotr x 19 ^^^ rotr x 61 ^^^ (x >>> 6)
def sum0 (x : Nat) : Nat := rotr x 28 ^^^ rotr x 34 ^^^ rotr x 39
def sum1 (x : Nat) : Nat := rotr x 14 ^^^ rotr x 18 ^^^ rotr x 41
def ch (e f g : Nat) : Nat := (e &&& f) ^^^ ((2 ^ 64 - 1 - e) &&& g)
def maj (a b c : Nat) : Nat := (a &&& b) ^^^ (a &&& c) ^^^ (b &&& c)

/-- The eight working variables. -/
structure Vars where
  a : Nat
  b : Nat
  c : Nat
  d : Nat
  e : Nat
  f : Nat
  g : Nat
  h : Nat

/-- One round with its constant and schedule word. -/
def round (v : Vars) (k w : Nat) : Vars :=
  let t1 := v.h + sum1 v.e + ch v.e v.f v.g + k + w
  let t2 := sum0 v.a + maj v.a v.b v.c
  { a := w64 (t1 + t2), b := v.a, c := v.b, d := v.c, e := w64 (v.d + t1), f := v.e, g := v.f, h := v.g }

/-- The rounds of a block: the schedule is a window of sixteen words. -/
def rounds : List Nat → List Nat → Vars → Vars
  | [], _, v => v
  | k :: ks, win, v =>
    let w := win.headD 0
    let nw := w64 (sig1 (win.getD 14 0) + win.getD 9 0 + sig0 (win.getD 1 0) + w)
    rounds ks (win.drop 1 ++ [nw]) (round v k w)

/-- The hash value after one block of sixteen words. -/
def block (hv win : List Nat) : List Nat :=
  let g := fun i => hv.getD i 0
  let v := rounds roundK win { a := g 0, b := g 1, c := g 2, d := g 3, e := g 4, f := g 5, g := g 6, h := g 7 }
  List.zipWith (fun x y => w64 (x + y)) hv [v.a, v.b, v.c, v.d, v.e, v.f, v.g, v.h]

/-- Sixteen big-endian words. -/
def words16 (bs : List Byte) : List Nat := (List.range 16).map (fun i => beAt bs (8 * i) 8)

def blocks : Nat → List Nat → List Byte → List Nat
  | 0, hv, _ => hv
  | n + 1, hv, bs => blocks n (block hv (words16 (bs.take 128))) (bs.drop 128)

/-- The padded message. -/
def pad (bs : List Byte) : List Byte :=
  bs ++ [0x80] ++ List.replicate ((239 - bs.length % 128) % 128) 0 ++ beBytes 16 (8 * bs.length)

/-- SHA-384 as a number, its first byte the most significant. -/
def sha384 (bs : List Byte) : Nat :=
  let m := pad bs
  ((blocks (m.length / 128) iv m).take 6).foldl (fun a w => a * 2 ^ 64 + w) 0

/-! ### P-384 -/

def p : Nat := 0xfffffffffffffffffffffffffffffffffffffffffffffffffffffffffffffffeffffffff0000000000000000ffffffff
def n : Nat := 0xffffffffffffffffffffffffffffffffffffffffffffffffc7634d81f4372ddf581a0db248b0a77aecec196accc52973
def cb : Nat := 0xb3312fa7e23ee7e4988e056be3f82d19181d9c6efe8141120314088f5013875ac656398d8a2ed19d2a85c8edd3ec2aef
def gx : Nat := 0xaa87ca22be8b05378eb1c71ef320ad746e1d3b628ba79b9859f741e082542a385502f25dbf55296c3a545e3872760ab7
def gy : Nat := 0x3617de4a96262c6f5d9e98bf9292dc29f8f41dbd289a147ce9da3113b5f0b8c00a60b1ce1d7e819d7a431d7c90ea0e5f

/-- Subtraction modulo p. -/
def psub (x y : Nat) : Nat := (x + p - y % p) % p

/-- A point in Jacobian coordinates; z = 0 is the point at infinity. -/
structure Pt where
  x : Nat
  y : Nat
  z : Nat

/-- x^e modulo m, bit by bit. -/
def powMod (m x : Nat) : Nat → Nat → Nat → Nat
  | 0, _, acc => acc
  | f + 1, e, acc => powMod m (x * x % m) f (e / 2) (if e % 2 = 1 then acc * x % m else acc)

/-- The inverse modulo a prime below 2^384. -/
def invMod (m x : Nat) : Nat := powMod m (x % m) 384 (m - 2) 1

/-- Doubling, for a = -3. -/
def dbl (q : Pt) : Pt :=
  let d := q.z * q.z % p
  let g := q.y * q.y % p
  let b := q.x * g % p
  let al := 3 * psub q.x d * (q.x + d) % p
  let x := psub (al * al) (8 * b)
  { x := x, y := psub (al * psub (4 * b) x) (8 * g * g), z := psub (psub ((q.y + q.z) * (q.y + q.z)) g) d }

/-- Addition. -/
def add (q r : Pt) : Pt :=
  if q.z = 0 then r
  else if r.z = 0 then q
  else
    let z1 := q.z * q.z % p
    let z2 := r.z * r.z % p
    let u1 := q.x * z2 % p
    let u2 := r.x * z1 % p
    let s1 := q.y * r.z * z2 % p
    let s2 := r.y * q.z * z1 % p
    let h := psub u2 u1
    let rr := psub s2 s1
    if h = 0 then (if rr = 0 then dbl q else { x := 1, y := 1, z := 0 })
    else
      let hh := h * h % p
      let hhh := h * hh % p
      let v := u1 * hh % p
      let x := psub (psub (rr * rr) hhh) (2 * v)
      { x := x, y := psub (rr * psub v x) (s1 * hhh), z := h * q.z * r.z % p }

/-- u G + v Q, from the most significant of `f` bits. -/
def comb (q gq : Pt) (u v : Nat) : Nat → Pt → Pt
  | 0, acc => acc
  | f + 1, acc =>
    let acc := dbl acc
    let acc := if u.testBit f then (if v.testBit f then add acc gq else add acc { x := gx, y := gy, z := 1 })
      else (if v.testBit f then add acc q else acc)
    comb q gq u v f acc

/-- Whether (r, s) is an ECDSA signature over a digest under the key whose 96 bytes x, y are the number `key`. -/
def verify (key digest r s : Nat) : Bool :=
  let qx := key / 2 ^ 384
  let qy := key % 2 ^ 384
  let q : Pt := { x := qx, y := qy, z := 1 }
  let onCurve := decide (qx < p) && decide (qy < p) && decide (qy * qy % p = (psub (qx * qx * qx) (3 * qx) + cb) % p)
  if !onCurve || r == 0 || decide (n ≤ r) || s == 0 || decide (n ≤ s) then false
  else
    let w := invMod n s
    let t := comb q (add { x := gx, y := gy, z := 1 } q) (digest * w % n) (r * w % n) 384 { x := 1, y := 1, z := 0 }
    if t.z = 0 then false
    else
      let zi := invMod p t.z
      t.x * (zi * zi % p) % p % n == r

/-- The key ID of a key: the first 8 bytes of SHA-384 over its 96 bytes, as the little-endian field of the header (02 R31). -/
def keyId (key : Nat) : Nat := leNat ((beBytes 48 (sha384 (beBytes 96 key))).take 8)

end Sys2Proof.Crypto
end

