-- ==== Sys2Proof/Machine/WarpImage.lean ====
section
/-! DEFINITION. The Warp image: its container, records, policy keys and the checks of R40 in their order (02 R31 to R42). -/

namespace Sys2Proof.Machine

/-! ### Policy keys -/

/-- What a chapter says of a POLICY key: scopes (1 device, 2 ply, 3 both), bytes per item, number of items, range of an item;
a negative low bound marks signed items. -/
structure KeyRule where
  key : Nat
  scopes : Nat
  w : Nat
  nMin : Nat
  nMax : Nat
  lo : Int
  hi : Int

def keysA : List KeyRule :=
  [⟨0x0101, 1, 2, 1, 1, 0, 65535⟩, ⟨0x0102, 1, 1, 1, 1, 0, 255⟩, ⟨0x0201, 3, 1, 1, 1, 0, 2⟩, ⟨0x0202, 3, 1, 1, 1, 50, 100⟩,
   ⟨0x0203, 3, 1, 1, 1, 1, 255⟩, ⟨0x0301, 1, 1, 1, 1, 0, 1⟩, ⟨0x0302, 1, 1, 1, 1, 1, 64⟩, ⟨0x0401, 1, 1, 1, 1, 0, 2⟩,
   ⟨0x0402, 1, 2, 1, 1, 1, 3600⟩, ⟨0x0403, 1, 1, 1, 1, 1, 168⟩, ⟨0x0404, 1, 2, 1, 1, 1, 65535⟩, ⟨0x0501, 3, 1, 1, 1, 0, 1⟩,
   ⟨0x0502, 2, 1, 1, 1, 1, 3⟩, ⟨0x0503, 2, 1, 1, 1, 0, 1⟩]

def keysB : List KeyRule :=
  [⟨0x0510, 2, 1, 1, 1, 0, 2⟩, ⟨0x0511, 2, 1, 1, 1, 0, 2⟩, ⟨0x0512, 2, 1, 1, 1, -4, 4⟩, ⟨0x0513, 2, 1, 2, 2, -4, 4⟩,
   ⟨0x0514, 2, 2, 1, 1, 1, 65535⟩, ⟨0x0515, 2, 1, 1, 1, 1, 255⟩, ⟨0x0516, 2, 1, 1, 1, 0, 31⟩, ⟨0x0601, 2, 1, 1, 1, 0, 7⟩,
   ⟨0x0602, 1, 1, 1, 1, 0, 2⟩, ⟨0x0603, 1, 1, 1, 1, 1, 200⟩, ⟨0x0604, 1, 1, 1, 1, 2, 16⟩, ⟨0x0610, 2, 1, 1, 1, 0, 1⟩,
   ⟨0x0611, 2, 1, 1, 1, 1, 8⟩, ⟨0x0612, 2, 1, 1, 1, 1, 64⟩, ⟨0x0613, 2, 1, 1, 1, 1, 255⟩]

def keysC : List KeyRule :=
  [⟨0x0701, 3, 1, 1, 1, 0, 1⟩, ⟨0x0702, 3, 1, 1, 1, 0, 15⟩, ⟨0x0801, 1, 3, 1, 63, 0, 0xFFFFFF⟩, ⟨0x0805, 1, 2, 1, 16, 1, 4094⟩,
   ⟨0x0810, 1, 1, 1, 1, 0, 1⟩, ⟨0x0811, 1, 1, 1, 1, 0, 2⟩, ⟨0x0812, 1, 1, 1, 1, 0, 127⟩, ⟨0x0813, 1, 1, 1, 1, 1, 60⟩,
   ⟨0x0814, 1, 2, 1, 1, 1, 10080⟩, ⟨0x0815, 1, 2, 1, 1, 10, 500⟩, ⟨0x0816, 1, 4, 1, 1, 1, 1000000⟩, ⟨0x0820, 1, 1, 1, 1, 0, 1⟩,
   ⟨0x0821, 1, 1, 8, 8, 0, 255⟩]

def keysD : List KeyRule :=
  [⟨0x0901, 3, 1, 1, 1, 0, 2⟩, ⟨0x0902, 3, 1, 1, 1, 5, 50⟩, ⟨0x0903, 3, 1, 1, 1, 1, 64⟩, ⟨0x0904, 1, 1, 1, 6, 0, 7⟩,
   ⟨0x0905, 1, 1, 1, 6, 0, 7⟩, ⟨0x0906, 1, 1, 1, 6, 0, 255⟩, ⟨0x0907, 1, 2, 1, 1, 10, 500⟩, ⟨0x0910, 1, 1, 1, 1, 0, 255⟩,
   ⟨0x0911, 1, 1, 1, 1, 0, 7⟩, ⟨0x0912, 1, 1, 1, 1, 0, 7⟩, ⟨0x0920, 1, 1, 18, 18, 0, 255⟩]

def keysE : List KeyRule :=
  [⟨0x0A01, 1, 1, 1, 1, 0, 2⟩, ⟨0x0A02, 1, 1, 1, 1, 0, 15⟩, ⟨0x0A03, 1, 1, 3, 3, 0, 255⟩, ⟨0x0A04, 1, 2, 1, 1, 0, 65535⟩,
   ⟨0x0A05, 1, 1, 1, 1, 1, 4⟩, ⟨0x0A10, 1, 1, 1, 1, 5, 50⟩, ⟨0x0A11, 1, 1, 1, 1, 2, 10⟩, ⟨0x0A20, 1, 4, 1, 1, 1, 86400⟩,
   ⟨0x0A40, 1, 1, 1, 1, 0, 2⟩, ⟨0x0A41, 1, 1, 1, 1, 1, 255⟩, ⟨0x0A42, 1, 2, 1, 1, 1, 1440⟩, ⟨0x0A43, 1, 2, 1, 1, 1, 1440⟩,
   ⟨0x0A44, 1, 1, 1, 32, 0, 255⟩, ⟨0x0A45, 1, 2, 1, 1, 1, 1000⟩, ⟨0x0B00, 1, 1, 1, 1, 0, 2⟩, ⟨0x0B01, 1, 1, 1, 1, 0, 15⟩,
   ⟨0x0B02, 1, 1, 1, 1, 10, 95⟩]

/-- Every key the chapters define (log 30 for the lengths and scopes they do not state). -/
def keyRules : List KeyRule := keysA ++ keysB ++ keysC ++ keysD ++ keysE

/-- The items of a value as numbers. -/
def keyItems (k : KeyRule) (v : List Byte) : List Int :=
  (List.range (v.length / k.w)).map (fun i =>
    let x := leAt v (i * k.w) k.w
    if k.lo < 0 then sx (8 * k.w) x else (x : Int))

/-- 0 when a record's value is allowed, 1 when it breaks a rule, 2 when it lies above its maximum. -/
def keyJudge (k : KeyRule) (scope : Nat) (v : List Byte) : Nat :=
  let n := v.length / k.w
  let it := keyItems k v
  if (scope = 0xFF ∧ k.scopes = 2) ∨ (scope ≠ 0xFF ∧ k.scopes = 1) then 1
  else if v.length % k.w ≠ 0 ∨ n < k.nMin ∨ k.nMax < n then 1
  else if (0x0904 ≤ k.key ∧ k.key ≤ 0x0906) ∧ n ≠ 1 ∧ n ≠ 6 then 1
  else if it.any (fun x => decide (x < k.lo)) then 1
  else if k.key = 0x0906 ∧ it.any (fun x => decide (7 < x ∧ x ≠ 255)) then 2
  else if k.key = 0x0821 ∧ it.any (fun x => decide (3 < x ∧ x ≠ 255)) then 2
  else if k.key = 0x0801 ∧ (it.any (fun x => decide (x % 256 = 0 ∨ 63 < x % 256))
      || (it.map (· % 256)).eraseDups.length != it.length) then 1
  else if it.any (fun x => decide (k.hi < x)) then 2
  else 0

/-! ### The container (R31 to R34) -/

/-- A used directory entry: type, offset, length. -/
structure Sect where
  type : Nat
  off : Nat
  len : Nat

def dirEntry (b : List Byte) (i : Nat) : List Byte := slice b (0x40 + 12 * i) 12

/-- The used entries in directory order. -/
def sects (b : List Byte) : List Sect :=
  (List.range (leAt b 0x0C 2)).map (fun i =>
    let e := dirEntry b i
    { type := leAt e 0 2, off := leAt e 4 4, len := leAt e 8 4 })

/-- RECORD_SIZE of a section type; 0 for POLICY, none for an unknown type (R33). -/
def recSize : Nat → Option Nat
  | 1 => some 32 | 2 => some 8 | 3 => some 8 | 4 => some 64 | 5 => some 16 | 6 => some 64 | 7 => some 0 | 8 => some 16
  | 9 => some 32 | _ => none

def isZero (bs : List Byte) : Bool := bs.all (· == 0)

/-- The bytes of a section, and its record count. -/
def sectBytes (b : List Byte) (x : Sect) : List Byte := slice b x.off x.len

def sectOf (b : List Byte) (t : Nat) : Option (List Byte) := ((sects b).find? (fun x => x.type == t)).map (sectBytes b)

/-- The records of a fixed-size section. -/
def records (b : List Byte) (t : Nat) : List (List Byte) :=
  match sectOf b t, recSize t with
  | some d, some n => (List.range (leAt d 0 4)).map (fun i => slice d (16 + i * n) n)
  | _, _ => []

/-- The POLICY records from the bytes after a section head: key, scope, value; none when they run out. -/
def policyRecs : Nat → List Byte → Option (List PolicyRec × Nat)
  | 0, _ => some ([], 0)
  | n + 1, d =>
    let len := leAt d 3 1
    let size := ceilDiv (4 + len) 4 * 4
    if len = 0 ∨ 252 < len ∨ d.length < size then none
    else if !isZero ((d.take size).drop (4 + len)) then none
    else match policyRecs n (d.drop size) with
      | some (l, k) => some ({ key := leAt d 0 2, scope := leAt d 2 1, value := (d.drop 4).take len } :: l, size + k)
      | none => none

/-- Whether one section obeys R32 and R33; a POLICY record takes 8 bytes or more, so a count beyond that of the bytes cannot hold. -/
def sectOk (b : List Byte) (x : Sect) : Bool :=
  let d := sectBytes b x
  match recSize x.type with
  | none => false
  | some n =>
    x.off % 64 == 0 && decide (256 ≤ x.off) && decide (x.off + x.len + 256 ≤ b.length) && decide (16 ≤ x.len)
    && leAt d 4 4 == n && leAt d 8 8 == 0
    && (if x.type = 7 then
          match policyRecs (min (leAt d 0 4) (d.length / 8 + 1)) (d.drop 16) with
          | some (_, k) => x.len == ceilDiv (16 + k) 64 * 64 && isZero (d.drop (16 + k))
          | none => false
        else
          let k := leAt d 0 4 * n
          x.len == ceilDiv (16 + k) 64 * 64 && isZero (d.drop (16 + k)))

def disjoint (x y : Sect) : Bool := decide (x.off + x.len ≤ y.off) || decide (y.off + y.len ≤ x.off)

/-- Whether every pair of a list satisfies `p`. -/
def pairs {α : Type} (p : α → α → Bool) : List α → Bool
  | [] => true
  | x :: xs => xs.all (p x) && pairs p xs

/-- Whether the directory and the section heads obey R31 to R33. -/
def directoryOk (b : List Byte) : Bool :=
  let n := leAt b 0x0C 2
  decide (1 ≤ n) && decide (n ≤ 16)
  && (List.range 16).all (fun i => if i < n then leAt (dirEntry b i) 0 2 != 0 && leAt (dirEntry b i) 2 2 == 0
        else isZero (dirEntry b i))
  && (sects b).all (sectOk b)
  && pairs (fun x y => disjoint x y && x.type != y.type) (sects b)

/-! ### Records -/

def plyOf (r : List Byte) : PlyRec :=
  { id := leAt r 0 1, flags := leAt r 1 1, ticksPerS := leAt r 2 2, phase := leAt r 4 2, drainTicks := leAt r 6 1
    minTiles := leAt r 8 1, minClusters := leAt r 9 1, minDecode := leAt r 10 1, tileMask := leAt r 12 1
    clusterMask := leAt r 13 1, decodeMask := leAt r 14 1, bankMask := leAt r 16 8, channelMask := leAt r 24 8 }

def tileOf (r : List Byte) : TileRec := { array := leAt r 0 1, ply := leAt r 1 1, shape := leAt r 2 1, first := leAt r 3 1 }

def routeOf (r : List Byte) : RouteRec :=
  { id := leAt r 0 2, ply := leAt r 2 1, priority := leAt r 3 1, src := leAt r 4 2, dst := leAt r 6 2 }

def hankOf (r : List Byte) : HankRec :=
  { hank := leAt r 0 2, ply := leAt r 2 1, flags := leAt r 3 1, keyFirst := leAt r 4 2, keyCount := leAt r 6 2
    dramLimit := leAt r 8 4, skeinLimit := leAt r 12 4, resTile := leAt r 16 4, resSpindle := leAt r 20 4, resMb := leAt r 24 4
    resDram := leAt r 28 4, weight := leAt r 32 2, depth := leAt r 34 2, evBase := leAt r 36 2, evCount := leAt r 38 2 }

def poolOfRec (r : List Byte) : PoolRec :=
  { ply := leAt r 0 1, pool := leAt r 1 1, flags := leAt r 2 1, size := leAt r 4 4, count := leAt r 8 4, rsvRes := leAt r 12 2
    rsvWgt := leAt r 14 2 }

def camOf (r : List Byte) : CamRec :=
  { cam := leAt r 0 2, ply := leAt r 2 1, codec := leAt r 3 1, subs := (List.range 4).map (fun i => leAt r (4 + 2 * i) 2)
    maxW := leAt r 12 2, maxH := leAt r 14 2, maxFps := leAt r 16 1, refreshN := leAt r 17 1, colour := leAt r 18 1
    flags := leAt r 19 1, srcAddr := beAt r 20 16, port := leAt r 36 2, vlan := leAt r 38 2, eth := leAt r 40 1
    pt := leAt r 41 1, roiEntries := leAt r 42 2 }

def fwOf (r : List Byte) : FwRef := { part := leAt r 0 1, min := leAt r 4 4, max := leAt r 8 4 }

def trayOf (r : List Byte) : TrayRec :=
  { addr := leAt r 0 1, required := bit (leAt r 1 1) 0, deviceId := leAt r 2 2, serial := leAt r 8 8, ownerKey := leAt r 16 8
    relayPlies := leAt r 24 2 }

/-- The header fields and records of an image. -/
def parseImage (b : List Byte) : Image :=
  { variantMask := leAt b 0x10 1, minRev := leAt b 0x11 1, rollback := leAt b 0x12 2, target := leAt b 0x14 1
    serial := leAt b 0x20 8, ownerKey := leAt b 0x30 8, digest := Crypto.sha384 b
    plies := (records b 1).map plyOf, tiles := (records b 2).map tileOf, routes := (records b 3).map routeOf
    hanks := (records b 4).map hankOf, pools := (records b 5).map poolOfRec, cams := (records b 6).map camOf
    policy := match sectOf b 7 with
      | some d => ((policyRecs (leAt d 0 4) (d.drop 16)).map (·.1)).getD []
      | none => []
    fw := (records b 8).map fwOf, tray := (records b 9).map trayOf }

/-- Reserved bytes and bits of the records are zero. -/
def reservedOk (b : List Byte) : Bool :=
  (records b 1).all (fun r => leAt r 7 1 == 0 && leAt r 11 1 == 0 && leAt r 15 1 == 0)
  && (records b 2).all (fun r => leAt r 4 4 == 0)
  && (records b 4).all (fun r => isZero (r.drop 40))
  && (records b 5).all (fun r => leAt r 3 1 == 0)
  && (records b 6).all (fun r => isZero (r.drop 44))
  && (records b 8).all (fun r => leAt r 1 3 == 0 && leAt r 12 4 == 0)
  && (records b 9).all (fun r => decide (leAt r 1 1 ≤ 1) && leAt r 4 4 == 0 && isZero (r.drop 26))

/-- Whether an endpoint is an output port (`out`) or an input port of R132; class 3 names the FIRST_TILE of an array. -/
def endpointOk (m : Image) (out : Bool) (e : Nat) : Bool :=
  let c := bits e 15 12
  let i := bits e 11 4
  let port := bits e 3 0
  let n := match c with | 1 => 48 | 2 => 16 | 3 => 8 | 4 => 2 | 7 => 64 | _ => 1
  decide (1 ≤ c ∧ c ≤ 9) && decide (i < n)
  && (if c = 3 then (if out then port == 2 else decide (port ≤ 1)) else port == b2n out)
  && (if c = 3 then
        !((imageArrays m).any (fun r => (arrayTiles r.shape r.first).contains i && r.first != i))
      else true)

/-- Whether a ply route may join an endpoint: its own units, the carding pipeline, the tokenizer, Skein banks 0 to 7. -/
def endpointOwned (r : PlyRec) (e : Nat) : Bool :=
  let i := bits e 11 4
  match bits e 15 12 with
  | 1 => decide (i < 8) || bit r.bankMask i
  | 2 => bit r.clusterMask (i / 4)
  | 3 => bit r.tileMask i
  | 4 => true
  | 5 => true
  | 6 => true
  | 7 => bit r.channelMask i
  | _ => false

/-- The hank-wide fields of a record (R36). -/
def HankRec.wide (r : HankRec) : List Nat :=
  [r.flags, r.keyFirst, r.keyCount, r.dramLimit, r.skeinLimit, r.evBase, r.evCount]

def distinct {α : Type} [BEq α] (l : List α) : Bool := l.eraseDups.length == l.length

/-- The rules of the record tables (BAD_SECTION). DESIGN CHOICE (logs 173, 174): undefined FLAGS bits and record fields above their stated
maximum are among them. -/
def recordsOk (b : List Byte) (m : Image) : Bool :=
  let plyIds := m.plies.map (·.id)
  let arrays := imageArrays m
  reservedOk b
  && m.plies.all (fun r => decide (r.id < 16 ∧ r.flags < 4 ∧ 10 ≤ r.ticksPerS ∧ r.ticksPerS ≤ 1000
      ∧ r.phase < 4000 / r.ticksPerS ∧ 1 ≤ r.drainTicks ∧ r.clusterMask < 16 ∧ r.decodeMask < 4 ∧ r.bankMask < 2 ^ 48))
  && distinct plyIds
  && m.tiles.all (fun r => decide (r.array < 8 ∧ 1 ≤ r.shape ∧ r.shape ≤ 5) && plyIds.contains r.ply
      && (match r.shape with
          | 1 => decide (r.first < 8)
          | 2 => decide (r.first < 8) && r.first % 2 == 0
          | 5 => r.first == 0
          | _ => r.first == 0 || r.first == 4)
      && (arrayTiles r.shape r.first).all (fun t => m.plies.any (fun p => p.id == r.ply && bit p.tileMask t)))
  && distinct (m.tiles.map (·.array))
  && distinct (m.tiles.flatMap (fun r => arrayTiles r.shape r.first))
  && m.routes.all (fun r => decide (r.id < 1024 ∧ r.priority < 4) && (r.ply == 0xFF || plyIds.contains r.ply)
      && endpointOk m true r.src && endpointOk m false r.dst
      && (match plyRec? m r.ply with
          | some p => endpointOwned p r.src && endpointOwned p r.dst
          | none => true))
  && distinct (m.routes.map (·.id)) && decide (arrays.length ≤ 8)
  && m.hanks.all (fun r => decide (1 ≤ r.hank ∧ r.hank < 4096 ∧ r.flags < 4 ∧ r.keyCount ≤ 64 ∧ 1 ≤ r.weight ∧ r.weight ≤ 1000
      ∧ 1 ≤ r.depth ∧ r.depth ≤ 256) && plyIds.contains r.ply
      && (match m.hanks.find? (fun q => q.hank == r.hank) with | some q => q.wide == r.wide | none => true))
  && distinct (m.hanks.map (fun r => (r.hank, r.ply)))
  && m.pools.all (fun r => decide (r.pool < 8 ∧ r.flags < 2 ∧ r.size % 256 = 0 ∧ 256 ≤ r.size ∧ r.size ≤ 4 * mib ∧ 1 ≤ r.count
      ∧ r.count ≤ 65536) && plyIds.contains r.ply)
  && distinct (m.pools.map (fun r => (r.ply, r.pool)))
  && m.cams.all (fun r => plyIds.contains r.ply && decide (1 ≤ r.codec ∧ r.codec ≤ 3 ∧ 1 ≤ r.maxFps ∧ r.maxFps ≤ 60
      ∧ 1 ≤ r.refreshN ∧ r.colour < 4 ∧ r.flags < 4 ∧ r.vlan ≤ 4094 ∧ r.eth ≤ 1 ∧ 1 ≤ r.roiEntries ∧ r.roiEntries ≤ 64)
      && r.subs.headD 0 != 0 && r.subs.all (fun h => h == 0 || m.hanks.any (fun q => q.hank == h)))
  && m.cams.all (fun r => r.port != 318 && r.port != 319 && r.port != 320)
  && distinct (m.cams.map (·.cam))
  && m.policy.all (fun r => (r.scope == 0xFF || plyIds.contains r.scope)
      && (match keyRules.find? (fun k => k.key == r.key) with
          | some k => keyJudge k r.scope r.value != 1
          | none => decide (2 ^ 15 ≤ r.key)))
  && distinct (m.policy.map (fun r => (r.key, r.scope)))
  && m.fw.all (fun r => decide (1 ≤ r.part ∧ r.part ≤ 5))
  && m.tray.all (fun r => decide (1 ≤ r.addr ∧ r.addr ≤ 15))
  && distinct (m.tray.map (·.addr))

/-! ### Units, limits, conflicts -/

/-- Whether every record names units of the roster (UNIT_ABSENT). -/
def unitsPresent (v : Variant) (m : Image) : Bool :=
  m.plies.all (fun r => decide (r.tileMask < 2 ^ nTiles v ∧ r.clusterMask < 2 ^ nClusters v ∧ r.decodeMask < 2 ^ nDecode v
      ∧ r.bankMask < 2 ^ nBanks v))
  && m.routes.all (fun r => (endpointUnits m r.src ++ endpointUnits m r.dst).all (unitPresent v))
  && m.cams.all (fun r => decide (r.cam < nFlows v ∧ r.eth < nEth10 v))

/-- RES_PCT in a scope (03 Basic control). -/
def resPctOf (m : Image) (scope : Nat) : Nat :=
  policyN m 0x0202 scope (match policyN m 0x0201 scope 1 with | 0 => 80 | 1 => 90 | _ => 100)

/-- Configured data rate in MT/s. -/
def rateMts : Nat → Nat | 1 => 6400 | 2 => 7500 | 3 => 8533 | _ => 0

/-- Device capacities a second: macroblocks; DRAM bytes (03 R68). -/
def State.capDramBytes (s : State) : Nat :=
  let n := ((List.range 4).filter (fun i => s.counts (6 + i) && decide (i < s.dramUsed))).length
  7 * n * 4 * rateMts (s.dramIf 0).rate * 1000000 / 10

/-- R69: whether Reserved quotas fit the capacities. -/
def State.quotasFit (s : State) (m : Image) : Bool :=
  m.plies.all (fun p =>
    let hs := m.hanks.filter (fun h => h.ply == p.id)
    let tiles := popCount 8 p.tileMask
    let cores := 4 * popCount 4 p.clusterMask
    let pct := resPctOf m p.id
    decide ((hs.map (·.resTile)).sum * 100 ≤ pct * capTileOf tiles p.ticksPerS)
    && decide ((hs.map (·.resSpindle)).sum * 100 ≤ pct * capSpindleOf cores p.ticksPerS))
  && (let tps := fun (h : HankRec) => ((plyRec? m h.ply).map (·.ticksPerS)).getD 0
      let pct := resPctOf m 0xFF
      decide ((m.hanks.map (fun h => h.resMb * tps h)).sum * 100 ≤ pct * s.capMb)
      && decide ((m.hanks.map (fun h => h.resDram * 65536 * tps h)).sum * 100 ≤ pct * s.capDramBytes))

/-- Whether every camera of a ply fits the ply's frame pool (10 R247). -/
def framesFit (m : Image) : Bool :=
  m.cams.all (fun c =>
    let w := (c.maxW + 15) / 16 * 16
    let h := (c.maxH + 15) / 16 * 16
    m.pools.any (fun q => q.ply == c.ply && q.pool == policyN m 0x0601 c.ply 0 && decide (3 * w * h / 2 ≤ q.size)))

/-- LIMIT_EXCEEDED is not met (R33, R69, R102 key, 04 R111, 05 R134). -/
def State.limitsOk (s : State) (m : Image) : Bool :=
  decide (m.plies.length ≤ 16 ∧ m.tiles.length ≤ 8 ∧ m.routes.length ≤ 1024 ∧ m.hanks.length ≤ 8192 ∧ m.pools.length ≤ 128
    ∧ m.cams.length ≤ nFlows s.variant ∧ m.policy.length ≤ 4096 ∧ m.fw.length ≤ 16 ∧ m.tray.length ≤ 15 ∧ m.rollback ≤ 64)
  && m.policy.all (fun r => match keyRules.find? (fun k => k.key == r.key) with
      | some k => keyJudge k r.scope r.value != 2
      | none => true)
  && m.plies.all (fun r => decide (r.drainTicks ≤ policyN m 0x0102 0xFF 255))
  && m.pools.all (fun r => decide (r.rsvRes + r.rsvWgt < r.count))
  && m.routes.all (fun r => decide ((m.routes.filter (fun q => q.dst == r.dst)).length ≤ 8))
  && s.quotasFit m && framesFit m

def rangesOverlap (a n b k : Nat) : Bool := decide (0 < n ∧ 0 < k ∧ a < b + k ∧ b < a + n)

/-- RESOURCE_CONFLICT is not met (R40; 04 R97, R107). -/
def conflictFree (m : Image) : Bool :=
  pairs (fun x y => (x.tileMask &&& y.tileMask) == 0 && (x.clusterMask &&& y.clusterMask) == 0
      && (x.bankMask &&& y.bankMask) == 0 && (x.channelMask &&& y.channelMask) == 0) m.plies
  && m.plies.all (fun r => r.bankMask % 256 == 0 && r.channelMask % 16 == 0)
  && distinct (m.cams.map (fun c => (c.eth, c.vlan, c.srcAddr, c.port)))
  && m.hanks.all (fun r => (r.keyCount == 0 || decide (64 ≤ r.keyFirst ∧ r.keyFirst + r.keyCount ≤ 4096))
      && (r.evCount == 0 || decide (64 ≤ r.evBase ∧ r.evBase + r.evCount ≤ 1024)))
  && pairs (fun x y => x.hank == y.hank || (!rangesOverlap x.keyFirst x.keyCount y.keyFirst y.keyCount
      && !rangesOverlap x.evBase x.evCount y.evBase y.evCount)) m.hanks

/-- The version of every running part lies in its range of FIRMWARE_REFS; a part that is not loaded runs no version (R40). -/
def State.firmwareOk (s : State) (l : List FwRef) : Bool :=
  l.all (fun r => match mget? s.boot.versions r.part with
    | some v => decide (r.min ≤ v ∧ v ≤ r.max)
    | none => true)

/-- Strapped as tray master (R38): the strap as the boot took it, whatever the role became since (15 R361, R367). -/
def State.strappedMaster (s : State) : Bool := s.pins.strapMaster && !s.stw.strapInvalid

/-! ### The checks of R40 -/

/-- The owner slot a header names, if it is enrolled and unrevoked. -/
def State.ownerKey? (s : State) (id : Nat) : Option Nat :=
  (s.nv.otp.owners.find? (fun o => o.enrolled && !o.revoked && Crypto.keyId o.key == id)).map (·.key)

/-- The signature block holds a signature under a key over the bytes before it (R34). DESIGN CHOICE (log 172): a wrong SIG_TYPE or non-zero
padding answers as a signature that does not verify. -/
def signatureOk (b : List Byte) (key : Nat) : Bool :=
  let g := b.drop (b.length - 256)
  leAt g 0 2 == 1 && isZero ((g.drop 2).take 14) && isZero (g.drop 112)
  && Crypto.verify key (Crypto.sha384 (b.take (b.length - 256))) (beAt g 16 48) (beAt g 64 48)

/-- Section rows of R33 that must be there. DESIGN CHOICE (log 171): one of them may hold zero records. -/
def requiredPresent (b : List Byte) : Bool := [1, 4, 7, 8].all (fun t => (sects b).any (fun x => x.type == t))

/-- This chip's variant bit of VARIANT_MASK. -/
def variantBit : Variant → Nat | .z740 => 0 | .z720 => 1 | .z710 => 2

/-- REWEAVE_SCOPE: what may differ from the woven image (R46). -/
def sameOutside (p : Nat) (old new : Image) : Bool :=
  let pl := fun (m : Image) => m.plies.filter (fun r => r.id != p)
  let ti := fun (m : Image) => m.tiles.filter (fun r => r.ply != p)
  let ro := fun (m : Image) => m.routes.filter (fun r => r.ply != p)
  let ha := fun (m : Image) => m.hanks.filter (fun r => r.ply != p)
  let po := fun (m : Image) => m.pools.filter (fun r => r.ply != p)
  let ca := fun (m : Image) => m.cams.filter (fun r => r.ply != p)
  let pol := fun (m : Image) => m.policy.filter (fun r => r.scope != p)
  let same := fun {α : Type} [BEq α] (x y : List α) => x.all y.contains && y.all x.contains
  same (pl old) (pl new) && same (ti old) (ti new) && same (ro old) (ro new) && same (ha old) (ha new)
  && same (po old) (po new) && same (ca old) (ca new) && same (pol old) (pol new)
  && same old.fw new.fw && same old.tray new.tray
  && old.variantMask == new.variantMask && old.minRev == new.minRev && old.target == new.target && old.ownerKey == new.ownerKey
  && new.hanks.all (fun r => (ha old).all (fun q => q.hank != r.hank || q.wide == r.wide))

/-- The code the checks of R40 give a staged image from BAD_MAGIC on, in the table's order; 0 when all pass. `len` is
WRP_IMG_LEN; `reweave` the target ply of a REWEAVE. -/
def State.imageCode (s : State) (b : List Byte) (len : Nat) (reweave : Option Nat) : Nat :=
  if leAt b 0 4 ≠ 0x50524157 then 0x10
  else if leAt b 4 2 ≠ 1 ∨ leAt b 6 2 ≠ 256 ∨ leAt b 0x0E 2 ≠ 0 ∨ leAt b 0x15 11 ≠ 0 ∨ leAt b 0x38 8 ≠ 0 ∨ 7 < leAt b 0x10 1 then 0x11
  else if leAt b 8 4 ≠ len ∨ len % 64 ≠ 0 then 0x12
  else match s.ownerKey? (leAt b 0x30 8) with
    | none => 0x20
    | some key =>
      if !signatureOk b key then 0x21
      else if leAt b 0x12 2 < s.nv.otp.arb.getD 5 0 then 0x22
      else if !directoryOk b then 0x13
      else
        let m := parseImage b
        if m.serial = 0 ∨ !recordsOk b m then 0x13
        else if !requiredPresent b then 0x14
        else if !bit m.variantMask (variantBit s.variant) ∨ s.nv.otp.rev < m.minRev
            ∨ (m.target ≠ 0xFF ∧ m.target ≠ s.stw.trayAddr) then 0x30
        else if !unitsPresent s.variant m then 0x31
        else if (sects b).any (fun x => x.type == 9) ∧ !s.strappedMaster then 0x32
        else if !s.limitsOk m then 0x33
        else if !conflictFree m then 0x34
        else if !s.firmwareOk m.fw then 0x35
        else match reweave with
          | none => 0
          | some p => if m.serial ≤ s.wrp.serial then 0x23 else if !sameOutside p s.img m then 0x40 else 0

end Sys2Proof.Machine
end

