-- ==== Sys2Proof/Machine/Weave.lean ====
section
/-! DEFINITION. Weaving: LOAD, WEAVE_COMPLETE, REWEAVE, CANCEL, the reweave step, and what a weave projects into registers
(02 R39 to R56; 04 R108, R109; 10 R267; 18 R405, R410). -/

namespace Sys2Proof.Machine

/-! ### Results -/

/-- A Warp command ends with a code and WARP_RESULT is pulsed (R40). -/
def State.wrpEnd (s : State) (code auth : Nat) : State :=
  let r := s.wrp.result
  ({ s with wrp := { s.wrp with result := { r with done := true, authority := auth, code := code } } } : State).pulse 0x004

/-- SEQ steps with each command. -/
def State.wrpSeq (s : State) : State :=
  let r := s.wrp.result
  { s with wrp := { s.wrp with result := { r with seq := (r.seq + 1) % 256 } } }

/-- A refused Warp command; refusals from 0x10 up are journalled (R40, 16 R371). -/
def State.wrpRefuse (s : State) (from_ : Authority) (ply code new : Nat) : State :=
  let s := s.wrpEnd code 0
  if code < 0x10 then s
  else s.refusal { origin := authOrigin from_, code := code, aux := ply, object := jObj 2 ply, old := s.wrp.serial, new := new }

/-- The Warp lock held above an authority (15 R357). -/
def State.lockedOut (s : State) (from_ : Authority) : Option Nat :=
  match s.holder 0x0109 0 with
  | some o => if o.auth < authCode from_ then some o.auth else none
  | none => none

/-- A Warp command that a higher authority's lock refuses (R30). -/
def State.wrpOverridden (s : State) (from_ : Authority) (ply new auth : Nat) : State :=
  (s.wrpEnd 0x51 auth).refusal
    { origin := authOrigin from_, code := 0x51, aux := auth, object := jObj 2 ply, old := s.wrp.serial, new := new }

/-- The first 16 bytes of a digest as DATA. -/
def digestData (d : Nat) : Nat := leNat ((beBytes 48 d).take 16)

/-- A Warp command is refused with BUSY: one executes, a reweave is pending, or the device is not in Run (R40, 14 R338). -/
def State.wrpBusy (s : State) : Bool := s.wrp.result.busy || s.pwr.state != 0

/-- The source of an image, read by hank 0: its bytes, unless it is a BAD_SOURCE (R39, R40). DESIGN CHOICE (log 175): a read that ends
poisoned or in a data error counts with the decode and access errors. -/
def State.imageSource (s : State) : Option (List Byte) × State :=
  let a := s.wrp.imgAddr
  let n := s.wrp.imgLen
  if a % 4096 ≠ 0 ∨ n < 512 ∨ 16 * mib < n then (none, s)
  else
    let r := s.engRead 0 158 a n
    if r.1 = .ok then (some r.2.2.1, r.2.2.2) else (none, r.2.2.2)

/-! ### Presence (R42, R43) -/

/-- Units that count toward a ply's evaluation: every unit its records name. -/
def plyNamed (m : Image) (r : PlyRec) : List Nat :=
  plyUnits r
  ++ (m.routes.filter (fun x => x.ply == r.id)).flatMap (fun x => endpointUnits m x.src ++ endpointUnits m x.dst)
  ++ (m.cams.filter (fun c => c.ply == r.id)).map (fun c => 34 + c.eth)

/-- WRP_PLYn_STATE.STATE under R42: 1 RUNNING, 2 DEGRADED, 3 HELD. -/
def State.plyEval (s : State) (m : Image) (r : PlyRec) : Nat :=
  if (plyNamed m r).all s.counts then 1
  else
    let tiles := (((imageArrays m).filter (fun a => a.ply == r.id &&
      (arrayTiles a.shape a.first).all (fun t => s.counts (14 + t)))).map (fun a => (arrayTiles a.shape a.first).length)).sum
    let cl := ((List.range 4).filter (fun k => bit r.clusterMask k && s.counts (10 + k))).length
    let dec := ((List.range 2).filter (fun e => bit r.decodeMask e && s.counts (24 + e))).length
    if bit r.flags 0 && decide (r.minTiles ≤ tiles ∧ r.minClusters ≤ cl ∧ r.minDecode ≤ dec) then 2 else 3

/-! ### Arrays and routes -/

/-- An array is formed or left out as its tiles count (R43); forming starts it empty. -/
def State.formArray (s : State) (a : Nat) : State :=
  let x := s.arr a
  let ts := arrayTiles x.shape x.first
  let ok := ts.all (fun t => s.counts (14 + t))
  if ok = x.formed then s
  else if ok then
    ts.foldl (fun s t => s.setTile t { s.tile t with state := 1, arrayId := a }) (s.setArr a { x with formed := true })
  else
    ts.foldl (fun s t => s.setTile t { s.tile t with state := 0 }) (s.setArr a { x with formed := false, resident := none })

/-- A route is formed or left out as its endpoints count; left out, it keeps what its receive buffer holds (05 R136), and formed again it
starts empty with 32 credits (18 R410). -/
def State.formRoute (s : State) (n : Nat) : State :=
  let r := s.route n
  let ok := (endpointUnits s.img r.src ++ endpointUnits s.img r.dst).all s.counts
  if ok = r.formed then s
  else if ok then
    s.setRoute n { r with formed := true, credits := 32, ready := [], wire := [], passed := 0, buf := [], open_ := false, resync := false }
  else s.setRoute n { r with formed := false }

/-- Arrays and routes of ply `p` are formed or left out, and the device's routes with them. -/
def State.formPly (s : State) (p : Nat) : State :=
  let s := (s.arrays.filter (fun e => e.2.ply == p)).foldl (fun s e => s.formArray e.1) s
  (s.routes.filter (fun e => e.2.ply == p || e.2.ply == 0xFF)).foldl (fun s e => s.formRoute e.1) s

/-- The arrays ply `p` takes (R35): its TILE_GEOMETRY records, then each other tile of its mask as a 64x64 array with the lowest ARRAY_ID
that no record names and no array of another ply holds. Log 177: ascending tiles, ply after ply; a record whose ARRAY_ID a lone tile of
another ply runs under is left out, so that the other ply stays undisturbed (R50). -/
def State.plyArrays (s : State) (m : Image) (p : Nat) : List TileRec :=
  let held := (s.arrays.filter (fun e => e.2.ply != p)).map (·.1)
  let mask := ((plyRec? m p).map (·.tileMask)).getD 0
  let lone := (List.range 8).filter (fun t =>
    bit mask t && !(m.tiles.any (fun r => (arrayTiles r.shape r.first).contains t)))
  let ids := (List.range 8).filter (fun i => !held.contains i && !(m.tiles.any (fun r => r.array == i)))
  m.tiles.filter (fun r => r.ply == p && !held.contains r.array)
  ++ (ids.zip lone).map (fun (x : Nat × Nat) => { array := x.1, ply := p, shape := 1, first := x.2 })

/-- The arrays of ply `p` are chained from the image, with their depth and weight residency (R35; 08 Basic control). -/
def State.chainArrays (s : State) (m : Image) (p : Nat) : State :=
  let s := (s.arrays.filter (fun e => e.2.ply == p)).foldl (fun s e =>
    let s := (arrayTiles e.2.shape e.2.first).foldl (fun s t => s.setTile t { s.tile t with state := 0 }) s
    { s with arrays := mdel s.arrays e.1 }) s
  let tables := mget? s.boot.versions 5
  (s.plyArrays m p).foldl (fun s r =>
    (s.setArr r.array
      { ply := p, shape := r.shape, first := r.first, tables := tables
        depth := policyN m 0x0502 p (if policyN m 0x0503 p 0 = 1 then 1 else 3)
        wkeepEn := policyN m 0x0501 p 1 == 1 }).formArray r.array) s

/-- The routes of ply `p` (0xFF for device routes) are programmed. -/
def State.programRoutes (s : State) (m : Image) (p : Nat) : State :=
  let s := (s.routes.filter (fun e => e.2.ply == p)).foldl (fun s e => { s with routes := mdel s.routes e.1 }) s
  (m.routes.filter (fun r => r.ply == p)).foldl (fun s r =>
    (s.setRoute r.id { woven := true, ply := p, src := r.src, dst := r.dst, priority := r.priority }).formRoute r.id) s

/-! ### Pools (04 section Buffer pools) -/

/-- Whether a placement fits a pool: granule aligned, within the ply's banks or DRAM, clear of every region and pool. -/
def State.placeOk (s : State) (m : Image) (r : PoolRec) (base : Nat) : Bool :=
  let skein := bit r.flags 0
  let q : Pool := { skein := skein, size := r.size, count := r.count }
  let hi := base + q.count * q.stride
  if skein then
    decide (base % 256 = 0 ∧ skeinBase ≤ base ∧ hi ≤ skeinBase + nBanks s.variant * mib)
    && (match plyRec? m r.ply with
        | some p => (List.range 48).all (fun b =>
            decide (hi ≤ skeinBase + b * mib) || decide (skeinBase + (b + 1) * mib ≤ base) || bit p.bankMask b)
        | none => false)
    && !(s.pools.any (fun e => e.2.woven && e.2.skein && decide (e.2.base < hi) && decide (base < e.2.base + e.2.count * e.2.stride)))
  else decide (base % 4096 = 0 ∧ dramBase ≤ base ∧ hi ≤ s.tagBase) && !s.overlaps base hi

/-- A pool is placed where the device chose; without a fitting place it stays unwoven (log 34). The first DRAM pool of a ply gives the ply
its pool key (04 R97, R99; log 5). -/
def State.placePool (s : State) (m : Image) (r : PoolRec) (places : List Placement) : State :=
  match places.find? (fun x => x.ply == r.ply && x.pool == r.pool && s.placeOk m r x.base) with
  | some x =>
    let s := if bit r.flags 0 || (s.slotOf r.ply).key != 0 then s else
      let (key, s) := s.draw
      { s with slots := mset s.slots r.ply { s.slotOf r.ply with key := key % 2 ^ 512 } }
    s.setPool r.ply r.pool
      { woven := true, base := x.base, skein := bit r.flags 0, size := r.size, count := r.count, rsvRes := r.rsvRes, rsvWgt := r.rsvWgt }
  | none => s

/-! ### Hanks (04 R108, R109) -/

/-- The HANK-domain registers of a record's hank reset at creation, and a VF whose BIND names the hank is bound from
then on (13 R303); UNWRITTEN_MODE projects FLAGS bit 0. -/
def State.applyHank (s : State) (fresh : Bool) (r : HankRec) : State :=
  let s := if fresh then
      { s.setHank r.hank {} with
        pci := { s.pci with binds := s.pci.binds.map (fun (e : Nat × Bind) =>
          if e.2.hank = r.hank then (e.1, { e.2 with bound := true }) else e) }
        evt := { s.evt with tally := s.evt.tally.filter (fun e => !(decide (r.evBase ≤ e.1 ∧ e.1 < r.evBase + r.evCount))) } }
    else s
  s.setHank r.hank { s.hank r.hank with unwrittenMode := if bit r.flags 0 then 2 else 0 }

/-- VFs bound to a destroyed hank become unbound, and the event map entries that name them are cleared (13 R303). -/
def State.unbindHank (s : State) (h : Nat) : State :=
  (s.pci.binds.filter (fun e => e.2.bound && e.2.hank == h)).foldl (fun s e =>
    { s with pci := { s.pci with
        binds := mset s.pci.binds e.1 { e.2 with bound := false }
        evmap := s.pci.evmap.filter (fun x => !(bits x.2.toNat 21 16 == e.1)) } }) s

/-- What is left of a destroyed hank where its ID could meet a successor: waits on pools, commands that wait for a scrub or a revoke,
resident weights, the local memories of cores (04 R89, R110; 08 R211). -/
def State.forgetHank (s : State) (h : Nat) : State :=
  { s with
    pools := s.pools.map (fun e => (e.1, { e.2 with waits := e.2.waits.filter (fun w => w.hank != h) }))
    slots := s.slots.map (fun e => (e.1, if e.2.waiter = some h then { e.2 with waiter := none } else e.2))
    grants := s.grants.map (fun e => (e.1, if e.2.grantor = h then { e.2 with waits := false } else e.2))
    arrays := s.arrays.map (fun e => (e.1, if e.2.resident.any (fun w => w.hank == h) then { e.2 with resident := none } else e.2))
    cores := s.cores.map (fun e => (e.1, if e.2.hank = h then { e.2 with stranger := true } else e.2)) }

/-- The final counters of a destroyed hank, over two entries (04 R109; 16 class 3; log 184). -/
def State.hankFacts (s : State) (h origin : Nat) : State :=
  let k := s.hank h
  let e : JEntry := { origin := origin, kind := 1, hank := h, object := jObj 3 h, old := 1, new := 0 }
  let s := s.fact { e with flags := 4, data := k.unwrittenReads + k.accessErrors * 2 ^ 32 + k.badFrees * 2 ^ 64 + k.card.cacheSkips * 2 ^ 96 }
  s.fact { e with data := k.cvt.clips % 2 ^ 32 + k.cvt.invalid % 2 ^ 32 * 2 ^ 32 }

/-- A hank is destroyed; `r` is the record that leaves (04 R109). -/
def State.destroyHank (s : State) (r : HankRec) (origin : Nat) : State :=
  let h := r.hank
  let s := s.voidGrants (fun g => g.grantor == h || g.grantee == h)
  let s := s.freeAll h
  let s := (s.slots.filter (fun e => e.2.state == 1 && e.2.owner == h)).foldl (fun s e => s.startScrub e.1 none) s
  let inRange := fun (e : Nat) => decide (r.evBase ≤ e ∧ e < r.evBase + r.evCount)
  let s := { s with evt := { s.evt with
      tally := s.evt.tally.filter (fun e => !inRange e.1), route := s.evt.route.filter (fun e => !inRange e.1) } }
  let s := ((s.hankFacts h origin).unbindHank h).forgetHank h
  let s := { s with qnt := { s.qnt with ctxs := s.qnt.ctxs.map (fun (e : Nat × Ctx) =>
      (e.1, if e.2.claimed && e.2.owner == h then { e.2 with claimed := false, owner := 0 } else e.2)) } }
  { s with hanks := mdel s.hanks h }

/-! ### Projections of a ply (R7, R9, R54) -/

/-- The preset tables of the scale contexts: H, HMIN, HMAX, TARGET, WINDOW, DECAY (09 Basic control). -/
def quantPreset : Nat → Int × Int × Int × Nat × Nat × Nat
  | 0 => (1, 0, 4, 100, 16, 8)
  | 1 => (0, -1, 3, 1000, 8, 6)
  | _ => (-1, -2, 2, 5000, 4, 4)

/-- The contexts and loop registers of a ply after a PLY reset (09 R222, Basic control). -/
def State.resetContexts (s : State) (m : Image) (p : Nat) : State :=
  let (h, lo, hi, tgt, win, dec) := quantPreset (policyN m 0x0510 p 1)
  let pair := policy? m 0x0513 p
  let lp : QLoop := {
    hmin := match pair with | some v => sx 8 (leAt v 0 1) | none => lo
    hmax := match pair with | some v => sx 8 (leAt v 1 1) | none => hi
    window := policyN m 0x0515 p win
    decay := policyN m 0x0516 p dec }
  let c : Ctx := {
    mode := policyN m 0x0511 p 0
    h := match policy? m 0x0512 p with | some v => sx 8 (leNat v) | none => h
    target := policyN m 0x0514 p tgt }
  { s with qnt := { s.qnt with
      loops := mset s.qnt.loops p lp, defaults := mset s.qnt.defaults p c
      ctxs := s.qnt.ctxs.filter (fun e => e.1 / 256 != p) } }

/-- Channel error registers from a scope (12 Basic control). -/
def State.projectChan (s : State) (m : Image) (n scope : Nat) : State :=
  let mode := match policy? m 0x0702 scope with
    | some v => (decide (0 < leNat v), leNat v)
    | none => if policyN m 0x0701 scope 0 = 1 then (true, 3) else (false, 0)
  s.setChan n { s.chan n with mode := mode.1, retries := mode.2 }

/-- The PLY domain registers of ply `p` reset and project the image; `same` when the tick pattern goes on (R48, R49). -/
def State.plyReset (s : State) (m : Image) (r : PlyRec) (same : Bool) : State :=
  let p := r.id
  let old := s.ply p
  let prof := policyN m 0x0201 p 1
  let gp := policyN m 0x0901 p 1
  let x : Ply := {
    training := bit r.flags 1, ticksPerS := r.ticksPerS, phase := r.phase, drainTicks := r.drainTicks
    tick := if same then old.tick else 0, openAt := if same then old.openAt else s.tck.time, admitting := same
    profile := prof
    ageLimit := policyN m 0x0203 p (match prof with | 0 => 16 | 1 => 64 | _ => 255)
    resPct := resPctOf m p
    gov := {
      profile := gp
      margin := policyN m 0x0902 p (match gp with | 0 => 10 | 1 => 20 | _ => 35)
      holdDown := policyN m 0x0903 p (match gp with | 0 => 8 | 1 => 4 | _ => 2) } }
  let s := (s.setPly p x).resetContexts m p
  ((List.range 64).filter (fun n => bit r.channelMask n)).foldl (fun s n => s.projectChan m n p) s

/-! ### Device-scope projections (R54) -/

/-- The bindings of key 0x0801. -/
def bindOf (v : List Byte) (n : Nat) : Option Nat :=
  ((List.range (v.length / 3)).find? (fun i => leAt v (3 * i) 1 == n)).map (fun i => leAt v (3 * i + 1) 2)

/-- One byte for each island, or one byte for all (log 30). -/
def perIsland (v : Option (List Byte)) (i d : Nat) : Nat :=
  match v with
  | some b => if b.length = 1 then leAt b 0 1 else if i < b.length then leAt b i 1 else d
  | none => d

/-- TDP of a variant in 0.5 W: lowest, highest, default (14 R336). -/
def tdpRange : Variant → Nat × Nat × Nat
  | .z740 => (24, 64, 36) | .z720 => (20, 48, 26) | .z710 => (12, 28, 16)

/-- The device-scope margin (14 R326). -/
def marginOf (m : Image) (scope : Nat) : Nat :=
  policyN m 0x0902 scope (match policyN m 0x0901 scope 1 with | 0 => 10 | 1 => 20 | _ => 35)

/-- Memory, carding, Bobbin and quotas. DESIGN CHOICE (log 176): key 0x0101 above JOBS_MAX is stored as JOBS_MAX, as a write of the register
is. -/
def State.projectCore (s : State) (m : Image) : State :=
  let sp := policyN m 0x0401 0xFF 1
  let per := policyN m 0x0403 0xFF (match sp with | 0 => 72 | 1 => 24 | _ => 4)
  let ip := policyN m 0x0602 0xFF 1
  let s := { s with
    jobReserve := min (policyN m 0x0101 0xFF (reserveDefault s.variant)) (jobsMax s.variant)
    fab := { s.fab with
      sknPeriod := policyN m 0x0402 0xFF (match sp with | 0 => 60 | 1 => 10 | _ => 1), ceLimit := policyN m 0x0404 0xFF 64 }
    crd := { s.crd with
      wait := policyN m 0x0603 0xFF (match ip with | 0 => 8 | 1 => 20 | _ => 80)
      auDepth := policyN m 0x0604 0xFF (match ip with | 0 => 4 | 1 => 8 | _ => 16) } }
  let s := (List.range (nDram s.variant)).foldl (fun s i => s.setDram i { s.dramIf i with period := per }) s
  (List.range 4).foldl (fun s n => s.projectChan m n 0xFF) s

/-- Links: servo, bindings, VLANs, audio (13). -/
def State.projectLinks (s : State) (m : Image) : State :=
  let v := (policy? m 0x0801 0xFF).getD []
  let vl := (policy? m 0x0805 0xFF).getD []
  let sl := policy? m 0x0821 0xFF
  let s := { s with
    tck := { s.tck with
      software := policyN m 0x0810 0xFF 0 == 1, port := policyN m 0x0811 0xFF 0, domain := policyN m 0x0812 0xFF 0
      lossS := policyN m 0x0813 0xFF 3, holdMax := policyN m 0x0814 0xFF 60, slewPpm := policyN m 0x0815 0xFF 100
      stepUs := policyN m 0x0816 0xFF 1000 }
    pci := { s.pci with binds := (List.range 64).foldl (fun b n =>
      match bindOf v n with
      | some h => if n = 0 then b else mset b n { bound := h != 0 && s.hankExists h, hank := h % 4096 }
      | none => mdel b n) s.pci.binds } }
  let s := (List.range 3).foldl (fun s p =>
    s.setEth p { s.ethPort p with
      vlans := (List.range 16).foldl (fun t i => if 2 * i < vl.length then mset t i (2 ^ 15 + leAt vl (2 * i) 2 % 4096) else mdel t i)
        (s.ethPort p).vlans }) s
  { s with aud := { s.aud with
      i2s := policyN m 0x0820 0xFF 0 == 1
      slotEn := match sl with
        | some b => ((List.range 8).map (fun i => if leAt b i 1 = 0xFF then 0 else 2 ^ i)).sum
        | none => 0
      ampOf := match sl with
        | some b => ((List.range 8).map (fun i => leAt b i 1 % 4 * 4 ^ i)).sum
        | none => 0 } }

/-- Power and steward (14, 15, 18). -/
def State.projectPower (s : State) (m : Image) : State :=
  let (lo, hi, d) := tdpRange s.variant
  let s := { s with pwr := { s.pwr with
      tdp := clampN lo hi (policyN m 0x0910 0xFF d), appOp := policyN m 0x0911 0xFF 4, fabFloor := policyN m 0x0912 0xFF 3
      marginDev := marginOf m 0xFF, tSettle := policyN m 0x0907 0xFF 60 } }
  (List.range 6).foldl (fun s i =>
    let fl := perIsland (policy? m 0x0904 0xFF) i 0
    let ce := perIsland (policy? m 0x0905 0xFF) i 7
    let pin := perIsland (policy? m 0x0906 0xFF) i 0xFF
    s.setIsl i { s.isl i with floor := min fl ce, ceil := ce, pin := if pin = 0xFF then 0xF else pin % 8 }) s

def State.projectSteward (s : State) (m : Image) : State :=
  let fc := policyN m 0x0A01 0xFF 1
  let c3 := policy? m 0x0A03 0xFF
  let fp := policyN m 0x0A40 0xFF 1
  let ppr := policyN m 0x0A05 0xFF 2
  let rpm := policyN m 0x0A04 0xFF 600
  let jp := policyN m 0x0B00 0xFF 1
  let at3 := fun (i d : Nat) => match c3 with | some v => leAt v i 1 | none => d
  { s with
    stw := { s.stw with
      tLow := at3 0 (match fc with | 0 => 70 | 1 => 60 | _ => 50)
      tHigh := at3 1 (match fc with | 0 => 95 | 1 => 90 | _ => 85)
      fanMin := at3 2 (match fc with | 0 => 25 | 1 => 35 | _ => 45)
      fanMask := policyN m 0x0A02 0xFF 0x0F
      fans := (List.range 4).foldl (fun t f => mupd t f {} (fun x => { x with ppr := ppr, minRpm := rpm })) s.stw.fans
      cycle := policyN m 0x0A10 0xFF 10, miss := policyN m 0x0A11 0xFF 3, dur := policyN m 0x0A20 0xFF 3600
      reportLimit := policyN m 0x0A41 0xFF (match fp with | 0 => 8 | 1 => 3 | _ => 1)
      reportWindow := policyN m 0x0A42 0xFF (match fp with | 0 => 60 | _ => 10)
      suspectClear := policyN m 0x0A43 0xFF (match fp with | 0 => 10 | 1 => 30 | _ => 120)
      drainLimit := policyN m 0x0A45 0xFF (match fp with | 0 => 400 | 1 => 100 | _ => 25) }
    lea := { s.lea with
      sources := policyN m 0x0B01 0xFF (match jp with | 0 => 3 | 1 => 7 | _ => 15), warnPct := policyN m 0x0B02 0xFF 75 } }

/-- Device-scope projections are replaced by a whole-image load. -/
def State.projectDevice (s : State) (m : Image) : State :=
  (((s.projectCore m).projectLinks m).projectPower m).projectSteward m

/-! ### Whole-image load -/

/-- The Warp anti-rollback counter rises to the woven index (R41). -/
def State.raiseRollback (s : State) (m : Image) : State :=
  let o := s.nv.otp
  { s with nv := { s.nv with otp := { o with arb := o.arb.set 5 (max (o.arb.getD 5 0) m.rollback) } } }

/-- Units named in key 0x0A44 are quarantined with authority 2 (18 R405). -/
def State.quarantineNamed (s : State) (m : Image) : State :=
  ((policy? m 0x0A44 0xFF).getD []).foldl (fun s b =>
    let i := b.toNat
    if unitPresent s.variant i && !fixedUnit i && (s.unitSt i).state != 4 then s.leaveService i 4 2 else s) s

/-- LOAD: t0 to t3 of R45. -/
def State.loadWarp (s : State) (from_ : Authority) : State :=
  let s := s.wrpSeq
  if s.wrpBusy || s.wrp.pending.isSome then s.wrpRefuse from_ 0xFF 0x01 0
  else if s.wrp.device ≠ 0 then s.wrpRefuse from_ 0xFF 0x02 0
  else match s.imageSource with
    | (none, s) => s.wrpRefuse from_ 0xFF 0x04 0
    | (some b, s) =>
      let code := s.imageCode b s.wrp.imgLen none
      if code ≠ 0 then s.wrpRefuse from_ 0xFF code (leAt b 0x20 8)
      else
        let m := parseImage b
        match s.lockedOut from_, s.jRoom 1 with
        | some a, true => s.wrpOverridden from_ 0xFF m.serial a
        | _, _ =>
          match s.change [{ origin := authOrigin from_, kind := 1, object := jObj 2 0xFF, new := m.serial
                            data := digestData m.digest }] with
          | (false, s) => s.wrpRefuse from_ 0xFF 0x50 m.serial
          | (true, s) =>
            let s := { s with wrp := { s.wrp with
                device := 1, weaving := some (m, authOrigin from_), result := { s.wrp.result with busy := true } } }
            s.quarantineNamed m

/-- t4 of R45: the records are applied and the device is WOVEN. -/
def State.weaveDone (s : State) (places : List Placement) : State :=
  match s.wrp.weaving with
  | none => s
  | some (m, _) =>
    let s := { s with
      wrp := { s.wrp with
        image := some m, weaving := none, device := 2, serial := m.serial, digest := m.digest
        result := { s.wrp.result with busy := false } }
      boot := { s.boot with state := if s.boot.state = 5 then 6 else s.boot.state } }
    let s := m.hanks.foldl (fun s r => s.applyHank true r) s
    let s := m.pools.foldl (fun s r => s.placePool m r places) s
    let s := m.plies.foldl (fun s r => s.plyReset m r false) s
    let s := m.cams.foldl (fun s c => { s with crd := { s.crd with flows := mdel s.crd.flows c.cam } }) s
    let s := m.plies.foldl (fun s r => (s.chainArrays m r.id).programRoutes m r.id) s
    let s := s.programRoutes m 0xFF
    let s := m.plies.foldl (fun s r => s.setPly r.id { s.ply r.id with state := s.plyEval m r }) s
    let s := (s.projectDevice m).appDecide
    (((s.raiseRollback m).wrpEnd 0 0)).retier

/-! ### Reweaving one ply -/

/-- REWEAVE: checks, then the reweave is pending (R46, R47). -/
def State.reweaveCmd (s : State) (from_ : Authority) (p : Nat) : State :=
  let s := s.wrpSeq
  if s.wrpBusy || s.wrp.pending.isSome then s.wrpRefuse from_ p 0x01 0
  else if s.wrp.device ≠ 2 then s.wrpRefuse from_ p 0x03 0
  else match s.imageSource with
    | (none, s) => s.wrpRefuse from_ p 0x04 0
    | (some b, s) =>
      let code := s.imageCode b s.wrp.imgLen (some p)
      if code ≠ 0 then s.wrpRefuse from_ p code (leAt b 0x20 8)
      else
        let m := parseImage b
        match s.lockedOut from_, s.jRoom 1 with
        | some a, true => s.wrpOverridden from_ p m.serial a
        | _, _ =>
          match s.change [{ origin := authOrigin from_, kind := 1, aux := p, object := jObj 2 p, old := s.wrp.serial, new := m.serial
                            data := digestData m.digest }] with
          | (false, s) => s.wrpRefuse from_ p 0x50 m.serial
          | (true, s) =>
            ({ s with wrp := { s.wrp with pending := some { ply := p, image := m, origin := authOrigin from_ } } } : State).wrpEnd 0 0

/-- A pending reweave ends without its step; a DRAINING ply admits again from its next boundary. -/
def State.clearPending (s : State) : State := { s with wrp := { s.wrp with pending := none } }

/-- CANCEL (R52). -/
def State.cancelCmd (s : State) (from_ : Authority) (p : Nat) : State :=
  let s := s.wrpSeq
  if s.wrpBusy then s.wrpRefuse from_ p 0x01 0
  else if s.wrp.device ≠ 2 then s.wrpRefuse from_ p 0x03 0
  else match s.wrp.pending with
    | none => s.wrpRefuse from_ p 0x05 0
    | some d =>
      if d.ply ≠ p then s.wrpRefuse from_ p 0x05 0
      else match s.lockedOut from_, s.jRoom 1 with
        | some a, true => s.wrpOverridden from_ p d.image.serial a
        | _, _ =>
          match s.change [{ origin := authOrigin from_, kind := 1, code := 0x42, aux := p, object := jObj 2 p, old := d.image.serial
                            new := s.wrp.serial }] with
          | (false, s) => s.wrpRefuse from_ p 0x50 d.image.serial
          | (true, s) => s.clearPending.wrpEnd 0x42 0

/-- A pool record that stays as it is keeps its buffers and allocations (R48); its reserves return to the record's (R7, R9). -/
def poolKept (old new : Image) (p q : Nat) : Bool :=
  match old.pools.find? (fun r => r.ply == p && r.pool == q), new.pools.find? (fun r => r.ply == p && r.pool == q) with
  | some a, some b => a == b
  | _, _ => false

/-- An unchanged camera's flow whose frame pool goes: its buffers and pictures go with the pool, and decoding waits for a random-access
point; the rest of the flow stays (10 R267; R48; log 196). -/
def State.flowUnpool (s : State) (c : Nat) : State :=
  let s := match camRec? s.img c with
    | some r => s.freeBufs r (s.flow c).bufs
    | none => s
  let s := s.dropDecoding c
  let f := s.flow c
  s.setFlow c { f with bufs := [], refs := [], tainted := [], dec := [], lastGood := none, prev := none, st := min f.st 1
                       queue := f.queue.map (fun au => { au with info := none }) }

/-- Flows of cameras of ply `p`: changed ones are reset and let go of their buffers; the others keep flow and divider, and
their page's counters and pins reset (10 R267, R48). -/
def State.reweaveFlows (s : State) (new : Image) (p : Nat) : State :=
  let old := s.img
  let poolSame := poolKept old new p (framePool old p) && framePool old p == framePool new p
  let cams := ((old.cams.filter (fun c => c.ply == p)).map (·.cam) ++ (new.cams.filter (fun c => c.ply == p)).map (·.cam)).eraseDups
  cams.foldl (fun s c =>
    if camRec? old c == camRec? new c then
      let s := if poolSame then s else s.flowUnpool c
      s.setFlow c { s.flow c with
        reasons := [], packets := 0, frames := 0, concealed := 0, samples := 0, clips := 0, roiOutside := 0, pin := [] }
    else
      let s := s.flowReset c false
      { s with crd := { s.crd with flows := mdel s.crd.flows c } }) s

/-- The reweave step of ply `p` (R48, R49); `tick` is the closing tick. -/
def State.applyReweave (s : State) (d : Pending) (places : List Placement) (tick : Nat) : State :=
  let p := d.ply
  let old := s.img
  let m := d.image
  let gone := old.hanks.filter (fun r => r.ply == p && (hankRec? m r.hank p).isNone)
  let s := gone.foldl (fun s r =>
    (s.jobs.filter (fun j => j.hank == r.hank && j.ply == p)).foldl (fun s j => s.complete j.id .shed 9) s) s
  let s := s.closePlyBatches p 2 tick
  let s := s.reweaveFlows m p
  let s := (old.pools.filter (fun r => r.ply == p && !poolKept old m p r.pool)).foldl (fun s r => s.poolRelease p r.pool) s
  let s := (gone.filter (fun r => !(m.hanks.any (fun q => q.hank == r.hank)))).foldl (fun s r => s.destroyHank r d.origin) s
  let fresh := fun (h : Nat) => !(old.hanks.any (fun q => q.hank == h))
  let s := { s with wrp := { s.wrp with image := some m, serial := m.serial, digest := m.digest, pending := none } }
  let s := (m.hanks.filter (fun r => r.ply == p)).foldl (fun s r => s.applyHank (fresh r.hank) r) s
  let s := (m.pools.filter (fun r => r.ply == p)).foldl (fun s r =>
    if poolKept old m p r.pool then s.setPool p r.pool { s.poolOf p r.pool with rsvRes := r.rsvRes, rsvWgt := r.rsvWgt }
    else s.placePool m r places) s
  let s := match plyRec? m p with
    | none =>
      let s := (s.chainArrays m p).programRoutes m p
      { s with plies := mdel s.plies p
               qnt := { s.qnt with ctxs := s.qnt.ctxs.filter (fun e => e.1 / 256 != p)
                                   loops := mdel s.qnt.loops p, defaults := mdel s.qnt.defaults p } }
    | some r =>
      let same := match plyRec? old p with
        | some o => o.ticksPerS == r.ticksPerS && o.phase == r.phase
        | none => false
      let s := (s.plyReset m r same).chainArrays m p
      let s := s.programRoutes m p
      s.setPly p { s.ply p with state := s.plyEval m r }
  let s := s.raiseRollback m
  (s.fact { origin := 3, kind := 1, aux := p, object := jObj 2 p, old := old.serial, new := m.serial
            data := digestData m.digest }).retier

/-- The reweave step is reached: it runs, or is abandoned because the new records cannot weave (R51). -/
def State.reweaveStep (s : State) (d : Pending) (places : List Placement) (tick : Nat) : State :=
  let cannot := match plyRec? d.image d.ply with
    | some r => s.plyEval d.image r == 3
    | none => false
  if cannot then
    (s.clearPending.fact { origin := 3, kind := 1, code := 0x41, aux := d.ply, object := jObj 2 d.ply, old := d.image.serial
                           new := s.wrp.serial }).wrpEnd 0x41 0
  else s.applyReweave d places tick

/-- Jobs of ply `p` in flight. -/
def State.plyInFlight (s : State) (p : Nat) : Bool := s.jobs.any (fun j => j.ply == p && j.holds)

/-- The next granule boundary after acceptance: the step of an EMPTY ply, or of a HELD one with no job in flight (R47). -/
def State.granuleStep (s : State) (places : List Placement) : State :=
  match s.wrp.pending with
  | none => s
  | some d =>
    let st := (s.ply d.ply).state
    if st = 0 ∨ (st = 3 ∧ !s.plyInFlight d.ply) then s.reweaveStep d places (s.ply d.ply).tick else s

/-! ### The commands -/

/-- Without a session the console's command is not accepted (R30; 15 R369). -/
def execLoad (from_ : Authority) (s : State) : Host.Outcome State Fault Refusal :=
  let s := { s with out := [] }
  .next (if s.noSession from_ then s.answer from_ 0x03 0 [] else s.loadWarp from_)

def execWeaveComplete (places : List Placement) (s : State) : Host.Outcome State Fault Refusal :=
  .next (({ s with out := [] } : State).weaveDone places)

def execReweave (from_ : Authority) (ply : Nat) (s : State) : Host.Outcome State Fault Refusal :=
  let s := { s with out := [] }
  .next (if s.noSession from_ then s.answer from_ 0x03 0 [] else s.reweaveCmd from_ ply)

def execCancel (from_ : Authority) (ply : Nat) (s : State) : Host.Outcome State Fault Refusal :=
  let s := { s with out := [] }
  .next (if s.noSession from_ then s.answer from_ 0x03 0 [] else s.cancelCmd from_ ply)

def execGranuleBoundary (places : List Placement) (s : State) : Host.Outcome State Fault Refusal :=
  .next (({ s with out := [] } : State).granuleStep places)

end Sys2Proof.Machine
end

