-- ==== Sys2Proof/Machine/Power.lean ====
section
/-! DEFINITION. Step 5 of a boundary, the regulator handshake, thermal limits, TDP and the power states (14 R320 to R344). -/

namespace Sys2Proof.Machine

/-! ### Step 5 of a boundary -/

/-- Ply `p` records its requests (R323, R324); `tile` and `spindle` are its loads. The rho of each kind is kept for the journal. -/
def State.recordRequests (s : State) (p tile spindle : Nat) (overran : Bool) : (Nat × Nat) × State :=
  let (rt, s) := s.rho p false
  let (rs, s) := s.rho p true
  let s := (List.range 4).foldl (fun s i =>
    let n := s.unitsIn p i
    if n = 0 then s
    else
      let pl := s.ply p
      let sp := decide (2 ≤ i)
      let all := if sp then s.unitsIn p 2 + s.unitsIn p 3 else s.unitsIn p 0 + s.unitsIn p 1
      let r := if sp then rs else rt
      let raw := fitPoint i (s.isl i).cur (pMin pl.ticksPerS) pl.gov.margin s.pwr.tSettle (if sp then spindle else tile) all r.1 r.2 8 0
      s.setPly p { pl with gov := pl.gov.request i raw overran }) s
  let pl := s.ply p
  let t := rt.1 * 256 / rt.2
  let c := rs.1 * 256 / rs.2
  ((t, c), s.setPly p { pl with gov := { pl.gov with rho := t, rhoSpd := c, loads := (tile, spindle), rhoOne := false } })

/-- Step 5 of a boundary of ply `p`: requests, then the islands of the ply, those without units, FAB and APP: the decisions that wait for a
transition, then lowerings before raises and in ascending number (R322 to R330). -/
def State.govern (s : State) (p tile spindle : Nat) (overran : Bool) : State :=
  let ((rt, rs), s) := s.recordRequests p tile spindle overran
  let s := { s with pwr := { s.pwr with fabReq := s.fabPoint } }
  if 1 < s.pwr.state ∨ s.stw.wdForced ∨ s.pwr.level = 3 then s
  else
    let mine := s.islands.filter (fun i => decide (4 ≤ i) || (decide (i < 4) && (decide (0 < s.unitsIn p i) || !s.islandHeld i)))
    let goal := fun (i : Nat) => if i = 5 then s.bounded 5 s.pwr.appOp else s.bounded i (if i = 4 then s.pwr.fabReq else s.islandRequest i)
    let go := fun (s : State) (i : Nat) =>
      if i = 5 then s.appDecide
      else if i = 2 ∨ i = 3 then s.decideIsland i (goal i) p spindle rs else s.decideIsland i (goal i) p tile rt
    (mine.filter (fun i => (s.isl i).st != 0)
      ++ mine.filter (fun i => (s.isl i).st == 0 && decide (goal i < (s.isl i).cur))
      ++ mine.filter (fun i => (s.isl i).st == 0 && decide ((s.isl i).cur < goal i))).foldl go s

/-! ### Confirmations and lost links (R328 to R332) -/

/-- A decision that waited for the transition is carried out (R330). -/
def State.resumeDecision (s : State) (i : Nat) : State :=
  match (s.isl i).waiting with
  | none => s
  | some (op, p, l, r) => (s.setIsl i { s.isl i with waiting := none }).decideIsland i (min op (s.capOf i)) p l r

/-- A drop, a stop or a restart of a LINK_LOST island's clock: a pair of entries with the readings before and after, AUX the last
read-back (R331, log 38). -/
def State.dropEntry (s : State) (i : Nat) (old : Island) (x : Island) : State :=
  let before := s.setIsl i old
  let d := before.readings
  let s := s.fact { origin := 6, kind := 3, flags := 4, aux := x.readback, object := jObj 8 i, old := old.cur, new := x.cur, data := d }
  let s := s.setIsl i x
  s.fact { origin := 6, kind := 3, aux := x.readback, object := jObj 8 i, old := old.cur, new := x.cur, data := s.readings }

/-- What holds an island's clock stopped whatever its voltage: a forced Hold, or RECOVERY (R335; 17 R390). -/
def State.clockHeld (s : State) : Bool := s.pwr.forced || s.boot.state == 7

/-- Readings of an island: READ_VOUT, the monitor and STATUS_WORD; a confirmation ends its transition. -/
def State.confirm (s : State) (i vout monitor : Nat) (statusOk : Bool) : State :=
  let x := { s.isl i with readback := vout, monitor := monitor }
  let s := s.setIsl i x
  let ok := statusOk && decide (vout ≤ x.volt + 10 ∧ x.volt ≤ vout + 10 ∧ monitor ≤ x.volt + 25 ∧ x.volt ≤ monitor + 25)
  if !ok then s
  else if x.st = 1 then (s.setIsl i { x with st := 0 }).resumeDecision i
  else if x.st = 2 then (s.setIsl i { x with st := 0, cur := x.target, stopped := x.stopped && s.clockHeld }).resumeDecision i
  else if x.st = 3 ∧ x.recover then
    let s := if x.lowVolt then s.dropEntry i x { x with lowVolt := false } else s
    let s := s.setIsl i { x with st := 0, target := x.cur, recover := false, lowVolt := false }
    s.fact { origin := 6, kind := 3, object := jObj 8 i, old := x.cur, new := x.cur, data := s.readings }
  else s

/-- An island in transition becomes LINK_LOST: it runs at the lower of the old and the new clock (R331). A recovery that failed
leaves the island LINK_LOST. DEDUCED (log 200): one that was being raised from OFF or RETENTION has no clock yet, and starts once its
monitor reads 0.525 V. -/
def State.loseLink (s : State) (i : Nat) : State :=
  let x := s.isl i
  if x.st = 1 ∨ x.st = 2 then
    let off := x.stopped && !s.clockHeld
    let s := s.setIsl i { x with
      st := 3, target := x.cur, losses := satAdd 16 x.losses 1, waiting := none, recover := false, stopped := x.stopped && s.clockHeld
      lowVolt := x.lowVolt || off }
    s.fact { origin := 6, kind := 3, object := jObj 8 i, old := x.cur, new := x.cur, data := s.readings }
  else if x.st = 3 then s.setIsl i { x with recover := false }
  else s

/-- A monitor check (R331; 18 R402 cause 7). -/
def State.checkMonitor (s : State) (i mon : Nat) : State :=
  let x := s.isl i
  let y := { x with monitor := mon }
  if x.st = 3 then
    if x.stopped then s.setIsl i y
    else if x.lowVolt then
      if 525 ≤ mon then s.dropEntry i x { y with lowVolt := false, cur := 0, target := 0 } else s.setIsl i y
    else if mon < 525 then s.dropEntry i x { y with lowVolt := true, cur := 0, target := 0 }
    else if mon + 25 < opVolt x.cur ∧ x.cur ≠ 0 then s.dropEntry i x { y with cur := 0, target := 0 }
    else s.setIsl i y
  else
    let s := s.setIsl i y
    if x.st = 0 ∧ (opVolt x.cur + 50 < mon ∨ mon + 50 < opVolt x.cur) then s.report 43 7 else s

/-- A retry of the master of a LINK_LOST island (R332). -/
def State.retryLink (s : State) (i : Nat) (ok : Bool) : State :=
  let x := s.isl i
  if x.st = 3 ∧ ok then (s.setIsl i { x with recover := true }).command i (opVolt x.cur) else s

/-! ### Thermal limits and TDP (R334 to R336) -/

/-- PWR_TEMP as a word. -/
def State.pwrTemp (s : State) : Nat :=
  let h := hottest s.stw.sites 0 (0, 0)
  s.pwr.level * 2 ^ 16 + h.1 % 16 * 2 ^ 8 + h.2 % 256

/-- PWR_CAP as a word. -/
def State.pwrCap (s : State) : Nat :=
  s.pwr.thermCap * 2 ^ 24 + s.pwr.tdpCap * 2 ^ 16 + s.power1s % 2 ^ 16

/-- The steward takes a sample of the 16 sites: warn and throttle (R334; log 39). -/
def State.thermal (s : State) (sites : List Nat) : State :=
  let s := { s with stw := { s.stw with
    sites := sites
    peaks := (List.range 16).map (fun i => max (s.stw.peaks.getD i 0) (sites.getD i 0)) } }
  let t := (hottest sites 0 (0, 0)).2
  let l := s.pwr.level
  if l = 3 then s
  else
    let old := s.pwrTemp
    let new := if 100 ≤ t then 2
      else if l = 2 then (if t < 92 then 0 else if t < 97 then 1 else 2)
      else if 95 ≤ t then 1
      else if t < 92 then 0 else l
    let s := { s with pwr := { s.pwr with level := new } }
    if l = 0 ∧ new ≠ 0 then
      (s.fact { origin := 3, kind := 3, object := regObj 43 0x18, old := old, new := s.pwrTemp, data := s.readings }).pulse 0x009
    else s

/-- The thermal cap falls a point in throttle and rises when every site is below 97 degrees (R334). -/
def State.throttle (s : State) : State :=
  let old := s.pwrCap
  let c := s.pwr.thermCap
  let t := (hottest s.stw.sites 0 (0, 0)).2
  let c' := if s.pwr.level = 2 then c - 1 else if s.pwr.level < 2 ∧ t < 97 then min 7 (c + 1) else c
  if c' = c then s
  else
    let s := { s with pwr := { s.pwr with thermCap := c' } }
    (s.fact { origin := 3, kind := 3, object := regObj 43 0x10, old := old, new := s.pwrCap, data := s.readings }).applyCaps

/-- The trip: islands 0 to 4 run at OP0's clock and their voltages follow (R334). -/
def State.trip (s : State) (site temp : Nat) : State :=
  let s := { s with stw := { s.stw with
      sites := ((List.range 16).map (fun i => s.stw.sites.getD i 0)).set site temp
      peaks := ((List.range 16).map (fun i => s.stw.peaks.getD i 0)).set site (max temp (s.stw.peaks.getD site 0)) } }
  if s.pwr.level = 3 then s
  else
    let st := s.pwr.state
    let s := { s with pwr := { s.pwr with level := 3 }, pins := { s.pins with thermAlert := true } }
    let s := s.fact { origin := 8, kind := 3, object := jObj 7 0, old := st, new := st, data := s.readings }
    (s.islands.filter (fun i => decide (i < 5))).foldl (fun s i => s.forceDown i 0) s

/-- TDP in force: an override's, or the register's, in 0.5 W. -/
def State.tdpNow (s : State) : Nat :=
  match s.holder 0x0105 0 with
  | some o => o.value
  | none => s.pwr.tdp

/-- A 10 ms sample of the regulators (R336, 15 R345). -/
def State.powerSample (s : State) (r : PowerReading) : State :=
  let s := { s with pwr := { s.pwr with powers := (r.power :: s.pwr.powers).take 100 } }
  let sum := s.pwr.powers.sum
  let lim := s.tdpNow * 5000
  let s := { s with pwr := { s.pwr with below := if sum * 100 < lim * 95 then min 100 (s.pwr.below + 1) else 0 } }
  s.islands.foldl (fun s i =>
    match r.vout[i]? with
    | some v => s.setIsl i { s.isl i with readback := v }
    | none => s) s

/-- The TDP cap steps (R336). -/
def State.tdpStep (s : State) : State :=
  let c := s.pwr.tdpCap
  let sum := s.pwr.powers.sum
  let c' := if s.tdpNow * 5000 < sum then c - 1
    else if 100 ≤ s.pwr.below then min 7 (c + 1) else c
  if c' = c then s
  else
    let below := if c < c' then 0 else s.pwr.below
    ({ s with pwr := { s.pwr with tdpCap := c', below := below } } : State).applyCaps

/-! ### Power states (R337 to R342) -/

/-- Hold entry begins: the pending reweave is cancelled (R339 t0). -/
def State.enterHold (s : State) (origin : Nat) : State :=
  let s := { s with pwr := { s.pwr with state := 1 } }
  match s.wrp.pending with
  | none => s
  | some d =>
    (s.clearPending.fact { origin := origin, kind := 1, code := 0x42, aux := d.ply, object := jObj 2 d.ply, old := d.image.serial
                           new := s.wrp.serial }).wrpEnd 0x42 0

/-- A power command ends with a code. -/
def State.pwrEnd (s : State) (code auth : Nat) : State :=
  { s with pwr := { s.pwr with result := { s.pwr.result with done := true, authority := auth, code := code } } }

/-- The command in execution is over. -/
def State.pwrIdle (s : State) : State :=
  { s with pwr := { s.pwr with result := { s.pwr.result with busy := false } } }

/-- Dormant entry from Hold, step d2: the after-readings, then the flush; without a flush the device stays in Hold (R341, R360). -/
def State.enterDormant (s : State) : State :=
  let s := { s with pwr := { s.pwr with state := 4, wantDormant := false } }
  let s := (s.fact { origin := 3, kind := 5, object := jObj 7 0, old := 2, new := 4, data := s.readings }).startFlush
  if s.lea.flushing then s
  else
    ({ s with pwr := { s.pwr with state := 2 }, pins := { s.pins with wakeArmed := false, wakeLatched := false } } : State).pwrIdle.pwrEnd 0x03 0

/-- Every woven ply is done with Hold entry. -/
def State.holdReady (s : State) : Bool := s.plies.all (fun e => e.2.state == 0 || e.2.state == 3)

/-- APP goes to OP0 for Hold; a lost link keeps its voltage (R339 t4). -/
def State.appDown (s : State) : State :=
  let x := s.isl 5
  let s := (s.pointFact 1 5 (if x.st = 2 then x.target else x.cur) 0).setIsl 5 { x with waiting := none }
  if x.st = 3 then s.setIsl 5 { s.isl 5 with cur := 0, target := 0 }
  else if x.cur = 0 ∧ x.st ≠ 2 then s
  else s.lower 5 0

/-- Tile SRAM and the Spindle memories at zero, resident weights gone (R337, R340 u3). -/
def State.zeroUnits (s : State) : State :=
  { s with
    arrays := s.arrays.map (fun (e : Nat × WArray) => (e.1, { e.2 with resident := none }))
    cores := s.cores.map (fun (e : Nat × Core) => (e.1, { e.2 with x := [], y := [], pm := [] })) }

/-- Steps t2 to t4 of Hold entry (R339; R337 for what is lost). What memory has accepted is completed first, and the tag cache written back
(05 R127). -/
def State.holdEntered (s : State) : State :=
  let s := s.drainMemory
  let s := (s.islands.filter (fun i => decide (i < 4))).foldl (fun s i =>
    let x := s.isl i
    let s := s.pointFact 1 i x.cur 0
    (s.setIsl i { s.isl i with
      st := 4, cur := 0, target := 0, stopped := true, lowVolt := false, waiting := none, recover := false }).command i 0) s
  let s : State := { s with dram := s.dram.map (fun (e : Nat × Dram) => (e.1, if e.2.state = 2 then { e.2 with state := 3 } else e.2)) }
  let s := s.pointFact 1 4 (s.isl 4).cur 0
  let s := (s.setIsl 4 { s.isl 4 with
    st := 5, cur := 0, target := 0, stopped := true, lowVolt := false, waiting := none, recover := false }).command 4 500
  let s := { s.appDown.zeroUnits with pwr := { s.pwr with state := 2 } }
  if s.pwr.wantDormant then s.enterDormant else s.pwrIdle.pwrEnd 0 0

/-- Hold exit begins: islands 0 to 3 and FAB are raised to OP0 (R340 u0, u1). -/
def State.leaveHold (s : State) : State :=
  let s := { s with pwr := { s.pwr with state := 3, forced := false } }
  (s.islands.filter (fun i => decide (i < 5))).foldl (fun s i =>
    (s.setIsl i { s.isl i with st := 2, target := 0, cur := 0, lowVolt := false }).command i (opVolt 0)) s

/-- The level after an operator's RUN ends a trip. -/
def State.endTrip (s : State) : State :=
  if s.pwr.level = 3 then
    let t := (hottest s.stw.sites 0 (0, 0)).2
    { s with pwr := { s.pwr with level := if t < 92 then 0 else 1 }
             pins := { s.pins with thermAlert := s.stw.wdForced } }
  else s

/-- Steps u1 to u4 of Hold exit end (R340). -/
def State.holdLeft (s : State) (confirmed : List Nat) : State :=
  let s := (s.islands.filter (fun i => decide (i < 5))).foldl (fun s i =>
    let x := s.isl i
    if x.st = 2 then
      if confirmed.contains i then s.setIsl i { x with st := 0, cur := x.target, stopped := false } else s.loseLink i
    else s) s
  let s := { s.zeroUnits with
    dram := s.dram.map (fun (e : Nat × Dram) => (e.1, if e.2.state = 3 then { e.2 with state := 2 } else e.2))
    pwr := { s.pwr with state := 0 }
    plies := s.plies.map (fun (e : Nat × Ply) => (e.1, { e.2 with
      openAt := max e.2.openAt s.tck.time, gov := { e.2.gov with rhoOne := true } })) }
  let s := s.appDecide.pwrIdle.pwrEnd 0 0
  if s.pwr.wantDormant then s.enterHold 3 else s

/-- Power is removed: only OTP, flash and the wake domain are left (R337, R341 d3). -/
def State.powerOff (s : State) : State :=
  { nv := s.nv, pending := s.pending, freeCount := s.freeCount, out := s.out
    pins := { vddWake := true, pwrEn := false, offTimeDone := false, wakeArmed := true, wakeLatched := s.pins.wakeLatched } }

/-! ### Commands (R335, R344; 15 R357, R359, R360) -/

/-- The authority that holds the power state above `from_`, if any (R335, R357). -/
def State.powerHolder (s : State) (from_ : Authority) (cmd : Nat) : Option Nat :=
  let cool := s.stw.sites.all (fun t => decide (t < 95))
  if (s.pwr.level = 3 ∨ s.pwr.forced) ∧ ¬(from_ = .console ∧ cmd = 1 ∧ cool) then some 1
  else match s.holder 0x0103 0 with
    | some o => if o.auth < authCode from_ then some o.auth else none
    | none => none

/-- Whether an authority may order a danger action (15 R359). -/
def State.dangerOk (s : State) (from_ : Authority) : Bool :=
  match from_ with
  | .console | .steward => true
  | _ => s.stw.remoteDanger

/-- What a power or management command came to: OK, a refusal of the journal, an authority that overrides it, or a status. -/
inductive Verdict
  | ok | busy | notPermitted | badArgs | journalFull
  | overridden (by_ : Nat)
  deriving DecidableEq, Repr

/-- RUN (1), HOLD (2) or DORMANT (3) is ordered; `aux` is the origin at the tray master, 0xFFFF else. -/
def State.powerOrder (s : State) (from_ : Authority) (cmd aux : Nat) : Verdict × State :=
  let st := s.pwr.state
  let moving := st = 1 ∨ st = 3 ∨ st = 4
  let new := if cmd = 1 then (if st = 2 then 3 else 0) else if cmd = 2 then (if st = 0 then 1 else 2) else 4
  let e : JEntry := { origin := authOrigin from_, kind := 1, aux := aux, object := jObj 7 0, old := st, new := new }
  if cmd = 3 ∧ !s.dangerOk from_ then (.notPermitted, s)
  else if cmd ≠ 3 ∧ moving then (.busy, s)
  else match s.powerHolder from_ cmd with
    | some a => (.overridden a, s.refusal { e with code := 0x51, aux := a })
    | none =>
      if (cmd = 1 ∧ st = 0 ∧ s.pwr.level ≠ 3) ∨ (cmd = 2 ∧ st = 2) ∨ (cmd = 3 ∧ (st = 4 ∨ s.pwr.wantDormant)) then (.ok, s)
      else
        let e := if cmd = 3 then { e with kind := 4, data := s.readings } else e
        match s.change [e] with
        | (false, s) => (.journalFull, s)
        | (true, s) =>
          let s := { s with pwr := { s.pwr with result := { s.pwr.result with busy := true } } }
          if cmd = 1 then
            let s := s.endTrip
            (.ok, if st = 2 then s.leaveHold else s.pwrIdle)
          else if cmd = 2 then (.ok, s.enterHold (authOrigin from_))
          else
            let s := { s with pwr := { s.pwr with wantDormant := true }, pins := { s.pins with wakeArmed := true, wakeLatched := false } }
            (.ok, if st = 0 then s.enterHold (authOrigin from_) else if st = 2 then s.enterDormant else s)

/-- PWR_RESULT after an order. NOT_PERMITTED has no code of PWR_RESULT: CODE is then a free value (log 40). -/
def State.pwrResult (s : State) : Verdict → State
  | .ok => if s.pwr.result.busy then s else s.pwrEnd 0 0
  | .busy => s.pwrEnd 0x01 0
  | .journalFull => s.pwrEnd 0x50 0
  | .overridden a => s.pwrEnd 0x51 a
  | _ => let (v, s) := s.draw; s.pwrEnd (v % 256) 0

/-- PWR_CMD is written: the command and PWR_RESULT (R344). A console without a session is not heard (15 R369). -/
def State.pwrCommand (s : State) (from_ : Authority) (cmd : Nat) : State :=
  if s.noSession from_ then s.answer from_ 0x03 0 []
  else
    let r := s.powerOrder from_ cmd 0xFFFF
    r.2.pwrResult r.1

/-! ### The commands -/

def execRegulatorConfirm (island vout monitor : Nat) (statusOk : Bool) (s : State) : Host.Outcome State Fault Refusal :=
  let s := { s with out := [] }
  if s.islands.contains island then .next (s.confirm island vout monitor statusOk) else .next s

def execLinkLost (island : Nat) (s : State) : Host.Outcome State Fault Refusal :=
  .next (({ s with out := [] } : State).loseLink island)

/-- CONFIRM_TIMEOUT: every transaction succeeded and no confirmation came within 1 ms of the VOUT_COMMAND (R331). -/
def execConfirmTimeout (island : Nat) (s : State) : Host.Outcome State Fault Refusal :=
  let s := { s with out := [] }
  if (s.isl island).st = 1 ∨ (s.isl island).st = 2 ∨ (s.isl island).recover then .next (s.loseLink island) else .next s

def execMonitorCheck (island monitor : Nat) (s : State) : Host.Outcome State Fault Refusal :=
  let s := { s with out := [] }
  if s.islands.contains island then .next ((s.checkMonitor island monitor).takeReports) else .next s

def execPmbusRetry (island : Nat) (ok : Bool) (s : State) : Host.Outcome State Fault Refusal :=
  .next (({ s with out := [] } : State).retryLink island ok)

/-- PMBUS_ALERT: the steward reads STATUS_WORD of the regulators on that master (19 R433; key 0x0920). -/
def execPmbusAlert (master : Nat) (words : List Nat) (s : State) : Host.Outcome State Fault Refusal :=
  let s := { s with out := [] }
  let v := policy? s.img 0x0920 0xFF
  let masterOf := fun (i : Nat) => match v with | some b => leAt b (3 * i) 1 | none => 0
  .next ((s.islands.filter (fun i => masterOf i == master)).foldl (fun s i =>
    s.setIsl i { s.isl i with status := words.getD i (s.isl i).status }) s)

def execThermalSample (sites : List Nat) (s : State) : Host.Outcome State Fault Refusal :=
  .next (({ s with out := [] } : State).thermal ((List.range 16).map (fun i => sites.getD i 0)))

def execThrottleStep (s : State) : Host.Outcome State Fault Refusal :=
  .next (({ s with out := [] } : State).throttle)

def execThermalTrip (site temp : Nat) (s : State) : Host.Outcome State Fault Refusal :=
  let s := { s with out := [] }
  if 110 ≤ temp ∧ site < 16 then .next (s.trip site temp) else .next s

/-- FORCED_HOLD: a site is still at or above 110 degrees 1 s after the trip (R335). -/
def execForcedHold (s : State) : Host.Outcome State Fault Refusal :=
  let s := { s with out := [] }
  if s.pwr.level ≠ 3 ∨ s.stw.sites.all (fun t => decide (t < 110)) then .next s
  else
    let st := s.pwr.state
    let s := { s with pwr := { s.pwr with forced := true } }
    if st = 2 ∨ st = 4 then .next s
    else
      let s := s.fact { origin := 8, kind := 3, object := jObj 7 0, old := st, new := 1, data := s.readings }
      let s := (s.islands.filter (fun i => decide (i < 4))).foldl (fun s i => s.setIsl i { s.isl i with stopped := true }) s
      .next (s.enterHold 8)

def execPowerSample (r : PowerReading) (s : State) : Host.Outcome State Fault Refusal :=
  .next (({ s with out := [] } : State).powerSample r)

def execTdpCapStep (s : State) : Host.Outcome State Fault Refusal :=
  .next (({ s with out := [] } : State).tdpStep)

def execRun (from_ : Authority) (s : State) : Host.Outcome State Fault Refusal :=
  .next (({ s with out := [] } : State).pwrCommand from_ 1)

def execHold (from_ : Authority) (s : State) : Host.Outcome State Fault Refusal :=
  .next (({ s with out := [] } : State).pwrCommand from_ 2)

def execDormant (from_ : Authority) (s : State) : Host.Outcome State Fault Refusal :=
  .next (({ s with out := [] } : State).pwrCommand from_ 3)

def execHoldEntryComplete (s : State) : Host.Outcome State Fault Refusal :=
  let s := { s with out := [] }
  if s.pwr.state = 1 ∧ s.holdReady then .next s.holdEntered else .next s

def execHoldExitComplete (confirmed : List Nat) (s : State) : Host.Outcome State Fault Refusal :=
  let s := { s with out := [] }
  if s.pwr.state = 3 then .next (s.holdLeft confirmed) else .next s

/-- FLUSH_DONE; at Dormant entry power then goes (16 R380, R341 d3). -/
def execFlushDone (s : State) : Host.Outcome State Fault Refusal :=
  let s := { s with out := [] }
  if !s.lea.flushing then .next s
  else if s.pwr.state = 4 then .next s.endFlush.powerOff
  else .next s.endFlush

/-- FLUSH_TIMEOUT; at Dormant entry the device stays in Hold (16 R380, R341 d2). -/
def execFlushTimeout (s : State) : Host.Outcome State Fault Refusal :=
  let s := { s with out := [] }
  if !s.lea.flushing then .next s
  else if s.pwr.state = 4 then
    let s := s.failFlush
    .next (({ s with pwr := { s.pwr with state := 2 }, pins := { s.pins with wakeArmed := false, wakeLatched := false } } : State).pwrIdle.pwrEnd 0x03 0)
  else .next s.failFlush

/-- WAKE_N held low: it wakes from Dormant, is latched between d0 and PWR_EN's rise, starts Hold exit, or is ignored (R340, R342;
19 R428). -/
def execWakeNQualified (lowNs : Nat) (s : State) : Host.Outcome State Fault Refusal :=
  let s := { s with out := [] }
  let long := decide (10000 ≤ lowNs) || (decide (5000 ≤ lowNs) && Config.wakeShortPulse lowNs)
  if !long then .next s
  else if !s.pins.pwrEn then
    if s.pins.offTimeDone then .next { s with pins := { s.pins with pwrEn := true, wakeArmed := false, wakeLatched := false } }
    else .next { s with pins := { s.pins with wakeLatched := true } }
  else if s.pins.wakeArmed then .next { s with pins := { s.pins with wakeLatched := true } }
  else if s.pwr.state = 2 ∧ !s.pwr.forced ∧ s.pwr.level ≠ 3 then
    let s := s.fact { origin := 3, kind := 1, object := jObj 7 0, old := 2, new := 3 }
    .next ({ s with pwr := { s.pwr with result := { s.pwr.result with busy := true } } } : State).leaveHold
  else .next s

/-- PWR_EN_OFF_TIME: 50 ms have passed since PWR_EN fell (R342). -/
def execPwrEnOffTime (s : State) : Host.Outcome State Fault Refusal :=
  let s := { s with out := [] }
  if s.pins.pwrEn then .next s
  else if s.pins.wakeLatched then
    .next { s with pins := { s.pins with offTimeDone := true, pwrEn := true, wakeArmed := false, wakeLatched := false } }
  else .next { s with pins := { s.pins with offTimeDone := true } }

end Sys2Proof.Machine
end

