-- ==== Sys2Proof/Machine/Steward.lean ====
section
/-! DEFINITION. The steward's own work: DRAM temperature, fans, the watchdog (05 R128; 15 R345 to R352). -/

namespace Sys2Proof.Machine

/-! ### Danger actions (R360) -/

/-- The entry of a danger action with the readings before it; its after-readings fall due 1 s later. False when the journal refuses it. -/
def State.danger (s : State) (e : JEntry) : Bool × State :=
  let e := { e with kind := 4, data := s.readings }
  match s.change [e] with
  | (false, s) => (false, s)
  | (true, s) => (true, { s with stw := { s.stw with dangers := s.stw.dangers ++ [e] } })

/-- The after-readings of the oldest danger action. -/
def State.dangerAfter (s : State) : State :=
  match s.stw.dangers with
  | [] => s
  | e :: rest =>
    ({ s with stw := { s.stw with dangers := rest } } : State).fact { e with kind := 5, data := s.readings }

/-! ### DRAM temperature (05 R128, 15 R346) -/

/-- FAB_DRAM_TEMP of an interface. -/
def Dram.tempWord (d : Dram) : Nat := b2n d.hot * 2 ^ 8 + d.mr4 % 8

/-- Whether any interface reports HOT. -/
def State.anyHot (s : State) : Bool := s.dram.any (fun e => e.2.hot)

/-- Every active interface reads MR4 into its refresh interval; the first HOT starts the fans and the cap. -/
def State.mr4 (s : State) (readings : List (Nat × Bool)) : State :=
  let old := (s.dramIf 0).tempWord
  let s := { s with dram := s.dram.map (fun (e : Nat × Dram) =>
    (e.1, match readings[e.1]? with
      | some r => if e.2.state = 2 then { e.2 with mr4 := r.1 % 8, hot := r.2 } else e.2
      | none => e.2)) }
  if s.anyHot ∧ !s.pwr.hotCap then
    let s := { s with pwr := { s.pwr with hotCap := true } }
    let i := match s.dram.find? (fun e => e.2.hot) with | some e => e.1 | none => 0
    (s.fact { origin := 3, kind := 3, object := regObj (6 + i) 0x24, old := if i = 0 then old else 0, new := (s.dramIf i).tempWord
              data := s.readings }).applyCaps
  else s

/-- The release, 10 s after the last HOT bit cleared. -/
def State.hotRelease (s : State) : State :=
  if s.pwr.hotCap ∧ !s.anyHot then
    let s := { s with pwr := { s.pwr with hotCap := false } }
    s.fact { origin := 3, kind := 3, object := regObj 6 0x24, old := (s.dramIf 0).tempWord, new := (s.dramIf 0).tempWord, data := s.readings }
  else s

/-! ### Fans (R347 to R349) -/

def State.fan (s : State) (f : Nat) : Fan := mget s.stw.fans f {}
def State.setFan (s : State) (f : Nat) (x : Fan) : State := { s with stw := { s.stw with fans := mset s.stw.fans f x } }

/-- The curve duty of a temperature in whole percent. -/
def Stw.curve (w : Stw) (t : Nat) : Nat :=
  if t ≤ w.tLow then w.fanMin
  else if w.tHigh ≤ t then 100
  else min 100 (w.fanMin + ceilDiv ((100 - w.fanMin) * (t - w.tLow)) (w.tHigh - w.tLow))

/-- The curve duty in force in whole percent. -/
def Stw.curveDuty (w : Stw) : Nat := (w.curve2 + 1) / 2

/-- Whether a fan is faulted among the enabled ones. -/
def State.fanFaulted (s : State) : Bool := (List.range 4).any (fun f => bit s.stw.fanMask f && (s.fan f).fault)

/-- The authority that holds a fan, if any: hardware, steward policy, or an override's (R348). -/
def State.fanHolder (s : State) (f : Nat) : Option Nat :=
  if s.pwr.level = 3 ∨ s.stw.wdForced then some 1
  else if s.pwr.hotCap ∨ s.fanFaulted then some 2
  else (s.holder 0x0106 f).map (·.auth)

/-- The applied duty of a fan (R348); a fan outside FAN_MASK is driven only by the watchdog. -/
def State.fanDuty (s : State) (f : Nat) : Nat :=
  if s.stw.wdForced ∨ s.boot.state = 7 then 100
  else if !bit s.stw.fanMask f then 0
  else if s.pwr.level = 3 ∨ s.pwr.hotCap ∨ s.fanFaulted then 100
  else match s.holder 0x0106 f with
    | some o => if o.value = 0xFF then s.stw.curveDuty else o.value
    | none => s.stw.curveDuty

/-- The 100 ms update: tach readings, and the curve duty, which rises at once and falls by at most half a point (5 a second). -/
def State.fanUpdate (s : State) (rpm : List Nat) : State :=
  let s := (List.range 4).foldl (fun s f => match rpm[f]? with | some r => s.setFan f { s.fan f with rpm := r % 2 ^ 16 } | none => s) s
  let goal := 2 * s.stw.curve (hottest s.stw.sites 0 (0, 0)).2
  { s with stw := { s.stw with curve2 := if s.stw.curve2 ≤ goal then goal else max goal (s.stw.curve2 - 1) } }

/-- A fan is faulted; one that is driven at duty 0 is not (R349). -/
def State.fanFails (s : State) (f : Nat) : State :=
  if f < 4 ∧ bit s.stw.fanMask f ∧ !(s.fan f).fault ∧ 0 < s.fanDuty f then
    let old := s.fanDuty f
    let s := s.setFan f { s.fan f with fault := true }
    (s.fact { origin := 3, kind := 3, object := jObj 15 (16 + f), old := old, new := s.fanDuty f, data := s.readings }).pulse 0x00B
  else s

/-! ### The watchdog (R350 to R352) -/

/-- A write of STW_WDOG: a kick, or a bad kick. -/
def State.wdKick (s : State) (who : Requester) (v : Nat) : State :=
  let bad := { s with stw := { s.stw with badKicks := satAdd 8 s.stw.badKicks 1 } }
  if s.reqHank who ≠ 0 then bad.denyReg who 44 0x004 0
  else if who = .steward ∧ v % 2 ^ 16 = (if s.stw.kick5a then 0x5A5A else 0xA5A5) then
    ({ s with stw := { s.stw with kick5a := !s.stw.kick5a } } : State).served
  else bad.served

/-- Islands 0 to 4 run at the clock of OP0; their regulators keep what they hold. -/
def State.wdClocks (s : State) : State :=
  (s.islands.filter (fun i => decide (i < 5))).foldl (fun s i =>
    let x := s.isl i
    if x.st = 4 ∨ x.st = 5 then s
    else (s.pointFact 3 i (if x.st = 2 then x.target else x.cur) 0).setIsl i { x with cur := 0, target := 0, st := if x.st = 3 then 3 else 0, waiting := none }) s

/-- The watchdog expires: the forced state, the hardware's record before any other (16 R373), and the reset of the steward core. -/
def State.wdExpire (s : State) : State :=
  let s := { s with
    stw := { s.stw with wdForced := true, expiries := satAdd 16 s.stw.expiries 1, kick5a := false, session := false }
    pins := { s.pins with thermAlert := true } }
  let st := s.pwr.state
  let s := s.fact { origin := 7, kind := 3, object := jObj 7 0, old := st, new := st, data := s.readings }
  s.wdClocks.pulse 0x00D

/-- The restarted steward has scanned the sites and confirmed V(OP0) on every governed island, and no site is at or above 110 degrees:
the forced state ends. -/
def State.wdRelease (s : State) (who : Requester) (sites confirmed : List Nat) : State :=
  if who ≠ .steward then s.denyReg who 44 0x00C 0
  else if s.stw.wdForced ∧ (List.range 16).all (fun i => decide (sites.getD i 0 < 110)) ∧ s.islands.all confirmed.contains then
    let s := { s with
      stw := { s.stw with
        wdForced := false, sites := (List.range 16).map (fun i => sites.getD i 0)
        peaks := (List.range 16).map (fun i => max (s.stw.peaks.getD i 0) (sites.getD i 0)) }
      pins := { s.pins with thermAlert := s.pwr.level == 3 } }
    let s := (s.islands.filter (fun i => decide (i < 5))).foldl (fun s i =>
      let x := s.isl i
      if x.st = 4 ∨ x.st = 5 then s
      else s.setIsl i { x with st := 0, volt := opVolt 0, recover := false }) s
    s.served
  else s.served

/-! ### The commands -/

def execMr4Poll (readings : List (Nat × Bool)) (s : State) : Host.Outcome State Fault Refusal :=
  .next (({ s with out := [] } : State).mr4 readings)

def execDramHotRelease (s : State) : Host.Outcome State Fault Refusal :=
  .next (({ s with out := [] } : State).hotRelease)

def execFanCurveUpdate (rpm : List Nat) (s : State) : Host.Outcome State Fault Refusal :=
  .next (({ s with out := [] } : State).fanUpdate rpm)

def execFanFault (fan : Nat) (s : State) : Host.Outcome State Fault Refusal :=
  .next (({ s with out := [] } : State).fanFails fan)

/-- FAN_FAULT_CLEAR: the fan has read at or above MIN_RPM for 60 s. -/
def execFanFaultClear (fan : Nat) (s : State) : Host.Outcome State Fault Refusal :=
  let s := { s with out := [] }
  .next (if (s.fan fan).fault then s.setFan fan { s.fan fan with fault := false } else s)

def execWatchdogKick (who : Requester) (value : Word) (s : State) : Host.Outcome State Fault Refusal :=
  .next (({ s with out := [] } : State).asHank who (fun s => s.wdKick who value.toNat))

def execWdogRelease (who : Requester) (sites confirmed : List Nat) (s : State) : Host.Outcome State Fault Refusal :=
  .next (({ s with out := [] } : State).asHank who (fun s => s.wdRelease who sites confirmed))

end Sys2Proof.Machine
end

