-- ==== Sys2Proof/Machine/Roi.lean ====
section
/-! DEFINITION. Sampling, colour, normalisation and augmentation of pictures (10 R255 to R260). -/

namespace Sys2Proof.Machine

/-! ### Bilinear sampling (R255) -/

/-- A plane: its width, height and bytes in raster order. -/
structure Plane where
  w : Nat
  h : Nat
  data : List Byte
  deriving DecidableEq, Repr

def Plane.at (p : Plane) (x y : Int) : Int := (p.data.getD (y.toNat * p.w + x.toNat) 0).toNat

/-- The bilinear value of four taps. -/
def bilinear (p00 p01 p10 p11 : Int) (fx fy : Int) : Int :=
  rneShr ((p00 * (256 - fx) + p01 * fx) * (256 - fy) + (p10 * (256 - fx) + p11 * fx) * fy) 16

/-- A plane sampled at a position with 16 fraction bits inside a region [x0, x1] x [y0, y1]: the position and the neighbours are
clamped to it. -/
def Plane.sample (p : Plane) (x0 x1 y0 y1 : Int) (px py : Int) : Int :=
  let px := clampI (x0 * 65536) (x1 * 65536) px
  let py := clampI (y0 * 65536) (y1 * 65536) py
  let x := px / 65536
  let y := py / 65536
  let xr := min (x + 1) x1
  let yr := min (y + 1) y1
  bilinear (p.at x y) (p.at xr y) (p.at x yr) (p.at xr yr) (px / 256 % 256) (py / 256 % 256)

/-- Y, Cb and Cr of output pixel (i, j) of a region of a picture scaled to ow x oh (R255). -/
def Pic.pixel (p : Pic) (x y w h ow oh i j : Nat) : Int × Int × Int :=
  let sx : Int := (x * 65536 + (2 * j + 1) * w * 65536 / (2 * ow) : Nat) - (32768 : Int)
  let sy : Int := (y * 65536 + (2 * i + 1) * h * 65536 / (2 * oh) : Nat) - (32768 : Int)
  let x1 : Int := (x + w - 1 : Nat)
  let y1 : Int := (y + h - 1 : Nat)
  let sx := clampI (x * 65536 : Nat) (x1 * 65536) sx
  let sy := clampI (y * 65536 : Nat) (y1 * 65536) sy
  let cw := ceilDiv p.w 2
  let ch := if p.c422 then p.h else ceilDiv p.h 2
  let cy0 : Int := if p.c422 then y else y / 2
  let cy1 : Int := if p.c422 then y1 else y1 / 2
  let csx := sx / 2
  let csy := if p.c422 then sy else (sy + 32768) / 2 - 32768
  let luma : Plane := { w := p.w, h := p.h, data := p.luma }
  let cb : Plane := { w := cw, h := ch, data := p.cb }
  let cr : Plane := { w := cw, h := ch, data := p.cr }
  (luma.sample x x1 y y1 sx sy, cb.sample (x / 2 : Nat) (x1 / 2) cy0 cy1 csx csy, cr.sample (x / 2 : Nat) (x1 / 2) cy0 cy1 csx csy)

/-! ### Colour (R256) -/

/-- ky, kr, kgb, kgr, kb of a COLOUR field (R241: matrix in bit 0, range in bit 1). -/
def colourTable (c : Nat) : Int × Int × Int × Int × Int :=
  match bit c 0, bit c 1 with
  | false, false => (19077, 26149, 6419, 13320, 33050)
  | false, true => (16384, 22970, 5638, 11700, 29032)
  | true, false => (19077, 29372, 3494, 8731, 34610)
  | true, true => (16384, 25802, 3069, 7670, 30402)

/-- RGB of a pixel. -/
def toRgb (colour : Nat) (v : Int × Int × Int) : Int × Int × Int :=
  let (ky, kr, kgb, kgr, kb) := colourTable colour
  let y := if bit colour 1 then v.1 else v.1 - 16
  let cb := v.2.1 - 128
  let cr := v.2.2 - 128
  (satU 8 (rneShr (ky * y + kr * cr) 14), satU 8 (rneShr (ky * y - kgb * cb - kgr * cr) 14), satU 8 (rneShr (ky * y + kb * cb) 14))

/-! ### Normalisation (R257) -/

/-- Bytes of an element. -/
def elemBytes (elem : Nat) : Nat := if elem = 8 then 2 else 1

/-- The element of an 8-bit value, and whether sat changed it. -/
def normalise (elem mean : Nat) (scale x : Int) : List Byte × Bool :=
  match elem with
  | 4 => ([BitVec.ofInt 8 x], false)
  | 2 =>
    let v := rneShr ((256 * x - mean) * scale) 20
    let t := satS 8 v
    ([BitVec.ofInt 8 (max t (-127))], t != v)
  | _ => (leBytes 2 (toBinary16 ((256 * x - mean) * scale) (-20)).1, false)

/-- Channels of a layout. -/
def layoutChannels (layout : Nat) : Nat := if layout = 3 then 1 else 3

def triple (v : Int × Int × Int) (c : Nat) : Int := if c = 0 then v.1 else if c = 1 then v.2.1 else v.2.2

/-- The positions (i, j, c) of a sample in the order written: interleaved, or plane by plane. -/
def sampleOrder (layout ow oh : Nat) : List (Nat × Nat × Nat) :=
  let px := (List.range oh).flatMap (fun i => (List.range ow).map (fun j => (i, j)))
  if layout = 0 then px.flatMap (fun (p : Nat × Nat) => (List.range 3).map (fun c => (p.1, p.2, c)))
  else (List.range (layoutChannels layout)).flatMap (fun c => px.map (fun (p : Nat × Nat) => (p.1, p.2, c)))

/-- A sample's bytes and the values clipped, from its 8-bit values. -/
def sampleBytes (layout ow oh elem : Nat) (mean : List Nat) (scale : List Int) (v : Nat → Nat → Nat → Int) : List Byte × Nat :=
  let r := (sampleOrder layout ow oh).map (fun (k : Nat × Nat × Nat) => normalise elem (mean.getD k.2.2 0) (scale.getD k.2.2 0) (v k.1 k.2.1 k.2.2))
  (r.flatMap (·.1), (r.filter (·.2)).length)

/-- The sample of a region of a picture under a latched table. -/
def roiSample (p : Pic) (colour : Nat) (t : Roi) (x y w h : Nat) : List Byte × Nat :=
  sampleBytes t.layout t.outW t.outH t.elem t.mean t.scale (fun i j c =>
    let v := p.pixel x y w h t.outW t.outH i j
    triple (if t.layout < 2 then toRgb colour v else v) c)

/-- The sample as the cache keeps it: planar RGB U8 (R258). -/
def cacheSample (p : Pic) (colour : Nat) (t : Roi) (x y w h : Nat) : List Byte :=
  (sampleBytes 1 t.outW t.outH 4 [] [] (fun i j c => triple (toRgb colour (p.pixel x y w h t.outW t.outH i j)) c)).1

/-! ### Sines and cosines, to 96 fraction bits (log 44) -/

def piFix : Int := 248902613312231085230521944622

/-- 1 / sqrt 3. -/
def invSqrt3 : Int := 45742400955009932534161870629

def mulFix (a b : Int) : Int := a * b / 2 ^ 96

/-- The Taylor sum from term `t` of index `k`. -/
def taylor (x2 : Int) : Nat → Nat → Int → Int → Int
  | 0, _, _, acc => acc
  | f + 1, k, t, acc =>
    let t := -(mulFix t x2) / ((k + 1) * (k + 2) : Nat)
    taylor x2 f (k + 2) t (acc + t)

/-- The angle of `n` hundredths of a degree. -/
def angleFix (n : Int) : Int := n * piFix / 18000

def cosFix (n : Int) : Int :=
  let x := angleFix n
  taylor (mulFix x x) 30 0 (2 ^ 96) (2 ^ 96)

def sinFix (n : Int) : Int :=
  let x := angleFix n
  taylor (mulFix x x) 30 1 x x

/-! ### Augmentation (R260) -/

/-- A record of the augmentation ring (R259). -/
structure AugRec where
  id : Nat
  tag : Nat
  cropX : Nat
  cropY : Nat
  cropW : Nat
  cropH : Nat
  rot : Int
  hflip : Bool
  vflip : Bool
  batch : Nat
  bright : Int
  noise : Nat
  contrast : Nat
  hue : Int
  pool : Nat
  seed : Nat
  outW : Nat
  outH : Nat
  elem : Nat
  layout : Nat
  mean : List Nat
  scale : List Int
  deriving DecidableEq, Repr

def parseAug (b : List Byte) : AugRec where
  id := leAt b 0 8
  tag := leAt b 8 4
  cropX := leAt b 12 2
  cropY := leAt b 14 2
  cropW := leAt b 16 2
  cropH := leAt b 18 2
  rot := sx 16 (leAt b 20 2)
  hflip := bit (leAt b 22 1) 0
  vflip := bit (leAt b 22 1) 1
  batch := leAt b 23 1
  bright := sx 8 (leAt b 24 1)
  noise := leAt b 25 1
  contrast := leAt b 26 2
  hue := sx 16 (leAt b 28 2)
  pool := leAt b 30 1
  seed := leAt b 32 4
  outW := leAt b 36 2
  outH := leAt b 38 2
  elem := leAt b 40 1
  layout := leAt b 41 1
  mean := (List.range 3).map (fun c => leAt b (42 + 2 * c) 2)
  scale := (List.range 3).map (fun c => sx 16 (leAt b (48 + 2 * c) 2))

/-- Whether a record's fields are in range (R259). -/
def augValid (b : List Byte) : Bool :=
  let r := parseAug b
  decide (-1500 ≤ r.rot ∧ r.rot ≤ 1500 ∧ leAt b 22 1 < 4 ∧ r.batch < 16 ∧ r.noise ≤ 64 ∧ -18000 ≤ r.hue ∧ r.hue ≤ 18000
    ∧ r.pool < 8 ∧ leAt b 31 1 = 0 ∧ 8 ≤ r.outW ∧ r.outW ≤ 1024 ∧ 8 ≤ r.outH ∧ r.outH ≤ 1024 ∧ r.layout < 2)
  && (r.elem == 4 || r.elem == 2 || r.elem == 8) && decide (leAt b 54 10 = 0)

/-- A plane's value where a tap outside it reads zero. -/
def Plane.tap (p : Plane) (x y : Int) : Int := if 0 ≤ x ∧ x < p.w ∧ 0 ≤ y ∧ y < p.h then p.at x y else 0

/-- The geometry's source position of output pixel (i, j). -/
def augPos (r : AugRec) (i j : Nat) : Int × Int :=
  let u : Int := ((2 * j + 1) * r.cropW * 65536 / (2 * r.outW) : Nat) - ((r.cropW * 32768 : Nat) : Int)
  let v : Int := ((2 * i + 1) * r.cropH * 65536 / (2 * r.outH) : Nat) - ((r.cropH * 32768 : Nat) : Int)
  let u := if r.hflip then -u else u
  let v := if r.vflip then -v else v
  let c := rneShr (cosFix r.rot) 80
  let s := rneShr (sinFix r.rot) 80
  (((r.cropX * 65536 + r.cropW * 32768 : Nat) : Int) - 32768 + rneShr (c * u - s * v) 16,
    ((r.cropY * 65536 + r.cropH * 32768 : Nat) : Int) - 32768 + rneShr (s * u + c * v) 16)

/-- A plane sampled at a position; taps outside read zero. -/
def Plane.tapSample (p : Plane) (px py : Int) : Int :=
  let x := px / 65536
  let y := py / 65536
  bilinear (p.tap x y) (p.tap (x + 1) y) (p.tap x (y + 1)) (p.tap (x + 1) (y + 1)) (px / 256 % 256) (py / 256 % 256)

/-- The hue step. -/
def augHue (hue : Int) (v : Int × Int × Int) : Int × Int × Int :=
  let c := cosFix hue
  let s := mulFix (sinFix hue) invSqrt3
  let one : Int := 2 ^ 96
  let a := rneShr (c + (one - c) / 3) 82
  let b := rneShr ((one - c) / 3 - s) 82
  let d := rneShr ((one - c) / 3 + s) 82
  (satU 8 (rneShr (a * v.1 + b * v.2.1 + d * v.2.2) 14), satU 8 (rneShr (d * v.1 + a * v.2.1 + b * v.2.2) 14),
    satU 8 (rneShr (b * v.1 + d * v.2.1 + a * v.2.2) 14))

/-- Contrast, brightness and noise of one channel. -/
def augTone (r : AugRec) (i j c : Nat) (x : Int) : Int :=
  let x := satU 8 (rneShr ((x - 128) * r.contrast) 8 + 128 + r.bright)
  satU 8 (x + ((srand16 r.seed i (3 * j + c) * (2 * r.noise + 1)) / 65536 : Nat) - r.noise)

/-- The augmented sample of a cached sample of w x h planar RGB: bytes and clipped values. -/
def augSample (r : AugRec) (w h : Nat) (data : List Byte) : List Byte × Nat :=
  let plane := fun (c : Nat) => ({ w := w, h := h, data := (data.drop (c * w * h)).take (w * h) } : Plane)
  sampleBytes r.layout r.outW r.outH r.elem r.mean r.scale (fun i j c =>
    let (px, py) := augPos r i j
    let v := augHue r.hue ((plane 0).tapSample px py, (plane 1).tapSample px py, (plane 2).tapSample px py)
    augTone r i j c (triple v c))

end Sys2Proof.Machine
end

