-- ==== Sys2Proof/Machine/Rtp.lean ====
section
/-! DEFINITION. The RTP depacketizer, the reorder buffer and access-unit assembly (10 R242 to R245, R251). -/

namespace Sys2Proof.Machine

/-! ### Reason counts (R266) -/

/-- `n` occurrences of reason `r` for camera `c`. -/
def State.reasonN (s : State) (c r n : Nat) : State :=
  let f := s.flow c
  s.setFlow c { f with reasons := mset f.reasons r (satAdd 32 (mget f.reasons r 0) n) }

def State.reason (s : State) (c r : Nat) : State := s.reasonN c r 1

/-! ### Packets (R243) -/

/-- A parsed RTP header: marker, payload type, sequence number, timestamp, SSRC, payload. -/
structure Rtp where
  marker : Bool
  pt : Nat
  seq : Nat
  ts : Nat
  ssrc : Nat
  payload : List Byte
  deriving DecidableEq, Repr

/-- The header of RFC 3550; none when the version is not 2 or the header is cut short. -/
def parseRtp (b : List Byte) : Option Rtp :=
  let b0 := beAt b 0 1
  let b1 := beAt b 1 1
  let base := 12 + 4 * (b0 % 16)
  let hdr := if bit b0 4 then base + 4 + 4 * beAt b (base + 2) 2 else base
  if b.length < 12 ∨ b0 / 64 ≠ 2 ∨ b.length < base ∨ (bit b0 4 ∧ b.length < base + 4) ∨ b.length < hdr then none
  else
    let pad := if bit b0 5 then (b.getLastD 0).toNat else 0
    some { marker := bit b1 7, pt := b1 % 128, seq := beAt b 2 2, ts := beAt b 4 4, ssrc := beAt b 8 4
           payload := (b.drop hdr).take (b.length - hdr - pad) }

/-- The NAL unit type a payload carries, the fragmented one's for a fragment; none for a structure that R243 does not pass. H.264 knows
single units, FU-A and FU-B, which begins a unit; H.265 single units, fragments and PACI packets with either inside. The start and end
bits of a fragment are not both set, and aggregation packets are not passed. -/
def nalType (codec : Nat) (p : List Byte) : Option Nat :=
  let n := p.length
  let frag := fun (i : Nat) => !(bit (beAt p i 1) 7 && bit (beAt p i 1) 6)
  if codec = 1 then
    let t := beAt p 0 1 % 32
    let u := beAt p 1 1 % 32
    if 1 ≤ n ∧ 1 ≤ t ∧ t ≤ 23 then some t
    else if (t = 28 ∧ 2 ≤ n ∨ t = 29 ∧ 4 ≤ n ∧ bit (beAt p 1 1) 7) ∧ frag 1 ∧ 1 ≤ u ∧ u ≤ 23 then some u
    else none
  else
    let t := beAt p 0 1 / 2 % 64
    let inner := fun (t i : Nat) =>
      if t ≤ 47 ∧ i ≤ n then some t
      else if t = 49 ∧ i + 2 ≤ n ∧ frag i ∧ beAt p i 1 % 64 ≤ 47 then some (beAt p i 1 % 64)
      else none
    if n < 2 ∨ beAt p 1 1 % 8 = 0 then none
    else if t = 50 then (let i := 4 + beAt p 2 2 / 16 % 32; if i < n then inner (beAt p 2 1 / 2 % 64) i else none)
    else inner t 2

/-- A JPEG payload of RFC 2435: header, restart header of types 64 to 127, and in the first fragment the tables that Q 128 to 255 carry;
Q 0 and 100 to 127 are reserved, and Q 255 always carries its tables. -/
def jpegOk (p : List Byte) : Bool :=
  let n := p.length
  let t := beAt p 4 1
  let base := if 64 ≤ t ∧ t ≤ 127 then 12 else 8
  let q := beAt p 5 1
  let len := beAt p (base + 2) 2
  decide (base ≤ n ∧ q ≠ 0 ∧ (q < 100 ∨ 128 ≤ q))
  && (decide (q < 128 ∨ beAt p 1 3 ≠ 0) || decide (base + 4 + len ≤ n ∧ (q ≠ 255 ∨ len ≠ 0)))

/-- Whether a payload keeps RFC 6184 (codec 1), RFC 7798 (codec 2) or RFC 2435 (codec 3), without aggregation. -/
def payloadOk (codec : Nat) (p : List Byte) : Bool :=
  if codec = 1 ∨ codec = 2 then (nalType codec p).isSome else jpegOk p

/-! ### Access units (R245, R251) -/

/-- The capture time of an access unit: its timestamp through the latest sender report, else its arrival (R245; log 45). -/
def Flow.captureOf (f : Flow) (au : AccessUnit) : AccessUnit :=
  match f.sr with
  | some (ts, t) =>
    { au with capture := ((t : Int) + sx 32 ((au.ts + 2 ^ 32 - ts) % 2 ^ 32) * 1000000000 / 90000).toNat, noSr := false }
  | none => { au with capture := au.arrival, noSr := true }

/-- Depth of an access-unit queue. -/
def State.auLimit (s : State) : Nat := s.crd.auDepth

/-- The open access unit ends: it joins the queue, or a full queue is emptied with it (R251, log 46); a HELD ply discards it
(18 R412). -/
def State.auEnd (s : State) (c : Nat) (held : Bool) : State :=
  let f := s.flow c
  match f.cur with
  | none => s
  | some au =>
    let f := { f with cur := none }
    if held then (s.setFlow c f).reason c 0x09
    else if s.auLimit ≤ f.queue.length then
      (s.setFlow c { f with queue := [], discard := true }).reasonN c 0x09 (f.queue.length + 1)
    else s.setFlow c { f with queue := f.queue ++ [f.captureOf au] }

/-- A packet leaves the reorder buffer in sequence order. -/
def State.auTake (s : State) (c : Nat) (held : Bool) (p : Pkt) : State :=
  let s := match (s.flow c).cur with
    | some au => if au.ts = p.ts then s else s.auEnd c held
    | none => s
  let f := s.flow c
  let s : State := match f.cur with
    | some _ => s
    | none =>
      let s := s.setFlow c { f with
        cur := some { ts := p.ts, arrival := p.arrival, order := s.crd.nextAu, gap := f.lost }, lost := false }
      { s with crd := { s.crd with nextAu := s.crd.nextAu + 1 } }
  let f := s.flow c
  let s : State := match f.cur with
    | some au => if au.gap then s else s.setFlow c { f with cur := some { au with frags := au.frags ++ [p.payload] } }
    | none => s
  if p.marker then s.auEnd c held else s

/-- A loss ends the bytes of the open access unit, else falls to the next one. -/
def Flow.lose (f : Flow) : Flow :=
  match f.cur with
  | some au => { f with cur := some { au with gap := true } }
  | none => { f with lost := true }

/-! ### The reorder buffer (R244) -/

/-- Held packets leave from `e` on, as far as the sequence runs. -/
def State.releaseRun (s : State) (c : Nat) (held : Bool) : Nat → State
  | 0 => s
  | n + 1 =>
    let f := s.flow c
    match f.next with
    | none => s
    | some e =>
      match f.held.find? (fun p => p.seq == e) with
      | none => s
      | some p =>
        let s := s.setFlow c { f with next := some ((e + 1) % 65536), held := f.held.filter (fun q => q.seq != e) }
        (s.auTake c held p).releaseRun c held n

/-- The held packet nearest after `e`. -/
def Flow.nearest (f : Flow) (e : Nat) : Option Nat :=
  (f.held.map (fun p => (p.seq + 65536 - e) % 65536)).foldl (fun b d =>
    match b with | none => some d | some x => some (min x d)) none

/-- The gap at `e` is declared lost: `e` becomes the first held number, and packets are released from it. -/
def State.skipGap (s : State) (c : Nat) (held : Bool) : State :=
  let f := s.flow c
  match f.next with
  | none => s
  | some e =>
    match f.nearest e with
    | none => s
    | some 0 => s.releaseRun c held 65
    | some d => (s.setFlow c { f.lose with next := some ((e + d) % 65536) }).releaseRun c held 65

/-- Every held packet leaves in order, gap by gap. -/
def State.releaseAll (s : State) (c : Nat) (held : Bool) : Nat → State
  | 0 => s
  | n + 1 => if (s.flow c).held = [] then s else (s.skipGap c held).releaseAll c held n

/-- The gap wait counts from the first packet after the gap (R244). -/
def State.gapStart (s : State) (c : Nat) : State :=
  let f := s.flow c
  s.setFlow c { f with gapSince := (f.held.map (·.arrival)).foldl (fun b t =>
    match b with | none => some t | some x => some (min x t)) none }

/-- A packet meets the reorder buffer (R244). -/
def State.reorder (s : State) (c : Nat) (held : Bool) (p : Pkt) : State :=
  let f := s.flow c
  let e := f.next.getD p.seq
  let d := (p.seq + 65536 - e) % 65536
  if 32768 ≤ d ∨ (d < 64 ∧ f.held.any (fun q => q.seq == p.seq)) then s.reason c 0x03
  else
    let s : State :=
      if d < 64 then (s.setFlow c { f with next := some e, held := f.held ++ [p] }).releaseRun c held 65
      else
        let s := s.releaseAll c held 65
        let f := s.flow c
        let f := if f.next = some p.seq then f else f.lose
        (s.setFlow c { f with next := some p.seq, held := [p] }).releaseRun c held 65
    let s := if 64 ≤ (s.flow c).held.length then s.skipGap c held else s
    s.gapStart c

/-- An RTP packet of camera `c` with registry record `r`: checked, counted and put in order (R243, R244). -/
def State.rtp (s : State) (r : CamRec) (arrival : Nat) (bytes : List Byte) : State :=
  let c := r.cam
  let held := (s.ply r.ply).state == 3
  let s := s.setFlow c { s.flow c with packets := satAdd 32 (s.flow c).packets 1 }
  match parseRtp bytes with
  | none => s.reason c 0x01
  | some p =>
    if p.pt ≠ r.pt ∨ 8960 < p.payload.length ∨ !payloadOk r.codec p.payload then s.reason c 0x01
    else
      let s := match (s.flow c).ssrc with
        | some x => if x = p.ssrc then s else s.flowReset c true
        | none => s
      let f := s.flow c
      let s := s.setFlow c { f with ssrc := some p.ssrc, st := if f.st = 0 then 1 else f.st }
      s.reorder c held { seq := p.seq, ts := p.ts, marker := p.marker, payload := p.payload, arrival := arrival }

/-- An NTP timestamp on the PTP timescale, in ns: NTP counts from 1900, PTP from 1970, and the PTP service knows the lead of its timescale
(R245; log 45). -/
def ntpToPtp (sec frac : Nat) : Nat := ((sec + 2 ^ 32 - 2208988800) % 2 ^ 32 + Config.ptpLead sec) * 1000000000 + frac * 1000000000 / 2 ^ 32

/-- An RTCP packet: a sender report gives the flow its clock (R245). -/
def State.rtcp (s : State) (r : CamRec) (bytes : List Byte) : State :=
  if 28 ≤ bytes.length ∧ beAt bytes 0 1 / 64 = 2 ∧ beAt bytes 1 1 = 200 then
    s.setFlow r.cam { s.flow r.cam with sr := some (beAt bytes 16 4, ntpToPtp (beAt bytes 8 4) (beAt bytes 12 4)) }
  else s

end Sys2Proof.Machine
end

