-- ==== Sys2Proof/Machine/Carding.lean ====
section
/-! DEFINITION. Decode, the ROI stage, the sample cache, augmentation and batches (10 R246 to R268). -/

namespace Sys2Proof.Machine

/-! ### Units of a camera -/

/-- The requester of the carding back end (04 R112). -/
def cardReq : Nat := 92

def ceil16 (n : Nat) : Nat := ceilDiv n 16 * 16

/-- Macroblocks of a coded size (R251). -/
def macroblocks (w h : Nat) : Nat := ceilDiv w 16 * ceilDiv h 16

/-- The reason a failed bus access counts under (R266). -/
def busReasonOf : Status → Nat
  | .access | .decode => 0x0E
  | _ => 0x0D

/-- Whether a pool would grant a request of a class now (R113, R106). -/
def State.canAlloc (s : State) (who : Requester) (p q cls : Nat) : Bool :=
  let h := s.reqHank who
  let x := s.poolOf p q
  x.woven && h != 0 && (hankRec? s.img h p).isSome
  && x.classMay (s.poolClass { pos := 0, who := who, p := p, q := q, cls := cls }) x.free
  && s.underLimit h (x.stride / (if x.skein then 256 else 4096)) x.skein

/-- Registry flags (02 R36). -/
def CamRec.conceal (r : CamRec) : Bool := bit r.flags 0
def CamRec.stale (r : CamRec) : Bool := bit r.flags 1

/-! ### ROI tables (R252) -/

/-- The fields of a header. -/
def parseRoi (b : List Byte) : Roi where
  outW := leAt b 0 2
  outH := leAt b 2 2
  layout := leAt b 4 1
  elem := leAt b 5 1
  pool := leAt b 7 1
  batch := leAt b 8 1
  cache := bit (leAt b 9 1) 0
  mean := (List.range 3).map (fun c => leAt b (10 + 2 * c) 2)
  scale := (List.range 3).map (fun c => sx 16 (leAt b (16 + 2 * c) 2))
  entries := (List.range (leAt b 6 1)).map (fun e =>
    let o := 64 + 16 * e
    (leAt b o 2, leAt b (o + 2) 2, leAt b (o + 4) 2, leAt b (o + 6) 2, leAt b (o + 8) 4))

/-- Bytes of a sample under a table (R257). -/
def Roi.bytes (t : Roi) : Nat := t.outW * t.outH * layoutChannels t.layout * elemBytes t.elem

/-- Whether a copy keeps the rules of its table, for hank `h` and camera record `r`. -/
def State.roiOk (s : State) (r : CamRec) (h : Nat) (b : List Byte) : Bool :=
  let t := parseRoi b
  let q := s.poolOf r.ply t.pool
  decide (8 ≤ t.outW ∧ t.outW ≤ 1024 ∧ 8 ≤ t.outH ∧ t.outH ≤ 1024 ∧ t.layout ≤ 3 ∧ t.pool < 8 ∧ t.batch < 16)
  && (t.elem == 4 || t.elem == 2 || t.elem == 8)
  && decide (leAt b 6 1 ≤ r.roiEntries ∧ leAt b 6 1 ≤ 64 ∧ leAt b 9 1 < 2 ∧ leAt b 22 42 = 0)
  && q.woven && decide (t.bytes ≤ q.size) && (s.queue h t.batch).enable

/-- Subscriber `i` of a camera latches its table. -/
def State.latchRoi (s : State) (r : CamRec) (i h : Nat) : State :=
  let base := (s.hank h).card.roiBase
  let setRoi := fun (s : State) (t : Roi) => s.setFlow r.cam { s.flow r.cam with roi := mset (s.flow r.cam).roi i t }
  let page := base + 4096 * r.cam
  let a := s.engRead h cardReq page 8
  let s := a.2.2.2
  if a.1 ≠ .ok then s.reason r.cam (busReasonOf a.1)
  else
    let copy := page + (if bit (leAt a.2.2.1 0 1) 0 then 0x800 else 0x40)
    let b := s.engRead h cardReq copy 1088
    let s := b.2.2.2
    if b.1 ≠ .ok then s.reason r.cam (busReasonOf b.1)
    else if leAt b.2.2.1 0 2 = 0 then setRoi s {}
    else if s.roiOk r h b.2.2.1 then setRoi s (parseRoi b.2.2.1)
    else setRoi (s.reason r.cam 0x10) {}

/-- The latched table of subscriber `i`; OUT_W 0 when it is absent. -/
def Flow.table (f : Flow) (i : Nat) : Roi := mget f.roi i {}

/-- Subscribers with their positions; an unused entry is 0. -/
def CamRec.subsAt (r : CamRec) : List (Nat × Nat) := ((List.range r.subs.length).zip r.subs).filter (fun e => e.2 != 0)

/-- Every subscriber of every camera of ply `p` latches its table, at step 1 of a boundary. -/
def State.latchPly (s : State) (p : Nat) : State :=
  (s.img.cams.filter (fun r => r.ply == p)).foldl (fun s r =>
    r.subsAt.foldl (fun s (e : Nat × Nat) => s.latchRoi r e.1 e.2) s) s

/-! ### The sampling-rate loop (R254) -/

/-- Whether the loop of a ply is on (key 0x0610). -/
def State.rateOn (s : State) (p : Nat) : Bool := policyN s.img 0x0610 p 1 == 1

/-- The divider of subscriber `i`: pinned, else 1 with the loop off, else the loop's. -/
def State.divider (s : State) (r : CamRec) (i : Nat) : Nat :=
  let f := s.flow r.cam
  let pin := mget f.pin i 0
  if pin ≠ 0 then pin else if s.rateOn r.ply then mget f.div i 1 else 1

/-- The loop moves a divider; the journal may refuse the change. -/
def State.setDivider (s : State) (r : CamRec) (i h old new : Nat) : State :=
  match s.change [{ origin := 6, kind := 1, hank := h, object := jObj 13 r.cam, old := old, new := new }] with
  | (true, s) => s.setFlow r.cam { s.flow r.cam with div := mset (s.flow r.cam).div i new }
  | (false, s) => s

/-- One judgement of subscriber `i`'s divider at the boundary that opened tick `t`, once. -/
def State.rateLoop (s : State) (r : CamRec) (i h t : Nat) : State :=
  let f := s.flow r.cam
  if !s.rateOn r.ply || mget f.pin i 0 != 0 || mget? f.judged i == some t then s
  else
    let d := mget f.div i 1
    let dmax := policyN s.img 0x0611 r.ply 4
    let hi := policyN s.img 0x0612 r.ply 1
    let quiet := policyN s.img 0x0613 r.ply 30
    let f := { f with judged := mset f.judged i t }
    if hi ≤ (f.table i).entries.length then
      let s := s.setFlow r.cam { f with quiet := mset f.quiet i 0 }
      if 1 < d then s.setDivider r i h d (d - 1) else s
    else
      let q := mget f.quiet i 0 + 1
      let s := s.setFlow r.cam { f with quiet := mset f.quiet i (if quiet ≤ q then 0 else q) }
      if quiet ≤ q ∧ d < dmax then s.setDivider r i h d (d + 1) else s

/-- The loop of every subscriber of every camera of ply `p`. -/
def State.ratePly (s : State) (p t : Nat) : State :=
  (s.img.cams.filter (fun r => r.ply == p)).foldl (fun s r =>
    r.subsAt.foldl (fun s (e : Nat × Nat) => s.rateLoop r e.1 e.2 t) s) s

/-! ### The sample cache (R258) -/

/-- The address of way `w` of the set of an identifier. -/
def cacheSlotAddr (k : CardHank) (id w : Nat) : Nat :=
  let set := mix32 (id % 2 ^ 32 ^^^ mix32 (id / 2 ^ 32)) % 2 ^ k.cacheLog2
  k.cacheBase + (4 * set + w) * (k.cacheSlot * 4096)

/-- The four ways' headers: identifier, SEQ, width, height; a failed read stops it. -/
def State.cacheWays (s : State) (h id : Nat) : Status × List (Nat × Nat × Nat × Nat) × State :=
  (List.range 4).foldl (fun acc w =>
    match acc with
    | (.ok, l, s) =>
      let r := s.engRead h cardReq (cacheSlotAddr (s.hank h).card id w) 64
      (r.1, l ++ [(leAt r.2.2.1 0 8, leAt r.2.2.1 8 8, leAt r.2.2.1 16 2, leAt r.2.2.1 18 2)], r.2.2.2)
    | x => x) (Status.ok, ([] : List (Nat × Nat × Nat × Nat)), s)

/-- The way an insert goes to: the same identifier's, else the first empty, else the lowest SEQ's. -/
def insertWay (l : List (Nat × Nat × Nat × Nat)) (id : Nat) : Nat :=
  match findPos (fun (e : Nat × Nat × Nat × Nat) => e.2.1 != 0 && e.1 == id) l 0 with
  | some w => w
  | none => match findPos (fun (e : Nat × Nat × Nat × Nat) => e.2.1 == 0) l 0 with
    | some w => w
    | none =>
      let low := (l.map (·.2.1)).foldl min (2 ^ 64)
      (findPos (fun (e : Nat × Nat × Nat × Nat) => e.2.1 == low) l 0).getD 0

/-- A sample is inserted as planar RGB U8, or counted in CRD_CACHE_SKIPS. -/
def State.cacheInsert (s : State) (h id w ht : Nat) (data : List Byte) : State :=
  let k := s.hank h
  if k.card.cacheSlot * 4096 < 64 + data.length then
    s.setHank h { k with card := { k.card with cacheSkips := satAdd 32 k.card.cacheSkips 1 } }
  else
    match s.cacheWays h id with
    | (.ok, l, s) =>
      let k := s.hank h
      let seq := k.card.cacheSeq + 1
      let s := s.setHank h { k with card := { k.card with cacheSeq := seq } }
      let hdr := leBytes 8 id ++ leBytes 8 seq ++ leBytes 2 w ++ leBytes 2 ht ++ List.replicate 44 (0 : Byte)
      (s.engWrite h cardReq (cacheSlotAddr k.card id (insertWay l id)) (hdr ++ data)).2.2
    | (_, _, s) => s

/-! ### Samples (R253, R261 to R265) -/

/-- A sample identifier (R261). -/
def sampleId (cam region capture : Nat) : Nat := cam % 1024 * 2 ^ 54 + region % 128 * 2 ^ 47 + capture / 1000 % 2 ^ 47

/-- Flags of a sample of a picture (R264). -/
def sampleFlags (p : Pic) (region : Nat) : Nat := 1 + 4 * b2n p.concealed + 16 * b2n p.noSr + 32 * b2n (region = 0)

/-- A region clipped to a picture: x, y, w, h. -/
def clipRegion (w h : Nat) (e : Nat × Nat × Nat × Nat) : Nat × Nat × Nat × Nat :=
  (e.1, e.2.1, min e.2.2.1 (w - e.1), min e.2.2.2 (h - e.2.1))

/-- What writing a sample gives: its buffer index, or the reason it is skipped. -/
inductive Made
  | done (index : Nat)
  | skipped (reason : Nat)
  deriving DecidableEq, Repr

/-- A buffer is taken and a sample's bytes are written to it with the hank's ID (R262, R88). -/
def State.storeSample (s : State) (h p pool : Nat) (bytes : List Byte) : Made × State :=
  let (w, s) := s.poolAlloc1 (.carding h) p pool 0
  if !bit w 31 then (.skipped 0x0A, s)
  else
    let i := w % 2 ^ 26
    let q := s.poolOf p pool
    let r := s.engWrite h cardReq (q.base + i * q.stride) bytes
    if r.1 = .ok then (.done i, r.2.2) else (.skipped (busReasonOf r.1), r.2.2.poolFree h p pool i)

/-- A sample of picture `p` is made and cached: scaled, converted, normalised, written (R255 to R258). -/
def State.makeSample (s : State) (r : CamRec) (h : Nat) (t : Roi) (p : Pic) (region : Nat) (x : Nat × Nat × Nat × Nat) : Made × State :=
  let (bytes, clips) := roiSample p r.colour t x.1 x.2.1 x.2.2.1 x.2.2.2
  let s := if t.cache then s.cacheInsert h (sampleId r.cam region p.capture) t.outW t.outH (cacheSample p r.colour t x.1 x.2.1 x.2.2.1 x.2.2.2) else s
  match s.storeSample h r.ply t.pool bytes with
  | (.done i, s) =>
    let f := s.flow r.cam
    (.done i, s.setFlow r.cam { f with samples := satAdd 32 f.samples 1, clips := satAdd 32 f.clips clips })
  | (.skipped k, s) => (.skipped k, s)

/-- Whether a queue takes the sample: a disabled queue drops it, a full ring discards it under RING_FULL (R264). -/
def State.queueTakes (s : State) (c h k : Nat) : Bool × State :=
  let q := s.queue h k
  if !q.enable then (false, s) else if q.blocked then (false, s.reason c 0x0F) else (true, s)

/-- The slot of a corrupt or skipped live sample: the last good picture's same region, or the next sample (R265). -/
def State.substitute (s : State) (r : CamRec) (h : Nat) (t : Roi) (id region tag reason : Nat) (x : Nat × Nat × Nat × Nat) : State :=
  let wait := fun (s : State) => s.claimAwait h t.batch id reason tag false
  match (s.flow r.cam).lastGood with
  | none => wait s
  | some p =>
    let x := if region = 0 then (0, 0, p.w, p.h) else clipRegion p.w p.h x
    if !r.stale || x.2.2.1 == 0 || x.2.2.2 == 0 then wait s
    else match s.makeSample r h t p region x with
      | (.done i, s) =>
        s.fillStale h t.batch id reason (sampleId r.cam region p.capture) i t.pool (sampleFlags p region) tag
      | (.skipped _, s) => wait s

/-- The regions a picture gives a subscriber: region index, region, tag; and the entries left with no area (R253, R254). -/
def State.regionsOf (s : State) (r : CamRec) (i frameNo w h : Nat) : List (Nat × (Nat × Nat × Nat × Nat) × Nat) × Nat :=
  let t := (s.flow r.cam).table i
  let full := frameNo % (max r.refreshN 1) = 0
  let due := full || frameNo % (s.divider r i) == 0
  if !due || t.outW == 0 then ([], 0)
  else
    let l := ((List.range t.entries.length).zip t.entries).map (fun (e : Nat × Nat × Nat × Nat × Nat × Nat) =>
      (e.1 + 1, clipRegion w h (e.2.1, e.2.2.1, e.2.2.2.1, e.2.2.2.2.1), e.2.2.2.2.2))
    let keep := l.filter (fun (e : Nat × (Nat × Nat × Nat × Nat) × Nat) => decide (0 < e.2.1.2.2.1 ∧ 0 < e.2.1.2.2.2))
    ((if full then [(0, (0, 0, w, h), 0)] else []) ++ keep, l.length - keep.length)

/-- One sample of a picture: `bad` when the picture is corrupt, with its reason. -/
def State.oneSample (s : State) (r : CamRec) (h : Nat) (t : Roi) (p : Pic) (bad : Option Nat)
    (e : Nat × (Nat × Nat × Nat × Nat) × Nat) : State :=
  let id := sampleId r.cam e.1 p.capture
  match s.queueTakes r.cam h t.batch with
  | (false, s) => s
  | (true, s) =>
    match bad with
    | some reason => s.substitute r h t id e.1 e.2.2 reason e.2.1
    | none =>
      match s.makeSample r h t p e.1 e.2.1 with
      | (.done i, s) => s.fillSample h t.batch id i t.pool (sampleFlags p e.1) e.2.2 false
      | (.skipped k, s) => (s.reason r.cam k).substitute r h t id e.1 e.2.2 k e.2.1

/-- The ROI stage takes a picture for every subscriber. -/
def State.roiStage (s : State) (r : CamRec) (p : Pic) (bad : Option Nat) : State :=
  r.subsAt.foldl (fun s (k : Nat × Nat) =>
    let (l, out) := s.regionsOf r k.1 p.frameNo p.w p.h
    let f := s.flow r.cam
    let s := s.setFlow r.cam { f with roiOutside := satAdd 32 f.roiOutside out }
    let t := f.table k.1
    l.foldl (fun s e => s.oneSample r k.2 t p bad e) s) s

/-! ### Admission to decode (R246 to R248, R250) -/

/-- SEI, AUD and filler NAL units (R246). -/
def nalSkipped (codec : Nat) (p : List Byte) : Bool :=
  match codec, nalType codec p with
  | 1, some t => t == 6 || t == 9 || t == 12
  | 2, some t => t == 35 || (decide (38 ≤ t) && decide (t ≤ 40))
  | _, _ => false

/-- What R246 accepts of a codec, in the profile and level codes of its standard (log 197); the type and Q of a JPEG frame stand in its
first packet. -/
def auSupported (codec : Nat) (i : AuInfo) (au : AccessUnit) : Bool :=
  match codec with
  | 1 => (i.profile == 100 || i.profile == 77 || (i.profile == 66 && i.constrained))
      && decide (i.level ≤ 51 ∧ i.bitDepth = 8 ∧ i.chroma = 1 ∧ i.refFrames ≤ 7) && !i.fields && !i.mbaff && !i.aso
  | 2 => i.profile == 1 && decide (i.level ≤ 153 ∧ i.bitDepth = 8 ∧ i.chroma = 1 ∧ i.refFrames ≤ 7)
  | _ => i.baseline && i.bitDepth == 8 && (match au.frags with
      | p :: _ => let t := beAt p 4 1; (t == 0 || t == 1 || t == 64 || t == 65) && decide (128 ≤ beAt p 5 1)
      | [] => true)

/-- Whether an access unit is a random-access point: every JPEG picture is one (R248). -/
def CamRec.rap (r : CamRec) (i : AuInfo) : Bool := i.rap || r.codec == 3

/-- An access unit is rejected: its reason is counted and its samples claim slots (R265). -/
def State.reject (s : State) (r : CamRec) (au : AccessUnit) (info : AuInfo) (reason : Nat) : State :=
  let f := s.flow r.cam
  let p : Pic := { w := info.width, h := info.height, capture := au.capture, noSr := au.noSr, frameNo := f.frameNo + 1 }
  (s.reason r.cam reason).roiStage r p (some reason)

/-- The head of a flow's queue leaves it. -/
def State.popAu (s : State) (c : Nat) : State :=
  let f := s.flow c
  s.setFlow c { f with queue := f.queue.drop 1 }

/-- The coded size exceeds the registry's, each rounded up to 16. -/
def tooLarge (r : CamRec) (info : AuInfo) : Bool := decide (ceil16 r.maxW < info.width ∨ ceil16 r.maxH < info.height)

/-- The frame buffers that the flow holds neither as references, nor for a picture in decode, nor for its last good picture are returned
(R248). -/
def State.releaseBufs (s : State) (r : CamRec) : State :=
  let f := s.flow r.cam
  let last := (f.lastGood.map (·.buf)).toList
  let kept := f.bufs.filter (fun b => f.refs.contains b || f.dec.any (fun d => d.buf == b) || last.contains b)
  let s := s.freeBufs r (f.bufs.filter (fun b => !(kept.contains b)))
  s.setFlow r.cam { s.flow r.cam with bufs := kept }

/-- A corrupt reference picture: the flow's references are released, and later access units up to the next random-access point are rejected,
one already admitted among them (R250). -/
def State.corruptRef (s : State) (r : CamRec) : State :=
  let s := (s.setFlow r.cam { s.flow r.cam with refs := [], tainted := [], st := 1 }).releaseBufs r
  match (s.flow r.cam).queue with
  | [] => s
  | au :: _ =>
    match au.info with
    | none => s
    | some i => if r.rap i then s.setFlow r.cam { s.flow r.cam with st := 2 } else (s.popAu r.cam).reject r au i 0x08

/-- AU_ADMIT of the access unit at the head; one of skipped NAL units alone is no picture (R246). -/
def State.auAdmit (s : State) (r : CamRec) (info : AuInfo) : State :=
  let c := r.cam
  let f := s.flow c
  match f.queue with
  | [] => s
  | au :: rest =>
    let frags := au.frags.filter (fun p => !nalSkipped r.codec p)
    if au.info.isSome then s
    else if frags = [] ∧ au.frags ≠ [] ∧ !au.gap then s.popAu c
    else if f.discard && !r.rap info then (s.popAu c).reason c 0x09
    else if tooLarge r info || f.badParams.contains info.paramSet then
      let s := s.popAu c
      let s := s.setFlow c { s.flow c with badParams := kins f.badParams info.paramSet, discard := false }
      s.reject r au info 0x04
    else if !auSupported r.codec info au then
      let s := s.popAu c
      let s := (s.setFlow c { s.flow c with discard := false }).reject r au info 0x05
      if info.isRef && r.codec != 3 then s.corruptRef r else s
    else if f.st = 1 ∧ !r.rap info then (s.popAu c).reject r au info 0x08
    else
      s.setFlow c { f with queue := { au with info := some info, frags := frags } :: rest, discard := false
                           st := if r.rap info then 2 else f.st }

/-! ### Decode start (R251) -/

/-- Whether the owner's RES_MB of the current tick covers `mb` more macroblocks. -/
def State.mbCovered (s : State) (r : CamRec) (mb : Nat) : Bool :=
  match hankRec? s.img r.owner r.ply with
  | some k => decide (mget s.crd.charged (4096 * r.ply + r.owner) 0 + mb ≤ s.quotaMb k)
  | none => false

/-- A camera whose head access unit engine `e` may start: record, macroblocks, covered, arrival, order. -/
def State.startable (s : State) (e : Nat) : List (CamRec × AccessUnit × Nat × Bool) :=
  s.img.cams.filterMap (fun r =>
    let f := s.flow r.cam
    let pl := s.ply r.ply
    let mask := ((plyRec? s.img r.ply).map (·.decodeMask)).getD 0
    match f.queue with
    | au :: _ =>
      (match au.info with
       | some i =>
         if bit mask e && pl.state != 3 && pl.state != 0 && f.dec.isEmpty && decide (f.bufs.length < 9)
            && s.canAlloc (.carding r.owner) r.ply (framePool s.img r.ply) 0 then
           let mb := macroblocks i.width i.height
           some (r, au, mb, s.mbCovered r mb)
         else none
       | none => none)
    | [] => none)

/-- The order of R251: covered ones by arrival, then the others round robin from the camera last served. -/
def startKey (rr : Nat) (x : CamRec × AccessUnit × Nat × Bool) : Nat :=
  if x.2.2.2 then x.2.1.arrival * 2 ^ 64 + x.2.1.order
  else 2 ^ 160 + (x.1.cam + 1023 - rr % 1024) % 1024

def minBy {α : Type} (key : α → Nat) : List α → Option α
  | [] => none
  | x :: xs => match minBy key xs with
    | some y => if key x ≤ key y then some x else some y
    | none => some x

/-- DECODE_START of engine `e`. -/
def State.decodeStart (s : State) (e : Nat) : State :=
  let g := mget s.crd.engines e {}
  let ctxs := nDecCtx s.variant / nDecode s.variant
  if nDecode s.variant ≤ e ∨ !s.counts (24 + e) ∨ !s.counts 23 ∨ g.swap = 2 ∨ ctxs ≤ g.busy then s
  else match minBy (startKey g.rr) (s.startable e) with
    | none => s
    | some (r, au, mb, covered) =>
      let pool := framePool s.img r.ply
      let (w, s) := s.poolAlloc1 (.carding r.owner) r.ply pool 0
      let b := w % 2 ^ 26
      let f := s.flow r.cam
      let s := s.setFlow r.cam { f with
        queue := f.queue.drop 1, bufs := f.bufs ++ [b], dec := f.dec ++ [{ au := au, engine := e, buf := b }] }
      let key := 4096 * r.ply + r.owner
      let c := s.crd
      let s := { s with crd := { c with
        engines := mset c.engines e { g with busy := g.busy + 1, rr := if covered then g.rr else r.cam }
        charged := if covered then mset c.charged key (mget c.charged key 0 + mb) else c.charged
        other := if covered then c.other else
          c.other.filter (fun (o : Nat × Nat) => decide (s.tck.time < o.1 + 1000000000)) ++ [(s.tck.time, mb)] } }
      let pl := s.ply r.ply
      s.setPly r.ply { pl with stats := { pl.stats with useMb := pl.stats.useMb + mb } }

/-! ### The end of a decode (R248 to R250) -/

/-- A plane with rectangles copied from another of the same width; `v`, `k` shrink the luma rectangles to the plane. -/
def copyRects (w : Nat) (v k : Nat) (rects : List (Nat × Nat × Nat × Nat)) (new old : List Byte) : List Byte :=
  (List.range new.length).map (fun i =>
    let x := i % max w 1 * v
    let y := i / max w 1 * k
    if rects.any (fun (r : Nat × Nat × Nat × Nat) => decide (r.1 ≤ x ∧ x < r.1 + r.2.2.1 ∧ r.2.1 ≤ y ∧ y < r.2.1 + r.2.2.2)) then old.getD i 0
    else new.getD i 0)

/-- A decode ends for the picture a flow is decoding. -/
def State.pictureDecoded (s : State) (r : CamRec) (d : Decoded) : State :=
  let c := r.cam
  let f := s.flow c
  match f.dec with
  | [] => s
  | x :: rest =>
    let size := (x.au.info.map (fun i => (i.width, i.height))).getD (d.width, d.height)
    let rap := x.au.info.elim false r.rap
    let g := mget s.crd.engines x.engine {}
    let g := { g with busy := g.busy - 1, mb := (g.mb + macroblocks size.1 size.2) % 2 ^ 64 }
    let s := { s with crd := { s.crd with engines := mset s.crd.engines x.engine g } }
    let bad : Option Nat :=
      if d.busReason = 0x0D ∨ d.busReason = 0x0E then some d.busReason
      else if d.syntaxError then some 0x06
      else if d.missing ≠ [] then
        (if r.conceal && f.prev.isSome then none else some (if x.au.gap then 0x02 else 0x07))
      else none
    let patched := bad.isNone && !d.missing.isEmpty
    let old := f.prev.getD {}
    let cw := ceilDiv d.width 2
    let p : Pic :=
      { w := d.width, h := d.height
        luma := if patched then copyRects d.width 1 1 d.missing d.luma old.luma else d.luma
        cb := if patched then copyRects cw 2 (if d.c422 then 1 else 2) d.missing d.cb old.cb else d.cb
        cr := if patched then copyRects cw 2 (if d.c422 then 1 else 2) d.missing d.cr old.cr else d.cr
        c422 := d.c422, capture := x.au.capture, noSr := x.au.noSr
        concealed := patched || (!rap && d.uses.any f.tainted.contains), frameNo := f.frameNo + 1, buf := x.buf }
    let isRef := d.isRef && r.codec != 3
    let s := s.setFlow c { f with
      dec := rest, frameNo := f.frameNo + 1, frames := satAdd 32 f.frames 1
      concealed := satAdd 32 f.concealed (b2n (p.concealed && bad.isNone)) }
    match bad with
    | some reason =>
      let s := (s.reason c reason).roiStage r p (some reason)
      let f := s.flow c
      if isRef then s.corruptRef r
      else (s.setFlow c { f with refs := f.refs.filter (fun b => !(d.unref.contains b)) }).releaseBufs r
    | none =>
      let s := s.roiStage r p none
      let f := s.flow c
      let s := s.setFlow c { f with
        prev := some p, lastGood := if r.stale then some p else none
        refs := f.refs.filter (fun b => !(d.unref.contains b)) ++ (if isRef then [x.buf] else [])
        tainted := (if rap then [] else f.tainted) ++ (if isRef && p.concealed then [x.buf] else []) }
      s.releaseBufs r

/-! ### Augmentation (R259, R260) -/

/-- The bank a requester reaches in block 26. -/
def State.crdBank (s : State) (who : Requester) : Nat := if s.reqHank who = 0 then s.crd.hsel else s.reqHank who

/-- Whether augmentation may run for a hank: its PLY is a TRAINING ply in which its record has TRAINING_ALLOWED (R259). -/
def State.augAllowed (s : State) (h : Nat) : Bool :=
  let p := (s.hank h).card.augPly
  (s.ply p).training && (match hankRec? s.img h p with | some r => bit r.flags 1 | none => false)

/-- CRD_AUG_DOORBELL. -/
def State.augDoorbell (s : State) (h count : Nat) : State :=
  let k := s.hank h
  if s.augAllowed h then s.setHank h { k with card := { k.card with augPending := k.card.augPending + count % 2 ^ 13 } }
  else s.setHank h { k with card := { k.card with augRefused := true } }

/-- A cached sample: its width, height and bytes, or the reason there is none. -/
def State.cacheLookup (s : State) (h id : Nat) : Except Nat (Nat × Nat × List Byte) × State :=
  match s.cacheWays h id with
  | (.ok, l, s) =>
    (match findPos (fun (e : Nat × Nat × Nat × Nat) => e.2.1 != 0 && e.1 == id) l 0 with
     | none => (.error 0x0B, s)
     | some w =>
       let e := l.getD w (0, 0, 0, 0)
       let r := s.engRead h cardReq (cacheSlotAddr (s.hank h).card id w + 64) (3 * e.2.2.1 * e.2.2.2)
       if r.1 = .ok then (.ok (e.2.2.1, e.2.2.2, r.2.2.1), r.2.2.2) else (.error (busReasonOf r.1), r.2.2.2))
  | (st, _, s) => (.error (busReasonOf st), s)

/-- A record's sample is made, or its slot waits for the ring's next one (R265). One that names no queue claims no slot. -/
def State.augSampleOf (s : State) (h : Nat) (b : List Byte) : State :=
  let r := parseAug b
  let p := (s.hank h).card.augPly
  let c := r.id / 2 ^ 54
  let q := s.poolOf p r.pool
  let skip := fun (s : State) (reason : Nat) => (s.reason c reason).claimAwait h r.batch r.id reason r.tag true
  if 16 ≤ r.batch then s.reason c 0x0C
  else match s.queueTakes c h r.batch with
  | (false, s) => s
  | (true, s) =>
    if !augValid b || !q.woven || decide (q.size < r.outW * r.outH * 3 * elemBytes r.elem) then skip s 0x0C
    else match s.cacheLookup h r.id with
      | (.error k, s) => skip s k
      | (.ok (w, ht, data), s) =>
        if w < r.cropX + r.cropW ∨ ht < r.cropY + r.cropH then skip s 0x0C
        else
          let (bytes, clips) := augSample r w ht data
          match s.storeSample h p r.pool bytes with
          | (.skipped k, s) => skip s k
          | (.done i, s) =>
            let f := s.flow c
            let s := s.setFlow c { f with samples := satAdd 32 f.samples 1, clips := satAdd 32 f.clips clips }
            s.fillSample h r.batch r.id i r.pool 1 r.tag true

/-- The next record of a hank's augmentation ring. -/
def State.augRecord (s : State) (h : Nat) : State :=
  let k := s.hank h
  let n := ringSize k.card.augLog2
  if k.card.augPending = 0 ∨ n = 0 ∨ !s.counts 26 ∨ !s.augAllowed h then s
  else
    let a := k.card.augBase + 64 * (k.card.augTaken % n)
    let s := s.setHank h { k with card := { k.card with
      augPending := k.card.augPending - 1, augTaken := (k.card.augTaken + 1) % 65536 } }
    let r := s.engRead h cardReq a 64
    if r.1 = .ok then r.2.2.2.augSampleOf h r.2.2.1 else r.2.2.2

/-! ### Batch queues (R263, R264, R268) -/

/-- A write of CRD_BQq_CFG: while ENABLE is 1 only ENABLE takes; disabling closes the batch. -/
def State.bqCfg (s : State) (h k v : Nat) : State :=
  let q := s.queue h k
  if q.enable then
    if bit v 0 then s
    else
      let s := s.closeAll h k 3 (s.ply q.ply).tick (q.slots.length + 1)
      s.setQueue h k { s.queue h k with enable := false }
  else s.setQueue h k { q with event := v / 2 ^ 16, size := v / 256 % 256 + 1, ply := v / 16 % 16, modeTick := bit v 1, enable := bit v 0 }

/-- The oldest closed batch's record is written while the ring has room. -/
def State.batchWrite (s : State) (h k : Nat) : State :=
  let q := s.queue h k
  match q.closed with
  | [] => s
  | b :: rest =>
    if !q.room then s
    else
      let s := s.setQueue h k { q with closed := rest, head := (q.head + 1) % 65536 }
      let s := (s.engWrite h cardReq (q.ring + q.head % ringSize q.log2 * b.length) b).2.2
      s.hankPulse h q.event

/-! ### The commands -/

/-- The record of a flow's camera, while the carding back end serves it. -/
def State.cam? (s : State) (c : Nat) : Option CamRec := camRec? s.img c

def execGapWaitExpiry (flow : Nat) (s : State) : Host.Outcome State Fault Refusal :=
  let s := { s with out := [] }
  match s.cam? flow with
  | some r => if (s.flow flow).held = [] then .next s else .next ((s.skipGap flow ((s.ply r.ply).state == 3)).gapStart flow)
  | none => .next s

def execAuAdmit (flow : Nat) (info : AuInfo) (s : State) : Host.Outcome State Fault Refusal :=
  let s := { s with out := [] }
  match s.cam? flow with
  | some r => .next (s.auAdmit r info)
  | none => .next s

def execDecodeStart (engine : Nat) (s : State) : Host.Outcome State Fault Refusal :=
  .next (({ s with out := [] } : State).decodeStart engine)

def execPictureDecoded (flow : Nat) (d : Decoded) (s : State) : Host.Outcome State Fault Refusal :=
  let s := { s with out := [] }
  match s.cam? flow with
  | some r => .next (s.pictureDecoded r d)
  | none => .next s

def execSamplingRateLoop (flow sub : Nat) (s : State) : Host.Outcome State Fault Refusal :=
  let s := { s with out := [] }
  match s.cam? flow with
  | some r =>
    (match r.subs[sub]? with
     | some h => if h = 0 then .next s else .next (s.rateLoop r sub h (s.ply r.ply).tick)
     | none => .next s)
  | none => .next s

def execAugDoorbell (who : Requester) (count : Nat) (s : State) : Host.Outcome State Fault Refusal :=
  let s := { s with out := [] }
  .next (s.asHank who (fun s => (s.augDoorbell (s.crdBank who) count).served))

def execAugRecord (hank : Nat) (s : State) : Host.Outcome State Fault Refusal :=
  .next (({ s with out := [] } : State).augRecord hank)

def execBqCfgWrite (who : Requester) (queue : Nat) (value : Word) (s : State) : Host.Outcome State Fault Refusal :=
  let s := { s with out := [] }
  .next (s.asHank who (fun s => (s.bqCfg (s.crdBank who) (queue % 16) value.toNat).served))

def execBatchRecordWrite (hank queue : Nat) (s : State) : Host.Outcome State Fault Refusal :=
  .next (({ s with out := [] } : State).batchWrite hank (queue % 16))

end Sys2Proof.Machine
end

