-- ==== Sys2Proof/Machine/Swap.lean ====
section
/-! DEFINITION. Running firmware: slots, trials, and the swaps of microcode and of output-stage tables (17 R386, R387, R393, R397, R398). -/

namespace Sys2Proof.Machine

/-! ### Slots -/

def State.dirEntry (s : State) (part : Nat) : DirEntry := mget s.boot.dir part {}

def DirEntry.slot (d : DirEntry) (b : Bool) : SlotState := if b then d.stB else d.stA
def DirEntry.setSlot (d : DirEntry) (b : Bool) (st : SlotState) : DirEntry :=
  if b then { d with stB := st } else { d with stA := st }

/-- The bytes of a part's slot (false A, true B). -/
def State.slotImage (s : State) (part : Nat) (b : Bool) : List Byte := mget s.nv.flash.images (2 * part + b2n b) []

def imgVersion (b : List Byte) : Nat := leAt b 0x0C 4

/-- VERSION of a part's image; a Warp has its serial in that place (log 58). -/
def partVersion (part : Nat) (b : List Byte) : Nat := if part = 6 then leAt b 0x20 8 else imgVersion b
def imgRollback (b : List Byte) : Nat := leAt b 0x12 2
def imgStateFormat (b : List Byte) : Nat := leAt b 0x14 2

/-- The image that is to run: the active slot's. -/
def State.activeImage (s : State) (part : Nat) : List Byte := s.slotImage part (s.dirEntry part).active

/-- A part runs the image of slot `b`. -/
def State.runSlot (s : State) (part : Nat) (b : Bool) : State :=
  { s with boot := { s.boot with
      versions := mset s.boot.versions part (imgVersion (s.slotImage part b))
      fallback := if b = (s.dirEntry part).active then s.boot.fallback.filter (· != part) else kins s.boot.fallback part } }

/-- A part runs the version of its active slot. -/
def State.setVersion (s : State) (part : Nat) : State := s.runSlot part (s.dirEntry part).active

/-- The image a part runs. -/
def State.runImage (s : State) (part : Nat) : List Byte :=
  s.slotImage part ((s.dirEntry part).active != s.boot.fallback.contains part)

/-- Seconds of a part's commit test (R393). -/
def trialSeconds (part : Nat) : Nat := if part = 2 then 10 else 60

/-- The trial of a part whose active slot is in TRIAL begins. -/
def State.startTrial (s : State) (part : Nat) : State :=
  let d := s.dirEntry part
  if d.slot d.active = .trial then
    { s with boot := { s.boot with trials := mset s.boot.trials part (s.tck.time + trialSeconds part * nsPerS) } }
  else s

/-- The last swap of a part completes. -/
def State.swapped (s : State) (part : Nat) : State := (s.setVersion part).startTrial part

/-! ### Microcode (R397) -/

/-- Flows wait for a random-access point when the formats of the two slots differ; those are the flows of the plies that may use
the engine (log 48). -/
def State.formatChange (s : State) (part e : Nat) : State :=
  let d := s.dirEntry part
  if imgStateFormat (s.slotImage part d.active) = imgStateFormat (s.slotImage part (!d.active)) then s
  else
    (s.img.cams.filter (fun r => bit (((plyRec? s.img r.ply).map (·.decodeMask)).getD 0) e)).foldl (fun s r =>
      s.setFlow r.cam { s.flow r.cam with st := if r.codec = 3 then (s.flow r.cam).st else 1 }) s

def State.setSwap (s : State) (e v : Nat) : State :=
  { s with crd := { s.crd with engines := mupd s.crd.engines e {} (fun g => { g with swap := v }) } }

/-- Decode engines at a boundary of any woven ply: one drains, or swaps, or the next one starts. -/
def State.engineSwaps (s : State) : State :=
  let es := List.range (nDecode s.variant)
  match es.find? (fun e => (mget s.crd.engines e {}).swap == 2) with
  | some e =>
    if (mget s.crd.engines e {}).busy = 0 then
      let s := (s.setSwap e 0).formatChange 3 e
      if es.all (fun e => (mget s.crd.engines e {}).swap == 0) then s.swapped 3 else s
    else s
  | none =>
    match es.find? (fun e => (mget s.crd.engines e {}).swap == 1) with
    | some e => s.setSwap e 2
    | none => s

/-- The carding back end swaps at the first boundary after its ACTIVATE. -/
def State.backSwap (s : State) : State :=
  if s.crd.beSwap then
    let s := { s with crd := { s.crd with beSwap := false } }
    ((List.range (nDecode s.variant)).foldl (fun s e => s.formatChange 4 e) s).swapped 4
  else s

/-! ### Output-stage tables (R398) -/

/-- A boundary of ply `p` passes for the arrays whose swap is due. -/
def State.armTables (s : State) (p : Nat) : State :=
  { s with arrays := s.arrays.map (fun (e : Nat × WArray) =>
      (e.1, if e.2.ply = p ∧ e.2.swapDue then { e.2 with swapDue := false, swapArmed := true } else e.2)) }

/-- An array takes the new tables once no job runs on it; its resident weights are invalid. -/
def State.tableSwap (s : State) (a : Nat) : State :=
  let x := s.arr a
  if x.swapArmed ∧ x.run.isNone then
    let s := s.setArr a { x with swapArmed := false, resident := none, tables := some (imgVersion (s.activeImage 5)) }
    if s.arrays.all (fun e => !e.2.swapArmed && !e.2.swapDue) then s.swapped 5 else s
  else s

def execOutputTableSwap (array : Nat) (s : State) : Host.Outcome State Fault Refusal :=
  .next (({ s with out := [] } : State).tableSwap array)

end Sys2Proof.Machine
end

