-- ==== Sys2Proof/Machine/Firmware.lean ====
section
/-! DEFINITION. Firmware parts: the directory, the checks of an image, the BOOT commands, trials and keys (17 R382 to R388, R392 to
R396). -/

namespace Sys2Proof.Machine

/-! ### The directory (R386) -/

/-- The directory in force is written into the other copy with GENERATION + 1. -/
def State.writeDir (s : State) : State :=
  let c : DirCopy := { gen := s.boot.gen + 1, crcOk := true, parts := s.boot.dir }
  let f := s.nv.flash
  { s with
    nv := { s.nv with flash := if s.boot.copy then { f with dir0 := c } else { f with dir1 := c } }
    boot := { s.boot with gen := s.boot.gen + 1, copy := !s.boot.copy } }

/-- One change of a part's entry, in one directory write. -/
def State.setDir (s : State) (part : Nat) (d : DirEntry) : State :=
  ({ s with boot := { s.boot with dir := mset s.boot.dir part d } } : State).writeDir

/-- Bytes of a part's slot. -/
def slotSize (part : Nat) : Nat :=
  match part with
  | 1 | 4 | 5 => 256 * 1024
  | 2 => 4 * mib
  | 3 => 512 * 1024
  | 6 => 16 * mib
  | _ => 64 * 1024

/-- The slot a STAGE writes: the inactive one; parts 7 and 8 have one slot (R386; log 56). -/
def DirEntry.other (d : DirEntry) (part : Nat) : Bool := if 7 ≤ part then false else !d.active

/-- The counter of a part. -/
def State.counter (s : State) (part : Nat) : Nat := s.nv.otp.arb.getD (part - 1) 0

/-! ### Images (R387, R388, R396) -/

/-- COMPAT records that are in use. -/
def compatOf (b : List Byte) : List FwRef :=
  ((List.range 8).map (fun i => fwOf (slice b (0x20 + 16 * i) 16))).filter (fun r => r.part != 0)

/-- Ranges that name parts which run. -/
def State.admits (s : State) (l : List FwRef) (part : Nat) : Bool :=
  l.all (fun r => match mget? s.boot.versions r.part with
    | some v => r.part == part || decide (r.min ≤ v ∧ v ≤ r.max)
    | none => true)

/-- Compatibility of a new version of a part: both directions (R396). -/
def State.compatible (s : State) (part : Nat) (b : List Byte) : Bool :=
  let v := imgVersion b
  let allow := fun (l : List FwRef) => l.all (fun r => r.part != part || decide (r.min ≤ v ∧ v ≤ r.max))
  s.admits (compatOf b) part
  && (s.boot.versions.filter (fun e => e.1 != part && e.1 != 6)).all (fun e => allow (compatOf (s.runImage e.1)))
  && (s.wrp.device != 2 || allow s.img.fw)

/-- COMPAT records in use have the zero bytes of FIRMWARE_REFS. -/
def compatZero (b : List Byte) : Bool :=
  (List.range 8).all (fun i =>
    let r := slice b (0x20 + 16 * i) 16
    leAt r 0 1 == 0 || (leAt r 1 3 == 0 && leAt r 12 4 == 0))

/-- The code of the checks of R388; 0 when all pass. The image that the directory records for parts 7 and 8 passes with its own serial
at a boot (`installed`). -/
def State.fwCheck (s : State) (part : Nat) (b : List Byte) (installed : Bool) : Nat :=
  let n := leAt b 8 4
  let own := 7 ≤ part
  if leAt b 0 4 ≠ 0x49574643 ∨ leAt b 4 2 ≠ 1 ∨ leAt b 6 1 ≠ part ∨ leAt b 7 1 ≠ 0 ∨ n ≠ b.length ∨ n % 64 ≠ 0 ∨ n < 512 ∨ slotSize part < n
      ∨ 64 < leAt b 0x12 2 ∨ (own ∧ leAt b 0x12 2 ≠ 0) ∨ (part ≠ 3 ∧ part ≠ 4 ∧ leAt b 0x14 2 ≠ 0) ∨ leAt b 0x16 2 ≠ 0
      ∨ (!own ∧ leAt b 0x18 8 ≠ 0) ∨ leNat (slice b 0xA0 96) ≠ 0 ∨ !compatZero b then 0x15
  else match (if own then s.ownerKey? (leAt b 0x18 8) else some s.nv.otp.rootKey) with
    | none => 0x20
    | some key =>
      if !signatureOk b key then 0x21
      else if !own ∧ leAt b 0x12 2 < s.counter part then 0x22
      else if own ∧ (if installed then imgVersion b < (s.dirEntry part).lastSerial else imgVersion b ≤ (s.dirEntry part).lastSerial) then 0x23
      else if !bit (leAt b 0x10 1) (variantBit s.variant) ∨ s.nv.otp.rev < leAt b 0x11 1 then 0x30
      else if !s.compatible part b then 0x35
      else 0

def State.fwCode (s : State) (part : Nat) (b : List Byte) : Nat := s.fwCheck part b false

/-- The code of a part's image: a Warp is checked under R40. -/
def State.partCode (s : State) (part : Nat) (b : List Byte) : Nat :=
  if part = 6 then s.imageCode b b.length none else s.fwCode part b

/-! ### Results -/

/-- A BOOT command ends with its code in BOOT_RESULT. -/
def State.bootEnd (s : State) (code auth : Nat) : State :=
  { s with boot := { s.boot with result := { s.boot.result with busy := false, done := true, authority := auth, code := code } } }

/-- A BOOT command is answered: its code, and the reply to its sender. -/
def State.bootDone (s : State) (from_ : Authority) (code : Nat) : State := (s.bootEnd code 0).answer from_ code 0 []

/-- A command takes the next SEQ. -/
def State.bootSeq (s : State) : State :=
  { s with boot := { s.boot with result := { s.boot.result with seq := (s.boot.result.seq + 1) % 256 } } }

/-- Whether a BOOT command, a boot or a WARM reset runs. -/
def State.bootBusy (s : State) : Bool := s.boot.stage.isSome || s.boot.warm

/-- The entry of a firmware change (16 class 10). -/
def State.fwEntry (s : State) (from_ : Authority) (index new : Nat) : JEntry :=
  { origin := authOrigin from_, kind := 1, object := jObj 10 index
    old := if index = 6 then s.wrp.serial else mget s.boot.versions index 0, new := new }

/-! ### Trials (R393, R394) -/

/-- The point at which a part's active slot takes effect is ordered: a swap for parts 3 to 5, nothing at once for the rest. -/
def State.orderSwap (s : State) (part : Nat) : State :=
  match part with
  | 3 => (List.range (nDecode s.variant)).foldl (fun s e => s.setSwap e 1) s
  | 4 => { s with crd := { s.crd with beSwap := true } }
  | 5 => { s with arrays := s.arrays.map (fun (e : Nat × WArray) => (e.1, { e.2 with swapDue := true })) }
  | _ => s

/-- A trial is committed: the counter, and both slots in one directory write. -/
def State.commitPart (s : State) (part : Nat) : State :=
  let d := s.dirEntry part
  let c := max (s.counter part) (imgRollback (s.activeImage part))
  let o := s.nv.otp
  let s := if part ≤ 6 then { s with nv := { s.nv with otp := { o with arb := o.arb.set (part - 1) c } } } else s
  let other := !d.active
  let d := d.setSlot d.active .active
  let d := if d.slot other = .valid ∧ imgRollback (s.slotImage part other) < c then d.setSlot other .bad else d
  let s := { s with boot := { s.boot with trials := mdel s.boot.trials part } }
  s.setDir part { d with tries := 0 }

/-- A part goes back to its other slot; the slot it leaves becomes `left`. -/
def State.revertPart (s : State) (part : Nat) (left : SlotState) : State :=
  let d := s.dirEntry part
  let d := (d.setSlot d.active left).setSlot (!d.active) .active
  let s := { s with boot := { s.boot with trials := mdel s.boot.trials part } }
  (s.setDir part { d with active := !d.active, tries := 0 }).orderSwap part

/-- Whether a part's active slot is on trial. -/
def State.onTrial (s : State) (part : Nat) : Bool := let d := s.dirEntry part; d.slot d.active == .trial

/-- A failed commit test uses up a try; the last one reverts the part (R394). -/
def State.failTrial (s : State) (part : Nat) : State :=
  if s.onTrial part then
    let d := s.dirEntry part
    if 1 < d.tries then
      ({ s with boot := { s.boot with trials := mdel s.boot.trials part } } : State).setDir part { d with tries := d.tries - 1 }
    else
      let old := partVersion part (s.activeImage part)
      let s := s.revertPart part .bad
      s.fact { origin := 3, kind := 1, object := jObj 10 part, old := old, new := partVersion part (s.activeImage part) }
  else s

/-! ### The commands of R395 -/

/-- The image a STAGE names: BOOT_LEN bytes of hank 0's memory. -/
def State.stageSource (s : State) (part : Nat) : Option (List Byte) × State :=
  if slotSize part < s.boot.len then (some [], s)
  else
    let r := s.engRead 0 158 s.boot.src s.boot.len
    if r.1 = .ok then (some r.2.2.1, r.2.2.2) else (none, r.2.2.2)

/-- STAGE of an image's bytes, from memory or in chunks over the tray link. -/
def State.stageBytes (s : State) (from_ : Authority) (part : Nat) (b : List Byte) : State :=
  let d := s.dirEntry part
  if s.onTrial part then s.bootDone from_ 0x01
  else
    let code := s.partCode part b
    if code ≠ 0 then s.bootDone from_ code
    else match s.change [s.fwEntry from_ part (partVersion part b)] with
      | (false, s) => s.bootDone from_ 0x50
      | (true, s) =>
        let s := s.setDir part (d.setSlot (d.other part) .empty)
        { s with boot := { s.boot with stage := some (part, b), result := { s.boot.result with busy := true } } }

def State.stageCmd (s : State) (from_ : Authority) (part : Nat) : State :=
  let s := s.bootSeq
  if s.noSession from_ then s.answer from_ 0x03 0 []
  else if s.bootBusy then s.bootDone from_ 0x01
  else if part = 0 ∨ 8 < part then s.bootDone from_ 0x15
  else match s.stageSource part with
    | (none, s) => s.bootDone from_ 0x04
    | (some b, s) => s.stageBytes from_ part b

/-- The program and verify of a staged image end. -/
def State.stageEnd (s : State) (ok : Bool) : State :=
  match s.boot.stage with
  | none => s
  | some (part, b) =>
    let d := s.dirEntry part
    let slot := d.other part
    let s := { s with
      nv := { s.nv with flash := { s.nv.flash with images := mset s.nv.flash.images (2 * part + b2n slot) b } }
      boot := { s.boot with stage := none } }
    if ok then (s.setDir part (d.setSlot slot .valid)).bootEnd 0 0
    else (s.setDir part (d.setSlot slot .bad)).bootEnd 0x37 0

/-- Public keys of a part 8 image: up to 16, of 96 bytes, zeros unused. -/
def keysOf (b : List Byte) : List Nat :=
  ((List.range (min 16 ((b.length - 512) / 96))).map (fun i => beAt b (256 + 96 * i) 96)).filter (· ≠ 0)

/-- Whether a key may open a console session (R388, 15 R369). -/
def State.operatorKey (s : State) (key : Nat) : Bool :=
  s.boot.opKeys.contains key || s.nv.otp.owners.any (fun o => o.enrolled && !o.revoked && o.key == key)

/-! ### Loading (R389 t3, t6, t7; R390; R392) -/

/-- The code of a part's image at a boot. -/
def State.bootCode (s : State) (part : Nat) (b : List Byte) : Nat := s.fwCheck part b true

/-- Units that need a part. -/
def partUnits : Nat → List Nat
  | 2 => [38, 39, 40, 41]
  | 3 => [24, 25]
  | 4 => [26]
  | 5 => (List.range 8).map (14 + ·)
  | _ => []

/-- The record of a fallback or of an unloaded part. -/
def State.partFact (s : State) (part code old new : Nat) : State :=
  s.fact { origin := 3, kind := 1, code := code, object := jObj 10 part, old := old, new := new }

/-- A part is loaded from its active slot, else from a VALID other slot; else it stays unloaded and its units are OFFLINE. -/
def State.loadPart (s : State) (part : Nat) : State :=
  let d := s.dirEntry part
  let s := { s with boot := { s.boot with
      versions := mdel s.boot.versions part, fallback := s.boot.fallback.filter (· != part), trials := mdel s.boot.trials part } }
  let code := s.bootCode part (s.slotImage part d.active)
  let old := imgVersion (s.slotImage part d.active)
  if code = 0 then (s.runSlot part d.active).startTrial part
  else if part < 7 ∧ d.slot (!d.active) = .valid ∧ s.bootCode part (s.slotImage part (!d.active)) = 0 then
    (s.partFact part code old (imgVersion (s.slotImage part (!d.active)))).runSlot part (!d.active)
  else
    ((partUnits part).filter (unitPresent s.variant)).foldl (fun s i => if (s.unitSt i).state = 5 then s else s.writeUnit i 5 2)
      (s.partFact part code old 0)

def State.loaded (s : State) (part : Nat) : Bool := (mget? s.boot.versions part).isSome

/-- RECOVERY: the islands' clocks are stopped, the fans run at 100 %, the tier is 0; the ROM records its entry (R390). -/
def State.recovery (s : State) (env : Option BootEnv) : State :=
  let s := (s.islands).foldl (fun s i => s.setIsl i { s.isl i with stopped := true }) s
  let s := { s with
    boot := { s.boot with state := 7, env := env, awaiting := false }
    pins := { s.pins with fanHiZ := false } }
  (s.partFact 1 0x15 0 0).retier

/-- The steward restarts from part 1 (R390): the other domains keep their state. -/
def State.restartSteward (s : State) : State :=
  let s := ({ s with stw := { s.stw with kick5a := false, session := false } } : State).loadPart 1
  if s.loaded 1 then s else s.recovery none

/-- An activated part takes effect, or is put on trial for its point of effect. -/
def State.activatePart (s : State) (part : Nat) : State :=
  let d := s.dirEntry part
  if 7 ≤ part then
    let b := s.slotImage part false
    let s := s.setDir part { d with stA := .active, lastSerial := imgVersion b }
    if part = 8 then
      let s := { s with boot := { s.boot with opKeys := keysOf b } }
      let s := s.setVersion 8
      if s.stw.session ∧ !s.operatorKey s.stw.sessionKey then { s with stw := { s.stw with session := false } } else s
    else s
  else
    let d := (d.setSlot d.active .valid).setSlot (!d.active) .trial
    let s := (s.setDir part { d with active := !d.active, tries := if part ≤ 2 then 3 else 1 }).orderSwap part
    if part = 1 then s.restartSteward else s

def State.activateCmd (s : State) (from_ : Authority) (part : Nat) : State :=
  let s := s.bootSeq
  let d := s.dirEntry part
  if s.noSession from_ then s.answer from_ 0x03 0 []
  else if s.bootBusy ∨ s.onTrial part then s.bootDone from_ 0x01
  else if part = 0 ∨ 8 < part ∨ d.slot (d.other part) ≠ .valid then s.bootDone from_ 0x36
  else
    let b := s.slotImage part (d.other part)
    if (if part = 6 then !s.firmwareOk (parseImage b).fw else !s.compatible part b) then s.bootDone from_ 0x35
    else match s.change [s.fwEntry from_ part (partVersion part b)] with
      | (false, s) => s.bootDone from_ 0x50
      | (true, s) => (s.activatePart part).bootDone from_ 0

def State.commitCmd (s : State) (from_ : Authority) (part : Nat) : State :=
  let s := s.bootSeq
  if s.noSession from_ then s.answer from_ 0x03 0 []
  else if s.bootBusy then s.bootDone from_ 0x01
  else if !s.onTrial part then s.bootDone from_ 0x36
  else match s.change [s.fwEntry from_ part (partVersion part (s.activeImage part))] with
    | (false, s) => s.bootDone from_ 0x50
    | (true, s) => (s.commitPart part).bootDone from_ 0

def State.revertCmd (s : State) (from_ : Authority) (part : Nat) : State :=
  let s := s.bootSeq
  let d := s.dirEntry part
  if s.noSession from_ then s.answer from_ 0x03 0 []
  else if s.bootBusy then s.bootDone from_ 0x01
  else if 7 ≤ part ∨ d.slot (!d.active) ≠ .valid then s.bootDone from_ 0x36
  else match s.change [s.fwEntry from_ part (partVersion part (s.slotImage part (!d.active)))] with
    | (false, s) => s.bootDone from_ 0x50
    | (true, s) => (s.revertPart part .valid).bootDone from_ 0

/-! ### Keys (R384, R385) -/

/-- The lowest slot whose ENROLLED fuse is intact. -/
def State.freeOwner (s : State) : Option Nat := (List.range 4).find? (fun i => !(s.nv.otp.owners.getD i {}).enrolled)

def State.setOwner (s : State) (i : Nat) (o : OwnerSlot) : State :=
  { s with nv := { s.nv with otp := { s.nv.otp with owners := s.nv.otp.owners.set i o } } }

/-- The bytes a certificate or statement signs (log 57). -/
def certDigest (b : List Byte) (serial : Nat) : Nat := Crypto.sha384 (b ++ beBytes 8 serial)

/-- ENROLL_OWNER, from the console only. -/
def State.enrollCmd (s : State) (from_ : Authority) (key serial r v : Nat) : State :=
  if from_ ≠ .console ∨ s.noSession from_ then s.answer from_ 0x03 0 []
  else
    let s := s.bootSeq
    if s.bootBusy then s.bootDone from_ 0x01
    else if serial ≠ s.nv.otp.serial ∨ !Crypto.verify s.nv.otp.rootKey (certDigest (beBytes 96 key) serial) r v then s.bootDone from_ 0x21
    else match s.freeOwner with
      | none => s.bootDone from_ 0x36
      | some i =>
        match s.change [{ origin := 2, kind := 1, object := jObj 10 (16 + i), old := 0, new := 1 }] with
        | (false, s) => s.bootDone from_ 0x50
        | (true, s) => (s.setOwner i { key := key, enrolled := true, revoked := false }).bootDone from_ 0

/-- Whether a key may sign the revocation of slot `i`: the root key, or another enrolled, unrevoked owner key. -/
def State.mayRevoke (s : State) (i signer : Nat) : Bool :=
  signer == s.nv.otp.rootKey
  || (List.range 4).any (fun k => let o := s.nv.otp.owners.getD k {}; k != i && o.enrolled && !o.revoked && o.key == signer)

/-- REVOKE_OWNER, from the console only. -/
def State.revokeCmd (s : State) (from_ : Authority) (slot id serial signer r v : Nat) : State :=
  if from_ ≠ .console ∨ s.noSession from_ then s.answer from_ 0x03 0 []
  else
    let s := s.bootSeq
    let o := s.nv.otp.owners.getD slot {}
    if s.bootBusy then s.bootDone from_ 0x01
    else if 3 < slot ∨ !o.enrolled ∨ o.revoked then s.bootDone from_ 0x36
    else if id ≠ Crypto.keyId o.key ∨ serial ≠ s.nv.otp.serial ∨ !s.mayRevoke slot signer
        ∨ !Crypto.verify signer (certDigest (leBytes 8 id) serial) r v then s.bootDone from_ 0x21
    else if (s.nv.otp.owners.filter (fun o => o.enrolled && !o.revoked)).length ≤ 1 then s.bootDone from_ 0x38
    else match s.change [{ origin := 2, kind := 1, object := jObj 10 (16 + slot), old := 1, new := 2 }] with
      | (false, s) => s.bootDone from_ 0x50
      | (true, s) => (s.setOwner slot { o with revoked := true }).bootDone from_ 0

/-! ### The automatic test (R393, R394) -/

/-- The commit test of a part on trial ends; part 6 passes only when its LOAD returned OK, that is, when the device is WOVEN. -/
def State.trialTest (s : State) (part : Nat) (passed : Bool) : State :=
  if !s.onTrial part then s
  else if passed then
    if part = 6 ∧ s.wrp.device ≠ 2 then s
    else
      let v := partVersion part (s.activeImage part)
      (s.fact { origin := 3, kind := 1, object := jObj 10 part, old := v, new := v }).commitPart part
  else s.failTrial part

/-- The watchdog's expiry during a trial of part 1 uses a try; then the steward restarts (R390, R393; 15 R351). -/
def State.watchdogRestart (s : State) : State := ((s.wdExpire).failTrial 1).restartSteward

/-! ### The commands -/

def execStage (from_ : Authority) (part : Nat) (s : State) : Host.Outcome State Fault Refusal :=
  .next (({ s with out := [] } : State).stageCmd from_ part)

def execStageComplete (ok : Bool) (s : State) : Host.Outcome State Fault Refusal :=
  .next (({ s with out := [] } : State).stageEnd ok)

def execActivate (from_ : Authority) (part : Nat) (s : State) : Host.Outcome State Fault Refusal :=
  .next (({ s with out := [] } : State).activateCmd from_ part)

def execCommit (from_ : Authority) (part : Nat) (s : State) : Host.Outcome State Fault Refusal :=
  .next (({ s with out := [] } : State).commitCmd from_ part)

def execRevert (from_ : Authority) (part : Nat) (s : State) : Host.Outcome State Fault Refusal :=
  .next (({ s with out := [] } : State).revertCmd from_ part)

def execEnrollOwner (from_ : Authority) (key serial r_ s_ : Nat) (s : State) : Host.Outcome State Fault Refusal :=
  .next (({ s with out := [] } : State).enrollCmd from_ key serial r_ s_)

def execRevokeOwner (from_ : Authority) (slot keyId serial signer r_ s_ : Nat) (s : State) : Host.Outcome State Fault Refusal :=
  .next (({ s with out := [] } : State).revokeCmd from_ slot keyId serial signer r_ s_)

def execTrialCommitTest (part : Nat) (passed : Bool) (s : State) : Host.Outcome State Fault Refusal :=
  .next (({ s with out := [] } : State).trialTest part passed)

def execWatchdogExpiry (s : State) : Host.Outcome State Fault Refusal :=
  .next (({ s with out := [] } : State).watchdogRestart)

end Sys2Proof.Machine
end

