-- ==== Sys2Proof/Machine/Pcie.lean ====
section
/-! DEFINITION. The PCIe endpoint: link, functions, MSI-X, mailbox rings (13 R300, R303 to R305, R307, R308; 19 R432). -/

namespace Sys2Proof.Machine

def State.updPci (s : State) (f : Pci → Pci) : State := { s with pci := f s.pci }

/-- Whether function `f` is there: the PF, or an enabled virtual function. -/
def State.fnUp (s : State) (f : Nat) : Bool := f == 0 || decide (f ≤ s.pci.numVfs)

/-- Whether function `f` acts for a hank: the PF, or a bound VF (R303). -/
def State.fnBound (s : State) (f : Nat) : Bool := f == 0 || (mget s.pci.binds f {}).bound

/-- The requester a function is. -/
def fnReq (f : Nat) : Requester := if f = 0 then .pf else .vf f

/-! ### Function state (R304) -/

/-- A function's page and configuration state after a function-level reset. -/
def State.resetFn (s : State) (f : Nat) : State := s.updPci (fun p => { p with fns := mdel p.fns f })

/-- The virtual functions above `n` are removed. -/
def State.setVfs (s : State) (n : Nat) : State :=
  s.updPci (fun p => { p with numVfs := n, fns := p.fns.filter (fun e => decide (e.1 ≤ n)) })

def State.flr (s : State) (f : Nat) : State :=
  if f = 0 then (s.resetFn 0).setVfs 0 else if s.fnUp f then s.resetFn f else s

/-- The link is lost: replies to its requests are discarded (R308). -/
def State.linkDown (s : State) : State :=
  if s.pci.up then
    s.updPci (fun p => { p with
      up := false, width := 0, rate := 0, downEvents := satAdd 16 p.downEvents 1
      fns := p.fns.map (fun (e : Nat × FnPage) =>
        (e.1, { e.2 with replies := [], lost := (e.2.reqTail + 65536 - e.2.reqHead) % 65536 })) })
  else s

/-! ### MSI-X (R305) -/

/-- A byte of a function's MSI-X table; the mask bit of a vector is set after reset (PRESUMED from PCI Express, log 53). -/
def FnPage.msixByte (p : FnPage) (k : Nat) : Byte := mget p.msix k (if k % 16 = 12 then 1 else 0)

def FnPage.masked (p : FnPage) (v : Nat) : Bool := bit (p.msixByte (16 * v + 12)).toNat 0

/-- A vector's pending bit is set. -/
def State.signal (s : State) (f v : Nat) : State :=
  s.setFn f { s.fnPage f with pba := (s.fnPage f).pba ||| 2 ^ v }

/-- A pending, unmasked vector of a function in which MSI-X and Bus Master are enabled sends its message, and the bit clears; `cfg` is what
the host has set them to before it, if it has (R304, R305; log 54). -/
def State.sendMsix (s : State) (f v : Nat) (cfg : Option Bool) : State :=
  if s.fnUp f then
    let p := { s.fnPage f with enabled := cfg.getD (s.fnPage f).enabled }
    if v < 32 ∧ p.enabled ∧ bit p.pba v ∧ !p.masked v then
      (s.setFn f { p with pba := p.pba - 2 ^ v }).emit (.msix f v)
    else s.setFn f p
  else s

/-! ### Mailbox rings (R307) -/

/-- A write of REQ_TAIL that leaves at most 16 requests outstanding. -/
def State.postReq (s : State) (f tail : Nat) : State :=
  let p := s.fnPage f
  let t := tail % 65536
  if s.fnUp f ∧ (t + 65536 - p.reqHead) % 65536 ≤ 16 then s.setFn f { p with reqTail := t } else s

/-- The next request of a function: its 64 bytes. -/
def FnPage.request (p : FnPage) : Option (List Byte) :=
  if p.reqHead = p.reqTail then none
  else some ((List.range 64).map (fun k => mget p.reqSlots (p.reqHead % 16 * 64 + k) 0))

/-- A reply with the OP and SEQ of its request. -/
def replyBytes (req : List Byte) (status auth : Nat) (payload : List Byte) : List Byte :=
  slice req 0 4 ++ [BitVec.ofNat 8 payload.length, BitVec.ofNat 8 status, BitVec.ofNat 8 auth, 0] ++ slice payload 0 56

/-- The request is taken, and its reply waits to be written; a reply to a lost link's request is discarded. -/
def State.reply (s : State) (f : Nat) (req : List Byte) (status auth : Nat) (payload : List Byte) : State :=
  let p := s.fnPage f
  let p := { p with reqHead := (p.reqHead + 1) % 65536 }
  s.setFn f (if 0 < p.lost then { p with lost := p.lost - 1 } else { p with replies := p.replies ++ [replyBytes req status auth payload] })

/-- The oldest waiting reply is written into a free reply slot, and vector 0 is signalled. -/
def State.writeReply (s : State) (f : Nat) : State :=
  let p := s.fnPage f
  match p.replies with
  | [] => s
  | b :: rest =>
    if (p.rplHead + 65536 - p.rplTail) % 65536 < 16 then
      (s.setFn f { p with
        replies := rest, rplHead := (p.rplHead + 1) % 65536
        rplSlots := (b.mapIdx (fun k x => (k, x))).foldl (fun m e => mset m (p.rplHead % 16 * 64 + e.1) e.2) p.rplSlots }).signal f 0
    else s

/-! ### The commands -/

def execFunctionLevelReset (fn : Nat) (s : State) : Host.Outcome State Fault Refusal :=
  .next (({ s with out := [] } : State).flr fn)

/-- PERST: the link goes down and the endpoint's functions are reset; no device register resets (19 R432). -/
def execPerst (s : State) : Host.Outcome State Fault Refusal :=
  .next ((({ s with out := [] } : State).linkDown).updPci (fun p => { p with numVfs := 0, fns := [] }))

def execPcieLinkDown (s : State) : Host.Outcome State Fault Refusal :=
  .next (({ s with out := [] } : State).linkDown)

/-- The link trains at x8, x4, x2 or x1 and at rates 1 to 4, and not without PCIE_REFCLK; the endpoint then presents its IDs (R300; 19
R430). -/
def State.linkUp (s : State) (width rate : Nat) : State :=
  if s.pins.refPcie ∧ [1, 2, 4, 8].contains width ∧ 1 ≤ rate ∧ rate ≤ 4 then
    (s.updPci (fun p => { p with up := true, width := width, rate := rate })).emit (.present 0x1F3A (deviceId s.variant))
  else s

def execPcieLinkUp (width rate : Nat) (s : State) : Host.Outcome State Fault Refusal :=
  .next (({ s with out := [] } : State).linkUp width rate)

def execVfEnable (count : Nat) (s : State) : Host.Outcome State Fault Refusal :=
  .next (({ s with out := [] } : State).setVfs (min count 63))

def execMsixMessage (fn vector : Nat) (enabled : Option Bool) (s : State) : Host.Outcome State Fault Refusal :=
  .next (({ s with out := [] } : State).sendMsix fn vector enabled)

def execMailboxRequestPost (fn tail : Nat) (s : State) : Host.Outcome State Fault Refusal :=
  .next (({ s with out := [] } : State).postReq fn tail)

def execMailboxReply (fn : Nat) (s : State) : Host.Outcome State Fault Refusal :=
  .next (({ s with out := [] } : State).writeReply fn)

end Sys2Proof.Machine
end

