-- ==== Sys2Proof/Machine/Boot.lean ====
section
/-! DEFINITION. The COLD reset and its boot, RECOVERY, the WARM reset, and the wake supply (17 R389 to R392; 19 R423 to R430; 16 R381;
05 R122). -/

namespace Sys2Proof.Machine

/-! ### COLD reset (00 R7, 19 R426) -/

/-- Every register at its Reset value; OTP, flash and the wake domain keep theirs. A flush that ran leaves its area to be erased. -/
def State.cold (s : State) : State :=
  let nv := if s.lea.flushing then { s.nv with flash := s.nv.flash.setIdle { erased := false } } else s.nv
  { nv := nv, pending := s.pending, freeCount := s.freeCount + 1, out := s.out
    stw := { kek := s.draw.1 % 2 ^ 256 }
    jobReserve := reserveDefault nv.otp.variant
    pwr := { tdp := (tdpRange nv.otp.variant).2.2 }
    pins := { s.pins with porN := false, thermAlert := false, fanHiZ := true, wakeArmed := false, wakeLatched := false } }

/-! ### Step t2: the directory (17 R386) -/

/-- Every slot VALID and A active: the directory when neither copy is valid. -/
def defaultDir : NMap DirEntry :=
  (List.range 8).map (fun k => (k + 1, { stA := .active, stB := if k < 6 then .valid else .empty }))

/-- The directory in force; false when neither copy is valid. -/
def State.chooseDir (s : State) : Bool × State :=
  let f := s.nv.flash
  let take := fun (c : DirCopy) (k : Bool) => { s with boot := { s.boot with dir := c.parts, gen := c.gen, copy := k } }
  if f.dir0.crcOk ∧ (!f.dir1.crcOk ∨ f.dir1.gen ≤ f.dir0.gen) then (true, take f.dir0 false)
  else if f.dir1.crcOk then (true, take f.dir1 true)
  else (false, { s with boot := { s.boot with dir := defaultDir, gen := 0, copy := true } })

/-! ### Step t4: the journal, the straps, the islands -/

/-- The entries of the current flash area are reloaded (16 R381). -/
def State.reloadJournal (s : State) : State :=
  let es := s.nv.flash.cur.entries
  let res := es.filter (fun e => bit e.flags 0 && e.kind != 6)
  { s with lea := { s.lea with
      ring := es.filter (fun e => !bit e.flags 0 && e.kind != 6)
      reserve := res.mapIdx (fun k e => (k, e))
      overflow := es.find? (fun e => e.kind == 6) } }

/-- The journal is reloaded and its new epoch begins (16 R381). -/
def State.startJournal (s : State) (ok : Bool) : State :=
  let s := s.reloadJournal
  let es := s.nv.flash.cur.entries
  let top := maxOf (es.map (·.seq))
  let log := s.nv.flash.cur.epochs
  let e := if log = [] ∧ es = [] then 0 else 1 + max (log.getLast?.getD 0) (top / 2 ^ 32)
  s.beginEpoch e ok top es.length

/-- STW_STATE as a word. -/
def Stw.stateWord (w : Stw) : Nat :=
  w.trayAddr * 2 ^ 28 + w.role * 2 ^ 24 + b2n w.roleConflict * 2 ^ 20 + b2n w.addrConflict * 2 ^ 19 + b2n w.strapInvalid * 2 ^ 18
  + b2n w.masterLost * 2 ^ 17 + b2n w.session * 2 ^ 8

/-- The role that the straps give; an invalid strap isolates the chip (15 R361). -/
def State.strapRole (s : State) : Nat :=
  let m := s.pins.strapMaster
  if (m ∧ (!masterCapable s.variant ∨ s.pins.strapAddr ≠ 0)) ∨ (!m ∧ s.pins.strapAddr = 0) then 2 else b2n m

/-- The role is set; an invalid strap is journalled. -/
def State.setRole (s : State) : State :=
  let r := s.strapRole
  let s := { s with stw := { s.stw with trayAddr := s.pins.strapAddr, role := r, strapInvalid := r == 2 } }
  if r = 2 then s.fact { origin := 3, kind := 1, object := regObj 44 0, old := 0, new := s.stw.stateWord } else s

/-- Every governed island at V(OP0): confirmed, or LINK_LOST; absent islands stay off (14 R328, R331; 19 R421). -/
def State.islandsUp (s : State) (confirmed : List Nat) : State :=
  (List.range 6).foldl (fun s i =>
    if s.islands.contains i then
      let s := (s.setIsl i { s.isl i with cur := 0, target := 0, st := 2, stopped := false, lowVolt := false, waiting := none, recover := false }).command i (opVolt 0)
      if confirmed.contains i then s.setIsl i { s.isl i with st := 0 } else s.loseLink i
    else s.setIsl i { s.isl i with st := 4, stopped := true }) s

/-! ### Step t5: DRAM (17 R388, 05 R121, R122) -/

/-- DENSITY, RATE and INLINE_ECC of the boot configuration record; its place in the body is the model's (log 59). -/
def State.dramConfig (s : State) (env : BootEnv) : Nat × Nat × Bool :=
  let d0 := (env.dram.getD 0 (false, 0)).2
  let b := s.slotImage 7 false
  let d := leAt b 256 1
  let r := leAt b 257 1
  let e := leAt b 258 1
  if s.loaded 7 ∧ 1 ≤ d ∧ d ≤ 4 ∧ 1 ≤ r ∧ r ≤ 3 ∧ e ≤ 1 then (d, r, e == 1) else (d0, 1, true)

/-- Each present interface is trained, and the largest preferred set is used. -/
def State.trainDram (s : State) (env : BootEnv) : State :=
  let (d, r, e) := s.dramConfig env
  let n := nDram s.variant
  let ok := fun (i : Nat) => decide (i < n) && (env.dram.getD i (false, 0)).1 && (env.dram.getD i (false, 0)).2 == (env.dram.getD 0 (false, 0)).2 && decide (1 ≤ d ∧ d ≤ 4)
  let used := if (List.range 4).all ok then 4 else if ok 0 && ok 1 then 2 else if ok 0 then 1 else 0
  let ways := if used = 4 then 2 else if used = 2 then 1 else 0
  (List.range n).foldl (fun s i =>
    if i < used then s.setDram i { state := 2, density := d, rate := r, ecc := e, ways := ways }
    else (s.setDram i { state := if ok i then 0 else 4, ways := ways }).writeUnit (6 + i) 5 2) s

/-! ### Steps t6 and t7 -/

/-- Parts 3, 4 and 5 are loaded; part 2 is copied into DRAM and application core 0 is released, and then the services are awaited. -/
def State.loadParts (s : State) : State :=
  let s := ((s.loadPart 3).loadPart 4).loadPart 5
  let s := if s.dramUsed = 0 then s else s.loadPart 2
  { s with boot := { s.boot with state := 4, awaiting := s.loaded 2 } }

/-- Steps t4 to t7 of the boot: the fans run from their first curve duty on. -/
def State.bootSteward (s : State) (env : BootEnv) : State :=
  let s := { s with
    boot := { s.boot with state := 1, env := none }
    pins := { s.pins with fanHiZ := false }
    stw := { s.stw with sites := (List.range 16).map (fun i => env.sites.getD i 0), peaks := (List.range 16).map (fun i => env.sites.getD i 0) } }
  let s := (((s.fanUpdate []).setRole).islandsUp env.confirmed).loadPart 7
  let s := (s.trainDram env).loadPart 8
  let s := if s.loaded 8 then { s with boot := { s.boot with opKeys := keysOf (s.slotImage 8 false) } } else s
  (s.loadParts).retier

/-- The release of POR_N: straps and clocks are sampled, and the boot runs up to the release of application core 0. -/
def State.bootCold (s : State) (env : BootEnv) : State :=
  if !s.pins.pwrEn ∨ s.pins.porN then s
  else if !env.refSys then { s with pins := { s.pins with refSys := false } }
  else
    let s := { s with pins := { s.pins with
        porN := true, strapMaster := env.master, strapAddr := env.addr % 16, refSys := true, refPcie := env.refPcie, refEth := env.refEth } }
    let (ok, s) := s.chooseDir
    let s := s.startJournal env.epochSaved
    let s := if ok then s else s.fact { origin := 3, kind := 1, object := jObj 10 0 }
    let s := s.loadPart 1
    if s.loaded 1 then s.bootSteward env else s.recovery (some env)

/-- An image for RECOVERY: part 1 only; it is written into slot A, and the steward starts from it (17 R390). -/
def State.recoveryImage (s : State) (b : List Byte) : State :=
  if s.boot.state ≠ 7 then s
  else
    let code := s.fwCode 1 b
    if code ≠ 0 then s.answer .console code 0 []
    else
      let d := s.dirEntry 1
      let bad := d.stB = .trial ∨ d.stB = .active
      let s := { s with nv := { s.nv with flash := { s.nv.flash with images := mset s.nv.flash.images 2 b } } }
      let s := s.setDir 1 { d with active := false, stA := .active, stB := if bad then .bad else d.stB, tries := 0 }
      let s := s.answer .console 0 0 []
      match s.boot.env with
      | some env => (s.loadPart 1).bootSteward env
      | none =>
        let s := { s with boot := { s.boot with state := 6 } }
        let s := s.islands.foldl (fun s i => s.setIsl i { s.isl i with stopped := false }) s
        s.restartSteward.retier

/-! ### Steps t8 and t9: services, and the Warp -/

/-- The Warp slot is copied into hank 0 DRAM, at a place that the spec leaves open, and LOAD is ordered; whether it was accepted. -/
def State.loadSlot (s : State) (b : Bool) : Bool × State :=
  let img := s.slotImage 6 b
  let room := (s.tagBase - dramBase) / 4096
  let need := ceilDiv img.length 4096
  let (v, s) := s.draw
  let base := dramBase + 4096 * (v % (room + 1 - need))
  let s := if img = [] ∨ room < need then s else (s.engWrite 0 158 base img).2.2
  let s := { s with wrp := { s.wrp with imgAddr := base, imgLen := img.length } }
  let s := s.loadWarp .steward
  (s.wrp.device == 1, s)

/-- LOAD from the active slot; a refused TRIAL reverts and the other slot is loaded; a refused ACTIVE slot falls back to a VALID one
(17 R392, R394). -/
def State.bootWarp (s : State) : State :=
  let d := s.dirEntry 6
  let old := partVersion 6 (s.slotImage 6 d.active)
  match s.loadSlot d.active with
  | (true, s) => s
  | (false, s) =>
    let code := s.wrp.result.code
    if s.onTrial 6 then
      let s := s.failTrial 6
      (s.loadSlot (s.dirEntry 6).active).2
    else if d.slot (!d.active) = .valid then
      match s.loadSlot (!d.active) with
      | (true, s) => s.partFact 6 code old (partVersion 6 (s.slotImage 6 (!d.active)))
      | (false, s) => s.partFact 6 code old 0
    else s.partFact 6 code old 0

/-- The resident services report ready: tier 1, then the active Warp is loaded. APP goes to APP_OP (14 R326, log 200). -/
def State.servicesReady (s : State) : State :=
  if !s.boot.awaiting then s
  else
    let s := ({ s with boot := { s.boot with state := 5, awaiting := false, warm := false } } : State).retier
    let s := if s.wrp.device = 0 then s.bootWarp else s
    ({ s with boot := { s.boot with state := if s.wrp.device = 0 then 6 else s.boot.state } } : State).appDecide

/-! ### WARM reset (17 R391) -/

/-- The registers of the WARM, PLY and HANK domains at their Reset values; what the COLD domain, the steward, the trained DRAM and the
links hold is kept (r1 to r3). -/
def State.warmRegs (s : State) : State :=
  let v := s.variant
  { nv := s.nv, pins := s.pins, pending := s.pending, freeCount := s.freeCount, out := s.out
    jobReserve := reserveDefault v
    tck := { s.tck with
      sync := 0, steps := 0, backSteps := 0, goodSyncs := 0, hsel := 0, nextJob := 0, nextSel := 0, early := [], jobs := [] }
    dram := s.dram.map (fun (e : Nat × Dram) =>
      (e.1, { state := e.2.state, density := e.2.density, rate := e.2.rate, ecc := e.2.ecc, ways := e.2.ways }))
    pci := { up := s.pci.up, width := s.pci.width, rate := s.pci.rate }
    eth := s.eth.map (fun (e : Nat × Eth) => (e.1, { link := e.2.link, speed := e.2.speed }))
    aud := { amps := s.aud.amps.map (fun (e : Nat × Amp) => (e.1, { inputHigh := e.2.inputHigh })) }
    pwr := { tdp := (tdpRange v).2.2 }
    stw := { s.stw with
      role := s.strapRole, remoteDanger := false, reports := [], relays := [], stages := []
      fans := s.stw.fans.map (fun (e : Nat × Fan) => (e.1, { rpm := e.2.rpm, fault := e.2.fault }))
      fanMask := 0x0F, tLow := 60, tHigh := 90, fanMin := 35, miss := 3, cycle := 10
      reportLimit := 3, reportWindow := 10, suspectClear := 30, drainLimit := 100, dur := 3600 }
    lea := { s.lea with warnPct := 75, sources := 7 }
    boot := { s.boot with src := 0, len := 0, result := {}, awaiting := false } }

/-- The WARM reset runs, from r1 to the release of application core 0 at r6. -/
def State.warmReset (s : State) (confirmed : List Nat) : State :=
  let old := s.tier
  let s := s.warmRegs
  let s := if old = 0 then s else (s.fact { origin := 3, kind := 1, object := jObj 16 0, old := old, new := 0 }).pulse 0x003
  let s := s.islandsUp confirmed
  let s := ({ s with boot := { s.boot with state := 3, warm := true } } : State).loadParts
  { s with boot := { s.boot with warm := s.boot.awaiting } }

/-- Hold is left first (14 R340). -/
def State.leaveForReset (s : State) (confirmed : List Nat) : State :=
  let s := { s with pwr := { s.pwr with wantDormant := false } }
  if s.pwr.state = 2 ∨ s.pwr.state = 4 then s.leaveHold.holdLeft confirmed
  else if s.pwr.state = 3 then s.holdLeft confirmed
  else s

/-- RESET from the management commands (15 R359, R360, R369): the status and the holder it is answered with. -/
def State.resetCmd (s : State) (from_ : Authority) (aux : Nat) (confirmed : List Nat) : (Nat × Nat) × State :=
  let cool := s.stw.sites.all (fun t => decide (t < 95))
  let e : JEntry := { origin := authOrigin from_, aux := aux, object := jObj 9 0x0107, old := 0, new := authCode from_ }
  if s.noSession from_ ∨ !s.dangerOk from_ then ((0x03, 0), s)
  else if s.boot.warm ∨ s.boot.state < 4 ∨ s.boot.state = 7 then ((0x04, 0), s)
  else if (s.pwr.level = 3 ∨ s.pwr.forced) ∧ ¬(from_ = .console ∧ cool) then
    ((0x51, 1), s.refusal { e with code := 0x51, aux := 1 })
  else match s.danger e with
    | (false, s) => ((0x50, 0), s)
    | (true, s) => ((0, 0), (s.endTrip.leaveForReset confirmed).warmReset confirmed)

/-! ### The commands -/

/-- POR_N_ASSERT: 10 us or more is a COLD reset, less than 1 us is ignored, between them either may happen. -/
def execPorNAssert (lowNs : Nat) (s : State) : Host.Outcome State Fault Refusal :=
  let s := { s with out := [] }
  if 10000 ≤ lowNs ∨ (1000 ≤ lowNs ∧ Config.porShortPulse lowNs) then .next s.cold else .next s

def execPorNRelease (env : BootEnv) (s : State) : Host.Outcome State Fault Refusal :=
  .next (({ s with out := [] } : State).bootCold env)

def execServicesReady (s : State) : Host.Outcome State Fault Refusal :=
  .next (({ s with out := [] } : State).servicesReady)

def execRecoveryImage (image : List Byte) (s : State) : Host.Outcome State Fault Refusal :=
  .next (({ s with out := [] } : State).recoveryImage image)

/-- VDD_WAKE_RISE: PWR_EN is asserted 10 ms later, with no WAKE_N needed. -/
def execVddWakeRise (s : State) : Host.Outcome State Fault Refusal :=
  let s := { s with out := [] }
  if s.pins.vddWake then .next s
  else .next { s with pins := { s.pins with vddWake := true, pwrEn := true, offTimeDone := true } }

/-- VDD_WAKE_FALL: the wake domain loses its supply and PWR_EN falls (19 R428). -/
def execVddWakeFall (s : State) : Host.Outcome State Fault Refusal :=
  let s := ({ s with out := [] } : State).powerOff
  .next { s with pins := { s.pins with vddWake := false, wakeArmed := false, wakeLatched := false } }

def execReset (from_ : Authority) (confirmed : List Nat) (s : State) : Host.Outcome State Fault Refusal :=
  let r := ({ s with out := [] } : State).resetCmd from_ 0xFFFF confirmed
  .next (r.2.answer from_ r.1.1 r.1.2 [])

end Sys2Proof.Machine
end

