-- ==== Sys2Proof/Machine/BobChan.lean ====
section
/-! DEFINITION. Bobbin channels as their registers see them: halts, program start, CMD, and EVT_PULSE (12 R278 to R280, R292, R294,
R298). -/

namespace Sys2Proof.Machine

/-! ### Halts (R292) -/

/-- A channel starts to halt with a cause; `at_` the direction and address it latches. -/
def State.chanFail (s : State) (n cause : Nat) (at_ : Option (Bool × Nat)) : State :=
  let c := s.chan n
  s.setChan n { c with
    cause := cause, halting := true
    dir := match at_ with | some x => x.1 | none => c.dir
    haddr := match at_ with | some x => x.2 | none => c.haddr }

/-- An instruction names an event outside the hank's range: an access error, KIND 5, and a halt with cause EVENT (R287; 04 R107). -/
def State.chanForeign (s : State) (n e : Nat) : State := (s.accessError (s.chan n).hank e 5).chanFail n 6 none

/-- Outstanding responses have returned: HALTED, and HALT_EVENT is pulsed. -/
def State.chanHalt (s : State) (n : Nat) : State :=
  let c := s.chan n
  if c.halting then
    let s := s.setChan n { c with halting := false, state := 6 }
    let s := match c.job with
      | some id => s.updJob id (fun j => { j with phase := .halted, excused := true })
      | none => s
    s.hankPulse c.hank c.haltEvent
  else s

def chanReq (n : Nat) : Nat := reqId (.bobbin n)

/-- DRAM bytes a channel moved (R280). -/
def State.chanMeter (s : State) (n a k : Nat) : State :=
  if dramBase ≤ a then s.setChan n { s.chan n with dramBytes := (s.chan n).dramBytes + k } else s

/-! ### Program start (R278 to R280) -/

/-- Whether a descriptor keeps the rules of R278. -/
def bobDescOk (addr : Nat) (d : List Byte) : Bool :=
  let ch := leAt d 12 1
  decide (addr % 64 = 0 ∧ leAt d 0 8 % 64 = 0 ∧ 1 ≤ leAt d 8 4 ∧ leAt d 8 4 ≤ 4096 ∧ leAt d 13 1 ≤ 2 ∧ leAt d 14 1 ≤ 15
    ∧ (leAt d 13 1 = 2 ∨ leAt d 14 1 = 0) ∧ leAt d 15 1 = 0 ∧ leAt d 20 4 = 0 ∧ leAt d 40 24 = 0)
  && (ch == 0xFF || decide (4 ≤ ch ∧ ch ≤ 63))

/-- A program starts on channel `n` for hank `h`. -/
def State.chanBegin (s : State) (n h cls addr : Nat) (job : Option Nat) : State :=
  let c := s.chan n
  let s := s.setChan n { c with
    hank := h, cls := cls, job := job, own := job.isNone, state := 1, pc := 0, paceOn := false, paceIdx := none, lc0 := 0, lc1 := 0
    cause := 0, dir := false, tries := 0, dramBytes := 0, bad := none, halting := false, resumed := false
    prog := 0, progLen := 0, errMode := 0, errRetries := 0, doneEvent := 0xFFFF, haltEvent := 0xFFFF }
  match s.engRead h (chanReq n) addr 64 with
  | (.ok, _, d, s) =>
    let s := s.chanMeter n addr 64
    let c := s.chan n
    let s := s.setChan n { c with
      prog := leAt d 0 8, progLen := leAt d 8 4, errMode := leAt d 13 1, errRetries := leAt d 14 1
      doneEvent := leAt d 16 2, haltEvent := leAt d 18 2, scur := leAt d 24 8, dcur := leAt d 32 8 }
    let s := match job with
      | some id => s.updJob id (fun j => { j with doneEvent := leAt d 16 2 })
      | none => s
    if bobDescOk addr d then s else s.chanFail n 7 none
  | (_, x, _, s) => s.chanFail n 7 (some (false, x))

/-- An idle channel that holds no program. -/
def Chan.free (c : Chan) : Bool := c.state == 0 && c.job.isNone

/-- The lowest idle counting channel of a ply. -/
def State.idleChan (s : State) (p : Nat) : Option Nat :=
  (List.range 64).find? (fun n => s.chanUsable p n && (s.chan n).free)

/-- The jobs that may run on channel `n` now, in class order, then slot order (R279). -/
def State.chanJob (s : State) (n : Nat) : Option Job :=
  let l := s.jobs.filter (fun j => j.kind == 3 && j.phase == .admitted &&
    (j.unit == n || (j.unit == 0xFF && s.idleChan j.ply == some n)))
  l.foldl (fun b j =>
    match b with
    | none => some j
    | some x => if j.cls < x.cls ∨ (j.cls = x.cls ∧ j.slotSeq < x.slotSeq) then some j else b) none

/-- Channel `n` takes its next job. -/
def State.chanTake (s : State) (n : Nat) : State :=
  if (s.chan n).free then
    match s.chanJob n with
    | none => s
    | some j =>
      (match s.startCheck (128 + n) with
       | (false, s) => s.complete j.id .unavailable 2
       | (true, s) =>
         (s.updJob j.id (fun j => { j with phase := .running, unit := n })).chanBegin n j.hank j.cls j.desc (some j.id))
  else s

/-! ### CMD (R294) -/

/-- Whether a requester may command channel `n`. -/
def State.mayCommand (s : State) (who : Requester) (n : Nat) : Bool := s.reqHank who == 0 || s.reqHank who == (s.chan n).hank

/-- Register of CMD. -/
def chanCmdOff (n : Nat) : Nat := 0x100 * (n % 16) + 0x14

/-- RESUME of a halted channel; the access that failed is issued again when the command is done (`State.settle`). -/
def State.chanResume (s : State) (n : Nat) : State :=
  let c := s.chan n
  if c.state = 6 then
    let s := s.setChan n { c with state := 1 }
    let s := match c.job with
      | some id => s.updJob id (fun j => { j with phase := .running, excused := false })
      | none => s
    s.setChan n { s.chan n with resumed := c.bad.isSome }
  else s

/-- ABORT of a halted channel. -/
def State.chanAbort (s : State) (n : Nat) : State :=
  let c := s.chan n
  if c.state = 6 then
    let s := s.setChan n { c with state := 0, job := none, bad := none, resumed := false }
    match c.job with
    | some id => s.updJob id (fun j => { j with usedDram := c.dramBytes })
    | none => s
  else s

/-- START of a program of hank 0 on channels 0 to 3. -/
def State.chanStart (s : State) (n : Nat) : State :=
  if n < 4 ∧ (s.chan n).free then
    match s.startCheck (128 + n) with
    | (false, s) => s
    | (true, s) => s.chanBegin n 0 0 (s.chan n).start none
  else s

/-- A word written to BOB_CHn_CMD. -/
def State.chanCommand (s : State) (who : Requester) (n v : Nat) : State :=
  let k := v % 8
  if !s.mayCommand who n ∨ (k = 3 ∧ s.reqHank who ≠ 0) then s.denyReg who (28 + n / 16) (chanCmdOff n) 0
  else
    let s := match k with
      | 1 => s.chanResume n
      | 2 => s.chanAbort n
      | 3 => s.chanStart n
      | _ => s
    s.served

/-! ### Pulses -/

/-- EVT_PULSE (R298): a pulse outside the hank's range completes with an access error (04 R107). -/
def State.evtPulseWrite (s : State) (who : Requester) (v : Nat) : State :=
  let e := bits v 9 0
  let h := s.reqHank who
  if s.ownsEvent h e then (s.pulseN e (bits v 31 16)).served
  else (s.accessError h (regAddr 32 0) 5).emit (.answer 1 [])

end Sys2Proof.Machine
end

