-- ==== Sys2Proof/Machine/Ptp.lean ====
section
/-! DEFINITION. The IEEE 1588 ordinary clock: where a frame holds a PTP message, the best master clock algorithm, and the end-to-end delay
mechanism (13 R310, R312; message layouts of IEEE 1588, log 198). -/

namespace Sys2Proof.Machine

/-! ### Frames -/

/-- A frame's VLAN and the type and bytes after its tag: EtherType, payload, VLAN ID; none for a double or service tag (R309 row 2). -/
def untag (b : List Byte) : Option (Nat × Nat × List Byte) :=
  let t := beAt b 12 2
  if t = 0x88A8 then none
  else if t = 0x8100 then
    let u := beAt b 16 2
    if u = 0x8100 ∨ u = 0x88A8 then none else some (beAt b 14 2 % 4096, u, b.drop 18)
  else some (0, t, b.drop 14)

/-- A UDP datagram: source address (IPv4 mapped into IPv6), destination port, data. -/
def udpOf (etype : Nat) (p : List Byte) : Option (Nat × Nat × List Byte) :=
  if etype = 0x0800 then
    let ihl := 4 * (beAt p 0 1 % 16)
    if beAt p 0 1 / 16 = 4 ∧ 20 ≤ ihl ∧ beAt p 9 1 = 17 ∧ beAt p 6 2 % 2 ^ 14 = 0 ∧ ihl + 8 ≤ p.length then
      some (0xFFFF * 2 ^ 32 + beAt p 12 4, beAt p (ihl + 2) 2, (p.drop (ihl + 8)).take (beAt p (ihl + 4) 2 - 8))
    else none
  else if etype = 0x86DD then
    if beAt p 0 1 / 16 = 6 ∧ beAt p 6 1 = 17 ∧ 48 ≤ p.length then
      some (beAt p 8 16, beAt p 42 2, (p.drop 48).take (beAt p 44 2 - 8))
    else none
  else none

/-- Where the PTP message of a frame's payload begins: over Ethernet at once, over UDP after the headers (R309 row 4, R312). -/
def ptpStart (etype : Nat) (p : List Byte) : Option Nat :=
  if etype = 0x88F7 then some 0
  else match udpOf etype p with
    | some x =>
      if x.2.1 = 319 ∨ x.2.1 = 320 then some (if etype = 0x0800 then 4 * (beAt p 0 1 % 16) + 8 else 48) else none
    | none => none

/-- Where a whole frame holds its PTP message. -/
def ptpIn (b : List Byte) : Option Nat :=
  match untag b with
  | none => none
  | some (_, etype, p) => (ptpStart etype p).map (b.length - p.length + ·)

/-! ### Message fields -/

def ptpType (m : List Byte) : Nat := beAt m 0 1 % 16

/-- A timestamp of 6 bytes of seconds and 4 of nanoseconds, in ns. -/
def ptpTime (m : List Byte) (off : Nat) : Int := (beAt m off 6 * 1000000000 + beAt m (off + 6) 4 : Nat)

/-- A time in ns as the 10 bytes of a timestamp. -/
def ptpStamp (t : Nat) : List Byte := beBytes 6 (t / 1000000000) ++ beBytes 4 (t % 1000000000)

/-- The correction field in whole ns. -/
def ptpCorr (m : List Byte) : Int := sx 64 (beAt m 8 8) / 65536

/-- The source port identity. -/
def ptpSource (m : List Byte) : Nat := beAt m 20 10

/-- The device's clock identity, from its port's MAC address, and its port identity. -/
def State.ptpIdentity (s : State) : Nat :=
  let mac := s.nv.otp.macs.getD s.tck.port 0 % 2 ^ 48
  mac / 2 ^ 24 * 2 ^ 40 + 0xFFFE * 2 ^ 24 + mac % 2 ^ 24

def State.ptpPort (s : State) : Nat := s.ptpIdentity * 2 ^ 16 + 1

/-! ### The best master clock algorithm -/

/-- The rank of the device's own clock: clockClass 248; its other attributes are free values. The lower rank is the better clock. -/
def State.ownRank (s : State) : Nat :=
  ((Config.ptpPriority1.toNat * 2 ^ 40 + 248 * 2 ^ 32 + Config.ptpQuality.toNat) * 2 ^ 64 + s.ptpIdentity) * 2 ^ 16

/-- The rank an Announce gives its sender: priority1, class, accuracy, variance, priority2 and identity of its grandmaster, then the steps
to it. -/
def announceRank (m : List Byte) : Nat := beAt m 47 14 * 2 ^ 16 + beAt m 61 2

/-- An Announce: a clock better than the device's own is followed when it is the best heard; the one followed is let go when it no longer is
better. -/
def State.ptpAnnounce (s : State) (m : List Byte) : State :=
  let k := announceRank m
  let src := ptpSource m
  let followed := match s.tck.ptp.best with | some (_, p) => p == src | none => false
  let take := match s.tck.ptp.best with | some (b, _) => followed || decide (k < b) | none => true
  let set := fun (b : Option (Nat × Nat)) => ({ s with tck := { s.tck with ptp := { s.tck.ptp with best := b } } } : State)
  if k < s.ownRank then (if take then set (some (k, src)) else s)
  else if followed then set none else s

/-! ### Sync and the end-to-end delay mechanism -/

/-- A Sync left its master at `t1` and arrived at `t2`: the offset is what the mean path delay leaves of the difference. -/
def State.ptpMeasured (s : State) (t1 t2 : Int) : State :=
  let s := { s with tck := { s.tck with ptp := { s.tck.ptp with sync := none, last := some (t1, t2) } } }
  s.ptpSync (t1 + s.tck.ptp.delay - t2)

/-- A PTP message received on the clock's port in its domain: a Sync (type 0), with its Follow_Up (8) where it is two-step, of the clock
followed; a Delay_Resp (9) to the device's last Delay_Req; an Announce (11). -/
def State.ptpMessage (s : State) (m : List Byte) : State :=
  let k := s.tck.ptp
  let mine := match k.best with | some (_, p) => p == ptpSource m | none => false
  if beAt m 1 1 % 16 ≠ 2 ∨ beAt m 4 1 ≠ s.tck.domain ∨ m.length < 44 ∨ ptpSource m = s.ptpPort then s
  else match ptpType m with
    | 0 =>
      if !mine then s
      else if bit (beAt m 6 1) 1 then
        { s with tck := { s.tck with ptp := { k with sync := some (beAt m 30 2, s.tck.time, ptpCorr m) } } }
      else s.ptpMeasured (ptpTime m 34 + ptpCorr m) s.tck.time
    | 8 =>
      (match k.sync with
       | some (seq, t2, c) => if mine ∧ seq = beAt m 30 2 then s.ptpMeasured (ptpTime m 34 + ptpCorr m + c) t2 else s
       | none => s)
    | 9 =>
      (match k.last, k.req with
       | some (t1, t2), some (seq, t3) =>
         if mine ∧ beAt m 44 10 = s.ptpPort ∧ seq = beAt m 30 2 then
           { s with tck := { s.tck with ptp := { k with req := none, delay := ((t2 - t1) + (ptpTime m 34 - ptpCorr m - t3)) / 2 } } }
         else s
       | _, _ => s)
    | 11 => if 64 ≤ m.length then s.ptpAnnounce m else s
    | _ => s

/-- Whether a Sync may leave port `p`: the clock serves Sync only when it hears no better clock (R312). -/
def State.maySync (s : State) (p : Nat) (m : List Byte) : Bool :=
  !(p == s.tck.port && ptpType m == 0) || s.tck.ptp.best.isNone

/-- A Delay_Req leaves the clock's port: its sequence number and departure are kept. -/
def State.ptpSent (s : State) (p : Nat) (m : List Byte) : State :=
  if p = s.tck.port ∧ ptpType m = 1 then
    { s with tck := { s.tck with ptp := { s.tck.ptp with req := some (beAt m 30 2, s.tck.time) } } }
  else s

end Sys2Proof.Machine
end

