-- ==== Sys2Proof/Machine/Ether.lean ====
section
/-! DEFINITION. Ethernet frames: reception, transmission, timestamps (13 R309 to R311; 10 R242; 19 R430). -/

namespace Sys2Proof.Machine

def State.ethUpd (s : State) (p : Nat) (f : Eth → Eth) : State := s.setEth p (f (s.ethPort p))

/-- The VLANs a port accepts (R309). -/
def State.acceptsVlan (s : State) (p v : Nat) : Bool :=
  v == 0 || s.img.cams.any (fun c => c.eth == p && c.vlan == v)
  || (s.ethPort p).vlans.any (fun e => bit e.2 15 && e.2 % 4096 == v)

/-- A frame for the resident services (row 6). -/
def State.toQueue (s : State) (f : EthFrame) : State :=
  if f.rxFull then s.ethUpd f.port (fun e => { e with rxDrop := satAdd 32 e.rxDrop 1 })
  else (s.ethUpd f.port (fun e => { e with rxFrames := satAdd 32 e.rxFrames 1 })).emit (.toServices f.port f.bytes s.tck.time)

/-- Rows 4 to 6 of R309 on an accepted frame. -/
def State.ethDeliver (s : State) (f : EthFrame) (vlan etype : Nat) (p : List Byte) : State :=
  let seen := s.ethUpd f.port (fun e => { e with rxFrames := satAdd 32 e.rxFrames 1 })
  match ptpStart etype p with
  | some k =>
    let s := seen.emit (.toPtp f.port f.bytes s.tck.time)
    if f.port = s.tck.port then s.ptpMessage (p.drop k) else s
  | none =>
    if etype = 0x8808 ∧ beAt p 0 2 = 1 then seen
    else match udpOf etype p with
    | some (src, dport, data) =>
      if f.port = 2 then s.toQueue f
      else
        let mine := fun (c : CamRec) => c.eth == f.port && c.vlan == vlan && c.srcAddr == src
        match s.img.cams.find? (fun c => mine c && c.port == dport), s.img.cams.find? (fun c => mine c && c.port + 1 == dport) with
        | some c, _ => seen.rtp c s.tck.time data
        | none, some c => seen.rtcp c data
        | none, none =>
          ({ s with crd := { s.crd with unmatched := satAdd 32 s.crd.unmatched 1 } } : State).toQueue f
    | none => s.toQueue f

/-- Whether a port is present and powered: ports 0 and 1 are down in Hold, and in Dormant entry, which begins there (R311; 14 R341). -/
def State.ethUp (s : State) (p : Nat) : Bool :=
  p == 2 || (decide (p < nEth10 s.variant) && s.pwr.state != 2 && s.pwr.state != 4)

/-- A received frame meets the table of R309; the MAC's FCS follows `bytes` on the wire. -/
def State.ethReceive (s : State) (f : EthFrame) : State :=
  let n := f.bytes.length + 4
  if !s.ethUp f.port then s
  else if !f.fcsOk ∨ n < 64 then s.ethUpd f.port (fun e => { e with fcsErrors := satAdd 32 e.fcsErrors 1 })
  else if 9216 < n then s.ethUpd f.port (fun e => { e with oversize := satAdd 32 e.oversize 1 })
  else
    let drop := s.ethUpd f.port (fun e => { e with vlanDrop := satAdd 32 e.vlanDrop 1 })
    match untag f.bytes with
    | none => drop
    | some (v, etype, p) => if s.acceptsVlan f.port v then s.ethDeliver f v etype p else drop

/-- A frame with a stamp in its PTP message's timestamp, 34 bytes in; a frame that holds none is as it was. -/
def stamped (b : List Byte) (t : Nat) : List Byte :=
  match ptpIn b with
  | some o => if o + 44 ≤ b.length then b.take (o + 34) ++ ptpStamp t ++ b.drop (o + 44) else b
  | none => b

/-- A frame of the resident services leaves a port; a PTP event message is stamped as it leaves (R310 to R312). -/
def State.ethSend (s : State) (p : Nat) (bytes : List Byte) (ptpEvent oneStep : Bool) : State :=
  let m := (ptpIn bytes).map (bytes.drop ·)
  if !s.ethUp p ∨ !s.servicesUp ∨ m.any (fun m => !s.maySync p m) then s
  else
    let s := s.emit (.ethFrame p (if ptpEvent && oneStep then stamped bytes s.tck.time else bytes)
      (if ptpEvent && oneStep then some s.tck.time else none))
    let s := match m with | some m => s.ptpSent p m | none => s
    if ptpEvent ∧ !oneStep then
      s.ethUpd p (fun e =>
        if e.txts.length < 16 then { e with txts := e.txts ++ [s.tck.time] } else { e with txtsLost := satAdd 32 e.txtsLost 1 })
    else s

/-- ETH_TXTS_HI: VALID and the high bits of the oldest stamp. -/
def Eth.txtsHi (e : Eth) : Nat := match e.txts with | [] => 0 | t :: _ => 2 ^ 31 + t / 2 ^ 32 % 2 ^ 31

/-- The read of ETH_TXTS_HI pops the oldest stamp. -/
def State.popStamp (s : State) (p : Nat) : State :=
  (s.ethUpd p (fun e => { e with txts := e.txts.drop 1 })).servedWord (s.ethPort p).txtsHi

/-! ### The commands -/

def execEthFrameReceive (f : EthFrame) (s : State) : Host.Outcome State Fault Refusal :=
  .next (({ s with out := [] } : State).ethReceive f)

def execFrameTransmit (port : Nat) (bytes : List Byte) (ptpEvent oneStep : Bool) (s : State) : Host.Outcome State Fault Refusal :=
  .next (({ s with out := [] } : State).ethSend port bytes ptpEvent oneStep)

/-- TXTS_POP: a read of ETH_TXTS_HI by any requester. -/
def execTxtsPop (_who : Requester) (port : Nat) (s : State) : Host.Outcome State Fault Refusal :=
  .next (({ s with out := [] } : State).popStamp port)

/-- ETH_LINK_CHANGE: no link without ETH_REFCLK; the speed is the SGMII port's (R430). -/
def execEthLinkChange (port : Nat) (up : Bool) (speed : Nat) (s : State) : Host.Outcome State Fault Refusal :=
  let s := { s with out := [] }
  .next (if port = 2 ∨ port < nEth10 s.variant then
    s.ethUpd port (fun e => { e with link := up && s.pins.refEth, speed := if port = 2 then speed % 8 else 0 }) else s)

end Sys2Proof.Machine
end

