-- ==== Sys2Proof/Machine/Manage.lean ====
section
/-! DEFINITION. Management commands, overrides, danger actions and the console session (15 R355 to R360, R369; 18 R401, R403, R406). -/

namespace Sys2Proof.Machine

/-- What a management command is answered with: STATUS, the holder for OVERRIDDEN, data; none when the answer comes later (R406). -/
abbrev MReply := Option (Nat × Nat × List Nat)

def mreply (status : Nat) : MReply := some (status, 0, [])

/-! ### Overrides (R357) -/

/-- The authority above `from_` whose override holds an object. -/
def State.heldAbove (s : State) (from_ : Authority) (object index : Nat) : Option Nat :=
  match s.holder object index with
  | some o => if o.auth < authCode from_ then some o.auth else none
  | none => none

/-- A class 9 entry: holders before and after; DATA has the value and the duration. -/
def State.overrideEntry (s : State) (from_ : Authority) (aux object index value dur new : Nat) : JEntry :=
  { origin := authOrigin from_, kind := 1, aux := aux, object := jObj 9 object
    old := ((s.holder object index).map (·.auth)).getD 0, new := new, data := value % 2 ^ 32 + dur * 2 ^ 32 }

/-- The commander's override is installed; a duration of 0 takes DUR. -/
def State.install (s : State) (from_ : Authority) (object index value dur : Nat) : State :=
  let d := if dur = 0 then s.stw.dur else dur
  let o : Override := { auth := authCode from_, value := value, untilNs := s.tck.time + d * nsPerS }
  { s with stw := { s.stw with overrides := mset s.stw.overrides (object * 256 + index) o } }

/-- An OVERRIDDEN refusal, which is journalled. -/
def State.refuseHeld (s : State) (from_ : Authority) (object index value by_ : Nat) : MReply × State :=
  (some (0x51, by_, []),
    let e := s.overrideEntry from_ by_ object index value 0 (authCode from_)
    s.refusal { e with code := 0x51 })

/-- A command that sets a durable value on an object, which `held` holds above the commander. -/
def State.overrideCmd (s : State) (from_ : Authority) (aux object index value dur : Nat) (dangerous : Bool) (held : Option Nat) : MReply × State :=
  if 86400 < dur then (mreply 0x02, s)
  else if dangerous ∧ !s.dangerOk from_ then (mreply 0x03, s)
  else match held with
    | some a => s.refuseHeld from_ object index value a
    | none =>
      let e := s.overrideEntry from_ aux object index value dur (authCode from_)
      match (if dangerous then s.danger e else s.change [e]) with
      | (false, s) => (mreply 0x50, s)
      | (true, s) => (mreply 0, s.install from_ object index value dur)

/-- An override ends: the object returns to its Expert or Basic setting; APP follows at once. -/
def State.dropOverride (s : State) (object index : Nat) : State :=
  let s := { s with stw := { s.stw with overrides := mdel s.stw.overrides (object * 256 + index) } }
  if object = 0x0104 ∧ index = 5 then s.appDecide else s

/-! ### The commands of R369 -/

/-- STATUS: tier, power state, level and 1 s power, the 16 sites, the unit states. -/
def State.statusData (s : State) : List Nat :=
  [s.tier, s.pwr.state, s.pwr.level, s.power1s] ++ (List.range 16).map (fun i => s.stw.sites.getD i 0)
  ++ (List.range 192).map (fun i => (s.unitSt i).state)

/-- STATUS, which no steward answers in RECOVERY: the console then accepts only a part 1 image (17 R390). -/
def State.statusCmd (s : State) : MReply × State :=
  if s.boot.state = 7 then (mreply 0x03, s) else (some (0, 0, s.statusData), s)

/-- The authority that holds a unit's requested state above `from_`: steward policy for QUAR_HOLD, or an override (18 R403). -/
def State.unitHeld (s : State) (from_ : Authority) (i : Nat) : Option Nat :=
  match (s.unitSt i).policyHold with
  | some t => if s.tck.time < t + 60 * nsPerS then some 2 else s.heldAbove from_ 0x0102 i
  | none => s.heldAbove from_ 0x0102 i

/-- RETURN from QUARANTINED or OFFLINE: the self-test starts, and the answer waits for it. -/
def State.unitReturn (s : State) (from_ : Authority) (aux i dur : Nat) : MReply × State :=
  let u := s.unitSt i
  if !s.dangerOk from_ then (mreply 0x03, s)
  else match s.unitHeld from_ i with
    | some a => s.refuseHeld from_ 0x0102 i 3 a
    | none =>
      match s.danger { origin := authOrigin from_, aux := aux, object := jObj 6 i, old := u.state, new := 1 } with
      | (false, s) => (mreply 0x50, s)
      | (true, s) =>
        (none, (s.setUnit i { s.unitSt i with testing := some (authCode from_) }).install from_ 0x0102 i 3 dur)

/-- UNIT: VALUE 1 QUARANTINE, 2 OFFLINE, 3 RETURN (R355; 18 R401, R403, R404). -/
def State.unitCmd (s : State) (from_ : Authority) (aux i req dur : Nat) : MReply × State :=
  let u := s.unitSt i
  if 256 ≤ i ∨ !unitPresent s.variant i ∨ u.state = 0 ∨ fixedUnit i ∨ req = 0 ∨ 3 < req ∨ 86400 < dur ∨ (req = 1 ∧ u.state = 5) then
    (mreply 0x02, s)
  else if u.state = 3 ∨ u.testing.isSome then (mreply 0x04, s)
  else if req = 3 then
    if u.state = 4 ∨ u.state = 5 then s.unitReturn from_ aux i dur
    else s.overrideCmd from_ aux 0x0102 i req dur false (s.unitHeld from_ i)
  else match s.overrideCmd from_ aux 0x0102 i req dur false (s.unitHeld from_ i) with
    | (some (0, h, d), s) =>
      let target := if req = 1 then 4 else 5
      (some (0, h, d),
        if u.state = target then s
        else if u.state = 4 then s.leaveService i 5 (authCode from_)
        else s.startDrain i target (authCode from_))
    | r => r

/-- POWER, through PWR_CMD. -/
def State.powerCmd (s : State) (from_ : Authority) (aux value dur : Nat) : MReply × State :=
  if value = 0 ∨ 3 < value ∨ 86400 < dur then (mreply 0x02, s)
  else
    let r := s.powerOrder from_ value aux
    let s := r.2.pwrResult r.1
    match r.1 with
    | .ok => (mreply 0, if s.pins.pwrEn then s.install from_ 0x0103 0 value dur else s)
    | .busy => (mreply 0x04, s)
    | .notPermitted => (mreply 0x03, s)
    | .badArgs => (mreply 0x02, s)
    | .journalFull => (mreply 0x50, s)
    | .overridden a => (some (0x51, a, []), s)

/-- PIN: OBJECT the island, VALUE the pin (0xFF none), the floor and the ceiling. -/
def State.pinCmd (s : State) (from_ : Authority) (aux i value dur : Nat) : MReply × State :=
  let pin := bits value 7 0
  let lo := bits value 15 8
  let hi := bits value 23 16
  let cur := (s.isl i).cur
  if !s.islands.contains i ∨ 2 ^ 24 ≤ value ∨ (7 < pin ∧ pin ≠ 0xFF) ∨ 7 < lo ∨ 7 < hi then (mreply 0x02, s)
  else
    let r := s.overrideCmd from_ aux 0x0104 i value dur (decide (pin < 8 ∧ cur < pin) || decide (cur < hi)) (s.heldAbove from_ 0x0104 i)
    (r.1, if i = 5 then r.2.appDecide else r.2)

/-- TDP: VALUE in watts, within the variant's range. -/
def State.tdpCmd (s : State) (from_ : Authority) (aux value dur : Nat) : MReply × State :=
  let (lo, hi, _) := tdpRange s.variant
  if 2 * value < lo ∨ hi < 2 * value then (mreply 0x02, s)
  else s.overrideCmd from_ aux 0x0105 0 (2 * value) dur (decide (s.tdpNow < 2 * value)) (s.heldAbove from_ 0x0105 0)

/-- FAN: OBJECT the fan, VALUE the duty, 0xFF AUTO. -/
def State.fanCmd (s : State) (from_ : Authority) (aux f value dur : Nat) : MReply × State :=
  if 4 ≤ f ∨ (100 < value ∧ value ≠ 0xFF) then (mreply 0x02, s)
  else
    let held := match s.fanHolder f with | some a => if a < authCode from_ then some a else none | none => none
    s.overrideCmd from_ aux 0x0106 f value dur (decide (value < s.stw.curveDuty)) held

/-- RELEASE: OBJECT the object code, VALUE the index. -/
def State.releaseCmd (s : State) (from_ : Authority) (aux object index : Nat) : MReply × State :=
  if !([0x0102, 0x0103, 0x0104, 0x0105, 0x0106, 0x0109].contains object) ∨ 256 ≤ index then (mreply 0x02, s)
  else match s.holder object index with
    | none => (mreply 0, s)
    | some o =>
      if o.auth < authCode from_ then s.refuseHeld from_ object index 0 o.auth
      else match s.change [s.overrideEntry from_ aux object index 0 0 0] with
        | (false, s) => (mreply 0x50, s)
        | (true, s) => (mreply 0, s.dropOverride object index)

/-- WARPLOCK. -/
def State.warplockCmd (s : State) (from_ : Authority) (aux dur : Nat) : MReply × State :=
  s.overrideCmd from_ aux 0x0109 0 0 dur false (s.heldAbove from_ 0x0109 0)

/-- Whether a command may be given at all: the steward gives none, the ROM in RECOVERY takes none, the console needs a session. -/
def State.mayManage (s : State) (from_ : Authority) : Bool :=
  from_ != .steward && s.boot.state != 7 && !s.noSession from_

/-- A command, once its sender may give one. -/
def State.managed (s : State) (from_ : Authority) (f : State → MReply × State) : MReply × State :=
  if s.mayManage from_ then f s else (mreply 0x03, s)

/-- A management command by its OP. -/
def State.manage (s : State) (op : Nat) (a : MgmtArgs) (aux : Nat) : MReply × State :=
  match op with
  | 0x0101 => s.statusCmd
  | 0x0102 => s.managed a.from_ (fun s => s.unitCmd a.from_ aux a.object a.value a.durationS)
  | 0x0103 => s.managed a.from_ (fun s => s.powerCmd a.from_ aux a.value a.durationS)
  | 0x0104 => s.managed a.from_ (fun s => s.pinCmd a.from_ aux a.object a.value a.durationS)
  | 0x0105 => s.managed a.from_ (fun s => s.tdpCmd a.from_ aux a.value a.durationS)
  | 0x0106 => s.managed a.from_ (fun s => s.fanCmd a.from_ aux a.object a.value a.durationS)
  | 0x0107 => let r := s.resetCmd a.from_ aux s.islands; (some (r.1.1, r.1.2, []), r.2)
  | 0x0108 => s.managed a.from_ (fun s => s.releaseCmd a.from_ aux a.object a.value)
  | 0x0109 => s.managed a.from_ (fun s => s.warplockCmd a.from_ aux a.durationS)
  | 0x010A => let r := s.ampClear a.from_ a.object (!(s.amp a.object).inputHigh); (mreply r.1, r.2)
  | _ => (mreply 0x01, s)

/-- A command's answer goes to its sender. -/
def mgmtOut (from_ : Authority) (r : MReply × State) : State :=
  match r.1 with
  | some (st, h, d) => r.2.answer from_ st h d
  | none => r.2

/-! ### Sessions (R369) -/

/-- LOGIN: a fresh nonce, signed with the serial by an operator key. -/
def State.login (s : State) (key r v : Nat) : State :=
  if s.boot.state = 7 then s.answer .console 0x03 0 []
  else
    let (n, s) := s.draw
    let n := n % 2 ^ 256
    let s := { s with stw := { s.stw with nonce := s.stw.nonce + 1 } }
    if s.operatorKey key ∧ Crypto.verify key (Crypto.sha384 (beBytes 32 n ++ beBytes 8 s.nv.otp.serial)) r v then
      ({ s with stw := { s.stw with session := true, sessionKey := key } } : State).answer .console 0 0 [n]
    else s.answer .console 0x03 0 [n]

def State.closeSession (s : State) : State := { s with stw := { s.stw with session := false, sessionKey := 0 } }

/-! ### The commands -/

def execStatus (from_ : Authority) (s : State) : Host.Outcome State Fault Refusal :=
  .next (mgmtOut from_ ({ s with out := [] } : State).statusCmd)

def execUnit (a : MgmtArgs) (s : State) : Host.Outcome State Fault Refusal :=
  .next (mgmtOut a.from_ (({ s with out := [] } : State).manage 0x0102 a (authCode a.from_)))

def execPower (a : MgmtArgs) (s : State) : Host.Outcome State Fault Refusal :=
  .next (mgmtOut a.from_ (({ s with out := [] } : State).manage 0x0103 a 0xFFFF))

def execPin (a : MgmtArgs) (s : State) : Host.Outcome State Fault Refusal :=
  .next (mgmtOut a.from_ (({ s with out := [] } : State).manage 0x0104 a (authCode a.from_)))

def execTdp (a : MgmtArgs) (s : State) : Host.Outcome State Fault Refusal :=
  .next (mgmtOut a.from_ (({ s with out := [] } : State).manage 0x0105 a (authCode a.from_)))

def execFan (a : MgmtArgs) (s : State) : Host.Outcome State Fault Refusal :=
  .next (mgmtOut a.from_ (({ s with out := [] } : State).manage 0x0106 a (authCode a.from_)))

def execRelease (a : MgmtArgs) (s : State) : Host.Outcome State Fault Refusal :=
  .next (mgmtOut a.from_ (({ s with out := [] } : State).manage 0x0108 a (authCode a.from_)))

def execWarplock (a : MgmtArgs) (s : State) : Host.Outcome State Fault Refusal :=
  .next (mgmtOut a.from_ (({ s with out := [] } : State).manage 0x0109 a (authCode a.from_)))

/-- OVERRIDE_EXPIRY: the duration of an override has ended. -/
def execOverrideExpiry (object index : Nat) (s : State) : Host.Outcome State Fault Refusal :=
  let s := { s with out := [] }
  match s.holder object index with
  | none => .next s
  | some o => .next ((s.fact
      { origin := 3, kind := 1, aux := o.auth, object := jObj 9 object, old := o.auth, new := 0, data := o.value % 2 ^ 32 }).dropOverride object index)

/-- DANGER_AFTER_READING: 1 s after the oldest danger action took effect. -/
def execDangerAfterReading (s : State) : Host.Outcome State Fault Refusal :=
  .next (({ s with out := [] } : State).dangerAfter)

def execLogin (key r_ s_ : Nat) (s : State) : Host.Outcome State Fault Refusal :=
  .next (({ s with out := [] } : State).login key r_ s_)

def execLogout (s : State) : Host.Outcome State Fault Refusal :=
  .next (({ s with out := [] } : State).closeSession)

/-- SESSION_TIMEOUT: 15 minutes idle. -/
def execSessionTimeout (s : State) : Host.Outcome State Fault Refusal :=
  .next (({ s with out := [] } : State).closeSession)

end Sys2Proof.Machine
end

