-- ==== Sys2Proof/Machine/Mailbox.lean ====
section
/-! DEFINITION. Mailbox requests as the resident services take them (13 R303, R307; 12 R299; 15 R369; 18 R406, R417). -/

namespace Sys2Proof.Machine

/-! ### Routes and event maps -/

/-- Defined bits of EVT_e_ROUTE and PCI_EVMAPe. -/
def routeMask : Nat := 0x8F1FE000
def evmapMask : Nat := 0x803F001F

/-- EVT_e_ROUTE is written: its entry first (12 R299). -/
def State.writeRoute (s : State) (origin hank e v : Nat) : Bool × State :=
  let old := (mget s.evt.route e 0#32).toNat
  let v := v &&& routeMask
  match s.change [{ origin := origin, kind := 1, hank := hank, object := regObj 32 (0x1004 + 8 * e), old := old, new := v }] with
  | (false, s) => (false, s)
  | (true, s) => (true, { s with evt := { s.evt with route := mset s.evt.route e (BitVec.ofNat 32 v) } })

/-- Whether a write of PCI_EVMAPe may take effect: the PF for an event of hank 0, or a VF bound to its owner (13 R305). -/
def State.evmapOk (s : State) (e v : Nat) : Bool :=
  let f := bits v 21 16
  if f = 0 then s.ownsEvent 0 e
  else (mget s.pci.binds f {}).bound && s.ownsEvent (mget s.pci.binds f {}).hank e

/-- PCI_EVMAPe is written. -/
def State.writeEvmap (s : State) (origin hank e v : Nat) : Bool × State :=
  let old := (mget s.pci.evmap e 0#32).toNat
  let v := v &&& evmapMask
  match s.change [{ origin := origin, kind := 1, hank := hank, object := regObj 33 (0x1000 + 4 * e), old := old, new := v }] with
  | (false, s) => (false, s)
  | (true, s) => (true, { s with pci := { s.pci with evmap := mset s.pci.evmap e (BitVec.ofNat 32 v) } })

/-! ### Requests -/

/-- STATUS, AUTHORITY and payload of a reply. -/
abbrev Reply := Nat × Nat × List Byte

/-- The hank a function acts for. -/
def State.fnHank (s : State) (f : Nat) : Nat := if f = 0 then 0 else (mget s.pci.binds f {}).hank

/-- Whether [a, a + n) lies in memory granted to hank 0, or, for the PF, in memory hank 0 owns; `fuel` granules at most. -/
def State.readableByServices (s : State) (f : Nat) : Nat → Nat → Nat → Bool
  | 0, _, n => n == 0
  | fuel + 1, a, n =>
    if n = 0 then true
    else
      let here := s.granted 0 a || (f == 0 && s.owner a == 0 && !s.destroyed a)
      let k := granule a + granuleSize a - a
      here && s.readableByServices f fuel (a + k) (n - k)

def State.servable (s : State) (f a n : Nat) : Bool := s.readableByServices f (n / 256 + 2) a n

/-- ROUTE_EVENT: event, target 0 none, 1 application core, 2 MSI-X, vector. -/
def State.routeEvent (s : State) (f core : Nat) (p : List Byte) : Reply × State :=
  let e := leAt p 0 2
  let target := leAt p 2 1
  let vec := leAt p 3 1
  let h := s.fnHank f
  if p.length ≠ 4 ∨ 2 < target ∨ 31 < vec then ((0x02, 0, []), s)
  else if !s.ownsEvent h e then ((0x03, 0, []), s)
  else
    let cur := (mget s.evt.route e 0#32).toNat
    let spd := setBits (setBits cur 15 15 0) 14 13 0
    let r := match target with
      | 1 => s.writeRoute 1 h e (setBits (setBits cur 15 15 1) 14 13 core)
      | 2 => s.writeEvmap 1 h e (2 ^ 31 + f * 2 ^ 16 + vec)
      | _ =>
        (match s.writeRoute 1 h e spd with
         | (false, s) => (false, s)
         | (true, s) => s.writeEvmap 1 h e 0)
    ((if r.1 then 0 else 0x50, 0, []), r.2)

/-- PLAY_PROMPT: a voice descriptor, queued to a voice the services choose; a full queue is answered BUSY. -/
def State.playPrompt (s : State) (f voice : Nat) (p : List Byte) : Reply × State :=
  let v := voice % 4
  if !hasAud s.variant then ((0x03, 0, []), s)
  else match (if p.length = 32 then parseVoice (s.fnHank f) p else none) with
    | none => ((0x02, 0, []), s)
    | some d =>
      if !s.servable f d.clip (4 * d.frames) then ((0x03, 0, []), s)
      else ((if 8 ≤ (s.voice v).queue.length then 0x04 else 0, 0, []), s.queueVoice v d)

/-- PUBLISH: address, length, topic; the service reads the buffer with hank 0 and sends it on its topic. -/
def State.publish (s : State) (f : Nat) (dropped : Bool) (p : List Byte) : Reply × State :=
  let a := leAt p 0 8
  let n := leAt p 8 4
  if p.length ≠ 14 then ((0x02, 0, []), s)
  else if !s.servable f a n then ((0x03, 0, []), s)
  else
    let r := s.engRead 0 80 a n
    if r.1 ≠ .ok then ((0x02, 0, []), r.2.2.2)
    else ((if dropped then 0x07 else 0, 0, []), r.2.2.2.emit (.publish (leAt p 12 2) r.2.2.1))

/-- The payload of a management reply: STATUS gives the tier, the power state, the thermal level, the power and the 16 sites. -/
def mgmtPayload (op : Nat) (data : List Nat) : List Byte :=
  if op = 0x0101 then
    (data.take 3).map (BitVec.ofNat 8) ++ leBytes 2 (data.getD 3 0) ++ ((data.drop 4).take 16).map (BitVec.ofNat 8)
  else []

/-- What `UnitSt.testing` holds of a RETURN that came through the PF's mailbox: host authority, and the mark of the mailbox. -/
def mailed : Nat := 16 + authCode .host

/-- A management command of the PF, with host authority; a RETURN leaves its request at the head until the self-test ends. -/
def State.mailManage (s : State) (req : List Byte) (op : Nat) (p : List Byte) : State :=
  let a : MgmtArgs := { from_ := .host, object := leAt p 0 2, value := leAt p 2 4, durationS := leAt p 6 4 }
  if p.length ≠ 10 then s.reply 0 req 0x02 0 []
  else match s.manage op a (if op = 0x0103 then 0xFFFF else authCode .host) with
    | (some (st, h, d), s) => s.reply 0 req st h (mgmtPayload op d)
    | (none, s) =>
      (s.setUnit a.object { s.unitSt a.object with testing := some mailed }).setFn 0 { s.fnPage 0 with waiting := some a.object }

/-- The services take the next request of function `f`: `op` is the commanded OP, `serve` its outcome from the payload. An OP that is none of
the four is answered under any of them. -/
def State.mail (s : State) (f op : Nat) (serve : State → List Byte → Reply × State) : State :=
  let page := s.fnPage f
  if !s.servicesUp ∨ !s.fnUp f ∨ page.waiting.isSome then s
  else match page.request with
    | none => s
    | some req =>
      let rop := leAt req 0 2
      let n := leAt req 4 1
      let p := slice req 8 n
      if !s.fnBound f then s.reply f req 0x03 0 []
      else if rop = op then
        (if 56 < n then s.reply f req 0x02 0 []
         else let r := serve s p; r.2.reply f req r.1.1 r.1.2.1 r.1.2.2)
      else if 1 ≤ rop ∧ rop ≤ 4 then s
      else if 0x0101 ≤ rop ∧ rop ≤ 0x010A then
        (if f = 0 then s.mailManage req rop (if 56 < n then [] else p) else s.reply f req 0x03 0 [])
      else s.reply f req 0x01 0 []

/-- The self-test of a RETURN ends, and its command is answered (18 R406): in the mailbox when it came from there and no reset of the PF has
discarded it (13 R304). -/
def State.selftestAnswer (s : State) (index auth status : Nat) : State :=
  if auth = mailed then
    let p := s.fnPage 0
    if p.waiting = some index then
      let s := s.setFn 0 { p with waiting := none }
      match p.request with
      | some req => s.reply 0 req status 0 []
      | none => s
    else s
  else s.emit (.mgmt auth status 0 [])

/-! ### The commands -/

def execPing (fn : Nat) (s : State) : Host.Outcome State Fault Refusal :=
  .next (({ s with out := [] } : State).mail fn 1 (fun s p => ((0, 0, p), s)))

def execRouteEvent (fn appCore : Nat) (s : State) : Host.Outcome State Fault Refusal :=
  .next (({ s with out := [] } : State).mail fn 2 (fun s p => s.routeEvent fn appCore p))

def execPlayPrompt (fn voice : Nat) (s : State) : Host.Outcome State Fault Refusal :=
  .next (({ s with out := [] } : State).mail fn 3 (fun s p => s.playPrompt fn voice p))

def execPublish (fn : Nat) (dropped : Bool) (s : State) : Host.Outcome State Fault Refusal :=
  .next (({ s with out := [] } : State).mail fn 4 (fun s p => s.publish fn dropped p))

/-- Whether an entry is a DRAM interface that training left out: it stays OFFLINE until the next COLD reset (05 R122; log 192). -/
def State.leftOut (s : State) (i : Nat) : Bool :=
  decide (6 ≤ i ∧ i < 10) && (s.unitSt i).state == 5 && ((s.dramIf (i - 6)).state == 0 || (s.dramIf (i - 6)).state == 4)

/-- SELFTEST_DONE of a RETURN (18 R406). -/
def execSelftestDone (index : Nat) (passed : Bool) (s : State) : Host.Outcome State Fault Refusal :=
  let s := { s with out := [] }
  let u := s.unitSt index
  match u.testing with
  | none => .next s
  | some auth =>
    if s.leftOut index then
      .next ((s.setUnit index { u with testing := none }).selftestAnswer index auth 0x06)
    else if passed then
      .next (((s.setUnit index { u with testing := none, latch := false, reports := [], lastCause := 0 }).writeUnit index 1 (auth % 16)).selftestAnswer
        index auth 0)
    else
      let s := s.setUnit index { u with testing := none, lastCause := 8, faults := satAdd 16 u.faults 1 }
      let s := if u.state = 4 then s else s.writeUnit index 4 (auth % 16)
      .next (s.selftestAnswer index auth 0x06)

end Sys2Proof.Machine
end

