-- ==== Sys2Proof/Machine/Quant.lean ====
section
/-! DEFINITION. Scale contexts, the headroom loop and conversions (09 R222 to R240). -/

namespace Sys2Proof.Machine

/-! ### The headroom loop (R232, R233) -/

/-- A change of H by the loop; the journal may refuse it. -/
def State.changeH (s : State) (p c : Nat) (h : Int) (x : Ctx) : State :=
  let share := x.winClipped * 1000000 / x.winNarrowed
  let y := { x with winNarrowed := 0, winClipped := 0, streak := 0 }
  match s.change [{ origin := 6, kind := 1, hank := x.owner, aux := p, object := jObj 12 (p * 256 + c)
                    old := low 64 x.h, new := low 64 h, data := share }] with
  | (true, s) => s.setCtx p c { y with h := h }
  | (false, s) => s.setCtx p c y

/-- The loop of one context at a boundary that opens tick `t`. -/
def State.headroom (s : State) (p c t : Nat) : State :=
  let x := s.ctx p c
  let l := s.qloop p
  if x.judged = some t then s
  else
    let s := s.setCtx p c { x with judged := some t }
    let x := s.ctx p c
    if !x.loop ∨ t % l.window ≠ 0 then s
    else if x.winNarrowed < 4096 then s.setCtx p c { x with winNarrowed := 0, winClipped := 0 }
    else if x.target * x.winNarrowed < x.winClipped * 1000000 then
      if x.h = l.hmax then s.setCtx p c { x with winNarrowed := 0, winClipped := 0, streak := 0 } else s.changeH p c (x.h + 1) x
    else if x.winClipped * 4000000 ≤ x.target * x.winNarrowed then
      if x.streak < 3 then s.setCtx p c { x with winNarrowed := 0, winClipped := 0, streak := x.streak + 1 }
      else if x.h = l.hmin then s.setCtx p c { x with winNarrowed := 0, winClipped := 0, streak := 0 }
      else s.changeH p c (x.h - 1) x
    else s.setCtx p c { x with winNarrowed := 0, winClipped := 0, streak := 0 }

/-- Every context of ply `p` that holds something. -/
def State.headroomPly (s : State) (p t : Nat) : State :=
  (s.qnt.ctxs.filter (fun e => e.1 / 256 == p)).foldl (fun s e => s.headroom p (e.1 % 256) t) s

/-! ### The context's configuration word (R240) -/

/-- QNT_CTX_CFG as a word. -/
def Ctx.cfgWord (x : Ctx) : Nat :=
  (if x.claimed then x.owner else 0) * 2 ^ 20 + b2n x.claimed * 2 ^ 19 + b2n x.loop * 2 ^ 18 + x.mode * 2 ^ 16
  + low 4 x.h * 2 ^ 12 + x.fixedT

/-- A word write of QNT_CTX_CFG: H that changes pins it; else LOOP takes the written bit (log 42). -/
def State.writeCtxCfg (s : State) (who : Requester) (p c v : Nat) : State :=
  let off := 0x10000 + 0x10 * (256 * p + c) + 4
  if s.reqHank who ≠ 0 then s.denyReg who 22 off 0
  else
    let x := s.ctx p c
    let l := s.qloop p
    let h := clampI l.hmin l.hmax (sx 4 (bits v 15 12))
    let t := bits v 7 0
    let y := { x with
      mode := min 2 (bits v 17 16), h := h, loop := decide (h = x.h) && bit v 18
      fixedT := if t = 0 ∨ t = 0xFF then 0x7F else t }
    match s.jWrite who 22 off 0 x.cfgWord y.cfgWord with
    | (true, s) => ((s.setCtx p c y).overrode p).served
    | (false, s) => s.served

/-! ### Conversions (R238) -/

/-- What a conversion has done so far. -/
structure CvtAcc where
  clips : Nat := 0
  invalid : Nat := 0
  narrowed : Nat := 0
  big : Nat := 0
  deriving DecidableEq, Repr

/-- Bytes of a source value. -/
def srcBytes (f : Nat) : Nat := if f = 1 then 2 else 4

/-- A source value in units of Z': (m, e) stands for m x 2^e (R238). -/
def srcValue (f frac w : Nat) : Wide :=
  match f with
  | 0 => (match binary32 w with | .fin m e => .fin m (e + 16) | x => x)
  | 1 => (match binary16 w with | .fin m e => .fin m (e + 16) | x => x)
  | _ => .fin (sx 32 w) (16 - (frac : Int))

/-- |Z'| rounded down; an infinity's is a free value (log 168). -/
def Wide.mag : Wide → Nat
  | .fin m e => (floorI m.natAbs e).toNat
  | .inf _ => Config.infMag
  | .nan => 0

def Wide.isZero : Wide → Bool
  | .fin m _ => m == 0
  | .nan => true
  | .inf _ => false

/-- A value of a conversion narrowed at scale `t`: the code and whether it was clipped. -/
def Wide.narrow (fmt : Nat) (u : Option Nat) (t : Int) : Wide → Nat × Bool
  | .fin m e => Machine.narrow fmt u m (e - 16 - t)
  | .nan => (0, false)
  | .inf neg => (if neg ∧ (fmt = 3 ∨ fmt = 4) then 0 else maxCode fmt neg, true)

/-- One row converted: its slivers, and the counts. -/
def cvtRow (src : ScaleSrc) (fmt grp : Nat) (seed : Option Nat) (row : Nat) (vs : List Wide) (a : CvtAcc) : List Byte × CvtAcc :=
  let g := groupSize grp
  let groups := (List.range (ceilDiv vs.length g)).map (fun i => (vs.drop (i * g)).take g)
  let scales := groups.map (fun l => groupScale src fmt (l.foldl (fun b v => max b v.mag) 0) (l.all Wide.isZero))
  let res := vs.mapIdx (fun i v =>
    match scales.getD (i / g) none with
    | none => ((0 : Nat), false)
    | some t => v.narrow fmt (seed.map (fun s => srand16 s row i)) t)
  (packRow fmt grp false false (res.map (·.1)) (scales.map (fun t => match t with | none => 0 | some t => (t + 127).toNat)),
    { clips := a.clips + (res.filter (·.2)).length
      invalid := a.invalid + (vs.filter (· = .nan)).length
      narrowed := a.narrowed + vs.length
      big := vs.foldl (fun b v => max b v.mag) a.big })

/-- The rows of a conversion, up to the first access that fails: CODE, the counts. -/
def State.cvtRows (s : State) (h : Nat) (c : Cvt) (src : ScaleSrc) (cfg : Nat) : Nat → Nat → CvtAcc → Nat × CvtAcc × State
  | 0, _, a => (0, a, s)
  | n + 1, r, a =>
    let f := bits cfg 26 24
    let w := srcBytes f
    let len := c.lenM1 + 1
    match s.engRead h 158 (c.src + r * c.srcStride) (len * w) with
    | (.ok, _, bs, s) =>
      let vs := (List.range len).map (fun i => srcValue f (bits cfg 31 27) (leAt bs (i * w) w))
      let (row, a) := cvtRow src (bits cfg 23 20) (bits cfg 19 18) (if bit cfg 17 then some c.seed else none) r vs a
      (match s.engWrite h 158 (c.dst + r * c.dstStride) row with
       | (.ok, _, s) => s.cvtRows h c src cfg n (r + 1) a
       | (.poison, _, s) | (.data, _, s) => (5, a, s)
       | (_, _, s) => (4, a, s))
    | (.poison, _, _, s) | (.data, _, _, s) => (5, a, s)
    | (_, _, _, s) => (4, a, s)

def State.setCvt (s : State) (h : Nat) (c : Cvt) : State := s.setHank h { s.hank h with cvt := c }

/-- A refused GO sets CODE; DONE too unless another conversion runs (log 43). -/
def State.cvtRefuse (s : State) (h code : Nat) : State :=
  let c := (s.hank h).cvt
  s.setCvt h { c with code := code, done := c.done || c.run.isNone }

/-- GO (R238). -/
def State.cvtGo (s : State) (h p : Nat) : State :=
  let c := (s.hank h).cvt
  let cfg := c.cfg
  let ctx := bits cfg 15 8
  let len := c.lenM1 + 1
  if c.run.isSome then s.cvtRefuse h 1
  else if c.src % 64 ≠ 0 ∨ c.dst % 64 ≠ 0 ∨ 4 * mib < (c.rowsM1 + 1) * len * srcBytes (bits cfg 26 24)
      ∨ bits cfg 23 20 = 0 ∨ 6 < bits cfg 23 20 ∨ bits cfg 19 18 = 3 ∨ 2 < bits cfg 26 24 then s.cvtRefuse h 2
  else if bit cfg 16 ∧ ((hankRec? s.img h p).isNone ∨ !(s.ctx p ctx).usable h) then s.cvtRefuse h 3
  else
    let s := if bit cfg 16 then s.claimCtx p ctx h else s
    let src := if bit cfg 16 then (s.ctx p ctx).source else .const ((bits cfg 7 0 : Int) - 127)
    let (code, a, s) := s.cvtRows h c src cfg (c.rowsM1 + 1) 0 {}
    s.setCvt h { (s.hank h).cvt with
      run := some { code := code, clips := a.clips, invalid := a.invalid, ctx := if bit cfg 16 then some (256 * p + ctx) else none
                    jobMax := a.big, narrowed := a.narrowed } }

/-- The end of a conversion (R238, R224). -/
def State.cvtDone (s : State) (h : Nat) : State :=
  let c := (s.hank h).cvt
  match c.run with
  | none => s
  | some r =>
    let s := s.setCvt h { c with run := none, done := true, code := r.code, clips := r.clips, invalid := r.invalid }
    let s := s.quantCounts r.clips r.invalid
    let s := match r.ctx with
      | some k => s.endCtx (k / 256) (k % 256) r.jobMax r.narrowed r.clips false
      | none => s
    s.hankPulse h c.event

/-- The bank of the conversion registers a requester reaches. -/
def State.qntBank (s : State) (who : Requester) : Nat := if s.reqHank who = 0 then s.qnt.hsel else s.reqHank who

/-! ### The commands -/

/-- HEADROOM_LOOP of one context at its ply's boundary (R232); the boundary itself has judged every context that it holds. -/
def execHeadroomLoop (ply ctx : Nat) (s : State) : Host.Outcome State Fault Refusal :=
  let s := { s with out := [] }
  if (mget? s.plies ply).isSome ∧ ctx < 256 then .next (s.headroom ply ctx (s.ply ply).tick) else .next s

/-- CTX_H_WRITE: a word write of QNT_CTX_CFG (R240). -/
def execCtxHWrite (who : Requester) (ply ctx : Nat) (value : Word) (s : State) : Host.Outcome State Fault Refusal :=
  let s := { s with out := [] }
  if ply < 16 ∧ ctx < 256 then .next (s.asHank who (fun s => s.writeCtxCfg who ply ctx value.toNat)) else .next s

def execCvtGo (who : Requester) (ply : Nat) (s : State) : Host.Outcome State Fault Refusal :=
  let s := { s with out := [] }
  .next (s.asHank who (fun s => (s.cvtGo (s.qntBank who) ply).served))

def execConversionDone (hank : Nat) (s : State) : Host.Outcome State Fault Refusal :=
  .next (({ s with out := [] } : State).cvtDone hank)

end Sys2Proof.Machine
end

