-- ==== Sys2Proof/Machine/Ticks.lean ====
section
/-! DEFINITION. The boundary sequence of a ply: snapshot, fate, reweave, budgets, governor, admission (03 R63 to R87; 02 R47 to R56;
14 R322 to R326, R339, R340; 18 R410 to R413). -/

namespace Sys2Proof.Machine

/-! ### Step 1: snapshot (R64, R66, R84, R87) -/

/-- Whether a job's gate lets it be selected (R81). -/
def State.eligible (s : State) (j : Job) : Bool :=
  j.gate == 0xFFFF || (s.ownsEvent j.hank j.gate && decide (0 < s.tallyOf j.gate))

/-- The Reserved jobs that make a boundary an overrun: unfinished, target tick in [closing, opening), not excused (R84). -/
def State.overdue (s : State) (p closing opening : Nat) : List Job :=
  s.jobs.filter (fun j =>
    j.ply == p && j.cls == 0 && decide (closing ≤ j.target ∧ j.target < opening) && !j.excused
    && (match j.phase with
        | .queued => s.eligible j && j.target == closing
        | _ => true))

/-- The cap named by an overrun: 1 trip, 2 thermal cap, 3 TDP cap, 4 watchdog; 0 none below what the ply requests (14 R325). -/
def State.overrunCap (s : State) (p : Nat) : Nat :=
  let below := (List.range 4).any (fun i => decide (0 < s.unitsIn p i) && decide (s.capOf i < mget (s.ply p).gov.requests i 0))
  if !below then 0
  else if s.stw.wdForced then 4
  else if s.pwr.level = 3 then 1
  else if min s.pwr.thermCap (if s.pwr.hotCap then 3 else 7) ≤ s.pwr.tdpCap then 2 else 3

/-- The hanks of an overrun in rising order, bit 15 for an OVER_DECLARED job (log 49). -/
def overrunHanks (l : List Job) : List Nat :=
  (l.foldl (fun a j => kins a j.hank) []).map (fun h => h + 2 ^ 15 * b2n (l.any (fun j => j.hank == h && j.overDeclared)))

/-- Eight hanks as DATA. -/
def overrunData (hs : List Nat) : Nat := leNat ((hs.take 8).flatMap (leBytes 2))

/-- The entries of an overrun: eight hanks each, CONTINUED up to the last (16 R374). -/
def State.overrunFacts (s : State) (e : JEntry) (hs : List Nat) : Nat → State
  | 0 => s.fact { e with data := overrunData hs }
  | n + 1 => (s.fact { e with flags := 4, data := overrunData hs }).overrunFacts e (hs.drop 8) n

/-- The ply overruns: flags, count, entry (R84). -/
def State.overrunNow (s : State) (p closing : Nat) (l : List Job) : State :=
  let pl := s.ply p
  let s := s.setPly p { pl with overrun := true, overranNow := true, overruns := satAdd 16 pl.overruns 1 }
  let unit := (l.filterMap (·.lostUnit)).headD 0xFFFF
  let hs := overrunHanks l
  s.overrunFacts { origin := 6, kind := 1, code := s.overrunCap p, aux := unit, object := jObj 17 p, old := closing, new := closing }
    hs ((hs.length - 1) / 8)

/-- The 64 bytes of a tick summary (R87). -/
def summaryBytes (tick time : Nat) (t : PlyStats) (overran : Bool) (skipped : Nat) (holdover : Bool) : List Byte :=
  let w := fun (v : Nat) => leBytes 4 (min v (2 ^ 32 - 1))
  leBytes 8 tick ++ leBytes 8 time ++ w (ceilDiv t.useTile 1024) ++ w (ceilDiv t.useSpindle 1024) ++ w t.useMb
  ++ w (ceilDiv t.useDram 65536)
  ++ leBytes 2 t.served ++ leBytes 2 t.late ++ leBytes 2 t.shed ++ leBytes 2 t.dropped ++ leBytes 2 t.refused ++ leBytes 2 t.unavailable
  ++ leBytes 1 (b2n overran + 2 * b2n (0 < skipped) + 4 * b2n holdover) ++ leBytes 1 (min skipped 255) ++ List.replicate 18 0

/-- The summary goes into the ply's ring, over the oldest; `time` is the boundary's TIME_NS. -/
def State.writeSummary (s : State) (p closing time skipped : Nat) (overran : Bool) : State :=
  let pl := s.ply p
  let n := ringSize pl.sumLog2
  if n = 0 then s
  else
    let b := summaryBytes closing time pl.stats overran skipped (s.tck.sync == 2)
    let s := s.setPly p { pl with sumNext := (pl.sumNext + 1) % n }
    (s.engWrite 0 tickReq (pl.sumBase + 64 * (pl.sumNext % n)) b).2.2

/-- The slack of the closing tick, in us from its last Reserved completion (14 PWR_PLYn_SLACK). -/
def Ply.noteSlack (pl : Ply) (time : Nat) : Ply :=
  match pl.gov.lastReserved with
  | none => pl
  | some t =>
    let v := min ((time - t) / 1000) 65535
    { pl with gov := { pl.gov with slackLast := v, slacks := (v :: pl.gov.slacks).take 16, lastReserved := none } }

/-! ### Step 2: fate (R79, R82, R83; 02 R47, R56; 14 R339) -/

/-- The jobs of ply `p` that are admitted, or selected and waiting for a slot. -/
def State.unfinished (s : State) (p : Nat) : List Job :=
  s.jobs.filter (fun j => j.ply == p && (match j.phase with | .queued | .stopping => false | _ => true))

/-- A job's fate: `all` at a drain limit or at Hold entry drops it whatever its fate (R82). -/
def State.jobFate (s : State) (all : Bool) (j : Job) : State :=
  if j.phase = .halted ∨ all then s.dropStop j.id
  else if j.phase = .selected ∧ j.cls ≠ 0 then
    if j.fate = 1 then s.complete j.id .shed 0 else s.updJob j.id (fun j => { j with phase := .queued })
  else if j.fate = 1 then s.dropStop j.id
  else s

/-- What remains of a carried job's cost: tile and Spindle units (R82). -/
def Job.rest (j : Job) : Nat × Nat := (j.costTile - j.usedTile / 1024, j.costSpindle - j.usedSpindle / 1024)

/-- Carried charges of ply `p`. -/
def State.carried (s : State) (p : Nat) : Nat × Nat :=
  let l := s.unfinished p
  ((l.map (fun j => j.rest.1)).sum, (l.map (fun j => j.rest.2)).sum)

/-- The order in which carried jobs are stopped: Opportunistic, then Weighted by weight, the latest selected first (R83). -/
def State.shedKey (s : State) (j : Job) : Nat :=
  let w := match hankRec? s.img j.hank j.ply with | some r => r.weight | none => 0
  (if j.cls = 2 then 0 else (w + 1) * 2 ^ 64) + (2 ^ 63 - j.selSeq)

/-- Carried jobs are stopped until they fit beside the opening tick's bookings (R83). -/
def State.shed (s : State) (p t : Nat) : Nat → State
  | 0 => s
  | n + 1 =>
    let c := s.carried p
    let b := s.booked p none t
    if c.1 + b.1 ≤ s.capTile p ∧ c.2 + b.2.1 ≤ s.capSpindle p then s
    else match minBy (s.shedKey) ((s.unfinished p).filter (fun j => j.cls != 0)) with
      | none => s
      | some j => (s.dropStop j.id).shed p t n

/-! ### Step 4: state of the ply, budgets (R64; 18 R410 to R413) -/

/-- A ply that becomes HELD: its flows are reset and its open batches close (18 R412). -/
def State.holdPly (s : State) (p tick : Nat) : State :=
  let s := (s.img.cams.filter (fun r => r.ply == p)).foldl (fun s r => s.flowReset r.cam false) s
  s.closePlyBatches p 3 tick

/-- A change of a ply's state, journalled with origin steward (18 R410). -/
def State.plyState (s : State) (p st tick : Nat) : State :=
  let old := (s.ply p).state
  if old = st then s
  else
    let s := s.setPly p { s.ply p with state := st }
    let s := s.fact { origin := 3, kind := 1, aux := p, object := jObj 2 p, old := old, new := st }
    let s := if st = 3 then s.holdPly p tick
      else if old = 3 ∨ old = 2 then s.setPly p { s.ply p with gov := { (s.ply p).gov with rhoOne := true } } else s
    s.retier

/-- Queued jobs of a HELD ply end UNIT_UNAVAILABLE, DETAIL 1. -/
def State.endQueued (s : State) (p : Nat) : State :=
  (s.jobs.filter (fun j => j.ply == p && j.phase == .queued)).foldl (fun s j => s.complete j.id .unavailable 1) s

/-- What is left for selection: capacity less Reserved bookings and carried charges. -/
def State.setBudget (s : State) (p t : Nat) : State :=
  let c := s.carried p
  let b := s.booked p none t
  s.setPly p { s.ply p with leftTile := s.capTile p - b.1 - c.1, leftSpindle := s.capSpindle p - b.2.1 - c.2 }

/-! ### Step 5: the loads the governor sees (14 R323) -/

/-- Everything step 6 could select in the opening tick: tile and Spindle units. -/
def State.loads (s : State) (p t : Nat) : Nat × Nat :=
  let c := s.carried p
  let b := s.booked p none t
  let q := s.jobs.filter (fun j => j.ply == p && j.phase == .queued && s.eligible j && !(j.cls == 0 && j.target == t))
  (min (s.capTile p) (b.1 + c.1 + (q.map (·.costTile)).sum), min (s.capSpindle p) (b.2.1 + c.2 + (q.map (·.costSpindle)).sum))

/-! ### Step 6: admission (R78 to R81) -/

/-- A job is selected: it is charged, its gate's tally steps down, and it waits for a slot (R79, R81). -/
def State.select (s : State) (j : Job) (charge : Bool) : State :=
  let pl := s.ply j.ply
  let s := if charge then s.setPly j.ply { pl with leftTile := pl.leftTile - j.costTile, leftSpindle := pl.leftSpindle - j.costSpindle } else s
  let s : State := if j.gate = 0xFFFF then s
    else { s with evt := { s.evt with tally := mset s.evt.tally j.gate (s.tallyOf j.gate - 1) } }
  let n := s.tck.nextSel
  let s := { s with tck := { s.tck with nextSel := n + 1 } }
  s.updJob j.id (fun j => { j with phase := .selected, selSeq := n })

/-- Whether a job's cost fits what the ply has left. -/
def State.fits (s : State) (j : Job) : Bool :=
  decide (j.costTile ≤ (s.ply j.ply).leftTile ∧ j.costSpindle ≤ (s.ply j.ply).leftSpindle)

/-- A queued job before selection: unit check, rebooking of a gated Reserved job, age limit (R78, R80, R81). A gated Reserved job follows
R81 whatever its fate; any other that is not eligible stays unselected (log 182). -/
def State.preSelect (s : State) (t age : Nat) (j : Job) : State :=
  let el := s.eligible j
  if el && !s.unitOk j.kind j.ply j.unit then s.complete j.id .unavailable 2
  else if !el && j.cls == 0 then
    if j.target = t then s
    else match hankRec? s.img j.hank j.ply with
      | some r =>
        if s.canBook r t j.costTile j.costSpindle j.costDram then
          let pl := s.ply j.ply
          let s := s.setPly j.ply { pl with leftTile := pl.leftTile - j.costTile, leftSpindle := pl.leftSpindle - j.costSpindle }
          s.updJob j.id (fun j => { j with target := t })
        else s.complete j.id .shed 8
      | none => s.complete j.id .shed 8
  else if j.target + age ≤ t then s.complete j.id .shed 7
  else s

/-- The job as it stands, when it is still queued and eligible. -/
def State.ready? (s : State) (j : Job) : Option Job :=
  match s.job? j.id with
  | some k => if k.phase = .queued ∧ s.eligible k then some k else none
  | none => none

/-- A Reserved job in the first pass: booked for the opening tick, or of an earlier target when it fits (log 50). -/
def State.passReserved (t : Nat) (s : State) (j : Job) : State :=
  match s.ready? j with
  | some k => if k.target = t then s.select k false else if s.fits k then s.select k true else s
  | none => s

/-- Weighted jobs of one hank within its share, up to the first that does not fit. -/
def State.passShare (s : State) : Nat × Nat → List Job → State
  | _, [] => s
  | (a, b), j :: js =>
    match s.ready? j with
    | none => s.passShare (a, b) js
    | some k =>
      if k.costTile ≤ a ∧ k.costSpindle ≤ b ∧ s.fits k then (s.select k true).passShare (a - k.costTile, b - k.costSpindle) js else s

/-- A job selected when it fits, and skipped otherwise. -/
def State.passFit (s : State) (j : Job) : State :=
  match s.ready? j with
  | some k => if s.fits k then s.select k true else s
  | none => s

/-- An unselected job with fate DROP, its gate open or not; a Reserved job that waits on its gate is R81's (R80; log 182). -/
def State.passDrop (s : State) (j : Job) : State :=
  match s.job? j.id with
  | some k => if k.phase = .queued ∧ k.fate = 1 ∧ (k.cls ≠ 0 ∨ s.eligible k) then s.complete k.id .shed 0 else s
  | none => s

/-- Admission of ply `p` to tick `t`. -/
def State.admission (s : State) (p t : Nat) : State :=
  let queued := fun (s : State) => s.jobs.filter (fun j => j.ply == p && j.phase == .queued)
  let age := (s.ply p).ageLimit
  let s := (queued s).foldl (fun s j => s.preSelect t age j) s
  let live := (queued s).filter s.eligible
  let s := (live.filter (fun j => j.cls == 0)).foldl (State.passReserved t) s
  let wl := (live.filter (fun j => j.cls == 1))
  let hs : List Nat := wl.foldl (fun a j => kins a j.hank) []
  let weight := fun (h : Nat) => match hankRec? s.img h p with | some r => r.weight | none => 0
  let total := (hs.map weight).sum
  let bt := (s.ply p).leftTile
  let bs := (s.ply p).leftSpindle
  let s := if total = 0 then s else hs.foldl (fun s h =>
    s.passShare (bt * weight h / total, bs * weight h / total) (wl.filter (fun j => j.hank == h))) s
  let s := wl.foldl State.passFit s
  let s := (live.filter (fun j => j.cls == 2)).foldl State.passFit s
  let s := (queued s).foldl State.passDrop s
  s.fillSlots s.jobs.length

/-! ### The boundary -/

/-- Steps 4 to 6 of a ply that stays woven: state, budgets, governor, admission; batches that close bear the closing tick. -/
def State.openTick (s : State) (p closing t : Nat) (overran hold drain : Bool) : State :=
  match plyRec? s.img p with
  | none => s
  | some r =>
    let s := s.formPly p
    let s := s.plyState p (if hold then 3 else s.plyEval s.img r) closing
    let s := s.setBudget p t
    let l := s.loads p t
    let s := s.govern p l.1 l.2 overran
    let s := if (s.ply p).state = 3 then s.endQueued p
      else if drain || !(s.ply p).admitting then s
      else s.admission p t
    s.tickPlyBatches p closing

/-- Whether the boundaries of the device run: it is woven, and neither in Hold nor on its way out of it or into Dormant. -/
def State.ticking (s : State) : Bool := s.wrp.device == 2 && decide (s.pwr.state < 2)

/-- The pending reweave of ply `p` at one of its boundaries: the first one starts the drain, later ones count (02 R47). -/
def State.countDrain (s : State) (p : Nat) : State :=
  match s.wrp.pending with
  | some d =>
    if d.ply = p then
      { s with wrp := { s.wrp with pending := some { d with draining := true, drained := if d.draining then d.drained + 1 else 0 } } }
    else s
  | none => s

/-- TIME_NS reaches the boundary at `b` (log 3); what passes of it in holdover counts (13 R313). -/
def Tck.passTo (k : Tck) (b : Nat) : Tck :=
  { k with time := max k.time b, holdoverNs := if k.sync = 2 then k.holdoverNs + (b - k.time) else k.holdoverNs }

/-- What the units have metered of the jobs of ply `p` so far, added to the closing tick's use (R70, R82, R84, R87). -/
def State.meter (s : State) (p : Nat) (ms : List Meter) : State :=
  (s.jobs.filter (fun j => j.ply == p && j.holds)).foldl (fun s j =>
    let j := match ms.find? (fun m => m.job == j.id) with
      | some m => { j with usedTile := max j.usedTile m.tile, usedSpindle := max j.usedSpindle m.spindle, usedDram := max j.usedDram m.dram }
      | none => j
    let s := s.setPly p { s.ply p with stats := (s.ply p).stats.addUse j }
    s.updJob j.id (fun _ => { j with seenTile := j.usedTile, seenSpindle := j.usedSpindle, seenDram := j.usedDram })) s

/-- The first boundary that a queued job meets opens its target tick, also when TIME_NS stepped over the one it was aimed at, and when a
reweave changed the pattern (R63, R76; 02 R49; log 178). -/
def State.aim (s : State) (p closing t : Nat) (all : Bool) : State :=
  s.setJobs (s.jobs.map (fun j =>
    if j.ply = p ∧ j.phase = .queued ∧ (all ∨ closing < j.target) then { j with target := t } else j))

/-- The boundary sequence of ply `p`. -/
def State.boundary (s : State) (p : Nat) (places : List Placement) (meters : List Meter) : State :=
  let pl := s.ply p
  if !s.ticking || (plyRec? s.img p).isNone then s
  else
    let t := s.nextTick p
    let b := boundaryTime pl.ticksPerS pl.phase t
    let skipped := t - firstTick pl.ticksPerS pl.phase pl.openAt
    let closing := if pl.admitting then pl.tick else t - 1
    let s := { s with tck := s.tck.passTo b }
    let s := (s.meter p meters).aim p closing t (!pl.admitting)
    let hold := s.pwr.state == 1
    let s := s.countDrain p
    let drain := match s.wrp.pending with | some d => d.ply == p | none => false
    let dropAll := hold || (match s.wrp.pending with
      | some d => d.ply == p && decide (pl.drainTicks ≤ d.drained)
      | none => false)
    let late := if dropAll then [] else s.overdue p closing t
    let overran := !late.isEmpty
    -- step 1
    let s := s.writeSummary p closing b skipped overran
    let s := s.setPly p { (s.ply p).noteSlack s.tck.time with
      tick := t, openAt := b + 1, admitting := true, overranNow := false
      skipped := satAdd 8 pl.skipped skipped, stats := {} }
    let s := { s with crd := { s.crd with charged := s.crd.charged.filter (fun e => e.1 / 4096 != p) } }
    let s := if overran then s.overrunNow p closing late else s
    let s := ((s.latchPly p).ratePly p t).headroomPly p t
    let s := (s.engineSwaps.backSwap).armTables p
    -- step 2
    let s := if hold then s.endQueued p else s
    let s := (s.unfinished p).foldl (State.jobFate · dropAll) s
    let s := s.shed p t (s.jobs.length + 1)
    -- step 3
    let s := match s.wrp.pending with
      | some d => if d.ply = p ∧ !s.plyInFlight p then s.reweaveStep d places closing else s
      | none => s
    -- steps 4 to 6
    let drain := drain && (match s.wrp.pending with | some d => d.ply == p | none => false)
    s.openTick p closing t overran hold drain

/-- Whether the next boundary of ply `q` falls into the granule at `b`. -/
def State.dueAt (s : State) (q b : Nat) : Bool :=
  let pl := s.ply q
  (plyRec? s.img q).isSome && boundaryTime pl.ticksPerS pl.phase (nextTickOf (max s.tck.time b) pl) == b

/-- TIME_NS of the next boundary of ply `p`. -/
def State.nextBoundary (s : State) (p : Nat) : Nat := boundaryTime (s.ply p).ticksPerS (s.ply p).phase (s.nextTick p)

/-- The boundary of ply `p`. Those of lower PLY_IDs in the same granule complete every step first (R67): where their commands come later,
they have run with this one and their own finds nothing left to do in that granule (log 166). -/
def State.plyBoundary (s : State) (p : Nat) (places : List Placement) (meters : List Meter) : State :=
  if s.tck.early.contains p then { s with tck := { s.tck with early := s.tck.early.filter (· != p) } }
  else if !s.ticking || (plyRec? s.img p).isNone then s
  else
    let b := s.nextBoundary p
    let s := if s.tck.time < b then { s with tck := { s.tck with early := [] } } else s
    let low := (List.range p).filter (s.dueAt · b)
    let s := low.foldl (fun s q => s.boundary q places meters) s
    let s := s.boundary p places meters
    { s with tck := { s.tck with early := s.tck.early ++ low } }

def execPlyBoundary (ply : Nat) (input : BoundaryInput) (s : State) : Host.Outcome State Fault Refusal :=
  .next (({ s with out := [] } : State).plyBoundary ply input.places input.meters)

end Sys2Proof.Machine
end

