-- ==== Sys2Proof/Machine/RegsA.lean ====
section
/-! DEFINITION. Control blocks 0 to 3: part, Warp loader, timebase and ticks, hank controller (01, 02, 03, 04, 13 section
Registers). A `…Word` is what a register reads as; a `…Write` is the effect of a served write of a whole word. -/

namespace Sys2Proof.Machine

/-! ### Shared forms -/

/-- A result register of the layout of WRP_RESULT. -/
def CmdResult.word (r : CmdResult) : Nat :=
  b2n r.busy * 2 ^ 31 + b2n r.done * 2 ^ 30 + r.authority % 8 * 2 ^ 16 + r.seq % 256 * 2 ^ 8 + r.code % 256

/-- A write of its DONE bit (W1C). -/
def CmdResult.ack (r : CmdResult) (v : Nat) : CmdResult := if bit v 30 then { r with done := false } else r

/-- A write of journalled fields: `new` is the word after it; `f` is its effect, which the journal may refuse (00 R6). -/
def State.jSet (s : State) (who : Requester) (block off hank old new : Nat) (f : State → State) : State :=
  match s.jWrite who block off hank old new with
  | (true, s) => f s
  | (false, s) => s

/-- The same for a projection of ply `p`: the direct write is counted (02 R55). -/
def State.jProj (s : State) (who : Requester) (block off p old new : Nat) (f : State → State) : State :=
  s.jSet who block off 0 old new (fun s => (f s).overrode p)

/-- A 48-bit address with its low bits [31:lo] or its high word replaced. -/
def addrLo (a lo v : Nat) : Nat := a / 2 ^ 32 * 2 ^ 32 + v % 2 ^ 32 / 2 ^ lo * 2 ^ lo
def addrHi (a v : Nat) : Nat := a % 2 ^ 32 + v % 2 ^ 16 * 2 ^ 32

/-! ### Block 0 (01) -/

/-- PIN_ROSTERk. -/
def rosterWord (v : Variant) (k : Nat) : Nat :=
  (List.range 32).foldl (fun a n => a + b2n (blockPresent v (32 * k + n)) * 2 ^ n) 0

def capacity0 (v : Variant) : Nat := nBanks v * 2 ^ 24 + nDecCtx v * 2 ^ 16 + nCores v * 2 ^ 8 + nTiles v
def capacity1 (v : Variant) : Nat :=
  nFlows v * 2 ^ 20 + jobsMax v * 2 ^ 11 + nDram v * 2 ^ 8 + nApp v * 2 ^ 5 + nEth10 v * 2 ^ 3 + b2n (hasTok v) * 4
  + b2n (hasAud v) * 2 + b2n (masterCapable v)

def State.pinWord (s : State) (off : Nat) : Nat :=
  if off = 0x000 then deviceId s.variant * 2 ^ 16 + 0x1F3A
  else if off = 0x004 then s.nv.otp.rev % 256
  else if 0x010 ≤ off ∧ off < 0x030 then rosterWord s.variant ((off - 0x010) / 4)
  else if off = 0x030 then capacity0 s.variant
  else if off = 0x034 then capacity1 s.variant
  else if off = 0x040 then s.tierChanges * 2 ^ 16 + s.tier
  else if off = 0x048 then s.peak % 512 * 2 ^ 16 + s.inFlight % 512
  else if off = 0x04C then s.jobReserve
  else 0

/-- PIN_JOBS written (R29). -/
def State.peakWrite (s : State) (v : Nat) : State := { s with peak := max (bits v 24 16) s.inFlight }

/-- PIN_JOB_RESERVE written (R28). -/
def State.reserveWrite (s : State) (who : Requester) (v : Nat) : State :=
  let r := min (bits v 8 0) (jobsMax s.variant)
  s.jSet who 0 0x04C 0 s.jobReserve r (fun s => { s with jobReserve := r })

def State.pinWrite (s : State) (who : Requester) (off v : Nat) : State :=
  if off = 0x048 then s.peakWrite v else if off = 0x04C then s.reserveWrite who v else s

/-! ### Block 1 (02) -/

/-- WRP_PLYn_STATE. -/
def State.wrpPlyState (s : State) (p : Nat) : Nat :=
  let x := s.ply p
  let st := match s.wrp.pending with
    | some d => if d.ply = p then (if d.draining then 5 else 4) else x.state
    | none => x.state
  x.ticksPerS % 1024 * 2 ^ 16 + b2n x.training * 8 + st % 8

def State.wrpWord (s : State) (off : Nat) : Nat :=
  let w := s.wrp
  if off = 0x000 then
    (match w.pending with | some d => 2 ^ 12 + d.ply % 16 * 2 ^ 8 | none => 0) + w.device % 4
  else if off = 0x008 then w.serial % 2 ^ 32
  else if off = 0x00C then w.serial / 2 ^ 32 % 2 ^ 32
  else if 0x010 ≤ off ∧ off < 0x040 then w.digest / 2 ^ (32 * (11 - (off - 0x010) / 4)) % 2 ^ 32
  else if off = 0x040 then w.imgAddr % 2 ^ 32
  else if off = 0x044 then w.imgAddr / 2 ^ 32 % 2 ^ 16
  else if off = 0x048 then w.imgLen
  else if off = 0x050 then w.result.word
  else if 0x100 ≤ off ∧ off < 0x300 then
    let p := (off - 0x100) / 0x20
    let r := (off - 0x100) % 0x20
    if r = 0 then s.wrpPlyState p
    else if r = 4 then (s.ply p).overrides
    else if r = 8 then (s.ply p).drainTicks
    else 0
  else 0

/-- WRP_PLYn_DRAIN written (R56). -/
def State.drainWrite (s : State) (who : Requester) (p v : Nat) : State :=
  let d := max 1 (bits v 7 0)
  s.jProj who 1 (0x108 + 0x20 * p) p (s.ply p).drainTicks d (fun s => s.setPly p { s.ply p with drainTicks := d })

def State.wrpWrite (s : State) (who : Requester) (off v : Nat) : State :=
  if off = 0x040 then { s with wrp := { s.wrp with imgAddr := addrLo s.wrp.imgAddr 0 v } }
  else if off = 0x044 then { s with wrp := { s.wrp with imgAddr := addrHi s.wrp.imgAddr v } }
  else if off = 0x048 then { s with wrp := { s.wrp with imgLen := bits v 24 0 } }
  else if off = 0x04C then
    (match (if s.noSession (reqAuth who) then 0 else bits v 1 0) with
     | 1 => s.loadWarp (reqAuth who)
     | 2 => s.reweaveCmd (reqAuth who) (bits v 11 8)
     | 3 => s.cancelCmd (reqAuth who) (bits v 11 8)
     | _ => s)
  else if off = 0x050 then { s with wrp := { s.wrp with result := s.wrp.result.ack v } }
  else if 0x100 ≤ off ∧ off < 0x300 ∧ off % 0x20 = 8 then s.drainWrite who ((off - 0x100) / 0x20) v
  else s

/-! ### Block 2 (03; 13 section Registers) -/


def Tck.servoWord (k : Tck) : Nat := k.domain % 256 * 2 ^ 8 + k.port % 4 * 2 ^ 4 + b2n k.software
def Tck.limitsWord (k : Tck) : Nat := k.slewPpm % 1024 * 2 ^ 22 + k.holdMax % 2 ^ 14 * 2 ^ 8 + k.lossS % 256
def Ply.statusWord (x : Ply) : Nat := x.overruns % 2 ^ 16 * 2 ^ 16 + x.skipped % 256 * 2 ^ 8 + b2n x.overrun
def Ply.admitWord (x : Ply) : Nat := x.profile % 4 * 2 ^ 16 + x.ageLimit % 256 * 2 ^ 8 + x.resPct % 128

/-- Registers of a submission context. -/
def Hank.tckWord (k : Hank) (off : Nat) : Nat :=
  if off = 0x400 then k.subBase % 2 ^ 32 + k.subLog2
  else if off = 0x404 then k.subBase / 2 ^ 32
  else if off = 0x408 then k.cplBase % 2 ^ 32 + k.cplLog2
  else if off = 0x40C then k.cplBase / 2 ^ 32
  else if off = 0x410 then k.cplTail % 2 ^ 16 * 2 ^ 16 + k.cplHead % 2 ^ 16
  else 0

def Ply.tckWord (x : Ply) (r : Nat) : Nat :=
  if r = 0x00 then x.tick % 2 ^ 32
  else if r = 0x04 then x.tick / 2 ^ 32 % 2 ^ 32
  else if r = 0x08 then x.statusWord
  else if r = 0x0C then x.admitWord
  else if r = 0x10 then x.sumBase % 2 ^ 32 + x.sumLog2
  else if r = 0x14 then x.sumBase / 2 ^ 32
  else 0

def State.tckWord (s : State) (who : Requester) (off : Nat) : Nat :=
  let k := s.tck
  if off = 0x000 then k.time % 2 ^ 32
  else if off = 0x004 then k.time / 2 ^ 32 % 2 ^ 32
  else if off = 0x008 then k.steps % 2 ^ 16 * 2 ^ 16 + k.backSteps % 256 * 2 ^ 8 + k.sync % 4
  else if off = 0x020 then k.servoWord
  else if off = 0x024 then low 32 k.offset
  else if off = 0x028 then low 32 k.freqAdj
  else if off = 0x030 then b2n k.expired * 2 ^ 31 + k.holdoverNs / 1000000000 % 2 ^ 31
  else if off = 0x034 then k.limitsWord
  else if off = 0x038 then k.stepUs % 2 ^ 20
  else if off = 0x3FC then k.hsel
  else if 0x100 ≤ off ∧ off < 0x300 then (s.ply ((off - 0x100) / 0x20)).tckWord ((off - 0x100) % 0x20)
  else if 0x400 ≤ off ∧ off < 0x420 then (s.hank (s.tckBank who)).tckWord off
  else 0

/-- A ring base or size is written; pointers stay within the ring (R73). -/
def Hank.ringWrite (k : Hank) (off v : Nat) : Hank :=
  let k :=
    if off = 0x400 then { k with subBase := addrLo k.subBase 12 v, subLog2 := bits v 3 0 }
    else if off = 0x404 then { k with subBase := addrHi k.subBase v }
    else if off = 0x408 then { k with cplBase := addrLo k.cplBase 12 v, cplLog2 := bits v 3 0 }
    else { k with cplBase := addrHi k.cplBase v }
  let m := ringSize k.subLog2
  let n := ringSize k.cplLog2
  { k with
    subNext := if m = 0 then 0 else k.subNext % m, cplHead := if n = 0 then 0 else k.cplHead % n
    cplTail := if n = 0 then 0 else k.cplTail % n, cplUnread := min k.cplUnread n }

/-- CPL_TAIL is written: the entries between the old and the new value are consumed. -/
def Hank.tailWrite (k : Hank) (v : Nat) : Hank :=
  let n := ringSize k.cplLog2
  if n = 0 then k
  else
    let t := bits v 31 16 % n
    { k with cplTail := t, cplUnread := k.cplUnread - (t + n - k.cplTail % n) % n }

def State.tckQWrite (s : State) (h off v : Nat) : State :=
  let k := s.hank h
  if off < 0x410 then (if s.jobs.any (fun j => j.hank == h) then s else s.setHank h (k.ringWrite off v))
  else if off = 0x410 then s.setHank h (k.tailWrite v)
  else if off = 0x414 then s.doorbell h (bits v 12 0)
  else s

def State.tckPlyWrite (s : State) (who : Requester) (p off v : Nat) : State :=
  let x := s.ply p
  let a := 0x100 + 0x20 * p + off
  if off = 0x08 then
    let y := if bit v 0 then { x with overrun := false } else x
    s.jSet who 2 a 0 x.statusWord y.statusWord (fun s => s.setPly p { s.ply p with overrun := y.overrun })
  else if off = 0x0C then
    let y := { x with profile := bits v 17 16, ageLimit := max 1 (bits v 15 8), resPct := clampN 50 100 (bits v 6 0) }
    s.jProj who 2 a p x.admitWord y.admitWord (fun s =>
      s.setPly p { s.ply p with profile := y.profile, ageLimit := y.ageLimit, resPct := y.resPct })
  else if off = 0x10 then s.setPly p { x with sumBase := addrLo x.sumBase 12 v, sumLog2 := bits v 3 0 }
  else if off = 0x14 then s.setPly p { x with sumBase := addrHi x.sumBase v }
  else s

/-- Servo registers; FREQ_ADJ is written only in SOFTWARE mode. -/
def State.servoWrite (s : State) (who : Requester) (off v : Nat) : State :=
  let k := s.tck
  if off = 0x020 then
    let y := { k with domain := bits v 15 8, port := bits v 5 4, software := bit v 0 }
    s.jSet who 2 off 0 k.servoWord y.servoWord (fun s =>
      { s with tck := { s.tck with domain := y.domain, port := y.port, software := y.software } })
  else if off = 0x028 then (if k.software then { s with tck := { k with freqAdj := sx 32 v } } else s)
  else if off = 0x034 then
    let y := { k with slewPpm := bits v 31 22, holdMax := bits v 21 8, lossS := bits v 7 0 }
    s.jSet who 2 off 0 k.limitsWord y.limitsWord (fun s =>
      { s with tck := { s.tck with slewPpm := y.slewPpm, holdMax := y.holdMax, lossS := y.lossS } })
  else if off = 0x038 then
    s.jSet who 2 off 0 k.stepUs (bits v 19 0) (fun s => { s with tck := { s.tck with stepUs := bits v 19 0 } })
  else s

/-- Block 2 but for PHASE_ADJ. -/
def State.tckWrite (s : State) (who : Requester) (off v : Nat) : State :=
  if off < 0x100 then s.servoWrite who off v
  else if off < 0x300 then s.tckPlyWrite who ((off - 0x100) / 0x20) ((off - 0x100) % 0x20) v
  else if off = 0x3FC then { s with tck := { s.tck with hsel := bits v 11 0 } }
  else if 0x400 ≤ off ∧ off < 0x420 then s.tckQWrite (s.tckBank who) off v
  else s

/-! ### Block 3 (04) -/

def Hank.hnkResult (k : Hank) : Nat :=
  b2n k.result.busy * 2 ^ 31 + b2n k.result.done * 2 ^ 30 + k.resultGrant % 1024 * 2 ^ 16 + k.result.seq % 256 * 2 ^ 8
  + k.result.code % 256

def State.hnkBankWord (s : State) (h off : Nat) : Nat :=
  let k := s.hank h
  if off = 0x404 then k.baseLo
  else if off = 0x408 then k.baseHi
  else if off = 0x40C then k.len
  else if off = 0x410 then k.hnkResult
  else if off = 0x414 then k.unwrittenMode
  else if off = 0x418 then k.unwrittenReads
  else if off = 0x41C then k.accessErrors
  else if off = 0x420 then k.errAddr % 2 ^ 32
  else if off = 0x424 then k.errKind % 16 * 2 ^ 28 + k.errAddr / 2 ^ 32 % 2 ^ 16
  else if off = 0x428 then s.dramUse h % 2 ^ 32
  else if off = 0x42C then s.skeinUse h % 2 ^ 32
  else if off = 0x430 then k.badFrees
  else if off = 0x434 then k.poolWait
  else 0

def Pool.rsvWord (x : Pool) : Nat := x.rsvWgt % 2 ^ 16 * 2 ^ 16 + x.rsvRes % 2 ^ 16

def State.poolWord (s : State) (key r : Nat) : Nat :=
  let x := mget s.pools key {}
  if r = 0 then x.base % 2 ^ 32
  else if r = 4 then x.base / 2 ^ 32
  else if r = 8 then x.lastWinner % 256 * 2 ^ 24 + x.free % 2 ^ 17
  else x.rsvWord

def State.hnkWord (s : State) (who : Requester) (off : Nat) : Nat :=
  if off = 0x000 then s.scrubPending
  else if off = 0x004 then
    (s.slots.filter (fun e => e.2.state == 2)).length * 2 ^ 16 + (s.slots.filter (fun e => e.2.state == 1)).length
  else if off = 0x3FC then s.hnkHsel
  else if 0x400 ≤ off ∧ off < 0x440 then s.hnkBankWord (s.hnkBank who) off
  else if 0x800 ≤ off ∧ off < 0x1000 then s.poolWord ((off - 0x800) / 0x10) ((off - 0x800) % 0x10)
  else 0

/-- The reserves a write stores: their sum stays below BUF_COUNT, and RESERVE_WGT is reduced first. -/
def Pool.reserves (x : Pool) (v : Nat) : Pool :=
  let res := min (bits v 15 0) (x.count - 1)
  { x with rsvRes := res, rsvWgt := min (bits v 31 16) (x.count - 1 - res) }

/-- HNK_POOL_RSV written. -/
def State.rsvWrite (s : State) (who : Requester) (key v : Nat) : State :=
  let x := mget s.pools key {}
  let y := x.reserves v
  s.jProj who 3 (0x80C + 0x10 * key) (key / 8) x.rsvWord y.rsvWord (fun s =>
    { s with pools := mset s.pools key { mget s.pools key {} with rsvRes := y.rsvRes, rsvWgt := y.rsvWgt } })

/-- The ply whose record's flag UNWRITTEN_MODE projects: that of the hank's first record. -/
def State.hankPly (s : State) (h : Nat) : Nat :=
  match s.img.hanks.find? (fun r => r.hank == h) with
  | some r => r.ply
  | none => 16

def State.hnkBankWrite (s : State) (who : Requester) (h off v : Nat) : State :=
  let k := s.hank h
  if off = 0x400 then
    (match bits v 3 0 with
     | 1 => s.regionCreate who (bits v 15 4)
     | 2 => s.regionDestroy who (bits v 15 4)
     | 3 => s.grant who (bits v 27 16)
     | 4 => s.revoke who (bits v 15 4)
     | _ => s)
  else if off = 0x404 then s.setHank h { k with baseLo := v % 2 ^ 32 }
  else if off = 0x408 then s.setHank h { k with baseHi := bits v 15 0 }
  else if off = 0x40C then s.setHank h { k with len := v % 2 ^ 32 }
  else if off = 0x410 then s.setHank h { k with result := k.result.ack v }
  else if off = 0x414 then
    let m := min 2 (bits v 1 0)
    s.jSet who 3 off h k.unwrittenMode m (fun s => (s.setHank h { s.hank h with unwrittenMode := m }).overrode (s.hankPly h))
  else if off = 0x434 then s.setHank h { k with poolWait := bits v 15 0 }
  else s

def State.hnkWrite (s : State) (who : Requester) (off v : Nat) : State :=
  if off = 0x3FC then { s with hnkHsel := bits v 11 0 }
  else if 0x400 ≤ off ∧ off < 0x440 then s.hnkBankWrite who (s.hnkBank who) off v
  else if 0x800 ≤ off ∧ off < 0x1000 ∧ off % 0x10 = 0xC then s.rsvWrite who ((off - 0x800) / 0x10) v
  else if 0x1000 ≤ off ∧ off < 0x1800 ∧ off % 0x10 = 0xC then
    s.poolFree (s.reqHank who) ((off - 0x1000) / 0x80) ((off - 0x1000) / 0x10 % 8) (bits v 15 0)
  else s

end Sys2Proof.Machine
end

