-- ==== Sys2Proof/Machine/RegsB.lean ====
section
/-! DEFINITION. Control blocks 4 to 21 and core control windows: Skein, fabric, DRAM, Spindle, Whorl (05, 06, 08 section
Registers). -/

namespace Sys2Proof.Machine

/-! ### Blocks 4 to 9 (05) -/

/-- The high word of an error latch. -/
def ErrLatch.hiWord (l : ErrLatch) : Nat := l.kind % 16 * 2 ^ 28 + l.requester % 256 * 2 ^ 16 + l.addr / 2 ^ 32 % 2 ^ 16

def State.sknWord (s : State) (off : Nat) : Nat :=
  let f := s.fab
  if off = 0x000 then f.sknCe
  else if off = 0x004 then f.sknUe
  else if off = 0x008 then f.sknErr.addr % 2 ^ 32
  else if off = 0x00C then f.sknErr.hiWord
  else if off = 0x010 then f.sknPasses % 2 ^ 20 * 2 ^ 12 + f.sknPeriod
  else if off = 0x014 then f.ceLimit
  else if 0x100 ≤ off ∧ off < 0x1C0 then
    let b := mget f.banks ((off - 0x100) / 4) {}
    b.ue * 2 ^ 16 + b.ce
  else 0

def State.sknWrite (s : State) (who : Requester) (off v : Nat) : State :=
  if off = 0x010 then
    let p := clampN 1 3600 (bits v 11 0)
    s.jSet who 4 off 0 (s.sknWord off) (s.fab.sknPasses % 2 ^ 20 * 2 ^ 12 + p) (fun s => { s with fab := { s.fab with sknPeriod := p } })
  else if off = 0x014 then
    let l := max 1 (bits v 15 0)
    s.jSet who 4 off 0 s.fab.ceLimit l (fun s => { s with fab := { s.fab with ceLimit := l } })
  else s

def State.fabWord (s : State) (off : Nat) : Nat :=
  let f := s.fab
  if off = 0x000 then f.decodeErrors
  else if off = 0x004 then f.decodeLatch.addr % 2 ^ 32
  else if off = 0x008 then f.decodeLatch.requester % 256 * 2 ^ 24 + f.decodeLatch.addr / 2 ^ 32 % 2 ^ 16
  else if off = 0x00C then f.linkFaults
  else if off = 0x010 then b2n s.ueLogFull * 2 ^ 31 + f.ueLog.length % 512
  else if 0x1000 ≤ off ∧ off < 0x3000 then
    let r := s.route ((off - 0x1000) / 8)
    if off % 8 = 0 then b2n r.formed * 2 ^ 16 + r.priority % 4 else r.flits % 2 ^ 32
  else 0

/-- FAB_ROUTEn_CTRL written: PRIORITY; a device route and an unprogrammed one belong to no ply. -/
def State.fabWrite (s : State) (who : Requester) (off v : Nat) : State :=
  if 0x1000 ≤ off ∧ off < 0x3000 ∧ off % 8 = 0 then
    let n := (off - 0x1000) / 8
    let r := s.route n
    s.jProj who 5 off r.ply (s.fabWord off) (b2n r.formed * 2 ^ 16 + bits v 1 0) (fun s =>
      s.setRoute n { s.route n with priority := bits v 1 0 })
  else s

def Dram.word (d : Dram) (off : Nat) : Nat :=
  if off = 0x000 then
    d.density % 16 * 2 ^ 24 + d.rate % 256 * 2 ^ 16 + b2n d.ecc * 2 ^ 8 + d.ways % 4 * 2 ^ 4 + d.state % 8
  else if off = 0x010 then d.ce
  else if off = 0x014 then d.ue
  else if off = 0x018 then d.err.addr % 2 ^ 32
  else if off = 0x01C then d.err.hiWord
  else if off = 0x020 then d.passes % 2 ^ 24 * 2 ^ 8 + d.period
  else if off = 0x024 then d.tempWord
  else 0

def State.dramWrite (s : State) (who : Requester) (i off v : Nat) : State :=
  if off = 0x020 then
    let p := clampN 1 168 (bits v 7 0)
    let d := s.dramIf i
    s.jSet who (6 + i) off 0 (d.word off) (({ d with period := p } : Dram).word off) (fun s =>
      s.setDram i { s.dramIf i with period := p })
  else s

/-! ### Core control windows (06) -/

def Core.ctlWord (c : Core) (off : Nat) : Nat :=
  if off = 0x000 then c.hank % 4096 * 2 ^ 20 + c.state % 8
  else if off = 0x004 then
    c.faultActive % 16 * 2 ^ 16 + b2n c.faultHalt * 2 ^ 9 + b2n c.faultSlot * 2 ^ 8 + c.faultCause % 16
  else if off = 0x008 then c.faultPc % 2 ^ 16
  else if off = 0x010 then c.maxHeld % 512 * 2 ^ 16 + c.window
  else 0

/-- SPD_REP_WINDOW written; the entry names the block of the core's cluster (log 63). -/
def State.spdWrite (s : State) (who : Requester) (c off v : Nat) : State :=
  if off = 0x010 then
    let k := s.core c
    let y := { k with maxHeld := bits v 24 16, window := min 256 (bits v 8 0) }
    s.jSet who (10 + c / 4) (c % 4 * 0x1000 + off) 0 (k.ctlWord off) (y.ctlWord off) (fun s =>
      s.setCore c { s.core c with maxHeld := y.maxHeld, window := y.window })
  else s

/-! ### Blocks 14 to 21 (08) -/

/-- The array whose FIRST_TILE is `t`. -/
def State.arrayAt (s : State) (t : Nat) : Option (Nat × WArray) :=
  s.arrays.find? (fun e => e.2.first == t)

/-- WHL_ARRAY of array `a`. -/
def State.whlArrayWord (s : State) (a : Nat) (x : WArray) : Nat :=
  let ok := x.formed && (arrayTiles x.shape x.first).all (fun t => s.counts (14 + t))
  b2n ok * 2 ^ 16 + x.staged.length % 4 * 2 ^ 12 + x.depth % 4 * 2 ^ 8 + x.shape % 8 * 2 ^ 4 + a % 8

def State.whlWord (s : State) (t off : Nat) : Nat :=
  let k := s.tile t
  if off = 0x000 then k.hank % 4096 * 2 ^ 20 + k.arrayId % 16 * 2 ^ 16 + k.state % 8
  else if off = 0x004 then k.faultHank % 4096 * 2 ^ 20 + k.faultCause % 256
  else if off = 0x008 then k.busy % 2 ^ 32
  else if off = 0x00C then k.busy / 2 ^ 32 % 2 ^ 32
  else if off = 0x010 then k.ue * 2 ^ 16 + k.ce
  else if off = 0x014 then k.accSat
  else match s.arrayAt t with
    | none => 0
    | some (a, x) =>
      if off = 0x018 then (match x.resident with | some r => r.hank % 4096 * 2 ^ 20 + 1 | none => 0)
      else if off = 0x01C then (match x.resident with | some r => r.wkey % 2 ^ 32 | none => 0)
      else if off = 0x040 then s.whlArrayWord a x
      else if off = 0x044 then b2n x.wkeepEn
      else 0

/-- DEPTH and WKEEP_EN of the array whose FIRST_TILE is `t`; at a tile that heads no array the write is journalled and there is nothing
it could set (00 R6). -/
def State.whlRegWrite (s : State) (who : Requester) (t off v : Nat) : State :=
  match s.arrayAt t with
  | none => if off = 0x040 ∨ off = 0x044 then s.jSet who (14 + t) off 0 0 0 id else s
  | some (a, x) =>
    if off = 0x040 then
      let d := max 1 (bits v 9 8)
      s.jProj who (14 + t) off x.ply (s.whlArrayWord a x) (s.whlArrayWord a { x with depth := d }) (fun s =>
        s.setArr a { s.arr a with depth := d })
    else if off = 0x044 then
      s.jProj who (14 + t) off x.ply (b2n x.wkeepEn) (b2n (bit v 0)) (fun s => s.setArr a { s.arr a with wkeepEn := bit v 0 })
    else s

end Sys2Proof.Machine
end

