-- ==== Sys2Proof/Machine/RegsC.lean ====
section
/-! DEFINITION. Control blocks 22 to 27: quantisation, carding, tokenizer (09, 10, 11 section Registers). -/

namespace Sys2Proof.Machine

/-! ### Block 22 (09) -/

def QLoop.word (l : QLoop) : Nat := low 4 l.hmax * 2 ^ 20 + low 4 l.hmin * 2 ^ 16 + l.window % 256 * 2 ^ 8 + l.decay % 32

def Cvt.word (c : Cvt) (off : Nat) : Nat :=
  if off = 0x400 then c.src % 2 ^ 32
  else if off = 0x404 then c.src / 2 ^ 32
  else if off = 0x408 then c.dst % 2 ^ 32
  else if off = 0x40C then c.dst / 2 ^ 32
  else if off = 0x410 then c.rowsM1 % 2 ^ 16 * 2 ^ 16 + c.lenM1 % 2 ^ 16
  else if off = 0x414 then c.srcStride / 64 % 2 ^ 16 * 2 ^ 16 + c.dstStride / 64 % 2 ^ 16
  else if off = 0x418 then c.cfg
  else if off = 0x41C then c.seed
  else if off = 0x424 then b2n c.run.isSome * 2 ^ 31 + b2n c.done * 2 ^ 30 + c.code % 256
  else if off = 0x428 then c.clips % 2 ^ 32
  else if off = 0x42C then c.invalid % 2 ^ 32
  else if off = 0x430 then c.event
  else 0

def State.ctxWord (s : State) (p c r : Nat) : Nat :=
  let x := s.ctx p c
  if r = 0 then x.rmax else if r = 4 then x.cfgWord else if r = 8 then x.target else x.clips

def State.qntWord (s : State) (who : Requester) (off : Nat) : Nat :=
  if off = 0x000 then s.qnt.invalid
  else if off = 0x004 then s.qnt.clips
  else if 0x100 ≤ off ∧ off < 0x200 then (if off % 0x10 = 0 then (s.qloop ((off - 0x100) / 0x10)).word else 0)
  else if off = 0x3FC then s.qnt.hsel
  else if 0x400 ≤ off ∧ off < 0x440 then (s.hank (s.qntBank who)).cvt.word off
  else if 0x10000 ≤ off ∧ off < 0x20000 then s.ctxWord ((off - 0x10000) / 0x1000) ((off - 0x10000) / 0x10 % 256) (off % 0x10)
  else 0

def Cvt.write (c : Cvt) (off v : Nat) : Cvt :=
  if off = 0x400 then { c with src := addrLo c.src 0 v }
  else if off = 0x404 then { c with src := addrHi c.src v }
  else if off = 0x408 then { c with dst := addrLo c.dst 0 v }
  else if off = 0x40C then { c with dst := addrHi c.dst v }
  else if off = 0x410 then { c with rowsM1 := bits v 31 16, lenM1 := bits v 15 0 }
  else if off = 0x414 then { c with srcStride := bits v 31 16 * 64, dstStride := bits v 15 0 * 64 }
  else if off = 0x418 then { c with cfg := v % 2 ^ 32 }
  else if off = 0x41C then { c with seed := v % 2 ^ 32 }
  else if off = 0x424 then (if bit v 30 then { c with done := false } else c)
  else if off = 0x430 then { c with event := bits v 15 0 }
  else c

/-- RMAX and TARGET of a context written (R240). -/
def State.ctxWrite (s : State) (who : Requester) (p c r v : Nat) : State :=
  let x := s.ctx p c
  let off := 0x10000 + 0x10 * (256 * p + c) + r
  if r = 0 then s.jProj who 22 off p x.rmax v (fun s => s.setCtx p c { s.ctx p c with rmax := v })
  else if r = 8 then
    let t := max 1 (bits v 15 0)
    s.jProj who 22 off p x.target t (fun s => s.setCtx p c { s.ctx p c with target := t })
  else s

/-- QNT_PLYp_LOOP written. -/
def State.loopWrite (s : State) (who : Requester) (p v : Nat) : State :=
  let hi := sx 4 (bits v 23 20)
  let l : QLoop := { hmax := hi, hmin := clampI (-4) hi (sx 4 (bits v 19 16)), window := max 1 (bits v 15 8), decay := bits v 4 0 }
  s.jProj who 22 (0x100 + 0x10 * p) p (s.qloop p).word l.word (fun s =>
    { s with qnt := { s.qnt with loops := mset s.qnt.loops p l } })

/-- Block 22 but for QNT_CTX_CFG. -/
def State.qntWrite (s : State) (who : Requester) (off v : Nat) : State :=
  if 0x100 ≤ off ∧ off < 0x200 ∧ off % 0x10 = 0 then s.loopWrite who ((off - 0x100) / 0x10) v
  else if off = 0x3FC then { s with qnt := { s.qnt with hsel := bits v 11 0 } }
  else if 0x400 ≤ off ∧ off < 0x440 then
    let h := s.qntBank who
    if off = 0x420 then (if bit v 0 then s.cvtGo h (bits v 11 8) else s)
    else s.setCvt h ((s.hank h).cvt.write off v)
  else if 0x10000 ≤ off ∧ off < 0x20000 then
    s.ctxWrite who ((off - 0x10000) / 0x1000) ((off - 0x10000) / 0x10 % 256) (off % 0x10) v
  else s

/-! ### Blocks 23 to 26 (10) -/

/-- CRD_CAMc_STATE: the dividers in force of its subscribers, and the flow's state (10 R254). -/
def State.camState (s : State) (r : CamRec) : Nat :=
  (r.subsAt.map (fun e => s.divider r e.1 % 16 * 2 ^ (16 + 4 * e.1))).sum + (s.flow r.cam).st % 4

def Flow.pinWord (f : Flow) : Nat := ((List.range 4).map (fun i => mget f.pin i 0 % 16 * 2 ^ (4 * i))).sum

/-- A register of a camera's page; without a registration only the pins hold anything. -/
def State.camWord (s : State) (c r : Nat) : Nat :=
  match s.cam? c with
  | none => if r = 0x5C then (s.flow c).pinWord else 0
  | some m =>
    let f := s.flow c
    if r < 0x40 then mget f.reasons (r / 4 + 1) 0
    else if r = 0x40 then f.packets
    else if r = 0x44 then f.frames
    else if r = 0x48 then f.concealed
    else if r = 0x4C then f.samples
    else if r = 0x50 then f.clips
    else if r = 0x54 then f.roiOutside
    else if r = 0x58 then s.camState m
    else if r = 0x5C then f.pinWord
    else 0

def Crd.reorderWord (c : Crd) : Nat := c.auDepth % 256 * 2 ^ 8 + c.wait % 256

def State.crdWord (s : State) (off : Nat) : Nat :=
  if off = 0x000 then s.crd.reorderWord
  else if off = 0x004 then s.crd.unmatched
  else if 0x10000 ≤ off ∧ off < 0x90000 then s.camWord ((off - 0x10000) / 0x80) (off % 0x80)
  else 0

/-- CRD_CAMc_PIN written; the page of a camera that is not registered belongs to no ply. -/
def State.pinDivs (s : State) (who : Requester) (c v : Nat) : State :=
  let f := s.flow c
  let pin : NMap Nat := (List.range 4).map (fun i => (i, min 8 (bits v (4 * i + 3) (4 * i))))
  let y := { f with pin := pin }
  s.jProj who 23 (0x10000 + 0x80 * c + 0x5C) (((s.cam? c).map (·.ply)).getD 16) f.pinWord y.pinWord (fun s =>
    s.setFlow c { s.flow c with pin := pin })

def State.crdWrite (s : State) (who : Requester) (off v : Nat) : State :=
  if off = 0x000 then
    let y := { s.crd with auDepth := clampN 2 16 (bits v 15 8), wait := max 1 (bits v 7 0) }
    s.jSet who 23 off 0 s.crd.reorderWord y.reorderWord (fun s =>
      { s with crd := { s.crd with auDepth := y.auDepth, wait := y.wait } })
  else if 0x10000 ≤ off ∧ off < 0x90000 ∧ off % 0x80 = 0x5C then s.pinDivs who ((off - 0x10000) / 0x80) v
  else s

/-- A decode engine: contexts busy, whether it counts, macroblocks decoded. -/
def State.engineWord (s : State) (e off : Nat) : Nat :=
  let mb := (mget s.crd.engines e {}).mb
  if off = 0x000 then (mget s.crd.engines e {}).busy % 256 * 2 ^ 16 + b2n (s.counts (24 + e))
  else if off = 0x008 then mb % 2 ^ 32
  else if off = 0x00C then mb / 2 ^ 32 % 2 ^ 32
  else 0

def BatchQ.cfgWord (q : BatchQ) : Nat :=
  q.event % 2 ^ 16 * 2 ^ 16 + (q.size - 1) % 256 * 2 ^ 8 + q.ply % 16 * 2 ^ 4 + b2n q.modeTick * 2 + b2n q.enable

def BatchQ.word (q : BatchQ) (r : Nat) : Nat :=
  if r = 0 then q.ring % 2 ^ 32 + q.log2
  else if r = 4 then q.ring / 2 ^ 32
  else if r = 8 then q.cfgWord
  else q.tail % 2 ^ 16 * 2 ^ 16 + q.head % 2 ^ 16

def State.cardWord (s : State) (h off : Nat) : Nat :=
  let k := (s.hank h).card
  if off = 0x400 then k.roiBase % 2 ^ 32
  else if off = 0x404 then k.roiBase / 2 ^ 32
  else if off = 0x408 then k.cacheBase % 2 ^ 32
  else if off = 0x40C then k.cacheBase / 2 ^ 32
  else if off = 0x410 then k.cacheSlot % 2 ^ 16 * 2 ^ 16 + k.cacheLog2 % 32
  else if off = 0x414 then k.cacheSkips
  else if off = 0x418 then k.augBase % 2 ^ 32 + k.augLog2
  else if off = 0x41C then k.augBase / 2 ^ 32
  else if off = 0x424 then k.augTaken % 2 ^ 16
  else if off = 0x428 then b2n k.augRefused * 2 ^ 31 + k.augPly % 16 * 2 ^ 8
  else if 0x500 ≤ off then (s.queue h ((off - 0x500) / 0x10)).word (off % 0x10)
  else 0

def State.backWord (s : State) (who : Requester) (off : Nat) : Nat :=
  if off = 0x3FC then s.crd.hsel
  else if 0x400 ≤ off ∧ off < 0x600 then s.cardWord (s.crdBank who) off
  else 0

/-- The sample cache is in use while it has slots, and the record ring while records wait in it (R268; log 64). -/
def CardHank.write (k : CardHank) (off v : Nat) : CardHank :=
  if off = 0x400 then { k with roiBase := addrLo k.roiBase 12 v }
  else if off = 0x404 then { k with roiBase := addrHi k.roiBase v }
  else if off = 0x408 then (if k.cacheSlot = 0 then { k with cacheBase := addrLo k.cacheBase 12 v } else k)
  else if off = 0x40C then (if k.cacheSlot = 0 then { k with cacheBase := addrHi k.cacheBase v } else k)
  else if off = 0x410 then { k with cacheSlot := bits v 31 16, cacheLog2 := bits v 4 0 }
  else if off = 0x418 then (if k.augPending = 0 then { k with augBase := addrLo k.augBase 12 v, augLog2 := bits v 3 0 } else k)
  else if off = 0x41C then (if k.augPending = 0 then { k with augBase := addrHi k.augBase v } else k)
  else if off = 0x428 then { k with augRefused := k.augRefused && !bit v 31, augPly := bits v 11 8 }
  else k

def State.queueWrite (s : State) (h k r v : Nat) : State :=
  let q := s.queue h k
  if r = 0 then (if q.enable then s else s.setQueue h k { q with ring := addrLo q.ring 12 v, log2 := bits v 3 0 })
  else if r = 4 then (if q.enable then s else s.setQueue h k { q with ring := addrHi q.ring v })
  else if r = 8 then s.bqCfg h k v
  else s.setQueue h k { q with tail := bits v 31 16 }

def State.backWrite (s : State) (who : Requester) (off v : Nat) : State :=
  let h := s.crdBank who
  if off = 0x3FC then { s with crd := { s.crd with hsel := bits v 11 0 } }
  else if off = 0x420 then s.augDoorbell h (bits v 12 0)
  else if 0x400 ≤ off ∧ off < 0x500 then s.setHank h { s.hank h with card := (s.hank h).card.write off v }
  else if 0x500 ≤ off ∧ off < 0x600 then s.queueWrite h ((off - 0x500) / 0x10) (off % 0x10) v
  else s

/-! ### Block 27 (11) -/

def State.tokWord (s : State) (off : Nat) : Nat :=
  let k := s.tok
  if off = 0x000 then k.hank % 4096 * 2 ^ 20 + k.state % 8
  else if off = 0x004 then k.faultHank % 4096 * 2 ^ 20 + k.faultCause % 256
  else if off = 0x008 then k.invalid
  else if off = 0x00C then k.bytes % 2 ^ 32
  else if off = 0x010 then k.bytes / 2 ^ 32 % 2 ^ 32
  else 0

end Sys2Proof.Machine
end

