-- ==== Sys2Proof/Machine/RegsD.lean ====
section
/-! DEFINITION. Control blocks 28 to 37: Bobbin, events, PCIe, Ethernet, audio (12, 13 section Registers). -/

namespace Sys2Proof.Machine

/-! ### Blocks 28 to 31 (12) -/

def Chan.errWord (c : Chan) : Nat := b2n c.mode * 16 + c.retries % 16

def Chan.word (c : Chan) (r : Nat) : Nat :=
  if r = 0x00 then c.hank % 4096 * 2 ^ 20 + c.pc % 4096 * 2 ^ 8 + b2n c.paceOn * 2 ^ 7 + c.state % 16
  else if r = 0x04 then c.cause % 16 * 2 ^ 28 + b2n c.dir * 2 ^ 27 + c.tries % 16 * 2 ^ 20
  else if r = 0x08 then c.haddr % 2 ^ 32
  else if r = 0x0C then c.haddr / 2 ^ 32 % 2 ^ 16
  else if r = 0x10 then c.errWord
  else if r = 0x18 then c.start % 2 ^ 32
  else if r = 0x1C then c.start / 2 ^ 32 % 2 ^ 16
  else if r = 0x20 then c.retried
  else 0

/-- The ply that owns a channel; 16 for channels of no ply. -/
def State.chanPly (s : State) (n : Nat) : Nat :=
  match s.img.plies.find? (fun r => bit r.channelMask n) with
  | some r => r.id
  | none => 16

/-- A channel's registers but for CMD. -/
def State.bobWrite (s : State) (who : Requester) (n r v : Nat) : State :=
  let c := s.chan n
  if r = 0x10 then
    let y := { c with mode := bit v 4, retries := bits v 3 0 }
    s.jProj who (28 + n / 16) (0x100 * (n % 16) + r) (s.chanPly n) c.errWord y.errWord (fun s =>
      s.setChan n { s.chan n with mode := y.mode, retries := y.retries })
  else if r = 0x18 then s.setChan n { c with start := addrLo c.start 0 v }
  else if r = 0x1C then s.setChan n { c with start := addrHi c.start v }
  else s

/-! ### Block 32 (12) -/

def State.evtWord (s : State) (off : Nat) : Nat :=
  if off = 0x004 then s.evt.sat
  else if 0x1000 ≤ off ∧ off < 0x3000 then
    let e := (off - 0x1000) / 8
    if off % 8 = 0 then s.tallyOf e else (mget s.evt.route e 0#32).toNat
  else 0

/-- Block 32 but for EVT_PULSE. -/
def State.evtWrite (s : State) (who : Requester) (off v : Nat) : State :=
  if 0x1000 ≤ off ∧ off < 0x3000 then
    let e := (off - 0x1000) / 8
    if off % 8 = 0 then { s with evt := { s.evt with tally := mset s.evt.tally e (v % 2 ^ 32) } }
    else (s.writeRoute (s.reqOrigin who) 0 e v).2
  else s

/-! ### Block 33 (13) -/

def Bind.word (b : Bind) : Nat := b2n b.bound * 2 ^ 15 + b.hank % 4096

def State.pciWord (s : State) (off : Nat) : Nat :=
  let k := s.pci
  if off = 0x000 then k.downEvents % 2 ^ 16 * 2 ^ 16 + b2n k.up * 2 ^ 8 + k.width % 16 * 2 ^ 4 + k.rate % 8
  else if off = 0x004 then k.numVfs % 64
  else if off = 0x008 then k.unbound
  else if 0x104 ≤ off ∧ off < 0x200 then (mget k.binds ((off - 0x100) / 4) {}).word
  else if 0x1000 ≤ off ∧ off < 0x2000 then (mget k.evmap ((off - 0x1000) / 4) 0#32).toNat
  else 0

/-- PCI_VFn_BIND written; the VF is bound when the hank exists (R303). -/
def State.bindWrite (s : State) (who : Requester) (n v : Nat) : State :=
  let h := bits v 11 0
  let y : Bind := { bound := h != 0 && s.hankExists h, hank := h }
  s.jSet who 33 (0x100 + 4 * n) 0 (mget s.pci.binds n {}).word y.word (fun s =>
    { s with pci := { s.pci with binds := mset s.pci.binds n y } })

def State.pciWrite (s : State) (who : Requester) (off v : Nat) : State :=
  if 0x104 ≤ off ∧ off < 0x200 then s.bindWrite who ((off - 0x100) / 4) v
  else if 0x1000 ≤ off ∧ off < 0x2000 then
    let e := (off - 0x1000) / 4
    if s.evmapOk e v then (s.writeEvmap (s.reqOrigin who) 0 e v).2 else s
  else s

/-! ### Blocks 34 to 36 (13) -/

def State.ethWord (s : State) (p off : Nat) : Nat :=
  let e := s.ethPort p
  let mac := s.nv.otp.macs.getD p 0
  if off = 0x000 then (if p = 2 then e.speed % 8 * 2 else 0) + b2n e.link
  else if off = 0x004 then mac % 2 ^ 32
  else if off = 0x008 then mac / 2 ^ 32 % 2 ^ 16
  else if off = 0x010 then e.rxFrames
  else if off = 0x014 then e.rxDrop
  else if off = 0x018 then e.fcsErrors
  else if off = 0x01C then e.vlanDrop
  else if off = 0x020 then e.oversize
  else if off = 0x040 then e.txts.headD 0 % 2 ^ 32
  else if off = 0x044 then e.txtsHi
  else if off = 0x048 then e.txtsLost
  else if 0x100 ≤ off ∧ off < 0x140 then mget e.vlans ((off - 0x100) / 4) 0
  else 0

/-- ETH_VLANv written. -/
def State.ethWrite (s : State) (who : Requester) (p off v : Nat) : State :=
  if 0x100 ≤ off ∧ off < 0x140 then
    let i := (off - 0x100) / 4
    let w := bits v 15 15 * 2 ^ 15 + bits v 11 0
    s.jSet who (34 + p) off 0 (mget (s.ethPort p).vlans i 0) w (fun s =>
      s.setEth p { s.ethPort p with vlans := mset (s.ethPort p).vlans i w })
  else s

/-! ### Block 37 (13) -/

def Aud.cfgWord (a : Aud) : Nat := b2n a.enable * 2 + b2n a.i2s
def Aud.slotWord (a : Aud) : Nat := a.slotEn % 256 * 2 ^ 16 + a.ampOf % 2 ^ 16
def Amp.word (x : Amp) : Nat := x.faults % 256 * 2 ^ 24 + b2n x.inputHigh * 2 ^ 16 + x.retries % 4 * 2 ^ 4 + x.st % 4
def Voice.word (x : Voice) : Nat := x.refused % 2 ^ 16 * 2 ^ 16 + b2n x.cur.isSome * 2 ^ 8 + x.queue.length % 16

def State.audWord (s : State) (off : Nat) : Nat :=
  if off = 0x000 then s.aud.cfgWord
  else if off = 0x004 then s.aud.slotWord
  else if off = 0x008 then s.aud.underrun
  else if 0x010 ≤ off ∧ off < 0x020 then (s.amp ((off - 0x010) / 4)).word
  else if 0x040 ≤ off ∧ off < 0x080 ∧ off % 0x10 = 8 then (s.voice ((off - 0x040) / 0x10)).word
  else 0

/-- Block 37 but for the voices' CMD_HI and STOP. -/
def State.audWrite (s : State) (who : Requester) (off v : Nat) : State :=
  if off = 0x000 then
    let y := { s.aud with enable := bit v 1, i2s := bit v 0 }
    s.jSet who 37 off 0 s.aud.cfgWord y.cfgWord (fun s => { s with aud := { s.aud with enable := y.enable, i2s := y.i2s } })
  else if off = 0x004 then
    let y := { s.aud with slotEn := bits v 23 16, ampOf := bits v 15 0 }
    s.jSet who 37 off 0 s.aud.slotWord y.slotWord (fun s => { s with aud := { s.aud with slotEn := y.slotEn, ampOf := y.ampOf } })
  else if 0x010 ≤ off ∧ off < 0x020 then
    let a := (off - 0x010) / 4
    if bit v 8 then (s.ampClear (reqAuth who) a (!(s.amp a).inputHigh)).2 else s.jSet who 37 off 0 0 0 id
  else if 0x040 ≤ off ∧ off < 0x080 ∧ off % 0x10 = 0 then
    let n := (off - 0x040) / 0x10
    s.setVoice n { s.voice n with cmdLo := v % 2 ^ 32 }
  else s

end Sys2Proof.Machine
end

