-- ==== Sys2Proof/Machine/RegsE.lean ====
section
/-! DEFINITION. Control blocks 43 to 46: power governor, steward, journal, boot (14, 15, 16, 17, 18 section Registers). -/

namespace Sys2Proof.Machine

/-! ### Block 43 (14) -/

def PlyGov.cfgWord (g : PlyGov) : Nat := g.margin % 256 * 2 ^ 16 + g.holdDown % 128 * 2 ^ 8 + g.profile % 4
def Pwr.devWord (p : Pwr) : Nat := p.marginDev % 256 * 2 ^ 16 + p.appOp % 8 * 2 ^ 12 + p.fabFloor % 8 * 2 ^ 8
def Island.ctrlWord (x : Island) : Nat := x.pin % 16 * 2 ^ 24 + x.floor % 16 * 2 ^ 16 + x.ceil % 16 * 2 ^ 12

def Island.word (x : Island) (r : Nat) : Nat :=
  if r = 0x0 then x.cur % 8 * 2 ^ 28 + x.target % 8 * 2 ^ 24 + x.st % 8 * 2 ^ 20 + x.monitor % 2 ^ 16
  else if r = 0x4 then x.ctrlWord
  else if r = 0x8 then x.readback % 2 ^ 16
  else if r = 0xC then x.losses % 2 ^ 16 * 2 ^ 16 + x.changes % 2 ^ 16
  else 0

def PlyGov.word (g : PlyGov) (r : Nat) : Nat :=
  if r = 0x0 then g.cfgWord
  else if r = 0x4 then (g.slacks.foldl min (g.slacks.headD 0)) % 2 ^ 16 * 2 ^ 16 + g.slackLast % 2 ^ 16
  else if r = 0x8 then g.rho % 2 ^ 16
  else 0

def State.pwrWord (s : State) (off : Nat) : Nat :=
  let p := s.pwr
  if off = 0x000 then b2n p.forced * 2 ^ 8 + p.state % 8
  else if off = 0x008 then ({ p.result with seq := 0 } : CmdResult).word
  else if off = 0x010 then s.pwrCap
  else if off = 0x014 then p.tdp % 128
  else if off = 0x018 then s.pwrTemp
  else if off = 0x020 then p.devWord
  else if off = 0x024 then p.tSettle % 512
  else if 0x100 ≤ off ∧ off < 0x1C0 then
    let i := (off - 0x100) / 0x20
    (s.isl i).word (off % 0x20)
  else if 0x400 ≤ off ∧ off < 0x500 then (s.ply ((off - 0x400) / 0x10)).gov.word (off % 0x10)
  else 0

/-- Whether a direct write is a danger action: raising TDP, or setting a pin or a ceiling above the island's current point (15 R359). -/
def State.dangerWrite (s : State) (b off v : Nat) : Bool :=
  if b ≠ 43 then false
  else if off = 0x014 then
    let (lo, hi, _) := tdpRange s.variant
    decide (s.pwr.tdp < clampN lo hi (bits v 6 0))
  else if 0x100 ≤ off ∧ off < 0x1C0 ∧ off % 0x20 = 4 then
    let x := s.isl ((off - 0x100) / 0x20)
    let pin := bits v 27 24
    let hi := bits v 15 12
    decide (pin ≠ x.pin ∧ pin < 8 ∧ x.cur < pin) || decide (hi ≠ x.ceil ∧ x.cur < hi)
  else false

/-- A direct write of block 43 from `old` to `new`: as a danger action it journals its readings first, and again 1 s later (15 R360). -/
def State.pwrSet (s : State) (who : Requester) (off v old new : Nat) (f : State → State) : State :=
  if s.dangerWrite 43 off v then
    match s.danger { origin := s.reqOrigin who, kind := 1, object := regObj 43 off, old := old, new := new } with
    | (true, s) => f s
    | (false, s) => s
  else s.jSet who 43 off 0 old new f

/-- PWR_ISLi_CTRL written: a floor above the ceiling is stored as the ceiling. -/
def State.islandWrite (s : State) (who : Requester) (i v : Nat) : State :=
  let x := s.isl i
  let y := { x with pin := bits v 27 24, floor := min (bits v 19 16) (bits v 15 12), ceil := bits v 15 12 }
  s.pwrSet who (0x104 + 0x20 * i) v x.ctrlWord y.ctrlWord (fun s =>
    let s := s.setIsl i { s.isl i with pin := y.pin, floor := y.floor, ceil := y.ceil }
    if i = 5 then s.appDecide else s)

/-- PWR_PLYn_CFG written. -/
def State.govWrite (s : State) (who : Requester) (p v : Nat) : State :=
  let g := (s.ply p).gov
  let y := { g with margin := bits v 23 16, holdDown := clampN 1 64 (bits v 14 8), profile := bits v 1 0 }
  s.jProj who 43 (0x400 + 0x10 * p) p g.cfgWord y.cfgWord (fun s =>
    s.setPly p { s.ply p with gov := { (s.ply p).gov with margin := y.margin, holdDown := y.holdDown, profile := y.profile } })

def State.pwrWrite (s : State) (who : Requester) (off v : Nat) : State :=
  if off = 0x004 then (if bits v 1 0 = 0 ∨ s.noSession (reqAuth who) then s else s.pwrCommand (reqAuth who) (bits v 1 0))
  else if off = 0x008 then { s with pwr := { s.pwr with result := s.pwr.result.ack v } }
  else if off = 0x014 then
    let (lo, hi, _) := tdpRange s.variant
    let t := clampN lo hi (bits v 6 0)
    s.pwrSet who off v s.pwr.tdp t (fun s => { s with pwr := { s.pwr with tdp := t } })
  else if off = 0x020 then
    let y := { s.pwr with marginDev := clampN 5 50 (bits v 23 16), appOp := bits v 14 12, fabFloor := bits v 10 8 }
    s.jSet who 43 off 0 s.pwr.devWord y.devWord (fun s =>
      ({ s with pwr := { s.pwr with marginDev := y.marginDev, appOp := y.appOp, fabFloor := y.fabFloor } } : State).appDecide)
  else if off = 0x024 then
    s.jSet who 43 off 0 s.pwr.tSettle (bits v 8 0) (fun s => { s with pwr := { s.pwr with tSettle := bits v 8 0 } })
  else if 0x100 ≤ off ∧ off < 0x1C0 ∧ off % 0x20 = 4 then
    s.islandWrite who ((off - 0x100) / 0x20) v
  else if 0x400 ≤ off ∧ off < 0x500 ∧ off % 0x10 = 0 then s.govWrite who ((off - 0x400) / 0x10) v
  else s

/-! ### Block 44 (15, 18) -/

def Stw.stateReg (w : Stw) : Nat :=
  w.trayAddr % 16 * 2 ^ 28 + w.role % 4 * 2 ^ 24 + b2n w.roleConflict * 2 ^ 20 + b2n w.addrConflict * 2 ^ 19
  + b2n w.strapInvalid * 2 ^ 18 + b2n w.masterLost * 2 ^ 17 + b2n w.session * 2 ^ 8

def Stw.trayWord (w : Stw) : Nat := w.miss % 256 * 2 ^ 8 + w.cycle % 256
def Stw.faultCfg (w : Stw) : Nat := w.reportLimit % 256 * 2 ^ 24 + w.reportWindow % 4096 * 2 ^ 12 + w.suspectClear % 4096
def Fan.cfgWord (x : Fan) : Nat := (x.ppr - 1) % 4 * 2 ^ 16 + x.minRpm % 2 ^ 16

def State.fanWord (s : State) (f r : Nat) : Nat :=
  let x := s.fan f
  if r = 0 then
    let h := s.fanHolder f
    b2n h.isSome * 2 ^ 31 + h.getD 0 % 8 * 2 ^ 16 + s.fanDuty f % 256
  else if r = 4 then x.rpm % 2 ^ 16 * 2 ^ 16 + b2n x.fault * 2 ^ 8
  else if r = 8 then x.cfgWord
  else 0

def Peer.word (p : Peer) (r : Nat) : Nat :=
  if r = 0 then p.epoch % 2 ^ 32
  else if r = 4 then p.deviceId % 2 ^ 16 * 2 ^ 16 + p.misses % 16 * 2 ^ 8 + p.state % 8
  else 0

def UnitSt.word (u : UnitSt) : Nat := u.faults % 2 ^ 16 * 2 ^ 16 + u.auth % 8 * 2 ^ 12 + u.state % 8

/-- STW_UNITi_DP: last cause, latch, reports in the window. -/
def State.dpWord (s : State) (i : Nat) : Nat :=
  let u := s.unitSt i
  let n := (u.reports.filter (fun t => decide (s.tck.time < t + s.stw.reportWindow * 60 * nsPerS))).length
  u.lastCause % 256 * 2 ^ 24 + b2n u.latch * 2 ^ 16 + n % 256

/-- The 32 bytes of a tombstone (18 R415). -/
def Tomb.bytes (t : Tomb) : List Byte :=
  leBytes 8 t.tag ++ leBytes 8 t.time ++ leBytes 4 t.epoch ++ leBytes 4 t.lenOut ++ leBytes 2 t.hank ++ leBytes 1 t.peer
  ++ leBytes 1 t.ply ++ leBytes 1 t.reason ++ [0, 0, 0]

def State.stwWord (s : State) (off : Nat) : Nat :=
  let w := s.stw
  if off = 0x000 then w.stateReg
  else if off = 0x008 then w.expiries % 2 ^ 16 * 2 ^ 16 + w.badKicks % 256 * 2 ^ 8 + b2n w.wdForced
  else if off = 0x010 then b2n w.remoteDanger
  else if 0x020 ≤ off ∧ off < 0x060 then
    let i := (off - 0x020) / 4
    w.peaks.getD i 0 % 256 * 2 ^ 8 + w.sites.getD i 0 % 256
  else if 0x100 ≤ off ∧ off < 0x140 then s.fanWord ((off - 0x100) / 0x10) (off % 0x10)
  else if off = 0x180 then w.trayWord
  else if off = 0x184 then w.crc
  else if off = 0x190 then w.disagree61 % 2 ^ 16 * 2 ^ 16 + w.disagree60 % 2 ^ 16
  else if off = 0x194 then w.staleRelay
  else if off = 0x198 then w.tombHead % 128
  else if off = 0x19C then w.faultCfg
  else if off = 0x1A0 then w.drainLimit % 1024
  else if 0x210 ≤ off ∧ off < 0x300 then (mget w.peers ((off - 0x200) / 0x10) {}).word (off % 0x10)
  else if 0x1000 ≤ off ∧ off < 0x1300 then (s.unitSt ((off - 0x1000) / 4)).word
  else if 0x1400 ≤ off ∧ off < 0x1700 then s.dpWord ((off - 0x1400) / 4)
  else if 0x3000 ≤ off ∧ off < 0x3800 then
    (match mget? w.tombs ((off - 0x3000) / 32) with | some t => leAt t.bytes (off % 32) 4 | none => 0)
  else 0

/-- STW_POLICY written by the console; setting REMOTE_DANGER is a danger action (15 R359). -/
def State.policyWrite (s : State) (v : Nat) : State :=
  let e : JEntry := { origin := 2, kind := 1, object := regObj 44 0x010, old := b2n s.stw.remoteDanger, new := b2n (bit v 0) }
  let r := if bit v 0 then s.danger e else s.change [e]
  if r.1 then { r.2 with stw := { r.2.stw with remoteDanger := bit v 0 } } else r.2

/-- Block 44 but for WDOG and WDOG_RELEASE. -/
def State.stwWrite (s : State) (who : Requester) (off v : Nat) : State :=
  let w := s.stw
  if off = 0x010 then s.policyWrite v
  else if 0x100 ≤ off ∧ off < 0x140 ∧ off % 0x10 = 8 then
    let f := (off - 0x100) / 0x10
    let x := s.fan f
    let y := { x with ppr := bits v 17 16 + 1, minRpm := bits v 15 0 }
    s.jSet who 44 off 0 x.cfgWord y.cfgWord (fun s => s.setFan f { s.fan f with ppr := y.ppr, minRpm := y.minRpm })
  else if off = 0x180 then
    let y := { w with miss := bits v 15 8, cycle := bits v 7 0 }
    s.jSet who 44 off 0 w.trayWord y.trayWord (fun s => { s with stw := { s.stw with miss := y.miss, cycle := y.cycle } })
  else if off = 0x19C then
    let y := { w with reportLimit := bits v 31 24, reportWindow := bits v 23 12, suspectClear := bits v 11 0 }
    s.jSet who 44 off 0 w.faultCfg y.faultCfg (fun s => { s with stw := { s.stw with
      reportLimit := y.reportLimit, reportWindow := y.reportWindow, suspectClear := y.suspectClear } })
  else if off = 0x1A0 then
    s.jSet who 44 off 0 w.drainLimit (bits v 9 0) (fun s => { s with stw := { s.stw with drainLimit := bits v 9 0 } })
  else s

/-- A read of STW_SITEs starts its peak anew. -/
def State.siteRead (s : State) (i : Nat) : State :=
  { s with stw := { s.stw with peaks := s.stw.peaks.set i (s.stw.sites.getD i 0) } }

/-! ### Block 45 (16) -/

/-- The first 60 bytes of an entry, and all 64 with CHECK (R374). -/
def JEntry.body (e : JEntry) : List Byte :=
  leBytes 8 e.seq ++ leBytes 8 e.time
  ++ [BitVec.ofNat 8 e.origin, BitVec.ofNat 8 e.kind, BitVec.ofNat 8 e.flags, BitVec.ofNat 8 e.code]
  ++ leBytes 2 e.hank ++ leBytes 2 e.aux ++ leBytes 4 e.object ++ leBytes 8 e.old ++ leBytes 8 e.new ++ leBytes 16 e.data

def JEntry.bytes (e : JEntry) : List Byte := e.body ++ leBytes 4 (crc32 e.body)

/-- The entry in a ring slot, or in a reserve slot. -/
def Lea.ringAt (l : Lea) (k : Nat) : Option JEntry := l.ring[(k + 4096 - l.ringSlot % 4096) % 4096]?
def Lea.reserveAt (l : Lea) (k : Nat) : Option JEntry := if k = 255 then l.overflow else mget? l.reserve k

/-- The entry mapped at an offset of block 45. -/
def Lea.slotAt (l : Lea) (off : Nat) : Option JEntry :=
  if off < 0x50000 then l.ringAt ((off - 0x10000) / 64) else l.reserveAt ((off - 0x50000) / 64)

/-- Whether an offset lies in the ring or the reserve. -/
def leaSlot (off : Nat) : Bool := decide (0x10000 ≤ off ∧ off < 0x54000)

def Lea.cfgWord (l : Lea) : Nat := l.warnPct % 256 * 2 ^ 8 + l.sources % 16

def State.leaWord (s : State) (off : Nat) : Nat :=
  let l := s.lea
  if off = 0x000 then l.head % 2 ^ 32
  else if off = 0x004 then l.head / 2 ^ 32 % 2 ^ 32
  else if off = 0x008 then l.ack % 2 ^ 32
  else if off = 0x00C then l.ack / 2 ^ 32 % 2 ^ 32
  else if off = 0x010 then
    l.ring.length * 2 ^ 16 + (l.reserve.length + l.overflow.toList.length) * 2 ^ 4 + b2n l.epochUnsaved * 8
    + b2n s.ringFull * 4 + b2n l.flushing * 2 + b2n l.overflow.isSome
  else if off = 0x014 then l.ringSlot % 4096 * 2 ^ 16 + (l.ringSlot + l.ring.length) % 4096
  else if off = 0x018 then l.lost
  else if off = 0x01C then l.unrecorded
  else if off = 0x020 then l.refused
  else if off = 0x024 then l.badAcks
  else if off = 0x028 then l.cfgWord
  else if off = 0x030 then
    s.nv.flash.cur.entries.length % 2 ^ 16 * 2 ^ 16 + b2n s.nv.flash.idle.erased * 2 + b2n l.flushFailed
  else if leaSlot off then (match l.slotAt off with | some e => leAt e.bytes (off % 64) 4 | none => 0)
  else 0

def State.leaWrite (s : State) (who : Requester) (off v : Nat) : State :=
  if off = 0x008 then { s with lea := { s.lea with ackLo := v % 2 ^ 32 } }
  else if off = 0x00C then s.jAck (ackBit who) (v % 2 ^ 32 * 2 ^ 32 + s.lea.ackLo)
  else if off = 0x028 then
    let y := { s.lea with warnPct := bits v 15 8, sources := bits v 3 0 }
    s.jSet who 45 off 0 s.lea.cfgWord y.cfgWord (fun s => { s with lea := { s.lea with warnPct := y.warnPct, sources := y.sources } })
  else if off = 0x02C then (if bit v 0 then s.startFlush else s)
  else s

/-! ### Block 46 (17) -/

def SlotState.code : SlotState → Nat
  | .empty => 0 | .valid => 1 | .trial => 2 | .active => 3 | .bad => 4

def ownersWord (l : List OwnerSlot) : Nat :=
  (List.range 4).foldl (fun a i =>
    let o := l.getD i {}
    a + b2n o.enrolled * 2 ^ i + b2n o.revoked * 2 ^ (4 + i)) 0

def State.partWord (s : State) (p r : Nat) : Nat :=
  let d := s.dirEntry p
  if r = 0x0 then mget s.boot.versions p 0 % 2 ^ 32
  else if r = 0x4 then
    (if p ≤ 6 then s.counter p % 128 * 2 ^ 24 else 0) + b2n d.active * 2 ^ 16 + d.stA.code * 2 ^ 12 + d.stB.code * 2 ^ 8 + d.tries % 4
  else if r = 0x8 then
    (if p ≤ 6 ∧ d.slot (!d.active) ≠ .empty then partVersion p (s.slotImage p (!d.active)) % 2 ^ 32 else 0)
  else if r = 0xC then (match mget? s.boot.trials p with | some t => ceilDiv (t - s.tck.time) nsPerS % 2 ^ 16 | none => 0)
  else 0

def State.bootWord (s : State) (off : Nat) : Nat :=
  let b := s.boot
  if off = 0x000 then b.state % 8
  else if off = 0x008 then b.src % 2 ^ 32
  else if off = 0x00C then b.src / 2 ^ 32 % 2 ^ 16
  else if off = 0x010 then b.len
  else if off = 0x014 then b.result.word
  else if off = 0x018 then ownersWord s.nv.otp.owners
  else if 0x110 ≤ off ∧ off < 0x190 then s.partWord ((off - 0x100) / 0x10) (off % 0x10)
  else 0

/-- A certificate or statement in hank 0's memory: none where it cannot be read. -/
def State.certSource (s : State) (n : Nat) : Option (List Byte) × State :=
  let r := s.engRead 0 158 s.boot.src n
  if r.1 = .ok ∧ s.boot.len = n then (some r.2.2.1, r.2.2.2) else (none, r.2.2.2)

/-- ENROLL_OWNER and REVOKE_OWNER through BOOT_CMD: key, serial, signature; key ID, serial, signer, signature (log 57). -/
def State.bootKeyCmd (s : State) (a : Authority) (op slot : Nat) : State :=
  if a ≠ .console ∨ s.noSession a then s
  else match s.certSource (if op = 5 then 200 else 208) with
  | (none, s) => s.bootDone a 0x04
  | (some b, s) =>
    if op = 5 then s.enrollCmd a (beAt b 0 96) (leAt b 96 8) (beAt b 104 48) (beAt b 152 48)
    else s.revokeCmd a slot (leAt b 0 8) (leAt b 8 8) (beAt b 16 96) (beAt b 112 48) (beAt b 160 48)

/-- BOOT_CMD written: its result stands in BOOT_RESULT, and no reply is sent. -/
def State.bootCmd (s : State) (a : Authority) (v : Nat) : State :=
  let part := bits v 19 16
  let s := match bits v 3 0 with
    | 1 => s.stageCmd a part
    | 2 => s.activateCmd a part
    | 3 => s.commitCmd a part
    | 4 => s.revertCmd a part
    | 5 => s.bootKeyCmd a 5 0
    | 6 => s.bootKeyCmd a 6 (bits v 9 8)
    | _ => s
  { s with out := s.out.filter (fun o => match o with | .mgmt _ _ _ _ => false | _ => true) }

def State.bootWrite (s : State) (who : Requester) (off v : Nat) : State :=
  if off = 0x004 then s.bootCmd (reqAuth who) v
  else if off = 0x008 then { s with boot := { s.boot with src := addrLo s.boot.src 0 v } }
  else if off = 0x00C then { s with boot := { s.boot with src := addrHi s.boot.src v } }
  else if off = 0x010 then { s with boot := { s.boot with len := bits v 24 0 } }
  else if off = 0x014 then { s with boot := { s.boot with result := s.boot.result.ack v } }
  else s

end Sys2Proof.Machine
end

