-- ==== Sys2Proof/Machine/Registers.lean ====
section
/-! DEFINITION. Access to the unit control blocks: who may, what a read and a write do, and the commands that are single register
accesses (00 R2 to R6; 02 R54; 03 R60; 04 R88, R92; 05 R143). -/

namespace Sys2Proof.Machine

/-! ### Who may access a register -/

/-- What becomes of an access: served, ignored (a read gives zero), or an access error. -/
inductive Perm
  | ok | ignored | denied
  deriving DecidableEq, Repr

/-- Registers of the bank of the requester's own hank. -/
def banked (b off : Nat) : Bool :=
  (b == 2 && decide (0x400 ≤ off ∧ off < 0x420))
  || (b == 3 && decide ((0x400 ≤ off ∧ off < 0x440 ∧ off ≠ 0x414) ∨ (0x1000 ≤ off ∧ off < 0x1800)))
  || (b == 22 && decide (0x400 ≤ off ∧ off < 0x440))
  || (b == 26 && decide (0x400 ≤ off ∧ off < 0x600))

/-- Whether a tenant reads a register of block `b` (06, 10, 12 and 16 section Registers; 12 R299, 16 R377). -/
def State.tenantReads (s : State) (h b off : Nat) : Bool :=
  if b = 23 ∧ 0x10000 ≤ off then (match s.cam? ((off - 0x10000) / 0x80) with | some r => r.subs.contains h | none => true)
  else if 28 ≤ b ∧ b < 32 then (s.chan (16 * (b - 28) + off / 0x100 % 16)).hank == h
  else if b = 32 ∧ 0x1000 ≤ off ∧ off < 0x3000 then s.eventOwner ((off - 0x1000) / 8) == h
  else if b = 45 then !leaSlot off
  else true

/-- Whether a tenant's write is judged by the register itself or taken. -/
def State.tenantWrites (s : State) (h b off : Nat) : Bool :=
  banked b off
  || (b == 32 && (off == 0 || (decide (0x1000 ≤ off ∧ off < 0x3000) && off % 8 == 0 && s.eventOwner ((off - 0x1000) / 8) == h)))
  || (decide (28 ≤ b ∧ b < 32) && off % 0x100 == 0x14 && decide (off < 0x1000))

/-- The permission of an access (00 R2; log 41). -/
def State.regPerm (s : State) (who : Requester) (b off : Nat) (write : Bool) : Perm :=
  let h := s.reqHank who
  if !blockPresent s.variant b then .ignored
  else if b = 44 ∧ off = 0x010 ∧ write then (if who = .console then .ok else .denied)
  else if h = 0 then .ok
  else if write then
    (if s.tenantWrites h b off then .ok
     else if (14 ≤ b ∧ b < 22) ∨ (b = 3 ∧ off = 0x414) then .ignored
     else .denied)
  else if s.tenantReads h b off then .ok
  else .denied

/-! ### Reads -/

/-- The word a register reads as, without the effects of the read. -/
def State.regWord (s : State) (who : Requester) (b off : Nat) : Nat :=
  if b = 0 then s.pinWord off
  else if b = 1 then s.wrpWord off
  else if b = 2 then s.tckWord who off
  else if b = 3 then s.hnkWord who off
  else if b = 4 then s.sknWord off
  else if b = 5 then s.fabWord off
  else if b < 10 then (s.dramIf (b - 6)).word off
  else if 14 ≤ b ∧ b < 22 then s.whlWord (b - 14) off
  else if b = 22 then s.qntWord who off
  else if b = 23 then s.crdWord off
  else if 24 ≤ b ∧ b < 26 then s.engineWord (b - 24) off
  else if b = 26 then s.backWord who off
  else if b = 27 then s.tokWord off
  else if 28 ≤ b ∧ b < 32 then (if off < 0x1000 then (s.chan (16 * (b - 28) + off / 0x100)).word (off % 0x100) else 0)
  else if b = 32 then s.evtWord off
  else if b = 33 then s.pciWord off
  else if 34 ≤ b ∧ b < 37 then s.ethWord (b - 34) off
  else if b = 37 then s.audWord off
  else if b = 43 then s.pwrWord off
  else if b = 44 then s.stwWord off
  else if b = 45 then s.leaWord off
  else if b = 46 then s.bootWord off
  else 0

/-- Low words whose read latches the high half, which stands in the next word (03 R60). -/
def latching (b off : Nat) : Bool :=
  (b == 2 && (off == 0 || (decide (0x100 ≤ off ∧ off < 0x300) && (off - 0x100) % 0x20 == 0)))
  || (decide (14 ≤ b ∧ b < 22) && off == 0x008)
  || (decide (24 ≤ b ∧ b < 26) && off == 0x008)
  || (b == 27 && off == 0x00C)
  || (b == 45 && off == 0)

/-- Low words of error addresses, whose read rearms the latch (04 R92; 05 R143, R145). -/
def rearming (b off : Nat) : Bool :=
  (b == 3 && off == 0x420) || (b == 4 && off == 0x008) || (b == 5 && off == 0x004) || (decide (6 ≤ b ∧ b < 10) && off == 0x018)

/-- The key of a latched high half. -/
def latchKey (who : Requester) (b off : Nat) : Nat × Nat × Nat := (reqId who, b, off)

/-- A low read latches the high half for its requester. -/
def State.latch (s : State) (who : Requester) (b off : Nat) : State :=
  let k := latchKey who b (off + 4)
  { s with latches := s.latches.filter (fun e => e.1 != k) ++ [(k, s.regWord who b (off + 4))] }

/-- An address latch takes the next error again. -/
def State.rearm (s : State) (who : Requester) (b : Nat) : State :=
  if b = 3 then
    let h := s.hnkBank who
    s.setHank h { s.hank h with errHeld := false }
  else if b = 4 then { s with fab := { s.fab with sknErr := { s.fab.sknErr with held := false } } }
  else if b = 5 then { s with fab := { s.fab with decodeLatch := { s.fab.decodeLatch with held := false } } }
  else s.setDram (b - 6) { s.dramIf (b - 6) with err := { (s.dramIf (b - 6)).err with held := false } }

/-- The class of an allocation port (04 section Registers). -/
def poolPort (b off : Nat) : Bool := b == 3 && decide (0x1000 ≤ off ∧ off < 0x1800) && off % 0x10 != 0xC

/-- A served read of the word at a word-aligned offset. -/
def State.readWord (s : State) (who : Requester) (b off : Nat) : State :=
  let w := s.regWord who b off
  if latching b off then (s.latch who b off).servedWord w
  else if rearming b off then (s.rearm who b).servedWord w
  else if poolPort b off then
    let r := s.poolAlloc1 who ((off - 0x1000) / 0x80) ((off - 0x1000) / 0x10 % 8) (off % 0x10 / 4)
    r.2.servedWord r.1
  else if 34 ≤ b ∧ b < 37 ∧ off = 0x044 then s.popStamp (b - 34)
  else if b = 44 ∧ 0x020 ≤ off ∧ off < 0x060 then (s.siteRead ((off - 0x020) / 4)).servedWord w
  else if b = 45 ∧ leaSlot off ∧ (s.lea.slotAt off).isNone then
    let r := s.draw
    r.2.servedWord (r.1 % 2 ^ 32)
  else match s.latches.find? (fun e => e.1 == latchKey who b off) with
    | some e => ({ s with latches := s.latches.filter (fun x => x.1 != latchKey who b off) } : State).servedWord e.2
    | none => s.servedWord w

/-- A read of the register word at `off`. -/
def State.regRead (s : State) (who : Requester) (b off : Nat) : State :=
  s.asHank who (fun s => match s.regPerm who b off false with
  | .ok => s.readWord who b off
  | .ignored => s.servedWord 0
  | .denied =>
    if b = 32 then (s.accessError (s.reqHank who) (regAddr b off) 5).emit (.answer 1 (List.replicate 4 0))
    else s.denyReg who b off 4)

/-! ### Writes -/

/-- The effect of a served write on registers that do not answer for themselves. -/
def State.plainWrite (s : State) (who : Requester) (b off v : Nat) : State :=
  if b = 0 then s.pinWrite who off v
  else if b = 1 then s.wrpWrite who off v
  else if b = 2 then s.tckWrite who off v
  else if b = 3 then s.hnkWrite who off v
  else if b = 4 then s.sknWrite who off v
  else if b = 5 then s.fabWrite who off v
  else if b < 10 then s.dramWrite who (b - 6) off v
  else if 14 ≤ b ∧ b < 22 then s.whlRegWrite who (b - 14) off v
  else if b = 22 then s.qntWrite who off v
  else if b = 23 then s.crdWrite who off v
  else if b = 26 then s.backWrite who off v
  else if 28 ≤ b ∧ b < 32 then (if off < 0x1000 then s.bobWrite who (16 * (b - 28) + off / 0x100) (off % 0x100) v else s)
  else if b = 32 then s.evtWrite who off v
  else if b = 33 then s.pciWrite who off v
  else if 34 ≤ b ∧ b < 37 then s.ethWrite who (b - 34) off v
  else if b = 37 then s.audWrite who off v
  else if b = 43 then s.pwrWrite who off v
  else if b = 44 then s.stwWrite who off v
  else if b = 45 then s.leaWrite who off v
  else if b = 46 then s.bootWrite who off v
  else s

/-- A served write; registers with rules of their own answer for themselves. -/
def State.writeWord (s : State) (who : Requester) (b off v : Nat) : State :=
  if b = 2 ∧ off = 0x02C then s.phaseAdj who v
  else if b = 22 ∧ 0x10000 ≤ off ∧ off < 0x20000 ∧ off % 0x10 = 4 then
    s.writeCtxCfg who ((off - 0x10000) / 0x1000) ((off - 0x10000) / 0x10 % 256) v
  else if 28 ≤ b ∧ b < 32 ∧ off < 0x1000 ∧ off % 0x100 = 0x14 then s.chanCommand who (16 * (b - 28) + off / 0x100) v
  else if b = 32 ∧ off = 0 then s.evtPulseWrite who v
  else if b = 37 ∧ 0x040 ≤ off ∧ off < 0x080 ∧ off % 0x10 = 4 then s.voiceCmd who ((off - 0x040) / 0x10) v
  else if b = 37 ∧ 0x040 ≤ off ∧ off < 0x080 ∧ off % 0x10 = 0xC then s.voiceHalt who ((off - 0x040) / 0x10) v
  else if b = 44 ∧ off = 0x004 then s.wdKick who v
  else if b = 44 ∧ off = 0x00C then
    (if bit v 0 then
      s.wdRelease who s.stw.sites ((List.range 6).filter (fun i => decide ((s.isl i).st ≠ 3)))
     else s.served)
  else (s.plainWrite who b off v).served

/-- A write of the register word at `off`. -/
def State.regWrite (s : State) (who : Requester) (b off v : Nat) : State :=
  s.asHank who (fun s => match s.regPerm who b off true with
  | .ok => if s.dangerWrite b off v && !s.dangerOk (reqAuth who) then s.denyReg who b off 0 else s.writeWord who b off v
  | .ignored => s.served
  | .denied =>
    if b = 32 then (s.accessError (s.reqHank who) (regAddr b off) 5).emit (.answer 1 [])
    else if b = 44 ∧ off = 0x004 then s.wdKick who v
    else s.denyReg who b off 0)

/-! ### The commands -/

/-- PEAK_WRITE: PIN_JOBS. -/
def execPeakWrite (who : Requester) (value : Word) (s : State) : Host.Outcome State Fault Refusal :=
  .next (({ s with out := [] } : State).regWrite who 0 0x048 value.toNat)

/-- JOB_RESERVE_WRITE: PIN_JOB_RESERVE. -/
def execJobReserveWrite (who : Requester) (value : Word) (s : State) : Host.Outcome State Fault Refusal :=
  .next (({ s with out := [] } : State).regWrite who 0 0x04C value.toNat)

/-- DRAIN_TICKS_WRITE: WRP_PLYn_DRAIN. -/
def execDrainTicksWrite (who : Requester) (ply : Nat) (value : Word) (s : State) : Host.Outcome State Fault Refusal :=
  .next (({ s with out := [] } : State).regWrite who 1 (0x108 + 0x20 * (ply % 16)) value.toNat)

/-- LATCHING_LOW_READ: the low word of a 64-bit counter. -/
def execLatchingLowRead (who : Requester) (block off : Nat) (s : State) : Host.Outcome State Fault Refusal :=
  let s := { s with out := [] }
  .next (if latching block off then s.regRead who block off else s)

/-- ERR_LATCH_REARM_READ: the low word of an error address. -/
def execErrLatchRearmRead (who : Requester) (block off : Nat) (s : State) : Host.Outcome State Fault Refusal :=
  let s := { s with out := [] }
  .next (if rearming block off then s.regRead who block off else s)

/-- LEA_ACK_HI written: the pair of words commits (16 R378). -/
def execLeaAckWrite (who : Requester) (value : Word) (s : State) : Host.Outcome State Fault Refusal :=
  .next (({ s with out := [] } : State).regWrite who 45 0x00C value.toNat)

/-- LEA_CMD.FLUSH written (16 R380). -/
def execFlush (who : Requester) (s : State) : Host.Outcome State Fault Refusal :=
  .next (({ s with out := [] } : State).regWrite who 45 0x02C 1)

end Sys2Proof.Machine
end

