-- ==== Sys2Proof/Machine/Bus.lean ====
section
/-! DEFINITION. Requests over the whole memory map: memory, local memories of the cores, registers, core control windows, and what
decodes to nothing (01 R18 to R20; 04 R91; 05 R129; 06 R153 and section Core registers). -/

namespace Sys2Proof.Machine

/-! ### Answers of registers -/

def codeStatus (k : Nat) : Status := if k = 0 then .ok else if k = 1 then .access else if k = 2 then .decode else if k = 3 then .data else .poison

/-- The answer a register access just gave, taken back from what the block sends out. -/
def State.popAnswer (s : State) : Status × List Byte × State :=
  match s.out.getLast? with
  | some (.answer st d) => (codeStatus st, d, { s with out := s.out.dropLast })
  | _ => (.ok, [], s)

/-- Bits of a register that a write of 1 clears. -/
def clearBits (b off : Nat) : Nat :=
  if (b = 1 ∧ off = 0x050) ∨ (b = 3 ∧ off = 0x410) ∨ (b = 22 ∧ off = 0x424) ∨ (b = 43 ∧ off = 0x008) ∨ (b = 46 ∧ off = 0x014) then 2 ^ 30
  else if b = 26 ∧ off = 0x428 then 2 ^ 31
  else if b = 2 ∧ 0x100 ≤ off ∧ off < 0x300 ∧ off % 0x20 = 8 then 1
  else 0

/-- The word that a write of some of its bytes gives: the other bytes keep what they hold, and clear nothing (log 62). -/
def mergeWord (old clear k : Nat) (bs : List Byte) : Nat :=
  if bs.length = 4 then leNat bs
  else leNat (overlay (leBytes 4 (old - (old &&& clear))) k bs)

/-- Word offsets of an access of `n` bytes at `off`. -/
def wordsOf (off n : Nat) : List Nat :=
  (List.range ((off + n + 3) / 4 - off / 4)).map (fun i => 4 * (off / 4 + i))

/-- The first status that is not ok. -/
def Status.worst (a b : Status) : Status := if a = .ok then b else a

/-- A read of register bytes, word by word. -/
def State.regBytes (s : State) (who : Requester) (b off n : Nat) : Status × List Byte × State :=
  let r := (wordsOf off n).foldl (fun (acc : Status × List Byte × State) w =>
    let a := (acc.2.2.regRead who b w).popAnswer
    (acc.1.worst a.1, acc.2.1 ++ slice a.2.1 0 4, a.2.2)) (.ok, [], s)
  (r.1, slice r.2.1 (off % 4) n, r.2.2)

/-- The bytes of a write that fall into the word at `w`, and where in it. -/
def wordPart (off w : Nat) (bs : List Byte) : Nat × List Byte :=
  if w < off then (off - w, bs.take (4 - (off - w))) else (0, (bs.drop (w - off)).take 4)

/-- The check that a write which carries no byte meets at the register it is aimed at: its status, and what a refusal does. -/
def State.regProbe (s : State) (who : Requester) (b off : Nat) : Status × State :=
  let r := (s.regWrite who b (off / 4 * 4) (s.regWord who b (off / 4 * 4))).popAnswer
  (r.1, if r.1 = .ok then s else r.2.2)

/-- A write of register bytes, word by word. -/
def State.regPut (s : State) (who : Requester) (b off : Nat) (bs : List Byte) : Status × State :=
  if bs = [] then s.regProbe who b off
  else (wordsOf off bs.length).foldl (fun (acc : Status × State) w =>
    let p := wordPart off w bs
    let v := mergeWord (acc.2.regWord who b w) (clearBits b w) p.1 p.2
    let a := (acc.2.regWrite who b w v).popAnswer
    (acc.1.worst a.1, a.2.2)) (.ok, s)

/-! ### Core control windows (06) -/

/-- A read of a core's control window. -/
def State.spdBytes (s : State) (who : Requester) (a c off n : Nat) : Status × List Byte × State :=
  let h := s.reqHank who
  let k := s.core c
  if h = 0 ∨ (k.hank = h ∧ k.state ≠ 0) then
    (.ok, slice ((wordsOf off n).flatMap (fun w => leBytes 4 (k.ctlWord w))) (off % 4) n, s)
  else (.access, List.replicate n 0, s.accessError h a 1)

/-- A write of it, which only hank 0 may make. -/
def State.spdPut (s : State) (who : Requester) (a c off : Nat) (bs : List Byte) : Status × State :=
  let h := s.reqHank who
  if h = 0 then
    (.ok, (wordsOf off bs.length).foldl (fun s w =>
      let p := wordPart off w bs
      s.spdWrite who c w (mergeWord ((s.core c).ctlWord w) 0 p.1 p.2)) s)
  else (.access, s.accessError h a 1)

/-! ### Requests -/

/-- A read of `n` bytes inside one 64-byte block. -/
def State.read1 (s : State) (who : Requester) (a n : Nat) : Status × List Byte × State :=
  let h := s.reqHank who
  let zeros := List.replicate n (0 : Byte)
  match s.target a with
  | .skein _ | .dram _ => s.memRead h (reqId who) a n
  | .coreMem c off =>
    if 0x80000 ≤ off then s.spdBytes who a c (off - 0x80000) n
    else if (s.core c).reaches h off then (.ok, (s.core c).wbytes off n, s)
    else (.access, zeros, s.accessError h a 1)
  | .block b off => s.regBytes who b off n
  | .rom => (.ok, (List.range n).map (fun k => Config.rom (a + k)), s)
  | .absent => (.ok, zeros, s)
  | .none => (.decode, zeros, s.decodeError (reqId who) a)

/-- A write inside one 64-byte block. -/
def State.write1 (s : State) (who : Requester) (a : Nat) (bs : List Byte) : Status × State :=
  let h := s.reqHank who
  match s.target a with
  | .skein _ | .dram _ => s.memWrite h (reqId who) a bs
  | .coreMem c off =>
    if 0x80000 ≤ off then s.spdPut who a c (off - 0x80000) bs
    else if (s.core c).reaches h off then (.ok, s.setCore c ((s.core c).wput off bs))
    else (.access, s.accessError h a 1)
  | .block b off => s.regPut who b off bs
  | .rom | .absent => (.ok, s)
  | .none => (.decode, s.decodeError (reqId who) a)

/-- A read block by block, up to the first that fails: status, failing address, bytes. -/
def State.busRead (s : State) (who : Requester) (a n : Nat) : Status × Nat × List Byte × State :=
  (blocksOf a n).foldl (fun (acc : Status × Nat × List Byte × State) p =>
    match acc with
    | (.ok, x, bs, s) =>
      let r := s.read1 who p.1 p.2
      (r.1, if r.1 = .ok then x else p.1, bs ++ r.2.1, r.2.2)
    | r => r) (.ok, 0, [], s)

/-- A write block by block, up to the first that fails. -/
def State.busWrite (s : State) (who : Requester) (a : Nat) (bs : List Byte) : Status × Nat × State :=
  (blocksOf a bs.length).foldl (fun (acc : Status × Nat × State) p =>
    match acc with
    | (.ok, x, s) =>
      let r := s.write1 who p.1 ((bs.drop (p.1 - a)).take p.2)
      (r.1, if r.1 = .ok then x else p.1, r.2)
    | r => r) (.ok, 0, s)

/-! ### Writes of some bytes -/

/-- The bytes from `a` on whose flag is set, as runs of neighbours: each run's address and its bytes. -/
def runsOf : Nat → List (Bool × Byte) → List (Nat × List Byte)
  | _, [] => []
  | a, (false, _) :: r => runsOf (a + 1) r
  | a, (true, b) :: r =>
    match runsOf (a + 1) r with
    | [] => [(a, [b])]
    | (x, bs) :: t => if x = a + 1 then (a, b :: bs) :: t else (a, [b]) :: (x, bs) :: t

/-- The requests of a write of the flagged bytes of [a, …), block by block; one that carries no byte is checked like any other. -/
def runRequests (a : Nat) (bs : List (Bool × Byte)) : List (Nat × List Byte) :=
  (blocksOf a bs.length).flatMap (fun p =>
    match runsOf p.1 ((bs.drop (p.1 - a)).take p.2) with
    | [] => [(p.1, [])]
    | rs => rs)

/-- One such request; one without a byte writes nothing. -/
def State.writeRun (s : State) (who : Requester) (p : Nat × List Byte) : Status × State :=
  let r := s.write1 who p.1 p.2
  (r.1, if r.1 = .ok ∧ p.2 = [] then s else r.2)

/-- A write of the flagged bytes that is made whole or not at all: where a request fails, `s` takes the effects of its failure alone (06
R156). -/
def State.busWriteRuns (s : State) (who : Requester) (a : Nat) (bs : List (Bool × Byte)) : Status × State :=
  (runRequests a bs).foldl (fun (acc : Status × State) p =>
    match acc with
    | (.ok, t) =>
      let r := t.writeRun who p
      if r.1 = .ok then r else (r.1, (s.writeRun who p).2)
    | r => r) (.ok, s)

end Sys2Proof.Machine
end

