-- ==== Sys2Proof/Machine/Bobbin.lean ====
section
/-! DEFINITION. Bobbin channels: programs, instructions, errors, stops, and the events they use (12 R281 to R299). -/

namespace Sys2Proof.Machine

/-! ### Accesses -/

/-- Cause of a failed access: ACCESS or POISON. -/
def chanCause : Status → Nat
  | .access | .decode => 2
  | _ => 3

def State.chanRead (s : State) (n a k : Nat) : Status × Nat × List Byte × State :=
  let r := s.busRead (.bobbin n) a k
  (r.1, r.2.1, r.2.2.1, if r.1 = .ok then r.2.2.2.chanMeter n a k else r.2.2.2)

def State.chanWrite (s : State) (n a : Nat) (bs : List Byte) : Status × Nat × State :=
  let r := s.busWrite (.bobbin n) a bs
  (r.1, r.2.1, if r.1 = .ok then r.2.2.chanMeter n a bs.length else r.2.2)

/-! ### Instructions (R281 to R289) -/

/-- A channel instruction. -/
inductive BobIns
  | move (drain sc dc : Bool) (len src dst : Nat)
  | loop (level count target : Nat) (ss ds : Int)
  | wait (e : Nat)
  | pace (e high low take : Nat)
  | signal (e : Nat)
  | finish
  | bad
  deriving DecidableEq, Repr

/-- An instruction's two words at index `pc`, with the checks of R282. -/
def bobDecode (pc w0 w1 : Nat) : BobIns :=
  match bits w0 63 60 with
  | 1 => if bits w0 56 53 = 0 then
      .move (bit w0 59) (bit w0 58) (bit w0 57) (bits w0 52 32) (bits w0 31 0 + bits w1 63 48 * 2 ^ 32) (bits w1 47 0) else .bad
  | 2 =>
    let t := bits w0 11 0
    if bits w0 58 48 = 0 ∧ bits w0 31 12 = 0 ∧ t ≤ pc then
      .loop (bits w0 59 59) (bits w0 47 32 + 1) t (sx 32 (bits w1 63 32)) (sx 32 (bits w1 31 0)) else .bad
  | 3 => if bits w0 59 10 = 0 ∧ w1 = 0 then .wait (bits w0 9 0) else .bad
  | 4 =>
    let hi := bits w1 47 32
    let lo := bits w1 31 16
    let tk := bits w1 15 0
    if bits w0 59 10 = 0 ∧ bits w1 63 48 = 0 ∧ lo < hi ∧ tk ≤ hi ∧ 1 ≤ tk ∧ tk ≤ lo + 1 then .pace (bits w0 9 0) hi lo tk else .bad
  | 5 => if bits w0 59 10 = 0 ∧ w1 = 0 then .signal (bits w0 9 0) else .bad
  | 6 => if bits w0 59 0 = 0 ∧ w1 = 0 then .finish else .bad
  | _ => .bad

/-- What the channel's program holds at its PC: the instruction, or that it cannot be fetched from the address given. -/
def State.bobFetch (s : State) (n : Nat) : (Option BobIns × Nat) × State :=
  let c := s.chan n
  if c.progLen ≤ c.pc then ((some .bad, 0), s)
  else
    match s.chanRead n (c.prog + 16 * c.pc) 16 with
    | (.ok, _, b, s) => ((some (bobDecode c.pc (leAt b 0 8) (leAt b 8 8)), 0), s)
    | (_, x, _, s) => ((none, x), s)

/-- Whether a channel may issue its next instruction. -/
def Chan.ready (c : Chan) : Bool := c.state == 1 && c.bad.isNone && !c.halting

/-- The channel executes the instruction its program holds when it is the commanded one; an instruction that cannot be fetched or
read halts it. -/
def State.bobRun (s : State) (n : Nat) (f : State → BobIns → Option State) : State :=
  if (s.chan n).ready then
    match s.bobFetch n with
    | ((none, x), t) => t.chanFail n 5 (some (false, x))
    | ((some .bad, _), t) => t.chanFail n 4 none
    | ((some i, _), t) => (f t i).getD s
  else s

/-- The program counter moves on. -/
def State.bobNext (s : State) (n : Nat) : State := s.setChan n { s.chan n with pc := (s.chan n).pc + 1 }

/-! ### MOVE (R283, R289, R291, R293) -/

/-- The 64 bytes an address of memory or of a core's memories holds; `b` elsewhere. -/
def State.heldBlock (s : State) (a : Nat) (b : List Byte) : List Byte :=
  match s.target a with
  | .skein _ | .dram _ => if s.isWritten a then s.bytesAt a 64 else List.replicate 64 0
  | .coreMem c off => if off < 0x50000 then (s.core c).wbytes off 64 else b
  | _ => b

/-- What a MOVE whose ranges overlap leaves in a destination block: the bytes it read, or those the block held (R283; log 167). -/
def State.moveData (s : State) (n src dst a : Nat) (b : List Byte) : List Byte × State :=
  let len := (s.chan n).moveLen
  if src < dst + len ∧ dst < src + len then
    let r := s.draw
    (if r.1 % 2 = 0 then b else s.heldBlock a b, r.2)
  else (b, s)

/-- One block of a MOVE; the failing access when there is one. -/
def State.moveBlock (s : State) (n src dst off : Nat) : Option BadAccess × State :=
  match s.chanRead n (src + off) 64 with
  | (.ok, _, b, s) =>
    let (b, s) := s.moveData n src dst (dst + off) b
    (match s.chanWrite n (dst + off) b with
     | (.ok, _, s) => (none, s)
     | (st, _, s) => (some { src := src, dst := dst, off := off, write := true, cause := chanCause st, data := b }, s))
  | (st, _, _, s) => (some { src := src, dst := dst, off := off, write := false, cause := chanCause st }, s)

/-- Blocks in ascending order, up to the first failure. -/
def State.moveBlocks (s : State) (n src dst : Nat) : Nat → Nat → Option BadAccess × State
  | 0, _ => (none, s)
  | f + 1, off =>
    match s.moveBlock n src dst off with
    | (none, s) => s.moveBlocks n src dst f (off + 64)
    | r => r

/-- The last write of a MOVE has been issued: the cursors, and the wait for responses with DRAIN. -/
def State.moveDone (s : State) (n src dst len : Nat) (drain : Bool) : State :=
  let c := s.chan n
  s.setChan n { c with scur := (src + len) % 2 ^ 64, dcur := (dst + len) % 2 ^ 64, bad := none
                       pc := c.pc + 1, state := if drain ∧ c.state = 1 then 4 else c.state }

/-- The MOVE of the channel from block offset `off` on. -/
def State.moveFrom (s : State) (n src dst len off : Nat) (drain : Bool) : State :=
  match s.moveBlocks n src dst ((len - off) / 64) off with
  | (none, s) => s.moveDone n src dst len drain
  | (some b, s) => s.setChan n { s.chan n with bad := some b, tries := 0 }

def State.bobMove (s : State) (n : Nat) : State :=
  s.bobRun n (fun s i =>
    match i with
    | .move drain sc dc len src dst =>
      let c := s.chan n
      let a := if sc then c.scur else src
      let d := if dc then c.dcur else dst
      some (if a % 64 ≠ 0 then s.chanFail n 1 (some (false, a))
        else if d % 64 ≠ 0 then s.chanFail n 1 (some (true, d))
        else if len % 64 ≠ 0 then s.chanFail n 1 (some (true, len))
        else if len = 0 ∨ 0x100000 < len then s.chanFail n 4 none
        else
          (s.setChan n { s.chan n with moveLen := len, moveDrain := drain }).moveFrom n a d len 0 drain)
    | _ => none)

/-- The failing access is issued again: whether it succeeded. -/
def State.reissue (s : State) (n : Nat) (b : BadAccess) : Option BadAccess × State :=
  if b.write then
    match s.chanWrite n (b.dst + b.off) b.data with
    | (.ok, _, s) => (none, s)
    | (st, _, s) => (some { b with cause := chanCause st }, s)
  else
    match s.moveBlock n b.src b.dst b.off with
    | (none, s) => (none, s)
    | (some x, s) => (some (if x.write then x else { x with tries := b.tries }), s)

/-- The failing access is issued again and, once it succeeds, the MOVE goes on. -/
def State.moveRetry (s : State) (n : Nat) (b : BadAccess) : State :=
  match s.reissue n b with
  | (some x, s) => s.setChan n { s.chan n with bad := some x, tries := x.tries }
  | (none, s) =>
    let c := s.chan n
    (s.setChan n { c with bad := none }).moveFrom n b.src b.dst c.moveLen (b.off + 64) c.moveDrain

/-- The access of a resumed channel is issued again, with the retry count restarted (R294). -/
def State.resumeMove (s : State) (n : Nat) : State :=
  let c := s.chan n
  if c.resumed then
    let s := s.setChan n { c with resumed := false }
    match c.bad with
    | some b => s.moveRetry n { b with tries := 0 }
    | none => s
  else s

/-- What a command leaves to be done at its end: resumed channels, and reports to the steward. -/
def State.settle (s : State) : State := ((List.range 64).foldl State.resumeMove s).takeReports

/-- Retries of the effective error mode (R290). -/
def Chan.retryLimit (c : Chan) : Nat :=
  if c.errMode = 1 then 0 else if c.errMode = 2 then c.errRetries else if c.mode then c.retries else 0

/-- BOBBIN_BUS_ERROR: the failing access is issued again, or the halt starts (R292, R293). -/
def State.busError (s : State) (n : Nat) : State :=
  let c := s.chan n
  match c.bad with
  | none => s
  | some b =>
    if c.state ≠ 1 ∨ c.halting then s
    else if b.tries < c.retryLimit then
      let b := { b with tries := b.tries + 1 }
      (s.setChan n { c with retried := satAdd 32 c.retried 1, tries := b.tries, bad := some b }).moveRetry n b
    else
      (s.setChan n { c with tries := b.tries }).chanFail n b.cause (some (b.write, if b.write then b.dst + b.off else b.src + b.off))

/-! ### LOOP, WAIT, PACE, SIGNAL, END -/

/-- A cursor moved by a stride in blocks. -/
def strided (c : Nat) (s : Int) : Nat := low 64 (c + s * 64)

/-- LOOP (R284). -/
def State.bobLoop (s : State) (n : Nat) : State :=
  s.bobRun n (fun s i =>
    match i with
    | .loop level count target ss ds =>
      let c := s.chan n
      let lc := if level = 0 then c.lc0 else c.lc1
      let k := (if lc = 0 then count else lc) - 1
      let c := if level = 0 then { c with lc0 := k } else { c with lc1 := k }
      some (s.setChan n (if 0 < k then { c with scur := strided c.scur ss, dcur := strided c.dcur ds, pc := target } else { c with pc := c.pc + 1 }))
    | _ => none)

/-- The tally of an event is taken by channel `n` (R298). -/
def State.takeTally (s : State) (n e k : Nat) : State :=
  { s with evt := { s.evt with tally := mset s.evt.tally e (s.tallyOf e - k), last := mset s.evt.last e n } }

/-- A waiting channel proceeds when the tally suffices (R285, R286). -/
def State.serveChan (s : State) (e n : Nat) : State :=
  let c := s.chan n
  if (c.state = 2 ∨ c.state = 3) ∧ c.waitEvent = e ∧ c.waitHigh ≤ s.tallyOf e then
    (s.takeTally n e c.waitTake).setChan n { c with state := 1, pc := c.pc + 1, paceOn := if c.state = 3 then true else c.paceOn }
  else s

/-- The consumers of an event are served in rotating order after the channel last served on it (R298). -/
def State.serveEvent (s : State) (e : Nat) : State :=
  let first := match mget? s.evt.last e with | some n => n + 1 | none => 0
  (List.range 64).foldl (fun s k => s.serveChan e ((first + k) % 64)) s

/-- WAIT (R285, R287). -/
def State.bobWait (s : State) (n : Nat) : State :=
  s.bobRun n (fun s i =>
    match i with
    | .wait e =>
      some (if !s.ownsEvent (s.chan n).hank e then s.chanForeign n e
        else
          (s.setChan n { s.chan n with state := 2, waitEvent := e, waitHigh := 1, waitTake := 1 }).serveEvent e)
    | _ => none)

/-- PACE (R286, R287). -/
def State.bobPace (s : State) (n : Nat) : State :=
  s.bobRun n (fun s i =>
    match i with
    | .pace e high low take =>
      some (if !s.ownsEvent (s.chan n).hank e then s.chanForeign n e
        else
          let s := s.serveEvent e
          let c := s.chan n
          let on := c.paceOn && c.paceIdx == some c.pc
          if on ∧ low < s.tallyOf e then (s.takeTally n e take).setChan n { c with pc := c.pc + 1 }
          else
            (s.setChan n { c with state := 3, paceOn := false, paceIdx := some c.pc, waitEvent := e, waitHigh := high, waitTake := take }).serveEvent e)
    | _ => none)

/-- SIGNAL (R287, R288). -/
def State.bobSignal (s : State) (n : Nat) : State :=
  s.bobRun n (fun s i =>
    match i with
    | .signal e => some (if !s.ownsEvent (s.chan n).hank e then s.chanForeign n e else (s.bobNext n).pulse e)
    | _ => none)

/-- END (R288). -/
def State.bobEnd (s : State) (n : Nat) : State :=
  s.bobRun n (fun s i =>
    match i with
    | .finish =>
      let c := s.chan n
      let s := s.setChan n { c with state := 0, job := none }
      some (match c.job with
        | some id => (s.updJob id (fun j => { j with usedDram := c.dramBytes })).serve id
        | none => s.hankPulse c.hank c.doneEvent)
    | _ => none)

/-! ### Stops (R296) -/

/-- The rest of a MOVE in progress is issued while the channel stops; an error is latched and does not halt it (R296). -/
def State.stopMove (s : State) (n src dst : Nat) : Nat → Nat → State
  | 0, _ => s
  | f + 1, off =>
    match s.moveBlock n src dst off with
    | (none, s) => s.stopMove n src dst f (off + 64)
    | (some b, s) =>
      (s.setChan n { s.chan n with cause := b.cause, dir := b.write, haddr := if b.write then b.dst + b.off else b.src + b.off }).stopMove
        n src dst f (off + 64)

/-- A stopping channel reaches its instruction boundary. -/
def State.chanStopDone (s : State) (n : Nat) : State :=
  let c := s.chan n
  if c.state = 5 then
    let s := match c.bad with
      | some b =>
        (s.setChan n { c with cause := b.cause, dir := b.write, haddr := if b.write then b.dst + b.off else b.src + b.off, tries := b.tries }).stopMove
          n b.src b.dst ((c.moveLen - b.off - 64) / 64) (b.off + 64)
      | none => s
    let c := s.chan n
    let s := s.setChan n { c with state := 0, job := none, bad := none, halting := false }
    match c.job with
    | some id => (s.updJob id (fun j => { j with usedDram := c.dramBytes })).complete id .dropped 0
    | none => s
  else s

/-! ### The commands -/

def execBobbinProgramStart (ch : Nat) (s : State) : Host.Outcome State Fault Refusal :=
  .next ((({ s with out := [] } : State).chanTake ch).settle)

def execMove (ch : Nat) (s : State) : Host.Outcome State Fault Refusal :=
  .next ((({ s with out := [] } : State).bobMove ch).settle)

def execLoop (ch : Nat) (s : State) : Host.Outcome State Fault Refusal :=
  .next ((({ s with out := [] } : State).bobLoop ch).settle)

def execWait (ch : Nat) (s : State) : Host.Outcome State Fault Refusal :=
  .next ((({ s with out := [] } : State).bobWait ch).settle)

def execPace (ch : Nat) (s : State) : Host.Outcome State Fault Refusal :=
  .next ((({ s with out := [] } : State).bobPace ch).settle)

def execSignal (ch : Nat) (s : State) : Host.Outcome State Fault Refusal :=
  .next ((({ s with out := [] } : State).bobSignal ch).settle)

def execEnd (ch : Nat) (s : State) : Host.Outcome State Fault Refusal :=
  .next ((({ s with out := [] } : State).bobEnd ch).settle)

/-- CHANNEL_WAIT_SATISFIED (R298). -/
def execChannelWaitSatisfied (event : Nat) (s : State) : Host.Outcome State Fault Refusal :=
  .next (({ s with out := [] } : State).serveEvent event)

/-- MOVE_DRAIN_DONE (R289). -/
def execMoveDrainDone (ch : Nat) (s : State) : Host.Outcome State Fault Refusal :=
  let s := { s with out := [] }
  .next (if (s.chan ch).state = 4 then s.setChan ch { s.chan ch with state := 1 } else s)

def execBobbinBusError (ch : Nat) (s : State) : Host.Outcome State Fault Refusal :=
  .next ((({ s with out := [] } : State).busError ch).settle)

def execChannelHalt (ch : Nat) (s : State) : Host.Outcome State Fault Refusal :=
  .next (({ s with out := [] } : State).chanHalt ch)

def execChannelStopDone (ch : Nat) (s : State) : Host.Outcome State Fault Refusal :=
  .next ((({ s with out := [] } : State).chanStopDone ch).settle)

def execResume (who : Requester) (ch : Nat) (s : State) : Host.Outcome State Fault Refusal :=
  .next ((({ s with out := [] } : State).asHank who (fun s => s.chanCommand who ch 1)).settle)

def execAbort (who : Requester) (ch : Nat) (s : State) : Host.Outcome State Fault Refusal :=
  .next ((({ s with out := [] } : State).asHank who (fun s => s.chanCommand who ch 2)).settle)

def execStart (who : Requester) (ch : Nat) (s : State) : Host.Outcome State Fault Refusal :=
  .next ((({ s with out := [] } : State).asHank who (fun s => s.chanCommand who ch 3)).settle)

def execEvtPulse (who : Requester) (value : Word) (s : State) : Host.Outcome State Fault Refusal :=
  .next (({ s with out := [] } : State).asHank who (fun s => s.evtPulseWrite who value.toNat))

end Sys2Proof.Machine
end

