-- ==== Sys2Proof/Machine/Fabric.lean ====
section
/-! DEFINITION. The stream fabric and patrol scrubbing (05 R132 to R146), and the step of an idle
block. -/

namespace Sys2Proof.Machine

/-- The hanks whose jobs an engine runs on an input port (05 R133): `none` when it runs none there, and flits wait, as they do once a
streamed job has all its packets (DESIGN CHOICE, log 195). The back end works for the hanks that own or subscribe to a woven camera; a Skein
bank and the application-core L2 run no job, and what a flit is compared with there is a free value (log 191). -/
def State.portHanks (s : State) (e : Nat) : Option (List Nat) :=
  let i := bits e 11 4
  let some' := fun (l : List Nat) => if l = [] then none else some l
  match bits e 15 12 with
  | 2 => if (s.core i).state = 3 then some [(s.core i).hank] else none
  | 3 =>
    match s.arrays.find? (fun x => x.2.formed && x.2.first == i) with
    | some x => x.2.run.bind (fun r =>
        let d := parseWhl r.desc
        if e % 16 = 0 ∧ (!r.streaming ∨ d.aRows * d.heads ≤ s.packetCount e) then none else some [r.hank])
    | none => none
  | 4 => some' ((s.img.cams.filter (fun r => (s.flow r.cam).dec.any (fun d => d.engine == i))).map (·.owner))
  | 5 => some' (s.img.cams.flatMap (fun r => r.owner :: r.subs.filter (· != 0)))
  | 6 => s.tok.run.bind (fun r => if r.streaming && decide (s.packetCount e < leAt r.desc 4 4) then some [r.hank] else none)
  | 7 => if (s.chan i).state ≠ 0 then some [(s.chan i).hank] else none
  | 8 => some' (s.stw.stages.map (·.hank) ++ s.stw.relays.filterMap (fun r => (s.tck.jobs.find? (fun j => j.id == r.job)).map (·.hank)))
  | _ => some [Config.portHank e s.freeCount % 4096]

/-- A flit at the head of a route's buffer is delivered, or discarded as an access error of the hank that sent it (05 R133). -/
def State.deliverFlit (s : State) (n : Nat) (hs : List Nat) (f : Flit) : State :=
  let r := s.route n
  if hs.contains f.hank then
    let s := s.setRoute n { r with flits := (r.flits + 1) % 2 ^ 32, open_ := !f.last }
    { s with streams := mset s.streams r.dst (mget s.streams r.dst [] ++ [f]) }
  else s.accessError f.hank r.dst 1

/-- Up to `k` flits at the head of a route's buffer reach its engine, while it takes them (05 R134). -/
def State.drainFlits (n : Nat) : Nat → State → State
  | 0, s => s
  | k + 1, s =>
    let r := s.route n
    match s.portHanks r.dst, r.buf with
    | some hs, f :: rest => State.drainFlits n k ((s.setRoute n { r with buf := rest }).deliverFlit n hs f)
    | _, _ => s

/-- A route's buffered flits reach its engine (05 R134). -/
def State.drainRoute (s : State) (n : Nat) : State := State.drainFlits n (s.route n).buf.length s

/-- Flits that wait in the buffers of the routes that end at a port reach the engine that starts there. -/
def State.drainPort (s : State) (e : Nat) : State :=
  (s.routes.filter (fun x => x.2.dst == e && x.2.woven)).foldl (fun s x => s.drainRoute x.1) s

/-- A credit fault (05 R144). -/
def State.creditFault (s : State) (n : Nat) : State :=
  let r := s.route n
  let s := if r.open_ then
      { s with streams := mset s.streams r.dst (mget s.streams r.dst [] ++
          [{ hank := 0, route := n, first := false, last := true, poison := true, bytesM1 := 63, data := [] }]) }
    else s
  let s := s.setRoute n { r with buf := [], wire := [], credits := 32, open_ := false, resync := true }
  let s := { s with fab := { s.fab with linkFaults := satAdd 32 s.fab.linkFaults 1 } }
  let s := s.pulse 0x007
  (endpointUnits s.img r.src ++ endpointUnits s.img r.dst).foldl (fun s u => s.report u 3) s

/-- A flit takes a slot of its route's receive buffer, unless it is dropped up to the next FIRST flit (05 R134, R144). -/
def State.bufferFlit (s : State) (f : Flit) (n : Nat) : State :=
  let r := s.route n
  if 32 ≤ r.buf.length then s.creditFault n
  else if r.resync && !f.first then s
  else (s.setRoute n { r with buf := r.buf ++ [f], resync := false }).drainRoute n

/-- A flit arrives at its destination port (05 R133 to R135, R144): the oldest under way on its route; with none under way, one of a sender
outside the model, which spends a credit for it (log 190). -/
def State.flitArrive (s : State) (f : Flit) : State :=
  let n := f.route
  let r := s.route n
  if !r.woven then s
  else match r.wire with
  | g :: rest => (s.setRoute n { r with wire := rest }).bufferFlit g n
  | [] =>
    if !r.formed then s
    else if r.credits = 0 then s.creditFault n
    else (s.setRoute n { r with credits := r.credits - 1 }).bufferFlit f n

/-- A receiver returns credits, and the flits that waited for them go (05 R134, R144). -/
def State.creditReturn (s : State) (n count : Nat) : State :=
  let r := s.route n
  if !r.woven then s
  else if 32 < r.credits + count then s.creditFault n
  else (s.setRoute n { r with credits := r.credits + count }).arbitrate

/-- A patrol scrub read of one block (05 R146): a never-written granule, and DRAM without inline ECC, are skipped; every other read waits its
turn at rank 4. `passDone` when it ends the unit's pass. -/
def State.patrol (s : State) (a ecc : Nat) (passDone held : Bool) : State :=
  let go := fun (s : State) =>
    if s.isWritten a then (s.flip a ecc).arrive (.scrub a passDone) held else s.passEnd a passDone
  match s.target a with
  | .skein _ => go s
  | .dram _ => if s.eccOn a then go s else s
  | _ => s

/-! ### The idle block -/

/-- A nanosecond passes while the device is powered and out of reset, and each target with something waiting serves one access (05 R130;
log 3, log 189). -/
def State.idle (s : State) : State :=
  let s := { s with out := [] }
  if s.pins.porN && s.pins.pwrEn then (({ s with tck := s.tck.tick } : State).serveTick).takeReports else s

/-! ### The commands -/

def execFlitArrival (f : Flit) (s : State) : Host.Outcome State Fault Refusal :=
  .next ((({ s with out := [] } : State).flitArrive f).takeReports)

def execCreditReturn (route count : Nat) (s : State) : Host.Outcome State Fault Refusal :=
  .next ((({ s with out := [] } : State).creditReturn route count).takeReports)

def execPatrolScrub (addr ecc : Nat) (read : ScrubRead) (s : State) : Host.Outcome State Fault Refusal :=
  .next ((({ s with out := [] } : State).patrol addr ecc read.passDone read.held).takeReports)

end Sys2Proof.Machine
end

