-- ==== Sys2Proof/Machine/Requests.lean ====
section
/-! DEFINITION. Requests from outside: a register write, a memory request, an access through a PCIe BAR (00 R3; 04 R91; 05 section
Memory requests; 13 R301 to R303, section Registers). -/

namespace Sys2Proof.Machine

/-! ### The function page in BAR4 -/

def FnPage.reqWord (p : FnPage) : Nat := p.reqHead % 2 ^ 16 * 2 ^ 16 + p.reqTail % 2 ^ 16
def FnPage.rplWord (p : FnPage) : Nat := p.rplTail % 2 ^ 16 * 2 ^ 16 + p.rplHead % 2 ^ 16

/-- A byte of function `f`'s page. -/
def FnPage.byte (p : FnPage) (f k : Nat) : Byte :=
  if k < 0x200 then p.msixByte k
  else if 0x800 ≤ k ∧ k < 0x804 then BitVec.ofNat 8 (p.pba / 2 ^ (8 * (k - 0x800)))
  else if 0x1000 ≤ k ∧ k < 0x1400 then mget p.reqSlots (k - 0x1000) 0
  else if 0x1400 ≤ k ∧ k < 0x1800 then mget p.rplSlots (k - 0x1400) 0
  else if 0x1800 ≤ k ∧ k < 0x1804 then BitVec.ofNat 8 (p.reqWord / 2 ^ (8 * (k - 0x1800)))
  else if 0x1804 ≤ k ∧ k < 0x1808 then BitVec.ofNat 8 (p.rplWord / 2 ^ (8 * (k - 0x1804)))
  else if 0x1810 ≤ k ∧ k < 0x1814 ∧ f ≠ 0 then BitVec.ofNat 8 (p.aperture / 2 ^ (8 * (k - 0x1810)))
  else 0

/-- A byte written into the MSI-X table or a request slot; reply slots and pending bits are the device's (log 65). -/
def FnPage.putByte (p : FnPage) (k : Nat) (b : Byte) : FnPage :=
  if k < 0x200 then { p with msix := mset p.msix k b }
  else if 0x1000 ≤ k ∧ k < 0x1400 then { p with reqSlots := mset p.reqSlots (k - 0x1000) b }
  else p

def FnPage.putBytes : FnPage → Nat → List Byte → FnPage
  | p, _, [] => p
  | p, k, b :: bs => (p.putByte k b).putBytes (k + 1) bs

/-- The word at `w` after a write of `bs` at `off`, if the write reaches it. -/
def wordAfter (old w off : Nat) (bs : List Byte) : Option Nat :=
  if off < w + 4 ∧ w < off + bs.length then
    some (leNat ((List.range 4).map (fun i =>
      if off ≤ w + i ∧ w + i < off + bs.length then bs.getD (w + i - off) 0 else (leBytes 4 old).getD i 0)))
  else none

/-- A write into function `f`'s page. -/
def State.pageWrite (s : State) (f off : Nat) (bs : List Byte) : State :=
  let s := s.setFn f ((s.fnPage f).putBytes off bs)
  let p := s.fnPage f
  let s := match wordAfter p.rplWord 0x1804 off bs with
    | some v => s.setFn f { p with rplTail := bits v 31 16 }
    | none => s
  let p := s.fnPage f
  let s := match wordAfter p.aperture 0x1810 off bs with
    | some v => if f = 0 then s else s.setFn f { p with aperture := bits v 17 0 }
    | none => s
  match wordAfter p.reqWord 0x1800 off bs with
  | some v => s.postReq f (bits v 15 0)
  | none => s

/-! ### BAR accesses -/

/-- Size of a function's BAR; zero where it has none (R301). -/
def barSize (f bar : Nat) : Nat :=
  if bar = 4 then 0x10000
  else if f = 0 then (if bar = 0 then 2 ^ 37 else 0)
  else if bar = 0 then 2 ^ 27
  else if bar = 2 then 2 ^ 30
  else 0

/-- The physical address of an offset of BAR0 or BAR2. -/
def State.barAddr (s : State) (f bar off : Nat) : Nat :=
  if f = 0 then off else if bar = 0 then ucbBase + off else (s.fnPage f).aperture * 2 ^ 30 + off

/-- A refused or failed read gives zeros (R302). -/
def State.barRead (s : State) (f a n : Nat) : List Byte × State :=
  (blocksOf a n).foldl (fun (acc : List Byte × State) p =>
    let r := acc.2.read1 (fnReq f) p.1 p.2
    (acc.1 ++ (match r.1 with | .ok | .poison => r.2.1 | _ => List.replicate p.2 0), r.2.2)) ([], s)

/-- A refused write is discarded (R302). -/
def State.barWrite (s : State) (f a : Nat) (bs : List Byte) : State :=
  (blocksOf a bs.length).foldl (fun s p => (s.write1 (fnReq f) p.1 ((bs.drop (p.1 - a)).take p.2)).2) s

/-- An access through a BAR: unsupported for an unbound VF's BAR0 and BAR2, refused in Hold, else always completed. -/
def State.barAccess (s : State) (f bar off len : Nat) (data : Option (List Byte)) : State :=
  let n := match data with | some d => d.length | none => len
  if !s.pci.up ∨ !s.fnUp f ∨ n = 0 ∨ barSize f bar < off + n then s
  else if bar = 4 then
    match data with
    | some d => (s.pageWrite f off d).emit (.answer 0 [])
    | none => s.emit (.answer 0 ((List.range n).map (fun k => (s.fnPage f).byte f (off + k))))
  else if !s.fnBound f then (s.updPci (fun p => { p with unbound := satAdd 32 p.unbound 1 })).emit .unsupported
  else if s.memAsleep then s.emit (.answer 0 (match data with | some _ => [] | none => List.replicate n 0))
  else
    match data with
    | some d => (s.barWrite f (s.barAddr f bar off) d).emit (.answer 0 [])
    | none =>
      let r := s.barRead f (s.barAddr f bar off) n
      r.2.emit (.answer 0 r.1)

/-! ### Memory requests -/

/-- A request moves 1 to 64 bytes inside one aligned block (05 section Memory requests). -/
def memReqOk (r : MemReq) : Bool :=
  decide (1 ≤ r.len ∧ r.addr % 64 + r.len ≤ 64)
  && (match r.data with | some d => d.length == r.len | none => true)

/-- The errors of stored bits that a request comes upon: those developed since the last one, and its own (log 186). -/
def State.flips (s : State) (r : MemReq) : State :=
  let own :=
    if r.ecc = 3 then (if r.addr < dramBase ∨ s.inTagTable r.addr then [] else [(s.tagBase + 64 * tagLineOf r.addr, 2)])
    else match r.data with
      | none => [(r.addr, r.ecc)]
      | some d => ((mergedWords r.addr d.length).take 1).map (fun u => (u, r.ecc))
  (r.flips ++ own).foldl (fun s f => s.flip f.1 f.2) s

/-- A memory request: Skein and DRAM serve it through their arbiters (05 R130), everything else at once, and it is answered with its status;
a port without a hank has it turned away (log 183). -/
def State.request (s : State) (r : MemReq) : State :=
  s.asHank r.who (fun s => match s.target r.addr with
  | .skein _ | .dram _ => (s.flips r).arrive (.request r (s.reqHank r.who) (s.reqClass r.who)) r.held
  | _ => match r.data with
    | some d =>
      let a := s.write1 r.who r.addr d
      a.2.emit (.answer a.1.code [])
    | none =>
      let a := s.read1 r.who r.addr r.len
      a.2.2.emit (.answer a.1.code a.2.1))

/-! ### The commands -/

/-- REGISTER_WRITE: a word of a unit control block. -/
def execRegisterWrite (who : Requester) (block off : Nat) (value : Word) (s : State) : Host.Outcome State Fault Refusal :=
  .next (({ s with out := [] } : State).regWrite who (block % 256) (off % mib / 4 * 4) value.toNat).settle

/-- MEMORY_REQUEST. -/
def execMemoryRequest (r : MemReq) (s : State) : Host.Outcome State Fault Refusal :=
  let s := { s with out := [] }
  .next (if memReqOk r then (s.request r).settle else s)

/-- BAR_ACCESS. -/
def execBarAccess (fn bar off len : Nat) (data : Option (List Byte)) (s : State) : Host.Outcome State Fault Refusal :=
  .next (({ s with out := [] } : State).barAccess fn bar off len data).settle

end Sys2Proof.Machine
end

