-- ==== Sys2Proof/Machine/Flags.lean ====
section
/-! DEFINITION. The status register SR of a Spindle core, its repeats and its interrupt inputs (06 section Architectural state, R157
to R169). -/

namespace Sys2Proof.Machine

/-! ### Registers the shadow bank doubles -/

def Core.getS (k : Core) (i : Nat) : BitVec 64 :=
  if i = 0 then 0 else if k.shadowOn && decide (16 ≤ i) then mget k.shadow.s i 0 else mget k.s i 0

/-- A write of S0 is ignored. -/
def Core.setS (k : Core) (i : Nat) (v : BitVec 64) : Core :=
  if i = 0 then k
  else if k.shadowOn && decide (16 ≤ i) then { k with shadow := { k.shadow with s := mset k.shadow.s i v } }
  else { k with s := mset k.s i v }

def Core.getA (k : Core) (i : Nat) : BitVec 32 :=
  if k.shadowOn && decide (4 ≤ i) then mget k.shadow.a i 0 else mget k.a i 0

def Core.setA (k : Core) (i : Nat) (v : BitVec 32) : Core :=
  if k.shadowOn && decide (4 ≤ i) then { k with shadow := { k.shadow with a := mset k.shadow.a i v } }
  else { k with a := mset k.a i v }

def Core.getLs (k : Core) (i : Nat) : BitVec 16 := mget (if k.shadowOn then k.shadow.ls else k.ls) i 0
def Core.getLe (k : Core) (i : Nat) : BitVec 16 := mget (if k.shadowOn then k.shadow.le else k.le) i 0
def Core.getLc (k : Core) (i : Nat) : BitVec 32 := mget (if k.shadowOn then k.shadow.lc else k.lc) i 0
def Core.getLd (k : Core) : Nat := if k.shadowOn then k.shadow.ld else k.ld

def Core.setLs (k : Core) (i : Nat) (v : BitVec 16) : Core :=
  if k.shadowOn then { k with shadow := { k.shadow with ls := mset k.shadow.ls i v } } else { k with ls := mset k.ls i v }
def Core.setLe (k : Core) (i : Nat) (v : BitVec 16) : Core :=
  if k.shadowOn then { k with shadow := { k.shadow with le := mset k.shadow.le i v } } else { k with le := mset k.le i v }
def Core.setLc (k : Core) (i : Nat) (v : BitVec 32) : Core :=
  if k.shadowOn then { k with shadow := { k.shadow with lc := mset k.shadow.lc i v } } else { k with lc := mset k.lc i v }
def Core.setLd (k : Core) (d : Nat) : Core :=
  if k.shadowOn then { k with shadow := { k.shadow with ld := d } } else { k with ld := d }

/-- A predicate; P0 reads all ones. -/
def Core.getP (k : Core) (i : Nat) : BitVec 128 := if i = 0 then BitVec.allOnes 128 else mget k.p i 0

/-- A write of P0 is ignored. -/
def Core.setP (k : Core) (i : Nat) (v : BitVec 128) : Core := if i = 0 then k else { k with p := mset k.p i v }

/-! ### SR -/

/-- The status register. -/
def Core.sr (k : Core) : Nat :=
  k.getLd * 2 ^ 20 + b2n k.shadowOn * 2 ^ 17 + b2n k.sat * 2 ^ 16 + b2n k.ie * 2 ^ 8 + k.active

/-- A written status: SHADOW is read-only, and an LD above 4 is stored as 4 (07 R182). -/
def Core.setSr (k : Core) (v : Nat) : Core :=
  ({ k with sat := bit v 16, ie := bit v 8, active := bits v 3 0 } : Core).setLd (min (bits v 22 20) 4)

/-! ### Repeats (R159 to R161) -/

/-- Whether a P address lies inside the body of repeat entry `i`. -/
def Core.inBody (k : Core) (i : Nat) (a : BitVec 16) : Bool :=
  decide ((k.getLs i).toNat ≤ a.toNat) && decide (a.toNat ≤ (k.getLe i).toNat)

/-- Whether the innermost active repeat is tight (R161). -/
def Core.tight (k : Core) : Bool :=
  let i := k.getLd - 1
  decide (0 < k.getLd) && decide ((k.getLs i).toNat ≤ (k.getLe i).toNat)
    && decide ((k.getLe i).toNat - (k.getLs i).toNat < 128)

/-- Entries that do not contain a branch's target are popped. -/
def Core.popTo (t : BitVec 16) : Nat → Core → Core
  | 0, k => k
  | n + 1, k =>
    if k.getLd = 0 ∨ k.inBody (k.getLd - 1) t then k else Core.popTo t n (k.setLd (k.getLd - 1))

/-! ### Interrupt inputs (R165, R169) -/

/-- The level of input `i`. -/
def Core.levelOf (k : Core) (i : Nat) : Nat := bits k.ilvl.toNat (2 * i + 1) (2 * i)

/-- Whether input `i` could be taken: pending, enabled, IE set, its level above every level in service. -/
def Core.takeable (k : Core) (i : Nat) : Bool :=
  k.ie && bit k.ipend.toNat i && bit k.ien.toNat i && decide (k.active < 2 ^ k.levelOf i)

def Core.takeables (k : Core) : List Nat := (List.range 32).filter k.takeable

/-- The effective window. -/
def Core.windowNow (k : Core) : Nat :=
  if k.window ≠ 0 then k.window else if k.holdoff = 1 then 4 else if k.holdoff = 2 then 64 else 16

/-- Inputs that are no longer takeable are not held off. -/
def Core.prune (k : Core) : Core := { k with heldIters := k.heldIters.filter (fun e => k.takeable e.1) }

/-- An iteration of the innermost repeat has completed, or it ended: the takeable inputs it holds off count it. -/
def Core.iterated (k : Core) (ended : Bool) : Core :=
  let held := k.takeables.map (fun i =>
    let n := mget k.heldIters i 0
    (i, if n = 257 then 257 else min 256 (n + 1)))
  { k with
    iterBoundary := true
    maxHeld := held.foldl (fun m e => if e.2 = 257 then m else max m e.2) k.maxHeld
    heldIters := held.map (fun (e : Nat × Nat) => (e.1, if ended then 257 else e.2)) }

/-- Repeat-end processing after the bundle at `a` (R160). -/
def Core.repEnd (a : BitVec 16) : Nat → Core → Core
  | 0, k => k
  | n + 1, k =>
    let i := k.getLd - 1
    if k.getLd = 0 ∨ k.getLe i ≠ a then k
    else if 1 < (k.getLc i).toNat then
      let k := if k.tight then k.iterated false else k
      (({ k with pc := k.getLs i } : Core)).setLc i (k.getLc i - 1)
    else
      let k := if k.tight then k.iterated true else k
      Core.repEnd a n (k.setLd i)

/-- The input the core takes at this boundary: of those not held off, the highest level, then the lowest number. -/
def Core.due (k : Core) : Option Nat :=
  if k.state ≠ 3 ∨ k.ended ∨ k.slotB ∨ k.skip.isSome then none
  else
    let l := if k.tight then
        k.takeables.filter (fun i => k.iterBoundary && decide (k.windowNow ≤ mget k.heldIters i 0))
      else k.takeables
    l.foldl (fun b i =>
      match b with
      | none => some i
      | some j => if k.levelOf j < k.levelOf i then some i else b) none

/-- Entry to level `l` at P address `t` (R166). -/
def Core.enter (k : Core) (l : Nat) (t : BitVec 16) : Core :=
  ({ k with
    ipc := mset k.ipc l k.pc, isr := mset k.isr l (BitVec.ofNat 32 k.sr), active := k.active ||| 2 ^ l
    shadowOn := k.shadowOn || l == 3, pc := t, waiting := false, iterBoundary := false } : Core).prune

/-- The highest level in service. -/
def Core.topLevel (k : Core) : Option Nat :=
  if bit k.active 3 then some 3 else if bit k.active 2 then some 2 else if bit k.active 1 then some 1
  else if bit k.active 0 then some 0 else none

/-- The return of RTI (R167). -/
def Core.returned (k : Core) : Core :=
  match k.topLevel with
  | none => k
  | some l =>
    let sat := k.sat
    let v := (mget k.isr l (0 : BitVec 32)).toNat
    let k := { k with shadowOn := k.shadowOn && l != 3, pc := mget k.ipc l 0 }
    let k := k.setSr v
    { k with sat := k.sat || sat }

/-! ### Frames (R163, R164) -/

/-- The frame of a call: mask and registers at the new S30, and the return address in S31. -/
def Core.pushFrame (k : Core) (rs : List Nat) : Core :=
  let sp := k.getS 30 - BitVec.ofNat 64 (8 * (rs.length + 1))
  let mask := rs.foldl (fun x i => x + 2 ^ i) 0
  let k' := k.lput sp.toNat (leBytes 8 mask ++ rs.flatMap (fun i => leBytes 8 (k.getS i).toNat))
  (k'.setS 30 sp).setS 31 (BitVec.ofNat 64 (k.pc + 16).toNat)

/-- The registers of a frame are restored, and S30 moves past it. -/
def Core.popFrame (k : Core) (rs : List Nat) : Core :=
  let a := (k.getS 30).toNat
  let k' := (rs.mapIdx (fun j i => (j, i))).foldl (fun (x : Core) e =>
    x.setS e.2 (BitVec.ofNat 64 (leNat (k.lbytes (a + 8 * (e.1 + 1)) 8)))) k
  k'.setS 30 (BitVec.ofNat 64 (a + 8 * (rs.length + 1)))

/-- The call or return of a bundle takes effect. -/
def Core.framed (k : Core) : Core :=
  match k.frame with
  | none => k
  | some (true, rs) => k.pushFrame rs
  | some (false, rs) => k.popFrame rs

/-! ### Bundles (R155) -/

/-- The end of a bundle whose two slots are done: the frame of a call or return, then the return from an interrupt, the branch, or repeat-end
processing (07 R180). -/
def Core.endBundle (k : Core) : Core :=
  let a := k.pc
  let k' := { k.framed with slotB := false, jump := none, rti := false, frame := none }
  let k' := if k.rti then k'.returned
    else match k.jump with
      | some (t, branch) =>
        let out := branch && decide (0 < k.getLd) && k.inBody (k.getLd - 1) a && !k.inBody (k.getLd - 1) t
        let k' := if out && k.tight then k'.iterated true else k'
        let k' := if out then Core.popTo t 4 k' else k'
        { k' with pc := t }
      | none => Core.repEnd a 4 { k' with pc := a + 16 }
  k'.prune

end Sys2Proof.Machine
end

