-- ==== Sys2Proof/Machine/SpindleCore.lean ====
section
/-! DEFINITION. Spindle tasks: start, faults, interrupt entry, the issue of an instruction, completion (06 R147 to R150, R155, R156,
R165 to R168). -/

namespace Sys2Proof.Machine

/-! ### Fetch -/

/-- The instruction in the next slot: 64 bits of P memory (07 R170). -/
def Core.word (k : Core) : Nat :=
  leNat ((List.range 8).map (fun i => memGet k.pm ((k.pc.toNat + (if k.slotB then 8 else 0) + i) % 65536)))

/-! ### Halts and faults (R150, R156, R168) -/

/-- The task on core `c` is halted; its job waits for the boundary, excused from an overrun. -/
def State.haltCore (s : State) (c : Nat) : State :=
  let k := s.core c
  let s := s.setCore c { k with state := 4, faultHalt := true }
  match k.job with
  | some id => s.updJob id (fun j => { j with phase := .halted, excused := true })
  | none => s

/-- Both slots of the bundle are done: TEND ends the task at base level and halts it above (R149, R150; 07 R180). -/
def State.closeBundle (s : State) (c : Nat) : State :=
  let k := s.core c
  if k.tend then
    if k.active = 0 then s.setCore c { k with ended := true, tend := false, slotB := false }
    else (s.setCore c { k with tend := false, slotB := false }).haltCore c
  else s.setCore c k.endBundle

/-- A fault of the instruction in the next slot: recorded, and level 3 entered at VBASE, or the task halted when level 3 is in
service. -/
def State.spdFault (s : State) (c cause : Nat) : State :=
  let k := s.core c
  let s := s.setCore c { k with
    faultActive := k.active, faultSlot := k.slotB, faultCause := cause, faultPc := k.pc.toNat }
  if bit k.active 3 then s.haltCore c
  else
    let s := s.closeBundle c
    let k := s.core c
    if k.state = 3 ∧ !k.ended then s.setCore c (k.enter 3 k.vbase) else s

/-! ### Issue (R155, R162) -/

/-- Whether core `c` issues its next slot now: it runs, does not wait, and takes no interrupt at this boundary. -/
def Core.issues (k : Core) : Bool :=
  k.state == 3 && !k.ended && (k.slotB || (!k.waiting && k.due.isNone))

/-- The slot is done: slot B is next, or the bundle ends. -/
def State.slotDone (s : State) (c : Nat) : State :=
  let k := s.core c
  if k.slotB then s.closeBundle c else s.setCore c { k with slotB := true }

/-- The instruction in the next slot is issued when it is the commanded one: `legal` says whether its encoding is legal, `op` that it
is the commanded one, and `eff` gives its fault or its effect. An illegal instruction faults under any instruction command; a
governed one has no effect. -/
def State.issue (s : State) (c : Nat) (legal : Core → Nat → Bool) (op : Nat → Bool)
    (eff : State → Nat → Nat → Option Nat × State) : State :=
  let k := s.core c
  if k.issues then
    let w := k.word
    let s1 := s.setCore c { k with skip := none, iterBoundary := k.iterBoundary && (k.slotB || k.skip.isSome) }
    if !legal k w then s1.spdFault c 1
    else if !op w then s
    else if k.skip = some true then s1.slotDone c
    else
      (match eff s1 c w with
       | (none, s2) => s2.slotDone c
       | (some cause, s2) => s2.spdFault c cause)
  else s

/-! ### Task start (R147, R148) -/

/-- A core that can take a task. -/
def Core.free (k : Core) : Bool := k.state == 0 && k.job.isNone

/-- The lowest-numbered idle core among a ply's counting clusters. -/
def State.idleCore (s : State) (p : Nat) : Option Nat := (s.countingCores p).find? (fun c => (s.core c).free)

/-- The task that starts on core `c`: of those that may run there, the highest class, then the order of slots. -/
def State.coreJob (s : State) (c : Nat) : Option Job :=
  let l := s.jobs.filter (fun j => j.kind == 2 && j.phase == .admitted &&
    (j.unit == c || (j.unit == 0xFF && s.idleCore j.ply == some c)))
  l.foldl (fun b j =>
    match b with
    | none => some j
    | some x => if j.cls < x.cls ∨ (j.cls = x.cls ∧ j.slotSeq < x.slotSeq) then some j else b) none

/-- Whether a task descriptor keeps the limits of its fields. -/
def spdDescOk (d : List Byte) : Bool :=
  let plen := leAt d 8 4
  decide (plen % 16 = 0 ∧ 16 ≤ plen ∧ plen ≤ 65536 ∧ leAt d 12 4 % 16 = 0 ∧ leAt d 12 4 < 65536
    ∧ leAt d 24 4 % 64 = 0 ∧ leAt d 24 4 ≤ 131072 ∧ leAt d 28 4 % 64 = 0 ∧ leAt d 28 4 ≤ 131072 ∧ leAt d 56 8 = 0)

/-- DRAM bytes of a task's accesses are metered to its job (03 R70). -/
def State.coreMeter (s : State) (c a n : Nat) : State :=
  if dramBase ≤ a then
    match (s.core c).job with
    | some id => s.updJob id (fun j => { j with usedDram := j.usedDram + n })
    | none => s
  else s

/-- An image is read with the job's hank. -/
def State.coreImage (s : State) (c a n : Nat) : Option (List Byte) × State :=
  if n = 0 then (some [], s)
  else
    match s.engRead (s.core c).hank c a n with
    | (.ok, _, b, s) => (some (slice b 0 n), s.coreMeter c a n)
    | (_, _, _, s) => (none, s)

/-- A task whose descriptor or image is unreadable: LOAD, and the task is halted. -/
def State.loadFault (s : State) (c : Nat) : State :=
  (s.setCore c { s.core c with faultCause := 9 }).haltCore c

/-- A task starts on core `c` for a job. -/
def State.taskStart (s : State) (c : Nat) (j : Job) : State :=
  let k := s.core c
  let s := s.updJob j.id (fun j => { j with phase := .running, unit := c })
  let differ := k.hank ≠ j.hank ∨ k.stranger
  let fresh : Core := { state := 3, hank := j.hank, job := some j.id, maxHeld := k.maxHeld, window := k.window
                        x := if differ then [] else k.x, y := if differ then [] else k.y, pm := k.pm }
  let s := s.setCore c fresh
  match s.coreImage c j.desc 64 with
  | (none, s) => s.loadFault c
  | (some d, s) =>
    if !spdDescOk d then s.loadFault c
    else
      let s := s.updJob j.id (fun j => { j with doneEvent := leAt d 44 2 })
      match s.coreImage c (leAt d 0 8) (leAt d 8 4) with
      | (none, s) => s.loadFault c
      | (some p, s) =>
        match s.coreImage c (leAt d 16 8) (leAt d 24 4) with
        | (none, s) => s.loadFault c
        | (some x, s) =>
          match s.coreImage c (leAt d 32 8) (leAt d 28 4) with
          | (none, s) => s.loadFault c
          | (some y, s) =>
            let k := s.core c
            s.setCore c { k with
              pm := memPuts k.pm 0 p, x := memPuts k.x 0 x, y := memPuts k.y 0 y
              holdoff := leAt d 47 1, doneEvent := leAt d 44 2, pc := BitVec.ofNat 16 (leAt d 12 4)
              s := mset (mset [] 1 (BitVec.ofNat 64 (leAt d 48 8))) 30 (BitVec.ofNat 64 (leAt d 40 4)) }

/-- The core takes its next task, when its unit passes the check of 18 R407. -/
def State.coreTake (s : State) (c : Nat) : State :=
  if (s.core c).free then
    match s.coreJob c with
    | none => s
    | some j =>
      (match s.startCheck (48 + c) with
       | (false, s) => s.complete j.id .unavailable 2
       | (true, s) => s.taskStart c j)
  else s

/-- The task on core `c` has ended and its writes have had their responses: its completion record (R149). -/
def State.taskDone (s : State) (c cycles : Nat) : State :=
  let k := s.core c
  match k.job with
  | some id =>
    if k.state = 3 ∧ k.ended then
      ((s.setCore c { k with state := 0, job := none, ended := false }).updJob id (fun j => { j with usedSpindle := cycles })).serve id
    else s
  | none => s

/-- The core takes the input that is due at this boundary (R165, R166). -/
def State.takeInterrupt (s : State) (c : Nat) : State :=
  let k := s.core c
  match k.due with
  | none => s
  | some i =>
    let l := k.levelOf i
    s.setCore c (({ k with ipend := k.ipend &&& ~~~(1#32 <<< i) } : Core).enter l (k.vbase + BitVec.ofNat 16 (16 * (1 + i))))

/-! ### The commands -/

def execSpindleTaskStart (core : Nat) (s : State) : Host.Outcome State Fault Refusal :=
  .next ((({ s with out := [] } : State).coreTake core).takeReports)

def execSpindleTaskComplete (core cycles : Nat) (s : State) : Host.Outcome State Fault Refusal :=
  .next (({ s with out := [] } : State).taskDone core cycles)

def execInterruptEntry (core : Nat) (s : State) : Host.Outcome State Fault Refusal :=
  .next (({ s with out := [] } : State).takeInterrupt core)

end Sys2Proof.Machine
end

