-- ==== Sys2Proof/Machine/Tokenizer.lean ====
section
/-! DEFINITION. Tokenizer jobs: start and end (11 R270, R276). -/

namespace Sys2Proof.Machine

/-- The next job of the engine: class order, then the order of its slot. -/
def State.nextTok (s : State) : Option Job :=
  (s.jobs.filter (fun j => j.kind == 4 && j.phase == .admitted)).foldl (fun b j =>
    match b with
    | none => some j
    | some x => if j.cls < x.cls ∨ (j.cls = x.cls ∧ j.slotSeq < x.slotSeq) then some j else b) none

/-- The job's report, and its end: SERVED, or halted until the next boundary (R276). -/
def State.tokFinish (s : State) (r : TokRun) : State :=
  let w := s.tokReported r
  let r := w.1
  let s := w.2.tokRelease r
  if r.cause = 0 then s.serve r.job else s.updJob r.job (fun j => { j with phase := .halted, excused := true })

/-- The engine takes its next job. One whose descriptor cannot be read, or whose descriptor or dictionary header fails its check, stops at
once: the engine reports it and is free for the next (R271, R274, R276). -/
def State.tokStart (s : State) : State :=
  match s.tok.run, s.nextTok with
  | none, some j =>
    (match s.startCheck 27 with
     | (false, s) => s.complete j.id .unavailable 2
     | (true, s) =>
       let s := s.updJob j.id (fun j => { j with phase := .running })
       let s := { s with tok := { s.tok with hank := j.hank, state := 1 } }
       let d := s.tokRead j.hank j.desc 64
       let s := d.2
       let r : TokRun := { job := j.id, hank := j.hank }
       match d.1 with
       | .error e => s.tokFinish (r.stop e)
       | .ok b =>
         let r := { r with desc := b, usedDram := dramBytes j.desc 64 }
         if !tokDescOk j.desc b then s.tokFinish (r.stop { cause := 1 })
         else
           match s.openDict j.hank (leAt b 8 8) (tokMode b).fold with
           | (.error e, s) => s.tokFinish (r.stop e)
           | (.ok d, s) =>
             let r := { r with dict := d }
             if bit (leAt b 2 1) 0 then
               ({ s with tok := { s.tok with run := some { r with streaming := true } } } : State).drainPort 0x6000
             else { s with tok := { s.tok with run := some r } })
  | _, _ => s

/-- The running job does its work and ends; a streamed one that lacks strings only when those at hand stop it. -/
def State.tokEnd (s : State) : State :=
  match s.tok.run with
  | none => s
  | some r =>
    if r.cause ≠ 0 then s.tokFinish r
    else
      let p := s.tokPackets r
      let q := p.2.runTok r p.1 false
      if r.streaming ∧ p.1.length < leAt r.desc 4 4 ∧ q.1.cause = 0 then s else q.2.tokFinish q.1

def execTokenizerJobStart (s : State) : Host.Outcome State Fault Refusal :=
  .next ((({ s with out := [] } : State).tokStart).takeReports)

def execTokenizerJobEnd (s : State) : Host.Outcome State Fault Refusal :=
  .next ((({ s with out := [] } : State).tokEnd).takeReports)

end Sys2Proof.Machine
end

