-- ==== Sys2Proof/Machine/Tray.lean ====
section
/-! DEFINITION. The tray link: frames and their acceptance, polling, discovery, peer states, relay jobs, forwarded commands
(15 R361 to R369; 16 R379; 17 R399; 18 R414 to R416). -/

namespace Sys2Proof.Machine

def State.link (s : State) (a : Nat) : Link := mget s.stw.links a {}
def State.setLink (s : State) (a : Nat) (l : Link) : State := { s with stw := { s.stw with links := mset s.stw.links a l } }
def State.peer (s : State) (a : Nat) : Peer := mget s.stw.peers a {}
def State.setPeerRec (s : State) (a : Nat) (p : Peer) : State := { s with stw := { s.stw with peers := mset s.stw.peers a p } }

/-! ### Frames (R361, R362, R367) -/

/-- A frame goes out; its ACK is the last SEQ accepted from its destination. -/
def State.putFrame (s : State) (dst ty seq : Nat) (payload : List Nat) : State :=
  s.emit (.ebvar dst s.stw.trayAddr ty seq ((s.link dst).rxSeq.getD 0) payload)

/-- A frame is sent with the next SEQ; it waits for its acknowledgement, with three resends. -/
def State.sendFrame (s : State) (dst ty : Nat) (payload : List Nat) : State :=
  let l := s.link dst
  (s.setLink dst { l with
    txSeq := (l.txSeq + 1) % 256, unacked := some { type := ty, seq := l.txSeq, payload := payload } }).putFrame dst ty l.txSeq payload

/-- An opportunity to send to `dst`: the frame that waits for its acknowledgement is sent again while it has resends left, else `f` acts. -/
def State.resendOr (s : State) (dst : Nat) (f : State → State) : State :=
  let l := s.link dst
  match l.unacked with
  | some w =>
    if w.left = 0 then f s
    else (s.setLink dst { l with unacked := some { w with left := w.left - 1 } }).putFrame dst w.type w.seq w.payload
  | none => f s

/-- A conflict isolates the chip until a WARM reset, and is journalled. -/
def State.isolate (s : State) (role : Bool) : State :=
  let old := s.stw.stateWord
  let s := { s with stw := { s.stw with
      role := 2, roleConflict := s.stw.roleConflict || role, addrConflict := s.stw.addrConflict || !role } }
  s.fact { origin := 3, kind := 1, object := regObj 44 0, old := old, new := s.stw.stateWord }

/-- What a received frame comes to: not for this chip, a frame seen before, or a new one. -/
inductive Heard
  | ignored | repeated | fresh
  deriving DecidableEq, Repr

/-- The acceptance of a frame: CRC, conflicts, address, SEQ, and the acknowledgement it carries. No steward runs in RECOVERY. -/
def State.hear (s : State) (h : Ebvar) : Heard × State :=
  if s.stw.role = 2 ∨ s.boot.state = 7 then (.ignored, s)
  else if !h.crcOk then (.ignored, { s with stw := { s.stw with crc := satAdd 32 s.stw.crc 1 } })
  else if h.src = s.stw.trayAddr then (.ignored, s.isolate (s.stw.role == 1))
  else if h.dst ≠ s.stw.trayAddr ∧ h.dst ≠ 0xFF then (.ignored, s)
  else if s.stw.role = 0 ∧ h.src ≠ 0 then (.ignored, s)
  else
    let l := s.link h.src
    let l := match l.unacked with
      | some w => if w.seq = h.ack then { l with unacked := none } else l
      | none => l
    if l.rxSeq = some h.seq then (.repeated, s.setLink h.src l)
    else (.fresh, s.setLink h.src { l with rxSeq := some h.seq })

/-- The acknowledgement of a repeated frame is sent again: in the answer that was not acknowledged yet, else in an empty frame of type
`ty`. No peer answers a broadcast. -/
def State.ackAgain (s : State) (h : Ebvar) (ty : Nat) : State :=
  if h.dst = 0xFF then s
  else s.resendOr h.src (fun s => s.putFrame h.src ty (((s.link h.src).txSeq + 255) % 256) [])

/-- A frame is accepted by a chip of role `role`: `f` answers a new one, and a repeated one is acknowledged again. -/
def State.onFrame (s : State) (role ty : Nat) (h : Ebvar) (f : State → State) : State :=
  if s.stw.role ≠ role ∧ s.stw.role ≠ 2 ∧ h.crcOk ∧ h.src ≠ s.stw.trayAddr then s
  else match s.hear h with
    | (.ignored, s) => s
    | (.repeated, s) => s.ackAgain h ty
    | (.fresh, s) => f s

/-! ### The master's view of its peers (R364 to R366) -/

/-- A relay job ends PEER_LOST with a tombstone (18 R415). -/
def State.loseRelay (s : State) (j : Job) : State :=
  match s.stw.relays.find? (fun r => r.job == j.id) with
  | some r =>
    let s := { s with stw := { s.stw with relays := s.stw.relays.filter (fun r => r.job != j.id) } }
    (s.tombstone j r.peer (leAt r.desc 12 4) 1).complete j.id .peerLost 0
  | none =>
    let d := s.engBytes j.hank 159 j.desc 64
    (d.2.tombstone j j.unit (leAt d.1 12 4) 1).complete j.id .peerLost 0

/-- A peer changes its state: the entry, the event, EPOCH at an entry to PRESENT, its relay jobs when it goes below PRESENT, the tier. -/
def State.setPeer (s : State) (a st : Nat) : State :=
  let p := s.peer a
  if p.state = st then s
  else
    let p' := { p with state := st, epoch := if st = 2 then (p.epoch + 1) % 2 ^ 32 else p.epoch }
    let s := s.setPeerRec a p'
    let s := (s.fact { origin := 3, kind := 1, aux := a, object := jObj 14 a, old := p.state, new := st, data := p'.epoch }).pulse 0x00A
    let s := if p.state = 2 ∨ st = 4 then
        (s.jobs.filter (fun j => j.kind == 5 && j.unit == a && j.holds)).foldl State.loseRelay s
      else s
    s.retier

/-- Whether the master checks its peers against a TRAY_MAP. -/
def State.mapped (s : State) : Bool := s.woven && !s.img.tray.isEmpty

/-- The state that an answer's identity gives a peer. -/
def State.judge (s : State) (a : Nat) (id : PeerId) : Option Nat :=
  if s.mapped then
    match s.img.tray.find? (fun r => r.addr == a) with
    | none => none
    | some r =>
      if !id.woven then some 1
      else if id.deviceId = r.deviceId ∧ id.serial = r.serial ∧ id.ownerKey = r.ownerKey then some 2 else some 3
  else some (if id.woven then 2 else 1)

/-- An answer of a peer. -/
def State.peerAnswer (s : State) (a : Nat) (id : PeerId) : State :=
  match s.judge a id with
  | none => s
  | some st => (s.setPeerRec a { s.peer a with misses := 0, deviceId := id.deviceId }).setPeer a st

/-- A poll cycle of the master; a frame that was not acknowledged is sent again first. -/
def State.pollPeers (s : State) : State :=
  if s.stw.role ≠ 1 ∨ s.boot.state = 7 then s
  else ((List.range 16).filter (fun a => decide (1 ≤ (s.peer a).state ∧ (s.peer a).state ≤ 3) && a != 0)).foldl (fun s a =>
    s.resendOr a (fun s => s.sendFrame a 1 [(s.peer a).epoch])) s

/-- DISCOVER to each address whose peer is ABSENT or LOST. -/
def State.discoverPeers (s : State) : State :=
  if s.stw.role ≠ 1 ∨ s.boot.state = 7 then s
  else
    let l := if s.mapped then s.img.tray.map (·.addr) else (List.range 16).drop 1
    (l.filter (fun a => (s.peer a).state == 0 || (s.peer a).state == 4)).foldl (fun s a => s.sendFrame a 3 []) s

/-- A poll is missed. -/
def State.missPoll (s : State) (a : Nat) : State :=
  let p := s.peer a
  if s.stw.role ≠ 1 ∨ p.state = 0 ∨ p.state = 4 then s
  else
    let n := min 15 (p.misses + 1)
    let s := s.setPeerRec a { p with misses := n }
    if s.stw.miss ≤ n then s.setPeer a 4 else s

/-! ### A peer's side (R363, R365, R367; 18 R416) -/

/-- What a peer tells of itself: DEVICE_ID, whether it is woven, IMAGE_SERIAL, OWNER_KEY_ID. -/
def State.identity (s : State) : List Nat := [deviceId s.variant, b2n s.woven, s.wrp.serial, s.img.ownerKey]

/-- Relay staging that `p` selects is discarded and its own jobs complete PEER_LOST. -/
def State.dropStages (s : State) (p : RelayStage → Bool) : State :=
  let gone := s.stw.stages.filter p
  let s := { s with stw := { s.stw with stages := s.stw.stages.filter (fun x => !p x) } }
  gone.foldl (fun s x => s.complete x.own .peerLost 0) s

/-- The POLL of the master, with the EPOCH it carries. -/
def State.polled (s : State) (epoch : Nat) : State :=
  let s := s.setPeerRec 0 { s.peer 0 with epoch := epoch }
  (s.dropStages (fun x => decide (x.epoch < epoch))).sendFrame 0 2 s.identity

/-- No valid frame for 100 ms. -/
def State.loseMaster (s : State) : State :=
  if s.stw.role ≠ 0 then s
  else ({ s with stw := { s.stw with masterLost := true } } : State).dropStages (fun _ => true)

/-! ### Forwarded commands (R369; 16 R379; 17 R399) -/

/-- A chunk of a STAGE: OBJECT the part, VALUE the offset, DURATION_S the length of the whole image (log 60). -/
def State.stageChunk (s : State) (part off total : Nat) (data : List Byte) : Nat × State :=
  if part = 0 ∨ 8 < part ∨ slotSize part < total ∨ 1024 < data.length then (0x15, s)
  else if s.bootBusy ∨ s.onTrial part then (0x01, s)
  else
    let got := if off = 0 then some [] else match s.stw.chunk with | some (p, b) => if p = part ∧ b.length = off then some b else none | none => none
    match got with
    | none => (0x15, s)
    | some b =>
      let d := s.dirEntry part
      let s := if off = 0 ∧ d.slot (d.other part) ≠ .empty then s.setDir part (d.setSlot (d.other part) .empty) else s
      let b := b ++ data
      if b.length < total then (0, { s with stw := { s.stw with chunk := some (part, b) } })
      else
        let s := (({ s with stw := { s.stw with chunk := none } } : State).bootSeq).stageBytes .trayMaster part b
        (s.boot.result.code, s)

/-- A BOOT command by its OP, of the tray master. -/
def State.bootOp (s : State) (op part off total : Nat) (data : List Byte) : Nat × State :=
  match op with
  | 1 => s.stageChunk part off total data
  | 2 => let s := s.activateCmd .trayMaster part; (s.boot.result.code, s)
  | 3 => let s := s.commitCmd .trayMaster part; (s.boot.result.code, s)
  | 4 => let s := s.revertCmd .trayMaster part; (s.boot.result.code, s)
  | _ => (0x03, s)

/-- A command of the tray master: it acts with authority 4, and the answer goes back in a MGMT_RPL frame. -/
def State.forwarded (s : State) (op object value dur origin : Nat) (data : List Byte) : State :=
  if op = 0x0201 then
    let es := (s.jMerged.filter (fun e => decide (value ≤ e.seq))).take (min dur 16)
    (s.emit (.entries es)).sendFrame 0 6 [op, 0, 0]
  else if op = 0x0202 then (s.jAck (authBit .trayMaster) value).sendFrame 0 6 [op, 0, 0]
  else if 1 ≤ op ∧ op ≤ 6 then
    let r := s.bootOp op object value dur data
    r.2.sendFrame 0 6 [op, r.1, 0]
  else
    let r := s.manage op { from_ := .trayMaster, object := object, value := value, durationS := dur } origin
    match r.1 with
    | some (st, h, d) => (r.2.answer .trayMaster st h d).sendFrame 0 6 ([op, st, h] ++ d)
    | none => r.2

/-! ### Relay (R368; 18 R414) -/

/-- A descriptor that R368 admits. -/
def relayDescOk (d : List Byte) : Bool :=
  let ok := fun (n : Nat) => decide (n % 64 = 0 ∧ n ≤ 65536)
  leAt d 3 1 == 0 && leAt d 1 1 < 2 && ok (leAt d 8 4) && ok (leAt d 12 4) && leAt d 48 8 == 0 && leAt d 56 8 == 0

/-- The fields of a RELAY frame of a job as payload. -/
def relayPayload (j : Job) (r : RelayRun) (put : Bool) (addr len : Nat) (commit : Bool) (data : List Byte) : List Nat :=
  [j.epoch, j.hank, j.id, j.cls, j.fate, leAt r.desc 2 1, b2n put, addr, len, b2n commit, leAt r.desc 4 2] ++ data.map (·.toNat)

def State.setRelay (s : State) (r : RelayRun) : State :=
  { s with stw := { s.stw with relays := s.stw.relays.map (fun x => if x.job = r.job then r else x) } }

/-- The next frame of a relay job: a GET request, a PUT frame of up to 1,024 bytes, the last one marked COMMIT. -/
def State.relayNext (s : State) (j : Job) (r : RelayRun) : State :=
  let inLen := if bit (leAt r.desc 1 1) 0 then leAt r.desc 8 4 else 0
  let outLen := leAt r.desc 12 4
  if r.committed then s
  else if r.got.length < inLen ∧ !r.getDone then
    let n := min 1024 (inLen - r.got.length)
    s.sendFrame r.peer 7 (relayPayload j r false (leAt r.desc 32 8 + r.got.length) n false [])
  else
    let n := min 1024 (outLen - r.sent)
    let d := s.engBytes j.hank 159 (leAt r.desc 24 8 + r.sent) n
    let last := outLen ≤ r.sent + n
    let s := d.2.setRelay { r with sent := r.sent + n, committed := last, getDone := true }
    s.sendFrame r.peer 7 (relayPayload j r true (leAt r.desc 40 8 + r.sent) n last d.1)

/-- An admitted relay job starts. -/
def State.relayStart (s : State) (id : Nat) : State :=
  match s.job? id with
  | none => s
  | some j =>
    if j.kind ≠ 5 ∨ j.phase ≠ .admitted then s
    else if !s.relayUsable j.ply j.unit then s.complete id .unavailable 2
    else
      let d := s.engRead j.hank 159 j.desc 64
      let s := d.2.2.2
      if j.desc % 64 ≠ 0 ∨ d.1 ≠ .ok ∨ !relayDescOk d.2.2.1 then s.complete id .unavailable 2
      else
        let r : RelayRun := { job := id, peer := j.unit, desc := d.2.2.1 }
        let s := ({ s with stw := { s.stw with relays := s.stw.relays ++ [r] } } : State).updJob id (fun j => { j with phase := .running })
        s.relayNext j r

/-- The status of R86 that a code stands for. -/
def statusOf : Nat → JobStatus
  | 1 => .served | 2 => .servedLate | 3 => .shed | 4 => .dropped | 5 => .noQuota | 6 => .unavailable | _ => .peerLost

/-- GET data or the end of a PUT arrives for a relay job, or the peer's refusal of its work. -/
def State.relayAcked (s : State) (f : RelayAckFrame) : State :=
  if f.epoch < (s.peer f.hdr.src).epoch then { s with stw := { s.stw with staleRelay := satAdd 32 s.stw.staleRelay 1 } }
  else match s.stw.relays.find? (fun r => r.job == f.job && r.peer == f.hdr.src), s.job? f.job with
    | some r, some j =>
      let drop := fun (s : State) => ({ s with stw := { s.stw with relays := s.stw.relays.filter (fun x => x.job != r.job) } } : State)
      if f.status ≠ 0 then (drop s).complete j.id (statusOf f.status) f.detail
      else if f.delivered then (if r.committed then (drop s).serve j.id else s)
      else
        let inLen := if bit (leAt r.desc 1 1) 0 then leAt r.desc 8 4 else 0
        let got := (r.got ++ f.data).take inLen
        let whole := inLen ≤ got.length ∧ !r.getDone
        let r' := { r with got := got, getDone := r.getDone || decide (inLen ≤ got.length) }
        let s := if whole ∧ inLen ≠ 0 then (s.engWrite j.hank 159 (leAt r.desc 16 8) got).2.2 else s
        (s.setRelay r').relayNext j r'
    | _, _ => s

def State.relayReply (s : State) (f : RelayFrame) (status detail delivered : Nat) (data : List Byte) : State :=
  s.sendFrame 0 8 ([f.epoch, f.job, status, detail, delivered] ++ data.map (·.toNat))

/-- The peer takes the work as its own KIND 5 job, or says why not: a status and its detail. Without a free slot the job waits for one, as
any selected job does, and its frames with it (01 R24, R25). -/
def State.relayAdmit (s : State) (f : RelayFrame) : (Nat × Nat) × State :=
  let st := (s.ply f.remotePly).state
  if (hankRec? s.img f.hank f.remotePly).isNone then ((5, 4), s)
  else if st = 0 ∨ st = 3 then ((6, 1), s)
  else
    let id := s.tck.nextJob
    let j : Job := { id := id, hank := f.hank, tag := f.job, kind := 5, cls := f.cls, fate := f.fate, ply := f.remotePly
                     phase := if s.slotFree f.cls then .running else .selected, unit := peerUnit
                     target := (s.ply f.remotePly).tick, selSeq := s.tck.nextSel, slotSeq := s.tck.nextSel, epoch := f.epoch }
    let x : RelayStage := { hank := f.hank, job := f.job, epoch := f.epoch, ply := f.remotePly, cls := f.cls, fate := f.fate
                            base := f.addr, own := id }
    let s := { s with
      tck := { s.tck with jobs := s.tck.jobs ++ [j], nextJob := id + 1, nextSel := s.tck.nextSel + 1 }
      stw := { s.stw with stages := s.stw.stages ++ [x] } }
    ((0, 0), { s with peak := max s.peak s.inFlight })

/-- The work of a frame whose job the peer has admitted: GET bytes are read; PUT bytes are staged and, at COMMIT, written whole. -/
def State.relayWork (s : State) (f : RelayFrame) (x : RelayStage) : State :=
  let others := s.stw.stages.filter (fun y => !(y.job == x.job && y.epoch == x.epoch))
  let put := fun (s : State) (l : List RelayStage) => ({ s with stw := { s.stw with stages := l } } : State)
  if x.ended ≠ 0 then (if f.commit then put s others else s).relayReply f x.ended 0 0 []
  else if !f.put then
    let d := s.engBytes f.hank 159 f.addr f.len
    d.2.relayReply f 0 0 0 d.1
  else
    let base := if x.data = [] then f.addr else x.base
    let data := if f.data = [] then x.data else overlay x.data (f.addr - base) f.data
    if !f.commit then (put s (others ++ [{ x with base := base, data := data }])).relayReply f 0 0 0 []
    else
      let s := put s others
      let s := (s.engWrite f.hank 159 base data).2.2
      ((s.hankPulse f.hank f.event).serve x.own).relayReply f 0 0 1 []

/-- The work of a frame, or its wait until the peer's own job has its slot and runs. -/
def State.relayDo (s : State) (f : RelayFrame) (x : RelayStage) : State :=
  let runs : Bool := match s.job? x.own with | some j => j.phase == .running | none => true
  if runs then s.relayWork f x
  else { s with stw := { s.stw with stages := s.stw.stages.map (fun (y : RelayStage) =>
    if y.own = x.own then { y with waiting := y.waiting ++ [f] } else y) } }

/-- The stage of a frame's job. -/
def State.stage? (s : State) (f : RelayFrame) : Option RelayStage := s.stw.stages.find? (fun x => x.job == f.job && x.epoch == f.epoch)

/-- The frames that waited are worked on, once the peer's own job has its slot or has ended. -/
def State.relayGo (s : State) (x : RelayStage) : State :=
  let s := s.updJob x.own (fun j => { j with phase := .running })
  let s := { s with stw := { s.stw with stages := s.stw.stages.map (fun (y : RelayStage) =>
    if y.own = x.own then { y with waiting := [] } else y) } }
  x.waiting.foldl (fun s f => match s.stage? f with | some y => s.relayWork f y | none => s) s

/-- RELAY_JOB_START: the master's job starts its transfers; a peer's own job, or one that ended while it waited, takes up its frames. -/
def State.relayJobStart (s : State) (id : Nat) : State :=
  match s.stw.stages.find? (fun x => x.own == id && !x.waiting.isEmpty) with
  | some x => if x.ended ≠ 0 ∨ (s.job? id).any (·.phase == .admitted) then s.relayGo x else s
  | none => s.relayStart id

/-- A RELAY frame at a peer: an older epoch is discarded; the first frame of a job makes the peer's own job. -/
def State.relayed (s : State) (f : RelayFrame) : State :=
  if f.epoch < (s.peer 0).epoch then { s with stw := { s.stw with staleRelay := satAdd 32 s.stw.staleRelay 1 } }
  else match s.stage? f with
    | some x => s.relayDo f x
    | none =>
      match s.relayAdmit f with
        | ((0, _), s) =>
          (match s.stage? f with
           | some x => s.relayDo f x
           | none => s)
        | ((st, d), s) => s.relayReply f st d 0 []

/-! ### The commands -/

def execPollCycle (s : State) : Host.Outcome State Fault Refusal :=
  .next (({ s with out := [] } : State).pollPeers)

def execDiscoverRound (s : State) : Host.Outcome State Fault Refusal :=
  .next (({ s with out := [] } : State).discoverPeers)

def execPollMissed (peer : Nat) (s : State) : Host.Outcome State Fault Refusal :=
  .next (({ s with out := [] } : State).missPoll peer)

def execPoll (h : Ebvar) (epoch : Nat) (s : State) : Host.Outcome State Fault Refusal :=
  .next (({ s with out := [] } : State).onFrame 0 2 h (fun s => if h.dst = 0xFF then s else s.polled epoch))

def execReply (h : Ebvar) (id : PeerId) (s : State) : Host.Outcome State Fault Refusal :=
  .next (({ s with out := [] } : State).onFrame 1 1 h (fun s => s.peerAnswer h.src id))

def execDiscover (h : Ebvar) (s : State) : Host.Outcome State Fault Refusal :=
  .next (({ s with out := [] } : State).onFrame 0 4 h (fun s => if h.dst = 0xFF then s else s.sendFrame 0 4 s.identity))

def execAnnounce (h : Ebvar) (id : PeerId) (s : State) : Host.Outcome State Fault Refusal :=
  .next (({ s with out := [] } : State).onFrame 1 3 h (fun s => s.peerAnswer h.src id))

def execMgmt (h : Ebvar) (op object value durationS origin : Nat) (data : List Byte) (s : State) : Host.Outcome State Fault Refusal :=
  .next (({ s with out := [] } : State).onFrame 0 6 h (fun s => s.forwarded op object value durationS origin data))

/-- MGMT_RPL: a peer's answer to a command of the master. -/
def execMgmtRpl (h : Ebvar) (op status : Nat) (data : List Byte) (s : State) : Host.Outcome State Fault Refusal :=
  .next (({ s with out := [] } : State).onFrame 1 5 h (fun s =>
    s.answer .trayMaster status 0 ([h.src, op] ++ data.map (·.toNat))))

def execRelay (f : RelayFrame) (s : State) : Host.Outcome State Fault Refusal :=
  .next (({ s with out := [] } : State).onFrame 0 8 f.hdr (fun s => s.relayed f))

def execRelayAck (f : RelayAckFrame) (s : State) : Host.Outcome State Fault Refusal :=
  .next (({ s with out := [] } : State).onFrame 1 7 f.hdr (fun s => s.relayAcked f))

def execRelayJobStart (job : Nat) (s : State) : Host.Outcome State Fault Refusal :=
  .next (({ s with out := [] } : State).relayJobStart job)

/-- MASTER_LOST: no valid frame has been addressed to this peer for 100 ms. -/
def execMasterLost (s : State) : Host.Outcome State Fault Refusal :=
  .next (({ s with out := [] } : State).loseMaster)

/-- FRAME_ABORT: the bytes of the frame so far are dropped; frames reach this model whole, so nothing else changes. -/
def execFrameAbort (s : State) : Host.Outcome State Fault Refusal :=
  .next { s with out := [] }

end Sys2Proof.Machine
end

