-- ==== Sys2Proof/Machine/Whorl.lean ====
section
/-! DEFINITION. Whorl jobs: staging, start and end (08 R195 to R202; 09 R222). -/

namespace Sys2Proof.Machine

/-! ### Staging (R197) -/

/-- The job of the highest class, then of the earliest slot. -/
def firstJob : List Job → Option Job
  | [] => none
  | j :: l =>
    match firstJob l with
    | none => some j
    | some x => some (if x.cls < j.cls ∨ (x.cls = j.cls ∧ x.slotSeq < j.slotSeq) then x else j)

/-- An array takes one waiting job into staging. -/
def State.whlStage (s : State) (a : Nat) : State :=
  let x := s.arr a
  if x.formed ∧ x.staged.length < x.depth then
    match firstJob (s.jobs.filter (fun j => j.kind == 1 && j.phase == .admitted && j.unit == a)) with
    | none => s
    | some j => (s.setArr a { x with staged := x.staged ++ [j.id] }).updJob j.id (fun j => { j with phase := .staged })
  else s

/-- The errors of tile SRAM of the array's tiles, each counted on its tile; an uncorrectable one reports its tile (R195). -/
def State.sramErrors (s : State) (tiles : List Nat) (ce : List (Nat × Nat)) (ue : List Nat) : State :=
  let s := (ce.filter (fun e => tiles.contains e.1)).foldl (fun s e =>
    s.setTile e.1 { s.tile e.1 with ce := satAdd 16 (s.tile e.1).ce e.2 }) s
  (ue.filter tiles.contains).foldl (fun s t =>
    (s.setTile t { s.tile t with ue := satAdd 16 (s.tile t).ue 1 }).report (14 + t) 4) s

/-! ### Job start (R198) -/

/-- The tiles are zeroed where their hank changes, which drops the resident weights (R195, R198 step 3). -/
def State.whlZero (s : State) (a h : Nat) : State :=
  let x := s.arr a
  let tiles := arrayTiles x.shape x.first
  let s := if tiles.any (fun t => (s.tile t).hank != h) then s.setArr a { x with resident := none } else s
  tiles.foldl (fun s t => s.setTile t { s.tile t with state := 3, hank := h, arrayId := a }) s

/-- The checks of a descriptor: the cause, 0 when all pass (R201, R204, R222). -/
def State.whlCheck (s : State) (a p addr h : Nat) (d : WDesc) : Nat :=
  let x := s.arr a
  if !d.descOk addr ∨ (d.ctx ≠ 0xFFFF ∧ !(s.ctx p d.ctx).usable h) then 1
  else if !d.formatOk then 2
  else if d.array ≠ a ∨ !x.formed ∨ x.ply ≠ p then 3
  else if 1 ≤ d.act ∧ d.act ≤ 7 ∧ x.tables.isNone then 6
  else 0

/-- The job is put on the array with its values so far. -/
def State.putRun (s : State) (a : Nat) (r : WhlRun) : State := s.setArr a { s.arr a with run := some r }

/-- The report, the tiles' release, and the job's end: served, or halted until the next boundary of its ply (R199 to R201, R211). -/
def State.whlFinish (s : State) (a cycles : Nat) (r : WhlRun) : State :=
  let w := s.whlReported a cycles r
  let r := w.1
  let s := w.2.whlRelease a cycles r
  if r.cause = 0 then
    let s := match r.keep with
      | some k => s.setArr a { s.arr a with resident := some k }
      | none => s
    s.serve r.job
  else s.updJob r.job (fun j => { j with phase := .halted, excused := true })

/-- The array starts its first staged job. One whose descriptor cannot be read or fails its check stops at once, with no cycle metered: the
array reports it and is free for the next (R198, R201). -/
def State.whlStart (s : State) (a : Nat) (ce : List (Nat × Nat)) (ue : List Nat) : State :=
  let x := s.arr a
  let tiles := arrayTiles x.shape x.first
  match x.run, x.staged with
  | none, id :: rest =>
    let s := s.setArr a { x with staged := rest }
    (match s.job? id with
     | none => s
     | some j =>
       let c := tiles.foldl (fun acc t =>
         let r := acc.2.startCheck (14 + t)
         (acc.1 && r.1, r.2)) (true, s)
       if !c.1 then c.2.complete id .unavailable 2
       else
         let s := c.2.updJob id (fun j => { j with phase := .running })
         let r : WhlRun := { job := id, hank := j.hank }
         match s.whlRead (84 + x.first) { run := r } j.desc 128 with
         | (.error e, s) => s.whlFinish a 0 (r.stop e)
         | (.ok (b, w), s) =>
           let r := { w.run with desc := b }
           let d := parseWhl b
           let cause := s.whlCheck a j.ply j.desc j.hank d
           if cause ≠ 0 then s.whlFinish a 0 (r.stop { cause := cause })
           else
             let s := (s.whlZero a j.hank).sramErrors tiles ce ue
             let r := { r with ctx := if d.fo ≤ 6 ∧ d.ctx ≠ 0xFFFF then some (256 * j.ply + d.ctx) else none }
             let s := if r.ctx.isSome then s.claimCtx j.ply d.ctx j.hank else s
             let r := { r with ue := ue.any tiles.contains
                               src := match r.ctx with | some _ => (s.ctx j.ply d.ctx).source | none => .const 0 }
             if d.aStream then (s.putRun a { r with streaming := true }).drainPort (0x3000 + 16 * x.first) else s.putRun a r)
  | _, _ => s

/-! ### Job end (R199 to R201, R211) -/

/-- The running job does its work and ends; a streamed one that lacks rows only when those at hand, or its tile SRAM, stop it. -/
def State.whlEnd (s : State) (a cycles : Nat) : State :=
  match (s.arr a).run with
  | none => s
  | some r =>
    if r.cause ≠ 0 then s.whlFinish a 0 r
    else
      let d := parseWhl r.desc
      let p := s.whlPackets a r
      let q := p.2.whlRun a r p.1 false
      if r.streaming ∧ p.1.length < d.aRows * d.heads ∧ q.1.cause = 0 then s else q.2.whlFinish a cycles q.1

/-! ### The commands -/

def execWhorlJobStage (array : Nat) (s : State) : Host.Outcome State Fault Refusal :=
  .next (({ s with out := [] } : State).whlStage array)

def execWhorlJobStart (array : Nat) (ce : List (Nat × Nat)) (ue : List Nat) (s : State) : Host.Outcome State Fault Refusal :=
  .next ((({ s with out := [] } : State).whlStart array ce ue).takeReports)

def execWhorlJobEnd (array cycles : Nat) (s : State) : Host.Outcome State Fault Refusal :=
  .next ((({ s with out := [] } : State).whlEnd array cycles).takeReports)

end Sys2Proof.Machine
end

