-- ==== Sys2Proof/Machine/Operands.lean ====
section
/-! DEFINITION. Zagil encodings and operands: fields, legality, memory operands, conditions, lanes (06 R151, R157, R158; 07 R170 to
R175, R179, R192). -/

namespace Sys2Proof.Machine

/-! ### Fields (07 R170, R172) -/

def zOpc (w : Nat) : Nat := bits w 63 58
def zFn (w : Nat) : Nat := bits w 57 52
/-- RD of formats R, M and K; VD of format V -/
def zRd (w : Nat) : Nat := bits w 51 47
/-- RA of formats R, K and OPC 0x05; VA of format V -/
def zRa (w : Nat) : Nat := bits w 46 42
/-- RB of format R; VB of format V -/
def zRb (w : Nat) : Nat := bits w 41 37
def zImm (w : Nat) : Nat := bits w 31 0
/-- I of formats R and K -/
def zI (w : Nat) : Bool := bit w 32
def zTgt (w : Nat) : Nat := bits w 51 40
/-- RA and COND of format C -/
def zCRa (w : Nat) : Nat := bits w 39 35
def zCond (w : Nat) : Nat := bits w 34 32
/-- CR of format K -/
def zCr (w : Nat) : Nat := bits w 41 34
/-- The memory operand of format M, and the X and Y operands of format V -/
def zMop (w : Nat) : Nat := bits w 46 31
def zMopX (w : Nat) : Nat := bits w 31 16
def zMopY (w : Nat) : Nat := bits w 15 0
def zPr (w : Nat) : Nat := bits w 36 34
def zW (w : Nat) : Bool := bit w 33
def zU (w : Nat) : Bool := bit w 32

/-- AN, MODE and the signed D of a memory operand (R173). -/
def mopAn (m : Nat) : Nat := bits m 15 13
def mopMode (m : Nat) : Nat := bits m 12 10
def mopD (m : Nat) : Int := sx 10 (bits m 9 0)

/-- Bytes of a size code (R173). -/
def sizeOf' (c : Nat) : Nat := if c = 1 then 2 else if c = 2 then 4 else if c = 3 then 8 else if c = 4 then 64 else 128

/-! ### Legality (07 R171, R180, R184 to R192) -/

/-- A memory operand outside format M: MODE 0 to 3, D zero in modes 0 and 2. -/
def mopOk (m : Nat) : Bool :=
  decide (mopMode m ≤ 3) && (!(mopMode m == 0 || mopMode m == 2) || bits m 9 0 == 0)

/-- The memory operand of format M with its ABS. -/
def mopOkM (w : Nat) : Bool :=
  let m := zMop w
  bits w 30 18 == 0 &&
    (if mopMode m = 4 then mopAn m == 0 && bits m 9 0 == 0 else mopOk m && bits w 17 0 == 0)

/-- A CR number of R182. -/
def crOk (c : Nat) : Bool := decide (c < 64) && c != 11

def zLegalScalar (w : Nat) : Bool :=
  decide (zFn w ≤ 0x0F) && bits w 36 33 == 0
    && (if zI w then zRb w == 0 else zImm w == 0)
    && (if 0x0E ≤ zFn w then zI w && zRa w == 0 else true)

def zLegalLocal (w : Nat) : Bool :=
  let c := zFn w % 8
  mopOkM w &&
    (match zOpc w with
     | 2 => zFn w < 16 && decide (1 ≤ c ∧ c ≤ 3) && !(c == 3 && bit (zFn w) 3)
     | 3 => zFn w < 8 && decide (1 ≤ c ∧ c ≤ 3)
     | _ => zFn w < 8 && decide (1 ≤ c ∧ c ≤ 5) && (mopMode (zMop w) == 1 || mopMode (zMop w) == 2))

def zLegalFar (w : Nat) : Bool :=
  let f := zFn w
  bits w 41 32 == 0 && decide (f < 16) && (if bit f 2 then !bit f 3 else !(f % 4 == 3 && bit f 3))

def zLegalControl (pc : Nat) (w : Nat) : Bool :=
  let tgt := zTgt w == 0
  let ra := zCRa w == 0
  let cond := zCond w == 0
  let imm := zImm w == 0
  match zFn w with
  | 0x00 => imm && (if zCond w = 0 ∨ zCond w = 5 then ra else if 6 ≤ zCond w then decide (zCRa w < 8) else true)
  | 0x01 => tgt && cond && imm
  | 0x02 => ra && cond
  | 0x03 => tgt && cond
  | 0x06 => ra && cond && decide (pc < zTgt w * 16)
  | 0x07 => cond && imm && decide (pc < zTgt w * 16)
  | 0x09 => tgt && ra && cond && decide (zImm w < 65536)
  | 0x04 | 0x05 | 0x08 | 0x0A | 0x0B => tgt && ra && cond && imm
  | _ => false

def zLegalVector (w : Nat) : Bool :=
  let e := zImm w
  let u := !zU w
  let lanes := if zW w then 128 else 64
  match zFn w with
  | 0x00 | 0x01 | 0x04 | 0x05 | 0x06 | 0x07 | 0x08 | 0x0E | 0x0F | 0x11 => u && e == 0
  | 0x02 | 0x03 | 0x0C | 0x0D => e == 0
  | 0x09 | 0x0A | 0x0B => u && decide (e < (if zW w then 8 else 16))
  | 0x10 => u && decide (e < lanes)
  | 0x12 => !zW w && decide (e < 16)
  | 0x13 => !zW w && decide (e < 2)
  | _ => false

def zLegalPred (w : Nat) : Bool :=
  match zFn w with
  | 0x00 | 0x01 | 0x02 => decide (zRd w < 8) && zImm w == 0
  | 0x08 | 0x09 | 0x0A | 0x0B =>
    decide (zRd w < 8 ∧ zRa w < 8 ∧ zRb w < 8) && zPr w == 0 && !zU w && zImm w == 0
  | _ => false

def zLegalVmem (w : Nat) : Bool :=
  !zU w && mopOk (zMopX w) &&
    (match zFn w with
     | 0x00 | 0x01 | 0x04 => zMopY w == 0
     | 0x02 | 0x03 => decide (zMopY w < 2)
     | _ => false)

/-- MAC and CMAC: the two operands of the XY form name different A registers. -/
def zLegalMac (w : Nat) : Bool :=
  decide (zFn w < 16) && decide (zRd w < 4) &&
    (if bit (zFn w) 3 then mopOk (zMopX w) && mopOk (zMopY w) && mopAn (zMopX w) != mopAn (zMopY w) else true)

def zLegalAcc (w : Nat) : Bool :=
  decide (zRd w < 4) &&
    (match zFn w with
     | 0x00 => !zU w
     | 0x01 => true
     | 0x02 | 0x03 => !zU w && decide (zRa w < 4 ∧ zRb w < 4)
     | 0x04 => !zU w && decide (zRa w < 4)
     | _ => false)

/-- Whether the instruction `w` is legal in the next slot of core `k` (R192). -/
def zLegal (k : Core) (w : Nat) : Bool :=
  match zOpc w with
  | 0x00 => zFn w == 0
  | 0x01 => !k.slotB && zLegalScalar w
  | 0x02 | 0x03 | 0x04 => !k.slotB && zLegalLocal w
  | 0x05 => !k.slotB && zLegalFar w
  | 0x06 => !k.slotB && zLegalControl k.pc.toNat w
  | 0x07 => !k.slotB && decide (zFn w ≤ 1) && !bit w 33 && crOk (zCr w)
  | 0x08 => zFn w == 0 && zTgt w == 0 && zImm w == 0
  | 0x10 => k.slotB && zLegalVector w
  | 0x11 => k.slotB && zLegalPred w
  | 0x12 => k.slotB && zLegalVmem w
  | 0x13 => k.slotB && decide (zFn w ≤ 1) && !zU w
  | 0x14 => k.slotB && zLegalMac w
  | 0x15 => k.slotB && zLegalMac w && !zW w && !zU w
  | 0x16 => k.slotB && zLegalAcc w
  | 0x17 => k.slotB && decide (zFn w < 4) && !zU w && (!bit (zFn w) 0 || decide (zRa w < 4))
  | 0x18 => k.slotB && zFn w == 0 && decide (zRa w < 4)
  | _ => false

/-! ### Addressing (06 R157, R158) -/

/-- The low `w` bits of `x` reversed. -/
def revBits (x : Nat) : Nat → Nat
  | 0 => 0
  | w + 1 => (x % 2) * 2 ^ w + revBits (x / 2) w

/-- modadd; none where bit-reversed mode finds an unusable LEN. -/
def Core.modadd (k : Core) (n : Nat) (d : Int) (size : Nat) : Option (BitVec 32) :=
  let a := (k.getA n).toNat
  let b := (mget k.b n (0 : BitVec 32)).toNat
  let l := (mget k.l n (0 : BitVec 32)).toNat
  let len := bits l 18 0
  if !bit l 31 then
    if len = 0 then some (BitVec.ofNat 32 (low 32 ((a : Int) + d)))
    else some (BitVec.ofNat 32 (b + (((a : Int) - b + d) % len).toNat))
  else if len < size ∨ 2 ^ len.log2 ≠ len then none
  else
    let g := size.log2
    let w := len.log2 - g
    let off := low len.log2 ((a : Int) - b)
    let f := off / 2 ^ g
    let m := low len.log2 d / 2 ^ g
    let r := revBits ((revBits f w + revBits m w) % 2 ^ w) w
    some (BitVec.ofNat 32 (b + r * 2 ^ g + off % size))

/-- The cause of a local access's fault: ALIGN, then ADDRESS (R152). -/
def localCause (a size : Nat) : Option Nat :=
  if a % size ≠ 0 then some 2 else if 0x40000 < a + size then some 3 else none

/-- The effective address of a memory operand, or the cause of its fault. -/
def Core.mopAddr (k : Core) (m abs size : Nat) : Except Nat Nat :=
  let check (a : Nat) : Except Nat Nat :=
    match localCause a size with
    | some c => .error c
    | none => .ok a
  if mopMode m = 3 then
    match k.modadd (mopAn m) (mopD m * size) size with
    | none => .error 8
    | some x => check x.toNat
  else if mopMode m = 4 then check abs
  else check (k.getA (mopAn m)).toNat

/-- The modify of a memory operand in modes 1 and 2. -/
def Core.mopModify (k : Core) (m size : Nat) : Except Nat Core :=
  let n := mopAn m
  let go (d : Int) : Except Nat Core :=
    match k.modadd n d size with
    | none => .error 8
    | some x => .ok (k.setA n x)
  if mopMode m = 1 then go (mopD m * size)
  else if mopMode m = 2 then go (mget k.m n (0 : BitVec 32)).toInt
  else .ok k

/-- The effective address and the core after the modify; the access is checked before the modify. -/
def Core.mop (k : Core) (m abs size : Nat) : Except Nat (Nat × Core) :=
  match k.mopAddr m abs size with
  | .error c => .error c
  | .ok a =>
    match k.mopModify m size with
    | .error c => .error c
    | .ok k' => .ok (a, k')

/-! ### Conditions (07 R179) -/

/-- Whether a condition holds. -/
def Core.holds (k : Core) (cond ra : Nat) : Bool :=
  match cond with
  | 0 => true
  | 1 => k.getS ra == 0
  | 2 => k.getS ra != 0
  | 3 => (k.getS ra).msb
  | 4 => !(k.getS ra).msb
  | 5 => k.sat
  | 6 => k.getP (ra % 8) != 0
  | _ => k.getP (ra % 8) == 0

/-! ### Lanes (06 R151; 07 R174, R175) -/

/-- Width and number of lanes. -/
def laneW (w8 : Bool) : Nat := if w8 then 8 else 16
def laneN (w8 : Bool) : Nat := if w8 then 128 else 64

/-- Lane `i` of width `w`. -/
def lane (w v i : Nat) : Nat := bits v (w * i + w - 1) (w * i)

/-- A lane as a number, signed unless `u`. -/
def laneI (w : Nat) (u : Bool) (v i : Nat) : Int := if u then lane w v i else sx w (lane w v i)

/-- A vector from its lanes, lane 0 first. -/
def ofLanes (w : Nat) : List Nat → Nat
  | [] => 0
  | x :: xs => x % 2 ^ w + 2 ^ w * ofLanes w xs

/-- Whether predicate `pr` governs lane `i`. -/
def Core.governs (k : Core) (pr : Nat) (w8 : Bool) (i : Nat) : Bool :=
  (k.getP pr).getLsbD (if w8 then i else 2 * i)

def Core.vget (k : Core) (i : Nat) : Nat := (mget k.v i (0 : BitVec 1024)).toNat
def Core.vset (k : Core) (i v : Nat) : Core := { k with v := mset k.v i (BitVec.ofNat 1024 v) }

/-- sat of R174: the low `w` bits of the result, and whether it differs. -/
def satW (w : Nat) (u : Bool) (v : Int) : Nat × Bool :=
  let r := if u then satU w v else satS w v
  (low w r, r != v)

/-- The governed lanes of V register `d` become `f` of their index: the value and whether it saturated. -/
def Core.vwrite (k : Core) (d : Nat) (w8 : Bool) (g : Nat → Bool) (f : Nat → Nat × Bool) : Core :=
  let old := k.vget d
  let rs := (List.range (laneN w8)).map (fun i => if g i then f i else (lane (laneW w8) old i, false))
  ({ k with sat := k.sat || rs.any (·.2) } : Core).vset d (ofLanes (laneW w8) (rs.map (·.1)))

def Core.aget (k : Core) (i : Nat) : Nat := (mget k.ac i (0 : BitVec 3072)).toNat

/-- The governed lanes of accumulator `d` become sat(f, 48). -/
def Core.acwrite (k : Core) (d : Nat) (f : Nat → Option Int) : Core :=
  let old := k.aget d
  let rs := (List.range 64).map (fun j => match f j with
    | some v => satW 48 false v
    | none => (lane 48 old j, false))
  { k with sat := k.sat || rs.any (·.2), ac := mset k.ac d (BitVec.ofNat 3072 (ofLanes 48 (rs.map (·.1)))) }

/-! ### Instructions on the core alone -/

/-- An instruction whose effect is on its core alone, as `issue` takes it. -/
def onCore (f : Core → Nat → Except Nat Core) (s : State) (c w : Nat) : Option Nat × State :=
  match f (s.core c) w with
  | .error cause => (some cause, s)
  | .ok k => (none, s.setCore c k)

/-- The commanded instruction of core `c` is issued: `op` recognises it, `f` is its effect on the core. -/
def State.zagil (s : State) (c : Nat) (op : Nat → Bool) (f : Core → Nat → Except Nat Core) : State :=
  ({ s with out := [] } : State).issue c zLegal op (onCore f)

/-- Recognises OPC and FN. -/
def isOp (opc fn : Nat) (w : Nat) : Bool := zOpc w == opc && zFn w == fn

end Sys2Proof.Machine
end

