-- ==== Sys2Proof/Machine/ZagilScalar.lean ====
section
/-! DEFINITION. The scalar, address and control instructions of the Zagil set (06 R159 to R164, R167; 07 R176 to R183). -/

namespace Sys2Proof.Machine

/-! ### Scalar arithmetic (R176) -/

/-- The second operand: IMM32 sign-extended, or S[RB]. -/
def Core.opB (k : Core) (w : Nat) : BitVec 64 := if zI w then BitVec.ofInt 64 (sx 32 (zImm w)) else k.getS (zRb w)

/-- S[RD] = f(S[RA], b). -/
def Core.scalar (f : BitVec 64 → BitVec 64 → BitVec 64) (k : Core) (w : Nat) : Except Nat Core :=
  .ok (k.setS (zRd w) (f (k.getS (zRa w)) (k.opB w)))

def Core.movi (k : Core) (w : Nat) : Except Nat Core := .ok (k.setS (zRd w) (k.opB w))

def Core.movhi (k : Core) (w : Nat) : Except Nat Core :=
  .ok (k.setS (zRd w) (BitVec.ofNat 64 (zImm w * 2 ^ 32 + (k.getS (zRd w)).toNat % 2 ^ 32)))

/-! ### Local scalar accesses and AMOD (R177) -/

/-- A value of `n` bytes extended to 64 bits. -/
def extend (n v : Nat) (zero : Bool) : BitVec 64 := if zero then BitVec.ofNat 64 v else BitVec.ofInt 64 (sx (8 * n) v)

def Core.localLoad (k : Core) (w : Nat) : Except Nat Core :=
  let n := sizeOf' (zFn w % 8)
  match k.mop (zMop w) (bits w 17 0) n with
  | .error c => .error c
  | .ok (a, k') => .ok (k'.setS (zRd w) (extend n (leNat (k.lbytes a n)) (bit (zFn w) 3)))

def Core.localStore (k : Core) (w : Nat) : Except Nat Core :=
  let n := sizeOf' (zFn w % 8)
  match k.mop (zMop w) (bits w 17 0) n with
  | .error c => .error c
  | .ok (a, k') => .ok (k'.lput a (leBytes n (k.getS (zRd w)).toNat))

/-- AMOD: the modify of its operand, and no access. -/
def Core.amod (k : Core) (w : Nat) : Except Nat Core :=
  k.mopModify (zMop w) (sizeOf' (zFn w % 8))

/-! ### Control (R179, R180) -/

def tgtOf (w : Nat) : BitVec 16 := BitVec.ofNat 16 (zTgt w * 16)

def Core.branch (k : Core) (w : Nat) : Except Nat Core :=
  .ok (if k.holds (zCond w) (zCRa w) then { k with jump := some (tgtOf w, true) } else k)

/-- A target in a register: its low 16 bits, or ALIGN. -/
def Core.regTarget (k : Core) (w : Nat) : Except Nat (BitVec 16) :=
  let v := (k.getS (zCRa w)).toNat
  if v % 16 ≠ 0 then .error 2 else .ok (BitVec.ofNat 16 v)

def Core.branchReg (k : Core) (w : Nat) : Except Nat Core :=
  match k.regTarget w with
  | .error c => .error c
  | .ok t => .ok { k with jump := some (t, true) }

/-- The registers a call's mask names, with bits 0 and 30 cleared. -/
def maskRegs (m : Nat) : List Nat := (List.range 32).filter (fun i => bit m i && i != 0 && i != 30)

/-- Whether a frame of `n` words at `sp` lies wholly in X or wholly in Y. -/
def frameOk (sp n : Nat) : Bool :=
  decide (sp + 8 * n ≤ 0x20000) || (decide (0x20000 ≤ sp) && decide (sp + 8 * n ≤ 0x40000))

/-- CALL (06 R163): its frame is checked at issue and written after slot B (R180). -/
def Core.callTo (k : Core) (w : Nat) (t : BitVec 16) : Except Nat Core :=
  let rs := maskRegs (zImm w)
  let sp := (k.getS 30 - BitVec.ofNat 64 (8 * (rs.length + 1)))
  let a := sp.toNat
  if a % 8 ≠ 0 ∨ frameOk a (rs.length + 1) = false then .error 3
  else .ok { k with jump := some (t, false), frame := some (true, rs) }

def Core.call (k : Core) (w : Nat) : Except Nat Core := k.callTo w (tgtOf w)

def Core.callReg (k : Core) (w : Nat) : Except Nat Core :=
  match k.regTarget w with
  | .error c => .error c
  | .ok t => k.callTo w t

/-- RET (06 R164): its frame is checked at issue and restored after slot B (R180). -/
def Core.ret (k : Core) (w : Nat) : Except Nat Core :=
  let _ := w
  let a := (k.getS 30).toNat
  if a % 8 ≠ 0 then .error 2
  else if frameOk a 1 = false then .error 3
  else
    let rs := maskRegs (leNat (k.lbytes a 4))
    if frameOk a (rs.length + 1) = false then .error 3
    else .ok { k with jump := some (BitVec.ofNat 16 (k.getS 31).toNat, false), frame := some (false, rs) }

/-- RTI (06 R167): at base level it is illegal. -/
def Core.rtiOp (k : Core) (w : Nat) : Except Nat Core :=
  let _ := w
  if k.active = 0 then .error 1 else .ok { k with rti := true }

/-- A repeat of `count` iterations up to the bundle at the target (06 R159); the inputs held off count its iterations anew (06 R169). -/
def Core.repeat_ (k : Core) (w count : Nat) : Except Nat Core :=
  let e := tgtOf w
  let d := k.getLd
  if count = 0 then .ok { k with jump := some (e + 16, false) }
  else if 4 ≤ d then .error 6
  else
    let pushed := { (((k.setLs d (k.pc + 16)).setLe d e).setLc d (BitVec.ofNat 32 count)).setLd (d + 1) with heldIters := [] }
    match ((List.range d).reverse.find? (fun i => k.inBody i k.pc)) with
    | some i => if (k.getLe i).toNat < e.toNat then .error 7 else .ok pushed
    | none => .ok pushed

def Core.rep (k : Core) (w : Nat) : Except Nat Core := k.repeat_ w (zImm w)
def Core.repReg (k : Core) (w : Nat) : Except Nat Core := k.repeat_ w ((k.getS (zCRa w)).toNat % 2 ^ 32)

def Core.tendOp (k : Core) (w : Nat) : Except Nat Core := let _ := w; .ok { k with tend := true }
def Core.waitOp (k : Core) (w : Nat) : Except Nat Core := let _ := w; .ok { k with waiting := true }
def Core.skipOp (k : Core) (w : Nat) : Except Nat Core := .ok { k with skip := some (k.holds (zCond w) (zCRa w)) }
def Core.nopOp (k : Core) (w : Nat) : Except Nat Core := let _ := w; .ok k

/-- EVP: every write has had its response when it is issued; the event is pulsed in the task's hank, or ACCESS (R181). -/
def evpOp (s : State) (c w : Nat) : Option Nat × State :=
  let h := (s.core c).hank
  let e := zImm w % 65536
  if s.ownsEvent h e then (none, s.pulse e) else (some 4, s.accessError h e 5)

/-! ### Control registers (R182) -/

/-- A control register as a number. -/
def Core.getCr (k : Core) (c : Nat) : Nat :=
  if c = 0 then k.sr
  else if c = 1 then k.bx
  else if c < 6 then (mget k.as_ (c - 2) (0 : BitVec 6)).toNat
  else if c = 6 then k.vbase.toNat
  else if c = 7 then k.ien.toNat
  else if c = 8 then k.ilvl.toNat
  else if c = 9 then k.ipend.toNat
  else if c = 10 then k.pc.toNat
  else if c < 16 then (mget k.ipc (c - 12) (0 : BitVec 16)).toNat
  else if c < 20 then (mget k.isr (c - 16) (0 : BitVec 32)).toNat
  else if c < 24 then (k.getLs (c - 20)).toNat
  else if c < 28 then (k.getLe (c - 24)).toNat
  else if c < 32 then (k.getLc (c - 28)).toNat
  else if c < 40 then (k.getA (c - 32)).toNat
  else if c < 48 then (mget k.b (c - 40) (0 : BitVec 32)).toNat
  else if c < 56 then (mget k.l (c - 48) (0 : BitVec 32)).toNat
  else (mget k.m (c - 56) (0 : BitVec 32)).toNat

/-- A write of a control register. -/
def Core.setCr (k : Core) (c v : Nat) : Core :=
  if c = 0 then k.setSr v
  else if c = 1 then { k with bx := min v 47 }
  else if c < 6 then { k with as_ := mset k.as_ (c - 2) (BitVec.ofNat 6 v) }
  else if c = 6 then { k with vbase := BitVec.ofNat 16 (v / 16 * 16) }
  else if c = 7 then { k with ien := BitVec.ofNat 32 v }
  else if c = 8 then { k with ilvl := BitVec.ofNat 64 v }
  else if c < 12 then k
  else if c < 16 then { k with ipc := mset k.ipc (c - 12) (BitVec.ofNat 16 v) }
  else if c < 20 then { k with isr := mset k.isr (c - 16) (BitVec.ofNat 32 v) }
  else if c < 24 then k.setLs (c - 20) (BitVec.ofNat 16 v)
  else if c < 28 then k.setLe (c - 24) (BitVec.ofNat 16 v)
  else if c < 32 then k.setLc (c - 28) (BitVec.ofNat 32 v)
  else if c < 40 then k.setA (c - 32) (BitVec.ofNat 32 v)
  else if c < 48 then { k with b := mset k.b (c - 40) (BitVec.ofNat 32 v) }
  else if c < 56 then { k with l := mset k.l (c - 48) (BitVec.ofNat 32 (bits v 31 31 * 2 ^ 31 + bits v 18 0)) }
  else { k with m := mset k.m (c - 56) (BitVec.ofNat 32 v) }

def Core.movcGet (k : Core) (w : Nat) : Except Nat Core := .ok (k.setS (zRd w) (BitVec.ofNat 64 (k.getCr (zCr w))))

def Core.movcSet (k : Core) (w : Nat) : Except Nat Core :=
  .ok (k.setCr (zCr w) (if zI w then zImm w else (k.getS (zRa w)).toNat))

/-! ### The commands -/

/-- ADD -/
def execAdd (core : Nat) (s : State) : Host.Outcome State Fault Refusal :=
  .next (s.zagil core (isOp 0x01 0x0) (Core.scalar (fun a b => a + b)))

/-- SUB -/
def execSub (core : Nat) (s : State) : Host.Outcome State Fault Refusal :=
  .next (s.zagil core (isOp 0x01 0x1) (Core.scalar (fun a b => a - b)))

/-- AND -/
def execAnd (core : Nat) (s : State) : Host.Outcome State Fault Refusal :=
  .next (s.zagil core (isOp 0x01 0x2) (Core.scalar (fun a b => a &&& b)))

/-- OR -/
def execOr (core : Nat) (s : State) : Host.Outcome State Fault Refusal :=
  .next (s.zagil core (isOp 0x01 0x3) (Core.scalar (fun a b => a ||| b)))

/-- XOR -/
def execXor (core : Nat) (s : State) : Host.Outcome State Fault Refusal :=
  .next (s.zagil core (isOp 0x01 0x4) (Core.scalar (fun a b => a ^^^ b)))

/-- SLL -/
def execSll (core : Nat) (s : State) : Host.Outcome State Fault Refusal :=
  .next (s.zagil core (isOp 0x01 0x5) (Core.scalar (fun a b => a <<< (b.toNat % 64))))

/-- SRL -/
def execSrl (core : Nat) (s : State) : Host.Outcome State Fault Refusal :=
  .next (s.zagil core (isOp 0x01 0x6) (Core.scalar (fun a b => a >>> (b.toNat % 64))))

/-- SRA -/
def execSra (core : Nat) (s : State) : Host.Outcome State Fault Refusal :=
  .next (s.zagil core (isOp 0x01 0x7) (Core.scalar (fun a b => a.sshiftRight (b.toNat % 64))))

/-- SLT -/
def execSlt (core : Nat) (s : State) : Host.Outcome State Fault Refusal :=
  .next (s.zagil core (isOp 0x01 0x8) (Core.scalar (fun a b => if a.slt b then 1 else 0)))

/-- SLTU -/
def execSltu (core : Nat) (s : State) : Host.Outcome State Fault Refusal :=
  .next (s.zagil core (isOp 0x01 0x9) (Core.scalar (fun a b => if a.ult b then 1 else 0)))

/-- MUL -/
def execMul (core : Nat) (s : State) : Host.Outcome State Fault Refusal :=
  .next (s.zagil core (isOp 0x01 0xa) (Core.scalar (fun a b => a * b)))

/-- MULH -/
def execMulh (core : Nat) (s : State) : Host.Outcome State Fault Refusal :=
  .next (s.zagil core (isOp 0x01 0xb) (Core.scalar (fun a b => BitVec.ofInt 64 (a.toInt * b.toInt / 2 ^ 64))))

/-- MIN -/
def execMin (core : Nat) (s : State) : Host.Outcome State Fault Refusal :=
  .next (s.zagil core (isOp 0x01 0xc) (Core.scalar (fun a b => if b.slt a then b else a)))

/-- MAX -/
def execMax (core : Nat) (s : State) : Host.Outcome State Fault Refusal :=
  .next (s.zagil core (isOp 0x01 0xd) (Core.scalar (fun a b => if a.slt b then b else a)))

/-- MOVI -/
def execMovi (core : Nat) (s : State) : Host.Outcome State Fault Refusal := .next (s.zagil core (isOp 0x01 0x0E) Core.movi)

/-- MOVHI -/
def execMovhi (core : Nat) (s : State) : Host.Outcome State Fault Refusal := .next (s.zagil core (isOp 0x01 0x0F) Core.movhi)

/-- NOP -/
def execNop (core : Nat) (s : State) : Host.Outcome State Fault Refusal := .next (s.zagil core (isOp 0x00 0x00) Core.nopOp)

/-- Local scalar load -/
def execLocalScalarLoad (core : Nat) (s : State) : Host.Outcome State Fault Refusal :=
  .next (s.zagil core (fun w => zOpc w == 0x02) Core.localLoad)

/-- Local scalar store -/
def execLocalScalarStore (core : Nat) (s : State) : Host.Outcome State Fault Refusal :=
  .next (s.zagil core (fun w => zOpc w == 0x03) Core.localStore)

/-- AMOD -/
def execAmod (core : Nat) (s : State) : Host.Outcome State Fault Refusal := .next (s.zagil core (fun w => zOpc w == 0x04) Core.amod)

/-- BR -/
def execBr (core : Nat) (s : State) : Host.Outcome State Fault Refusal := .next (s.zagil core (isOp 0x06 0x00) Core.branch)

/-- BRR -/
def execBrr (core : Nat) (s : State) : Host.Outcome State Fault Refusal := .next (s.zagil core (isOp 0x06 0x01) Core.branchReg)

/-- CALL -/
def execCall (core : Nat) (s : State) : Host.Outcome State Fault Refusal := .next (s.zagil core (isOp 0x06 0x02) Core.call)

/-- CALLR -/
def execCallr (core : Nat) (s : State) : Host.Outcome State Fault Refusal := .next (s.zagil core (isOp 0x06 0x03) Core.callReg)

/-- RET -/
def execRet (core : Nat) (s : State) : Host.Outcome State Fault Refusal := .next (s.zagil core (isOp 0x06 0x04) Core.ret)

/-- RTI -/
def execRti (core : Nat) (s : State) : Host.Outcome State Fault Refusal := .next (s.zagil core (isOp 0x06 0x05) Core.rtiOp)

/-- REP -/
def execRep (core : Nat) (s : State) : Host.Outcome State Fault Refusal := .next (s.zagil core (isOp 0x06 0x06) Core.rep)

/-- REPR -/
def execRepr (core : Nat) (s : State) : Host.Outcome State Fault Refusal := .next (s.zagil core (isOp 0x06 0x07) Core.repReg)

/-- TEND -/
def execTend (core : Nat) (s : State) : Host.Outcome State Fault Refusal := .next (s.zagil core (isOp 0x06 0x08) Core.tendOp)

/-- EVP -/
def execEvp (core : Nat) (s : State) : Host.Outcome State Fault Refusal :=
  .next (({ s with out := [] } : State).issue core zLegal (isOp 0x06 0x09) evpOp)

/-- FENCE: a write is performed when it is issued, so none is waited for. -/
def execFence (core : Nat) (s : State) : Host.Outcome State Fault Refusal := .next (s.zagil core (isOp 0x06 0x0A) Core.nopOp)

/-- WAITI -/
def execWaiti (core : Nat) (s : State) : Host.Outcome State Fault Refusal := .next (s.zagil core (isOp 0x06 0x0B) Core.waitOp)

/-- MOVC, read -/
def execMovcRead (core : Nat) (s : State) : Host.Outcome State Fault Refusal := .next (s.zagil core (isOp 0x07 0x00) Core.movcGet)

/-- MOVC, write -/
def execMovcWrite (core : Nat) (s : State) : Host.Outcome State Fault Refusal := .next (s.zagil core (isOp 0x07 0x01) Core.movcSet)

/-- SKIP -/
def execSkip (core : Nat) (s : State) : Host.Outcome State Fault Refusal := .next (s.zagil core (isOp 0x08 0x00) Core.skipOp)

end Sys2Proof.Machine
end

