-- ==== Sys2Proof/Machine/ZagilFar.lean ====
section
/-! DEFINITION. The accesses of the Zagil set to the memory network: far scalar loads and stores, VLDF, VSTF (06 R152; 07 R178, R185). -/

namespace Sys2Proof.Machine

/-- The cause an access of the memory network raises: ACCESS, or POISON (log 66 for data errors). -/
def farCause : Status → Nat
  | .access | .decode => 4
  | _ => 5

/-- The address of a far scalar access: 48 bits of S[RA] + IMM32 sign-extended. -/
def Core.farAddr (k : Core) (w : Nat) : Nat := low 48 ((k.getS (zRa w)).toNat + sx 32 (zImm w))

/-- Size of a far scalar access. -/
def farSize (w : Nat) : Nat := 2 ^ (zFn w % 4)

/-- A far scalar load of core `c`. -/
def farLoad (s : State) (c w : Nat) : Option Nat × State :=
  let a := (s.core c).farAddr w
  let n := farSize w
  if a % n ≠ 0 then (some 2, s)
  else
    match s.busRead (.spindle c) a n with
    | (.ok, _, b, s) =>
      (none, (s.setCore c ((s.core c).setS (zRd w) (extend n (leNat b) (bit (zFn w) 3)))).coreMeter c a n)
    | (st, _, _, s) => (some (farCause st), s)

/-- A far scalar store of core `c`. -/
def farStore (s : State) (c w : Nat) : Option Nat × State :=
  let a := (s.core c).farAddr w
  let n := farSize w
  if a % n ≠ 0 then (some 2, s)
  else
    match s.busWrite (.spindle c) a (leBytes n ((s.core c).getS (zRd w)).toNat) with
    | (.ok, _, s) => (none, s.coreMeter c a n)
    | (st, _, s) => (some (farCause st), s)

/-- The address in the S register that VA names. -/
def Core.farVec (k : Core) (w : Nat) : Nat := (k.getS (zRa w)).toNat % 2 ^ 48

/-- The governed lanes of VD take the lanes of a 1024-bit value (R175). -/
def Core.vfill (k : Core) (w x : Nat) : Core :=
  k.vwrite (zRd w) (zW w) (k.governs (zPr w) (zW w)) (fun i => (lane (laneW (zW w)) x i, false))

/-- VLDF: 128 bytes as two requests; the governed lanes of VD are written when both have been answered. -/
def farVecLoad (s : State) (c w : Nat) : Option Nat × State :=
  let a := (s.core c).farVec w
  if a % 128 ≠ 0 then (some 2, s)
  else
    match s.busRead (.spindle c) a 128 with
    | (.ok, _, b, s) => (none, (s.setCore c ((s.core c).vfill w (leNat b))).coreMeter c a 128)
    | (st, _, _, s) => (some (farCause st), s)

/-- The bytes of the vector register VSTF stores, each with whether its lane is governed (R175). -/
def Core.farStoreBytes (k : Core) (w : Nat) : List (Bool × Byte) :=
  (List.range 128).map (fun i =>
    (k.governs (zPr w) (zW w) (if zW w then i else i / 2), BitVec.ofNat 8 (lane 8 (k.vget (zRd w)) i)))

/-- VSTF: the bytes of governed lanes, as two requests. -/
def farVecStore (s : State) (c w : Nat) : Option Nat × State :=
  let a := (s.core c).farVec w
  if a % 128 ≠ 0 then (some 2, s)
  else
    match s.busWriteRuns (.spindle c) a ((s.core c).farStoreBytes w) with
    | (.ok, s) => (none, s.coreMeter c a 128)
    | (st, s) => (some (farCause st), s)

/-- A far instruction is issued like any other. -/
def State.zagilFar (s : State) (c : Nat) (op : Nat → Bool) (f : State → Nat → Nat → Option Nat × State) : State :=
  (({ s with out := [] } : State).issue c zLegal op f).settle

/-! ### The commands -/

def execFarScalarLoad (core : Nat) (s : State) : Host.Outcome State Fault Refusal :=
  .next (s.zagilFar core (fun w => zOpc w == 0x05 && !bit (zFn w) 2) farLoad)

def execFarScalarStore (core : Nat) (s : State) : Host.Outcome State Fault Refusal :=
  .next (s.zagilFar core (fun w => zOpc w == 0x05 && bit (zFn w) 2) farStore)

def execVldf (core : Nat) (s : State) : Host.Outcome State Fault Refusal :=
  .next (s.zagilFar core (isOp 0x13 0) farVecLoad)

def execVstf (core : Nat) (s : State) : Host.Outcome State Fault Refusal :=
  .next (s.zagilFar core (isOp 0x13 1) farVecStore)

end Sys2Proof.Machine
end

