-- ==== Sys2Proof/Machine/ZagilVector.lean ====
section
/-! DEFINITION. The vector, predicate, multiply-accumulate and accumulator instructions of the Zagil set (07 R184 to R191). -/

namespace Sys2Proof.Machine

/-! ### Vector arithmetic and logic (R184) -/

/-- A lane-by-lane instruction: `f` takes the lane width and the two lanes, read as the instruction reads them. -/
def Core.vlanes (u : Bool) (f : Nat → Int → Int → Nat × Bool) (k : Core) (w : Nat) : Except Nat Core :=
  let b := laneW (zW w)
  let x := k.vget (zRa w)
  let y := k.vget (zRb w)
  .ok (k.vwrite (zRd w) (zW w) (k.governs (zPr w) (zW w)) (fun i => f b (laneI b u x i) (laneI b u y i)))

/-- A result that wraps. -/
def wrap (f : Int → Int → Int) (b : Nat) (x y : Int) : Nat × Bool := (low b (f x y), false)

/-- A bitwise result. -/
def bitwise (f : Nat → Nat → Nat) (b : Nat) (x y : Int) : Nat × Bool := (f (low b x) (low b y), false)

def Core.vselect (k : Core) (w : Nat) : Except Nat Core :=
  let b := laneW (zW w)
  let g := k.governs (zPr w) (zW w)
  let x := k.vget (zRa w)
  let y := k.vget (zRb w)
  .ok (k.vwrite (zRd w) (zW w) (fun _ => true) (fun i => (if g i then lane b x i else lane b y i, false)))

def Core.vslide (k : Core) (w : Nat) : Except Nat Core :=
  let b := laneW (zW w)
  let xy := k.vget (zRa w) + 2 ^ 1024 * k.vget (zRb w)
  .ok (k.vwrite (zRd w) (zW w) (k.governs (zPr w) (zW w)) (fun i => (lane b xy (i + zImm w), false)))

def Core.vbroadcast (k : Core) (w : Nat) : Except Nat Core :=
  let v := (k.getS (zRa w)).toNat
  .ok (k.vwrite (zRd w) (zW w) (k.governs (zPr w) (zW w)) (fun _ => (v % 2 ^ laneW (zW w), false)))

/-- VPACK writes byte lanes, which the predicate's bits govern one by one. -/
def Core.vpackOp (k : Core) (w : Nat) : Except Nat Core :=
  let x := k.vget (zRa w)
  let y := k.vget (zRb w)
  .ok (k.vwrite (zRd w) true (k.governs (zPr w) true) (fun i =>
    satW 8 (zU w) (rneShr (if i < 64 then laneI 16 false x i else laneI 16 false y (i - 64)) (zImm w))))

def Core.vunpackOp (k : Core) (w : Nat) : Except Nat Core :=
  let x := k.vget (zRa w)
  .ok (k.vwrite (zRd w) false (k.governs (zPr w) false) (fun i => (low 16 (laneI 8 (zU w) x (64 * zImm w + i)), false)))

/-! ### Predicates (R184) -/

/-- A comparison: the bits of ungoverned lanes are cleared, and a 16-bit lane writes both its bits. -/
def Core.vcompare (f : Int → Int → Bool) (k : Core) (w : Nat) : Except Nat Core :=
  let b := laneW (zW w)
  let x := k.vget (zRa w)
  let y := k.vget (zRb w)
  let r := (List.range 128).foldl (fun acc i =>
    let j := if zW w then i else i / 2
    if k.governs (zPr w) (zW w) j && f (laneI b (zU w) x j) (laneI b (zU w) y j) then acc + 2 ^ i else acc) 0
  .ok (k.setP (zRd w) (BitVec.ofNat 128 r))

def Core.plogic (f : BitVec 128 → BitVec 128 → BitVec 128) (k : Core) (w : Nat) : Except Nat Core :=
  .ok (k.setP (zRd w) (f (k.getP (zRa w)) (k.getP (zRb w))))

/-! ### Local vector accesses (R185) -/

/-- The bytes at a local address as one number. -/
def Core.lnum (k : Core) (a n : Nat) : Nat := leNat (k.lbytes a n)

/-- A load of the lanes of the vector register from byte `first`, governed lane by lane. -/
def Core.vloadAt (k : Core) (w first size : Nat) : Except Nat Core :=
  match k.mop (zMopX w) 0 size with
  | .error c => .error c
  | .ok (a, k') =>
    let b := laneW (zW w)
    let n := 8 * size / b
    let lo := 8 * first / b
    let x := k.lnum a size
    .ok (k'.vwrite (zRd w) (zW w) (fun i => decide (lo ≤ i ∧ i < lo + n) && k.governs (zPr w) (zW w) i) (fun i => (lane b x (i - lo), false)))

/-- A store of the governed lanes of the vector register from byte `first`. -/
def Core.vstoreAt (k : Core) (w first size : Nat) : Except Nat Core :=
  match k.mop (zMopX w) 0 size with
  | .error c => .error c
  | .ok (a, k') =>
    let x := k.vget (zRa w)
    .ok ((List.range size).foldl (fun (q : Core) i =>
      let at_ := first + i
      if k.governs (zPr w) (zW w) (if zW w then at_ else at_ / 2) then q.lput1 (a + i) (BitVec.ofNat 8 (lane 8 x at_)) else q) k')

def Core.vload (k : Core) (w : Nat) : Except Nat Core := k.vloadAt w 0 128
def Core.vstore (k : Core) (w : Nat) : Except Nat Core := k.vstoreAt w 0 128
def Core.vloadHalf (k : Core) (w : Nat) : Except Nat Core := k.vloadAt w (64 * zMopY w) 64
def Core.vstoreHalf (k : Core) (w : Nat) : Except Nat Core := k.vstoreAt w (64 * zMopY w) 64

/-- A 2-byte value in every 16-bit lane; byte lanes alternate its low and high byte. -/
def repeat2 (v : Nat) : Nat := ofLanes 16 (List.replicate 64 v)

def Core.vloadBroadcast (k : Core) (w : Nat) : Except Nat Core :=
  match k.mop (zMopX w) 0 2 with
  | .error c => .error c
  | .ok (a, k') =>
    let x := repeat2 (k.lnum a 2)
    .ok (k'.vwrite (zRd w) (zW w) (k.governs (zPr w) (zW w)) (fun i => (lane (laneW (zW w)) x i, false)))

/-! ### Multiply-accumulate (R186 to R188) -/

/-- The two 1024-bit operands of the XY form and the core after both post-modifies; `second` is the size of the Y operand. -/
def Core.xyOperands (k : Core) (w second : Nat) : Except Nat (Nat × Nat × Core) :=
  match k.mopAddr (zMopX w) 0 128, k.mopAddr (zMopY w) 0 second with
  | .error c, _ => .error c
  | _, .error c => .error c
  | .ok a, .ok b =>
    if 0x20000 ≤ a ∨ b < 0x20000 then .error 3
    else
      match k.mopModify (zMopX w) 128 with
      | .error c => .error c
      | .ok k1 =>
        match k1.mopModify (zMopY w) second with
        | .error c => .error c
        | .ok k2 => .ok (k.lnum a 128, (if second = 2 then repeat2 (k.lnum b 2) else k.lnum b 128), k2)

/-- A lane's exact sum of governed products; none when no product is governed. -/
def macTerm (g : Nat → Bool) (w8 u : Bool) (x y j : Nat) : Option Int :=
  if w8 then
    let p := fun i => laneI 8 u x i * laneI 8 u y i
    match g (2 * j), g (2 * j + 1) with
    | false, false => none
    | true, false => some (p (2 * j))
    | false, true => some (p (2 * j + 1))
    | true, true => some (p (2 * j) + p (2 * j + 1))
  else if g j then some (laneI 16 u x j * laneI 16 u y j) else none

/-- Accumulation of a term: from zero with Z, subtracted with N. -/
def Core.accumulate (k : Core) (w j : Nat) (t : Int) : Int :=
  let base := if bit (zFn w) 0 then 0 else sx 48 (lane 48 (k.aget (zRd w)) j)
  if bit (zFn w) 1 then base - t else base + t

/-- MAC of two operands into ACd; `k'` is the core that takes the result. -/
def Core.macInto (k k' : Core) (w x y : Nat) : Core :=
  k'.acwrite (zRd w) (fun j => (macTerm (k.governs (zPr w) (zW w)) (zW w) (zU w) x y j).map (k.accumulate w j))

def Core.macReg (k : Core) (w : Nat) : Except Nat Core :=
  let b := laneW (zW w)
  let y := if bit (zFn w) 2 then ofLanes b (List.replicate (laneN (zW w)) (k.getS (zRb w)).toNat) else k.vget (zRb w)
  .ok (k.macInto k w (k.vget (zRa w)) y)

def Core.macMem (k : Core) (w : Nat) : Except Nat Core :=
  match k.xyOperands w (if bit (zFn w) 2 then 2 else 128) with
  | .error c => .error c
  | .ok (x, y, k') => .ok (k.macInto k' w x y)

/-- The complex product of lane pair `j / 2`: its real part in even lanes, its imaginary part in odd lanes. -/
def cmacTerm (conj : Bool) (x y j : Nat) : Int :=
  let q := j / 2
  let ar := laneI 16 false x (2 * q)
  let ai := laneI 16 false x (2 * q + 1)
  let br := laneI 16 false y (2 * q)
  let bi := if conj then -(laneI 16 false y (2 * q + 1)) else laneI 16 false y (2 * q + 1)
  if j % 2 = 0 then ar * br - ai * bi else ar * bi + ai * br

def Core.cmacInto (k k' : Core) (w x y : Nat) : Core :=
  k'.acwrite (zRd w) (fun j =>
    if (k.getP (zPr w)).getLsbD (4 * (j / 2)) then some (k.accumulate w j (cmacTerm (bit (zFn w) 2) x y j)) else none)

def Core.cmacReg (k : Core) (w : Nat) : Except Nat Core := .ok (k.cmacInto k w (k.vget (zRa w)) (k.vget (zRb w)))

def Core.cmacMem (k : Core) (w : Nat) : Except Nat Core :=
  match k.xyOperands w 128 with
  | .error c => .error c
  | .ok (x, y, k') => .ok (k.cmacInto k' w x y)

/-! ### Accumulators (R189) -/

/-- Governed lane `j` of ACd becomes sat(f j, 48). -/
def Core.accOp (f : Core → Nat → Nat → Int) (k : Core) (w : Nat) : Except Nat Core :=
  .ok (k.acwrite (zRd w) (fun j => if k.governs (zPr w) false j then some (f k w j) else none))

def Core.acc (k : Core) (i j : Nat) : Int := sx 48 (lane 48 (k.aget i) j)

/-! ### Block exponents and scaled moves (R190, R191) -/

/-- Bits that follow the sign bit of a `w`-bit value and equal it. -/
def nrsb (w v : Nat) : Nat :=
  let m := if bit v (w - 1) then 2 ^ w - 1 - v % 2 ^ w else v % 2 ^ w
  w - 1 - bitlen m

/-- The minimum of nrsb over the governed lanes, if any is governed. -/
def Core.minNrsb (k : Core) (w : Nat) : Option Nat :=
  let n := if bit (zFn w) 0 then 64 else laneN (zW w)
  let b := if bit (zFn w) 0 then 48 else laneW (zW w)
  let x := if bit (zFn w) 0 then k.aget (zRa w) else k.vget (zRa w)
  let w8 := !bit (zFn w) 0 && zW w
  (List.range n).foldl (fun (m : Option Nat) j =>
    if k.governs (zPr w) w8 j then
      some (match m with | none => nrsb b (lane b x j) | some v => min v (nrsb b (lane b x j)))
    else m) none

/-- The largest nrsb of the operand's width. -/
def bexpTop (w : Nat) : Nat := (if bit (zFn w) 0 then 48 else laneW (zW w)) - 1

def Core.blockExp (k : Core) (w : Nat) : Except Nat Core := .ok { k with bx := (k.minNrsb w).getD (bexpTop w) }

def Core.blockExpMin (k : Core) (w : Nat) : Except Nat Core :=
  .ok (match k.minNrsb w with | none => k | some m => { k with bx := min k.bx m })

def Core.scaledMove (k : Core) (w : Nat) : Except Nat Core :=
  let n := zRa w
  let e := zImm w
  let s : Int := if bit e 7 then sx 6 (bits e 5 0) else (mget k.as_ n (0 : BitVec 6)).toInt
  let h := e % 2
  let x := k.aget n
  .ok (k.vwrite (zRd w) (zW w)
    (fun i => k.governs (zPr w) (zW w) i && (!zW w || decide (i / 64 = h)))
    (fun i =>
      let v := sx 48 (lane 48 x (i % 64))
      satW (laneW (zW w)) (zU w) (if 0 ≤ s then v * 2 ^ s.toNat else rneShr v (-s).toNat)))

/-! ### The commands -/

/-- VADD -/
def execVadd (core : Nat) (s : State) : Host.Outcome State Fault Refusal :=
  .next (s.zagil core (isOp 0x10 0x00) (Core.vlanes false (wrap (· + ·))))

/-- VSUB -/
def execVsub (core : Nat) (s : State) : Host.Outcome State Fault Refusal :=
  .next (s.zagil core (isOp 0x10 0x01) (Core.vlanes false (wrap (· - ·))))

/-- VADDS -/
def execVadds (core : Nat) (s : State) : Host.Outcome State Fault Refusal :=
  .next (s.zagil core (isOp 0x10 0x02) (fun k w => Core.vlanes (zU w) (fun b x y => satW b (zU w) (x + y)) k w))

/-- VSUBS -/
def execVsubs (core : Nat) (s : State) : Host.Outcome State Fault Refusal :=
  .next (s.zagil core (isOp 0x10 0x03) (fun k w => Core.vlanes (zU w) (fun b x y => satW b (zU w) (x - y)) k w))

/-- VMUL -/
def execVmul (core : Nat) (s : State) : Host.Outcome State Fault Refusal :=
  .next (s.zagil core (isOp 0x10 0x04) (Core.vlanes false (wrap (· * ·))))

/-- VMULQ -/
def execVmulq (core : Nat) (s : State) : Host.Outcome State Fault Refusal :=
  .next (s.zagil core (isOp 0x10 0x05) (Core.vlanes false (fun b x y => satW b false (rneShr (x * y) (b - 1)))))

/-- VAND -/
def execVand (core : Nat) (s : State) : Host.Outcome State Fault Refusal :=
  .next (s.zagil core (isOp 0x10 0x06) (Core.vlanes true (bitwise (· &&& ·))))

/-- VOR -/
def execVor (core : Nat) (s : State) : Host.Outcome State Fault Refusal :=
  .next (s.zagil core (isOp 0x10 0x07) (Core.vlanes true (bitwise (· ||| ·))))

/-- VXOR -/
def execVxor (core : Nat) (s : State) : Host.Outcome State Fault Refusal :=
  .next (s.zagil core (isOp 0x10 0x08) (Core.vlanes true (bitwise (· ^^^ ·))))

/-- VSLL -/
def execVsll (core : Nat) (s : State) : Host.Outcome State Fault Refusal :=
  .next (s.zagil core (isOp 0x10 0x09) (fun k w => Core.vlanes false (fun b x _ => (low b (x * 2 ^ zImm w), false)) k w))

/-- VSRA -/
def execVsra (core : Nat) (s : State) : Host.Outcome State Fault Refusal :=
  .next (s.zagil core (isOp 0x10 0x0A) (fun k w => Core.vlanes false (fun b x _ => (low b (rneShr x (zImm w)), false)) k w))

/-- VSRL -/
def execVsrl (core : Nat) (s : State) : Host.Outcome State Fault Refusal :=
  .next (s.zagil core (isOp 0x10 0x0B) (fun k w => Core.vlanes true (fun b x _ => (low b x / 2 ^ zImm w, false)) k w))

/-- VMIN -/
def execVmin (core : Nat) (s : State) : Host.Outcome State Fault Refusal :=
  .next (s.zagil core (isOp 0x10 0x0C) (fun k w => Core.vlanes (zU w) (wrap min) k w))

/-- VMAX -/
def execVmax (core : Nat) (s : State) : Host.Outcome State Fault Refusal :=
  .next (s.zagil core (isOp 0x10 0x0D) (fun k w => Core.vlanes (zU w) (wrap max) k w))

/-- VABS -/
def execVabs (core : Nat) (s : State) : Host.Outcome State Fault Refusal :=
  .next (s.zagil core (isOp 0x10 0x0E) (Core.vlanes false (fun b x _ => satW b false x.natAbs)))

/-- VSEL -/
def execVsel (core : Nat) (s : State) : Host.Outcome State Fault Refusal :=
  .next (s.zagil core (isOp 0x10 0x0F) (Core.vselect))

/-- VSLD -/
def execVsld (core : Nat) (s : State) : Host.Outcome State Fault Refusal :=
  .next (s.zagil core (isOp 0x10 0x10) (Core.vslide))

/-- VBCAST -/
def execVbcast (core : Nat) (s : State) : Host.Outcome State Fault Refusal :=
  .next (s.zagil core (isOp 0x10 0x11) (Core.vbroadcast))

/-- VPACK -/
def execVpack (core : Nat) (s : State) : Host.Outcome State Fault Refusal :=
  .next (s.zagil core (isOp 0x10 0x12) (Core.vpackOp))

/-- VUNPK -/
def execVunpk (core : Nat) (s : State) : Host.Outcome State Fault Refusal :=
  .next (s.zagil core (isOp 0x10 0x13) (Core.vunpackOp))

/-- VCMPEQ -/
def execVcmpeq (core : Nat) (s : State) : Host.Outcome State Fault Refusal :=
  .next (s.zagil core (isOp 0x11 0x00) (Core.vcompare (· == ·)))

/-- VCMPLT -/
def execVcmplt (core : Nat) (s : State) : Host.Outcome State Fault Refusal :=
  .next (s.zagil core (isOp 0x11 0x01) (Core.vcompare (fun x y => decide (x < y))))

/-- VCMPLE -/
def execVcmple (core : Nat) (s : State) : Host.Outcome State Fault Refusal :=
  .next (s.zagil core (isOp 0x11 0x02) (Core.vcompare (fun x y => decide (x ≤ y))))

/-- PAND -/
def execPand (core : Nat) (s : State) : Host.Outcome State Fault Refusal :=
  .next (s.zagil core (isOp 0x11 0x08) (Core.plogic (· &&& ·)))

/-- POR -/
def execPor (core : Nat) (s : State) : Host.Outcome State Fault Refusal :=
  .next (s.zagil core (isOp 0x11 0x09) (Core.plogic (· ||| ·)))

/-- PXOR -/
def execPxor (core : Nat) (s : State) : Host.Outcome State Fault Refusal :=
  .next (s.zagil core (isOp 0x11 0x0A) (Core.plogic (· ^^^ ·)))

/-- PANDN: the first predicate and not the second -/
def execPandn (core : Nat) (s : State) : Host.Outcome State Fault Refusal :=
  .next (s.zagil core (isOp 0x11 0x0B) (Core.plogic (fun a b => a &&& ~~~b)))

/-- VLD -/
def execVld (core : Nat) (s : State) : Host.Outcome State Fault Refusal :=
  .next (s.zagil core (isOp 0x12 0x00) (Core.vload))

/-- VST -/
def execVst (core : Nat) (s : State) : Host.Outcome State Fault Refusal :=
  .next (s.zagil core (isOp 0x12 0x01) (Core.vstore))

/-- VLDH -/
def execVldh (core : Nat) (s : State) : Host.Outcome State Fault Refusal :=
  .next (s.zagil core (isOp 0x12 0x02) (Core.vloadHalf))

/-- VSTH -/
def execVsth (core : Nat) (s : State) : Host.Outcome State Fault Refusal :=
  .next (s.zagil core (isOp 0x12 0x03) (Core.vstoreHalf))

/-- VLDB -/
def execVldb (core : Nat) (s : State) : Host.Outcome State Fault Refusal :=
  .next (s.zagil core (isOp 0x12 0x04) (Core.vloadBroadcast))

/-- MAC -/
def execMac (core : Nat) (s : State) : Host.Outcome State Fault Refusal :=
  .next (s.zagil core (fun w => zOpc w == 0x14 && !bit (zFn w) 3) (Core.macReg))

/-- MACXY -/
def execMacxy (core : Nat) (s : State) : Host.Outcome State Fault Refusal :=
  .next (s.zagil core (fun w => zOpc w == 0x14 && bit (zFn w) 3) (Core.macMem))

/-- CMAC -/
def execCmac (core : Nat) (s : State) : Host.Outcome State Fault Refusal :=
  .next (s.zagil core (fun w => zOpc w == 0x15 && !bit (zFn w) 3) (Core.cmacReg))

/-- CMACXY -/
def execCmacxy (core : Nat) (s : State) : Host.Outcome State Fault Refusal :=
  .next (s.zagil core (fun w => zOpc w == 0x15 && bit (zFn w) 3) (Core.cmacMem))

/-- ACCLR -/
def execAcclr (core : Nat) (s : State) : Host.Outcome State Fault Refusal :=
  .next (s.zagil core (isOp 0x16 0x00) (Core.accOp (fun _ _ _ => 0)))

/-- VTOAC -/
def execVtoac (core : Nat) (s : State) : Host.Outcome State Fault Refusal :=
  .next (s.zagil core (isOp 0x16 0x01) (Core.accOp (fun k w j => laneI 16 (zU w) (k.vget (zRa w)) j * 2 ^ (zImm w % 32))))

/-- ACADD -/
def execAcadd (core : Nat) (s : State) : Host.Outcome State Fault Refusal :=
  .next (s.zagil core (isOp 0x16 0x02) (Core.accOp (fun k w j => k.acc (zRa w) j + k.acc (zRb w) j)))

/-- ACSUB -/
def execAcsub (core : Nat) (s : State) : Host.Outcome State Fault Refusal :=
  .next (s.zagil core (isOp 0x16 0x03) (Core.accOp (fun k w j => k.acc (zRa w) j - k.acc (zRb w) j)))

/-- ACMOV -/
def execAcmov (core : Nat) (s : State) : Host.Outcome State Fault Refusal :=
  .next (s.zagil core (isOp 0x16 0x04) (Core.accOp (fun k w j => k.acc (zRa w) j)))

/-- BEXP -/
def execBexp (core : Nat) (s : State) : Host.Outcome State Fault Refusal :=
  .next (s.zagil core (fun w => zOpc w == 0x17 && !bit (zFn w) 1) (Core.blockExp))

/-- BEXP.M -/
def execBexpM (core : Nat) (s : State) : Host.Outcome State Fault Refusal :=
  .next (s.zagil core (fun w => zOpc w == 0x17 && bit (zFn w) 1) (Core.blockExpMin))

/-- SMOV -/
def execSmov (core : Nat) (s : State) : Host.Outcome State Fault Refusal :=
  .next (s.zagil core (isOp 0x18 0x00) (Core.scaledMove))

end Sys2Proof.Machine
end

