-- ==== Sys2Proof/Machine/Dispatch.lean ====
section
/-! DEFINITION. One arm per command: its meaning. -/

namespace Sys2Proof.Machine

/-- The effect of a command on everything but the queue. -/
def exec (i : Instr) (s : State) : Host.Outcome State Fault Refusal :=
  match i with
  | .registerWrite who block off value => Sys2Proof.Machine.execRegisterWrite who block off value s
  | .peakWrite who value => Sys2Proof.Machine.execPeakWrite who value s
  | .jobReserveWrite who value => Sys2Proof.Machine.execJobReserveWrite who value s
  | .drainTicksWrite who ply value => Sys2Proof.Machine.execDrainTicksWrite who ply value s
  | .latchingLowRead who block off => Sys2Proof.Machine.execLatchingLowRead who block off s
  | .errLatchRearmRead who block off => Sys2Proof.Machine.execErrLatchRearmRead who block off s
  | .porNAssert lowNs => Sys2Proof.Machine.execPorNAssert lowNs s
  | .porNRelease env => Sys2Proof.Machine.execPorNRelease env s
  | .servicesReady => Sys2Proof.Machine.execServicesReady s
  | .recoveryImage image => Sys2Proof.Machine.execRecoveryImage image s
  | .vddWakeRise => Sys2Proof.Machine.execVddWakeRise s
  | .wakeNQualified lowNs => Sys2Proof.Machine.execWakeNQualified lowNs s
  | .functionLevelReset fn => Sys2Proof.Machine.execFunctionLevelReset fn s
  | .perst => Sys2Proof.Machine.execPerst s
  | .pcieLinkDown => Sys2Proof.Machine.execPcieLinkDown s
  | .reset frm confirmed => Sys2Proof.Machine.execReset frm confirmed s
  | .load frm => Sys2Proof.Machine.execLoad frm s
  | .weaveComplete places => Sys2Proof.Machine.execWeaveComplete places s
  | .reweave frm ply => Sys2Proof.Machine.execReweave frm ply s
  | .cancel frm ply => Sys2Proof.Machine.execCancel frm ply s
  | .plyBoundary ply input => Sys2Proof.Machine.execPlyBoundary ply input s
  | .submitDoorbell who count => Sys2Proof.Machine.execSubmitDoorbell who count s
  | .jobSlotAcquire => Sys2Proof.Machine.execJobSlotAcquire s
  | .memoryRequest r => Sys2Proof.Machine.execMemoryRequest r s
  | .regionCreate who slot => Sys2Proof.Machine.execRegionCreate who slot s
  | .regionDestroy who slot => Sys2Proof.Machine.execRegionDestroy who slot s
  | .regionScrubDone slot => Sys2Proof.Machine.execRegionScrubDone slot s
  | .grant who peer => Sys2Proof.Machine.execGrant who peer s
  | .revoke who index => Sys2Proof.Machine.execRevoke who index s
  | .revokeComplete index => Sys2Proof.Machine.execRevokeComplete index s
  | .poolAllocate reqs => Sys2Proof.Machine.execPoolAllocate reqs s
  | .poolFree who ply pool index => Sys2Proof.Machine.execPoolFree who ply pool index s
  | .poolBufferScrubDone ply pool index => Sys2Proof.Machine.execPoolBufferScrubDone ply pool index s
  | .mr4Poll readings => Sys2Proof.Machine.execMr4Poll readings s
  | .dramHotRelease => Sys2Proof.Machine.execDramHotRelease s
  | .patrolScrub addr ecc read => Sys2Proof.Machine.execPatrolScrub addr ecc read s
  | .flitArrival f => Sys2Proof.Machine.execFlitArrival f s
  | .creditReturn route count => Sys2Proof.Machine.execCreditReturn route count s
  | .spindleTaskStart core => Sys2Proof.Machine.execSpindleTaskStart core s
  | .spindleTaskComplete core cycles => Sys2Proof.Machine.execSpindleTaskComplete core cycles s
  | .interruptEntry core => Sys2Proof.Machine.execInterruptEntry core s
  | .nop core => Sys2Proof.Machine.execNop core s
  | .add core => Sys2Proof.Machine.execAdd core s
  | .sub core => Sys2Proof.Machine.execSub core s
  | .and core => Sys2Proof.Machine.execAnd core s
  | .or core => Sys2Proof.Machine.execOr core s
  | .xor core => Sys2Proof.Machine.execXor core s
  | .sll core => Sys2Proof.Machine.execSll core s
  | .srl core => Sys2Proof.Machine.execSrl core s
  | .sra core => Sys2Proof.Machine.execSra core s
  | .slt core => Sys2Proof.Machine.execSlt core s
  | .sltu core => Sys2Proof.Machine.execSltu core s
  | .mul core => Sys2Proof.Machine.execMul core s
  | .mulh core => Sys2Proof.Machine.execMulh core s
  | .min core => Sys2Proof.Machine.execMin core s
  | .max core => Sys2Proof.Machine.execMax core s
  | .movi core => Sys2Proof.Machine.execMovi core s
  | .movhi core => Sys2Proof.Machine.execMovhi core s
  | .localScalarLoad core => Sys2Proof.Machine.execLocalScalarLoad core s
  | .localScalarStore core => Sys2Proof.Machine.execLocalScalarStore core s
  | .amod core => Sys2Proof.Machine.execAmod core s
  | .farScalarLoad core => Sys2Proof.Machine.execFarScalarLoad core s
  | .farScalarStore core => Sys2Proof.Machine.execFarScalarStore core s
  | .br core => Sys2Proof.Machine.execBr core s
  | .brr core => Sys2Proof.Machine.execBrr core s
  | .call core => Sys2Proof.Machine.execCall core s
  | .callr core => Sys2Proof.Machine.execCallr core s
  | .ret core => Sys2Proof.Machine.execRet core s
  | .rti core => Sys2Proof.Machine.execRti core s
  | .rep core => Sys2Proof.Machine.execRep core s
  | .repr core => Sys2Proof.Machine.execRepr core s
  | .tend core => Sys2Proof.Machine.execTend core s
  | .evp core => Sys2Proof.Machine.execEvp core s
  | .fence core => Sys2Proof.Machine.execFence core s
  | .waiti core => Sys2Proof.Machine.execWaiti core s
  | .movcRead core => Sys2Proof.Machine.execMovcRead core s
  | .movcWrite core => Sys2Proof.Machine.execMovcWrite core s
  | .skip core => Sys2Proof.Machine.execSkip core s
  | .vadd core => Sys2Proof.Machine.execVadd core s
  | .vsub core => Sys2Proof.Machine.execVsub core s
  | .vadds core => Sys2Proof.Machine.execVadds core s
  | .vsubs core => Sys2Proof.Machine.execVsubs core s
  | .vmul core => Sys2Proof.Machine.execVmul core s
  | .vmulq core => Sys2Proof.Machine.execVmulq core s
  | .vand core => Sys2Proof.Machine.execVand core s
  | .vor core => Sys2Proof.Machine.execVor core s
  | .vxor core => Sys2Proof.Machine.execVxor core s
  | .vsll core => Sys2Proof.Machine.execVsll core s
  | .vsra core => Sys2Proof.Machine.execVsra core s
  | .vsrl core => Sys2Proof.Machine.execVsrl core s
  | .vmin core => Sys2Proof.Machine.execVmin core s
  | .vmax core => Sys2Proof.Machine.execVmax core s
  | .vabs core => Sys2Proof.Machine.execVabs core s
  | .vsel core => Sys2Proof.Machine.execVsel core s
  | .vsld core => Sys2Proof.Machine.execVsld core s
  | .vbcast core => Sys2Proof.Machine.execVbcast core s
  | .vpack core => Sys2Proof.Machine.execVpack core s
  | .vunpk core => Sys2Proof.Machine.execVunpk core s
  | .vcmpeq core => Sys2Proof.Machine.execVcmpeq core s
  | .vcmplt core => Sys2Proof.Machine.execVcmplt core s
  | .vcmple core => Sys2Proof.Machine.execVcmple core s
  | .pand core => Sys2Proof.Machine.execPand core s
  | .por core => Sys2Proof.Machine.execPor core s
  | .pxor core => Sys2Proof.Machine.execPxor core s
  | .pandn core => Sys2Proof.Machine.execPandn core s
  | .vld core => Sys2Proof.Machine.execVld core s
  | .vst core => Sys2Proof.Machine.execVst core s
  | .vldh core => Sys2Proof.Machine.execVldh core s
  | .vsth core => Sys2Proof.Machine.execVsth core s
  | .vldb core => Sys2Proof.Machine.execVldb core s
  | .vldf core => Sys2Proof.Machine.execVldf core s
  | .vstf core => Sys2Proof.Machine.execVstf core s
  | .mac core => Sys2Proof.Machine.execMac core s
  | .macxy core => Sys2Proof.Machine.execMacxy core s
  | .cmac core => Sys2Proof.Machine.execCmac core s
  | .cmacxy core => Sys2Proof.Machine.execCmacxy core s
  | .acclr core => Sys2Proof.Machine.execAcclr core s
  | .vtoac core => Sys2Proof.Machine.execVtoac core s
  | .acadd core => Sys2Proof.Machine.execAcadd core s
  | .acsub core => Sys2Proof.Machine.execAcsub core s
  | .acmov core => Sys2Proof.Machine.execAcmov core s
  | .bexp core => Sys2Proof.Machine.execBexp core s
  | .bexpM core => Sys2Proof.Machine.execBexpM core s
  | .smov core => Sys2Proof.Machine.execSmov core s
  | .whorlJobStage array => Sys2Proof.Machine.execWhorlJobStage array s
  | .whorlJobStart array ce ue => Sys2Proof.Machine.execWhorlJobStart array ce ue s
  | .whorlJobEnd array cycles => Sys2Proof.Machine.execWhorlJobEnd array cycles s
  | .outputTableSwap array => Sys2Proof.Machine.execOutputTableSwap array s
  | .headroomLoop ply ctx => Sys2Proof.Machine.execHeadroomLoop ply ctx s
  | .ctxHWrite who ply ctx value => Sys2Proof.Machine.execCtxHWrite who ply ctx value s
  | .cvtGo who ply => Sys2Proof.Machine.execCvtGo who ply s
  | .conversionDone hank => Sys2Proof.Machine.execConversionDone hank s
  | .ethFrameReceive f => Sys2Proof.Machine.execEthFrameReceive f s
  | .gapWaitExpiry flow => Sys2Proof.Machine.execGapWaitExpiry flow s
  | .auAdmit flow info => Sys2Proof.Machine.execAuAdmit flow info s
  | .decodeStart engine => Sys2Proof.Machine.execDecodeStart engine s
  | .pictureDecoded flow d => Sys2Proof.Machine.execPictureDecoded flow d s
  | .samplingRateLoop flow sub => Sys2Proof.Machine.execSamplingRateLoop flow sub s
  | .augDoorbell who count => Sys2Proof.Machine.execAugDoorbell who count s
  | .augRecord hank => Sys2Proof.Machine.execAugRecord hank s
  | .bqCfgWrite who queue value => Sys2Proof.Machine.execBqCfgWrite who queue value s
  | .batchRecordWrite hank queue => Sys2Proof.Machine.execBatchRecordWrite hank queue s
  | .tokenizerJobStart => Sys2Proof.Machine.execTokenizerJobStart s
  | .tokenizerJobEnd => Sys2Proof.Machine.execTokenizerJobEnd s
  | .bobbinProgramStart ch => Sys2Proof.Machine.execBobbinProgramStart ch s
  | .move ch => Sys2Proof.Machine.execMove ch s
  | .loop ch => Sys2Proof.Machine.execLoop ch s
  | .wait ch => Sys2Proof.Machine.execWait ch s
  | .pace ch => Sys2Proof.Machine.execPace ch s
  | .signal ch => Sys2Proof.Machine.execSignal ch s
  | .end_ ch => Sys2Proof.Machine.execEnd ch s
  | .channelWaitSatisfied event => Sys2Proof.Machine.execChannelWaitSatisfied event s
  | .moveDrainDone ch => Sys2Proof.Machine.execMoveDrainDone ch s
  | .bobbinBusError ch => Sys2Proof.Machine.execBobbinBusError ch s
  | .channelHalt ch => Sys2Proof.Machine.execChannelHalt ch s
  | .channelStopDone ch => Sys2Proof.Machine.execChannelStopDone ch s
  | .resume who ch => Sys2Proof.Machine.execResume who ch s
  | .abort who ch => Sys2Proof.Machine.execAbort who ch s
  | .start who ch => Sys2Proof.Machine.execStart who ch s
  | .evtPulse who value => Sys2Proof.Machine.execEvtPulse who value s
  | .msixMessage fn vector enabled => Sys2Proof.Machine.execMsixMessage fn vector enabled s
  | .barAccess fn bar off len data => Sys2Proof.Machine.execBarAccess fn bar off len data s
  | .mailboxRequestPost fn tail => Sys2Proof.Machine.execMailboxRequestPost fn tail s
  | .mailboxReply fn => Sys2Proof.Machine.execMailboxReply fn s
  | .ping fn => Sys2Proof.Machine.execPing fn s
  | .routeEvent fn appCore => Sys2Proof.Machine.execRouteEvent fn appCore s
  | .playPrompt fn voice => Sys2Proof.Machine.execPlayPrompt fn voice s
  | .publish fn dropped => Sys2Proof.Machine.execPublish fn dropped s
  | .frameTransmit port bytes ptpEvent oneStep => Sys2Proof.Machine.execFrameTransmit port bytes ptpEvent oneStep s
  | .txtsPop who port => Sys2Proof.Machine.execTxtsPop who port s
  | .phaseAdjWrite who value => Sys2Proof.Machine.execPhaseAdjWrite who value s
  | .ptpSyncLoss => Sys2Proof.Machine.execPtpSyncLoss s
  | .holdoverExpired => Sys2Proof.Machine.execHoldoverExpired s
  | .voiceQueue who voice value => Sys2Proof.Machine.execVoiceQueue who voice value s
  | .voiceStop who voice value => Sys2Proof.Machine.execVoiceStop who voice value s
  | .clipEnd voice => Sys2Proof.Machine.execClipEnd voice s
  | .ampFault amp => Sys2Proof.Machine.execAmpFault amp s
  | .ampRetry amp inputHigh => Sys2Proof.Machine.execAmpRetry amp inputHigh s
  | .ampRetryClean amp => Sys2Proof.Machine.execAmpRetryClean amp s
  | .clear frm amp inputLow => Sys2Proof.Machine.execClear frm amp inputLow s
  | .regulatorConfirm island vout monitor statusOk => Sys2Proof.Machine.execRegulatorConfirm island vout monitor statusOk s
  | .linkLost island => Sys2Proof.Machine.execLinkLost island s
  | .confirmTimeout island => Sys2Proof.Machine.execConfirmTimeout island s
  | .monitorCheck island monitor => Sys2Proof.Machine.execMonitorCheck island monitor s
  | .pmbusRetry island ok => Sys2Proof.Machine.execPmbusRetry island ok s
  | .thermalSample sites => Sys2Proof.Machine.execThermalSample sites s
  | .throttleStep => Sys2Proof.Machine.execThrottleStep s
  | .thermalTrip site temp => Sys2Proof.Machine.execThermalTrip site temp s
  | .forcedHold => Sys2Proof.Machine.execForcedHold s
  | .powerSample r => Sys2Proof.Machine.execPowerSample r s
  | .tdpCapStep => Sys2Proof.Machine.execTdpCapStep s
  | .run frm => Sys2Proof.Machine.execRun frm s
  | .hold frm => Sys2Proof.Machine.execHold frm s
  | .dormant frm => Sys2Proof.Machine.execDormant frm s
  | .holdEntryComplete => Sys2Proof.Machine.execHoldEntryComplete s
  | .holdExitComplete confirmed => Sys2Proof.Machine.execHoldExitComplete confirmed s
  | .fanCurveUpdate rpm => Sys2Proof.Machine.execFanCurveUpdate rpm s
  | .fanFault fan => Sys2Proof.Machine.execFanFault fan s
  | .fanFaultClear fan => Sys2Proof.Machine.execFanFaultClear fan s
  | .watchdogKick who value => Sys2Proof.Machine.execWatchdogKick who value s
  | .watchdogExpiry => Sys2Proof.Machine.execWatchdogExpiry s
  | .wdogRelease who sites confirmed => Sys2Proof.Machine.execWdogRelease who sites confirmed s
  | .overrideExpiry object index => Sys2Proof.Machine.execOverrideExpiry object index s
  | .dangerAfterReading => Sys2Proof.Machine.execDangerAfterReading s
  | .pollCycle => Sys2Proof.Machine.execPollCycle s
  | .discoverRound => Sys2Proof.Machine.execDiscoverRound s
  | .pollMissed peer => Sys2Proof.Machine.execPollMissed peer s
  | .poll h epoch => Sys2Proof.Machine.execPoll h epoch s
  | .reply h id => Sys2Proof.Machine.execReply h id s
  | .discover h => Sys2Proof.Machine.execDiscover h s
  | .announce h id => Sys2Proof.Machine.execAnnounce h id s
  | .mgmt h op object value durationS origin data => Sys2Proof.Machine.execMgmt h op object value durationS origin data s
  | .mgmtRpl h op status data => Sys2Proof.Machine.execMgmtRpl h op status data s
  | .relay f => Sys2Proof.Machine.execRelay f s
  | .relayAck f => Sys2Proof.Machine.execRelayAck f s
  | .relayJobStart job => Sys2Proof.Machine.execRelayJobStart job s
  | .masterLost => Sys2Proof.Machine.execMasterLost s
  | .login key r s0 => Sys2Proof.Machine.execLogin key r s0 s
  | .logout => Sys2Proof.Machine.execLogout s
  | .sessionTimeout => Sys2Proof.Machine.execSessionTimeout s
  | .status frm => Sys2Proof.Machine.execStatus frm s
  | .unit a => Sys2Proof.Machine.execUnit a s
  | .power a => Sys2Proof.Machine.execPower a s
  | .pin a => Sys2Proof.Machine.execPin a s
  | .tdp a => Sys2Proof.Machine.execTdp a s
  | .fan a => Sys2Proof.Machine.execFan a s
  | .release a => Sys2Proof.Machine.execRelease a s
  | .warplock a => Sys2Proof.Machine.execWarplock a s
  | .journalRead frm first count => Sys2Proof.Machine.execJournalRead frm first count s
  | .journalAck frm seq => Sys2Proof.Machine.execJournalAck frm seq s
  | .leaAckWrite who value => Sys2Proof.Machine.execLeaAckWrite who value s
  | .flush who => Sys2Proof.Machine.execFlush who s
  | .flushDone => Sys2Proof.Machine.execFlushDone s
  | .flushTimeout => Sys2Proof.Machine.execFlushTimeout s
  | .epochProgramRetry ok => Sys2Proof.Machine.execEpochProgramRetry ok s
  | .stage frm part => Sys2Proof.Machine.execStage frm part s
  | .stageComplete ok => Sys2Proof.Machine.execStageComplete ok s
  | .activate frm part => Sys2Proof.Machine.execActivate frm part s
  | .commit frm part => Sys2Proof.Machine.execCommit frm part s
  | .revert frm part => Sys2Proof.Machine.execRevert frm part s
  | .enrollOwner frm key serial r s0 => Sys2Proof.Machine.execEnrollOwner frm key serial r s0 s
  | .revokeOwner frm slot keyId serial signer r s0 => Sys2Proof.Machine.execRevokeOwner frm slot keyId serial signer r s0 s
  | .trialCommitTest part passed => Sys2Proof.Machine.execTrialCommitTest part passed s
  | .faultReport index cause => Sys2Proof.Machine.execFaultReport index cause s
  | .unitNoResponse index => Sys2Proof.Machine.execUnitNoResponse index s
  | .suspectClear index => Sys2Proof.Machine.execSuspectClear index s
  | .drainLimitExpiry index => Sys2Proof.Machine.execDrainLimitExpiry index s
  | .unitDrained index => Sys2Proof.Machine.execUnitDrained index s
  | .selftestDone index passed => Sys2Proof.Machine.execSelftestDone index passed s
  | .granuleBoundary places => Sys2Proof.Machine.execGranuleBoundary places s
  | .pwrEnOffTime => Sys2Proof.Machine.execPwrEnOffTime s
  | .vddWakeFall => Sys2Proof.Machine.execVddWakeFall s
  | .pmbusAlert master statusWords => Sys2Proof.Machine.execPmbusAlert master statusWords s
  | .audioFrame late => Sys2Proof.Machine.execAudioFrame late s
  | .frameAbort => Sys2Proof.Machine.execFrameAbort s
  | .idleAreaErased => Sys2Proof.Machine.execIdleAreaErased s
  | .pcieLinkUp width rate => Sys2Proof.Machine.execPcieLinkUp width rate s
  | .ethLinkChange port up speed => Sys2Proof.Machine.execEthLinkChange port up speed s
  | .vfEnable count => Sys2Proof.Machine.execVfEnable count s

end Sys2Proof.Machine
end

