-- ==== Sys2Proof/Machine/Step.lean ====
section
/-! DEFINITION. The step: it takes the command at the front of the queue; on an empty queue a nanosecond passes. -/

namespace Sys2Proof.Machine

/-- One step. On an empty queue the block idles for one nanosecond of its clock (log 3). -/
def step (s : State) : Host.Outcome State Fault Refusal :=
  match s.pending with
  | [] => .next s.idle
  | c :: rest => exec c { s with pending := rest }

/-- `s` with the command that the word spells at the front of its queue. -/
def State.withFetchWord (s : State) (nbits w : Nat) : State :=
  match decodeTableWord nbits w with
  | none => s
  | some c => { s with pending := c :: s.pending }

end Sys2Proof.Machine
end

