-- ==== Sys2Proof/Safety.lean ====
section
/-! DEFINITION. The words statements use: what a command starts from, a Zagil instruction that is issued, lanes as the spec writes
them, the canonical forms, and what a state must keep. -/

namespace Sys2Proof.Safety

open Machine

/-- The state a command's effect starts from: the last command's answers are gone. -/
def fresh (s : State) : State := { s with out := [] }

/-! ### Zagil (06, 07) -/

/-- Core `c` issues the word `w` now: it stands in the next slot, is legal there and no SKIP governs it. -/
def Issues (s : State) (c w : Nat) : Prop :=
  (s.core c).issues = true ∧ (s.core c).word = w ∧ zLegal (s.core c) w = true ∧ (s.core c).skip ≠ some true

/-- The core as an instruction finds it: a SKIP before it is used up. -/
def taken (k : Core) : Core := { k with skip := none, iterBoundary := k.iterBoundary && (k.slotB || k.skip.isSome) }

/-- The state with core `c` as slot A left it: slot B of the bundle is next. -/
def slotA (s : State) (c : Nat) (k : Core) : State := (fresh s).setCore c { k with slotB := true }

/-- The state with core `c` as slot B left it: the bundle ends with its branch or its repeat-end processing, or with the task where TEND
stands in slot A. -/
def slotB (s : State) (c : Nat) (k : Core) : State := ((fresh s).setCore c k).closeBundle c

/-- The second operand of a scalar instruction (R176). -/
def scalarB (k : Core) (w : Nat) : BitVec 64 :=
  if zI w then (BitVec.ofNat 32 w).signExtend 64 else k.getS (zRb w)

/-- A scalar instruction: its command, its FN and its result of the two operands, computed exactly and wrapped (R174, R176). -/
structure ScalarOp where
  cmd : Nat → Instr
  fn : Nat
  f : BitVec 64 → BitVec 64 → BitVec 64

/-- The table of R176, but for MOVI and MOVHI. -/
def scalarOps : List ScalarOp :=
  [ ⟨.add, 0x00, fun a b => BitVec.ofInt 64 (a.toInt + b.toInt)⟩
  , ⟨.sub, 0x01, fun a b => BitVec.ofInt 64 (a.toInt - b.toInt)⟩
  , ⟨.and, 0x02, fun a b => a &&& b⟩
  , ⟨.or, 0x03, fun a b => a ||| b⟩
  , ⟨.xor, 0x04, fun a b => a ^^^ b⟩
  , ⟨.sll, 0x05, fun a b => BitVec.ofNat 64 (a.toNat * 2 ^ (b.toNat % 64))⟩
  , ⟨.srl, 0x06, fun a b => BitVec.ofNat 64 (a.toNat / 2 ^ (b.toNat % 64))⟩
  , ⟨.sra, 0x07, fun a b => BitVec.ofInt 64 (a.toInt / 2 ^ (b.toNat % 64))⟩
  , ⟨.slt, 0x08, fun a b => if a.toInt < b.toInt then 1 else 0⟩
  , ⟨.sltu, 0x09, fun a b => if a.toNat < b.toNat then 1 else 0⟩
  , ⟨.mul, 0x0A, fun a b => BitVec.ofInt 64 (a.toInt * b.toInt)⟩
  , ⟨.mulh, 0x0B, fun a b => BitVec.ofInt 64 (a.toInt * b.toInt / 2 ^ 64)⟩
  , ⟨.min, 0x0C, fun a b => if a.toInt < b.toInt then a else b⟩
  , ⟨.max, 0x0D, fun a b => if a.toInt < b.toInt then b else a⟩ ]

/-- A lane-by-lane vector instruction of R184: its exact result of the lane width, U, EXT and two lanes, and whether it saturates. -/
structure LaneOp where
  cmd : Nat → Instr
  fn : Nat
  f : Nat → Nat → Int → Int → Int
  sat : Bool

/-- Bitwise results of two lanes of `b` bits. -/
def laneBits (f : Nat → Nat → Nat) (b : Nat) (x y : Int) : Int := f (low b x) (low b y)

def laneOps : List LaneOp :=
  [ ⟨.vadd, 0x00, fun _ _ x y => x + y, false⟩
  , ⟨.vsub, 0x01, fun _ _ x y => x - y, false⟩
  , ⟨.vadds, 0x02, fun _ _ x y => x + y, true⟩
  , ⟨.vsubs, 0x03, fun _ _ x y => x - y, true⟩
  , ⟨.vmul, 0x04, fun _ _ x y => x * y, false⟩
  , ⟨.vmulq, 0x05, fun b _ x y => rneShr (x * y) (b - 1), true⟩
  , ⟨.vand, 0x06, fun b _ => laneBits (· &&& ·) b, false⟩
  , ⟨.vor, 0x07, fun b _ => laneBits (· ||| ·) b, false⟩
  , ⟨.vxor, 0x08, fun b _ => laneBits (· ^^^ ·) b, false⟩
  , ⟨.vsll, 0x09, fun _ e x _ => x * 2 ^ e, false⟩
  , ⟨.vsra, 0x0A, fun _ e x _ => rneShr x e, false⟩
  , ⟨.vsrl, 0x0B, fun b e x _ => (low b x / 2 ^ e : Nat), false⟩
  , ⟨.vmin, 0x0C, fun _ _ x y => if x < y then x else y, false⟩
  , ⟨.vmax, 0x0D, fun _ _ x y => if x < y then y else x, false⟩
  , ⟨.vabs, 0x0E, fun _ _ x _ => if x < 0 then -x else x, true⟩ ]

/-- `sat` of R174: the value clamped to `w` bits, signed unless `u`. -/
def clamp (w : Nat) (u : Bool) (v : Int) : Int :=
  if u then max 0 (min v (2 ^ w - 1)) else max (-(2 ^ (w - 1))) (min v (2 ^ (w - 1) - 1))

/-- The exact result of a lane-by-lane instruction `w` in lane `i`. -/
def LaneOp.exact (o : LaneOp) (k : Core) (w i : Nat) : Int :=
  let b := laneW (zW w)
  o.f b (zImm w) (laneI b (zU w) (k.vget (zRa w)) i) (laneI b (zU w) (k.vget (zRb w)) i)

/-- What lane `i` takes of it: clamped by a saturating instruction, and wrapped. -/
def LaneOp.lane (o : LaneOp) (k : Core) (w i : Nat) : Nat :=
  low (laneW (zW w)) (if o.sat then clamp (laneW (zW w)) (zU w) (o.exact k w i) else o.exact k w i)

/-- Whether clamping changes the result of lane `i`. -/
def LaneOp.saturates (o : LaneOp) (k : Core) (w i : Nat) : Bool :=
  o.sat && clamp (laneW (zW w)) (zU w) (o.exact k w i) != o.exact k w i

/-- `k'` is `k` but for V register `d` and SR.SAT. -/
def OnlyV (k k' : Core) (d : Nat) : Prop :=
  k' = { k with v := k'.v, sat := k'.sat } ∧ ∀ j, j ≠ d → mget k'.v j (0 : BitVec 1024) = mget k.v j 0

/-- `k'` is `k` but for accumulator `d` and SR.SAT. -/
def OnlyAc (k k' : Core) (d : Nat) : Prop :=
  k' = { k with ac := k'.ac, sat := k'.sat } ∧ ∀ j, j ≠ d → mget k'.ac j (0 : BitVec 3072) = mget k.ac j 0

/-! ### Between commands -/

/-- Nothing is left to be done by the next command: no report waits for the steward and no resumed channel waits to go on. -/
def Calm (s : State) : Prop := s.stw.reports = [] ∧ ∀ n, (s.chan n).resumed = false

/-- Nothing waits at a bank or interface, no stored bit holds an error that no access has met, and no logged block is poisoned. -/
def Quiet (s : State) : Prop := s.fab.waits = [] ∧ s.fab.flaws = [] ∧ s.fab.ueLog = []

/-- The journal takes one more entry of a change now. -/
def HasRoom (s : State) : Prop := s.lea.head / 2 ^ 32 = s.lea.epoch ∧ s.lea.ring.length < 4096

/-- Between `s` and `t` the ring took one entry: this object, with its old and its new value. -/
def OneEntry (s t : State) (object old new : Nat) : Prop :=
  t.lea.head = s.lea.head + 1 ∧ t.lea.ring.length = s.lea.ring.length + 1
  ∧ ∃ e, t.lea.ring.getLast? = some e ∧ e.seq = s.lea.head ∧ e.time = s.tck.time ∧ e.object = object ∧ e.old = old ∧ e.new = new

/-- `t` is `s` but for what an entry and the pulses that it may cause write, and the answers sent. -/
def ButJournal (s t : State) : Prop :=
  t = { s with lea := t.lea, evt := t.evt, cores := t.cores, pci := t.pci, out := t.out }

end Sys2Proof.Safety
end

