-- ==== Sys2Proof/Certificates/Slice0/Obligations.lean ====
section
/-! DEFINITION. The statements for the provers. -/

open Sys2Proof Sys2Proof.Machine Sys2Proof.Safety

/-- A step with a command at the front of the queue is that command on the state with the queue's rest. The model's choice (log 3): on an
empty queue a nanosecond passes. -/
def Obligations.StepRunsFrontCommand : Prop :=
  (∀ (s : State) (c : Instr) (rest : List Instr), s.pending = c :: rest → step s = exec c { s with pending := rest })
  ∧ (∀ (s : State), s.pending = [] → step s = .next s.idle)

/-- R176: ADD, SUB, AND, OR, XOR, SLL, SRL, SRA, SLT, SLTU, MUL, MULH, MIN, MAX, MOVI and MOVHI, each a legal word in its slot, complete:
each writes S[RD] with its exact result wrapped to 64 bits, and nothing else of the block changes but the bundle's progress. 06 section
Architectural state: S0 reads zero and discards writes; another S register reads what was last written to it, and the others keep their
values. -/
def Obligations.ScalarArithmeticWritesRd : Prop :=
  ((∀ (s : State) (c w : Nat) (o : ScalarOp), o ∈ scalarOps → Issues s c w → isOp 0x01 o.fn w = true →
      exec (o.cmd c) s = .next (slotA s c
        ((taken (s.core c)).setS (zRd w) (o.f ((s.core c).getS (zRa w)) (scalarB (s.core c) w)))))
    ∧ (∀ (s : State) (c w : Nat), Issues s c w → isOp 0x01 0x0E w = true →
      exec (.movi c) s = .next (slotA s c ((taken (s.core c)).setS (zRd w) (scalarB (s.core c) w))))
    ∧ (∀ (s : State) (c w : Nat), Issues s c w → isOp 0x01 0x0F w = true →
      exec (.movhi c) s = .next (slotA s c ((taken (s.core c)).setS (zRd w)
        (BitVec.ofNat 32 w ++ ((s.core c).getS (zRd w)).setWidth 32)))))
  ∧ (∀ (k : Core) (v : BitVec 64), k.setS 0 v = k ∧ k.getS 0 = 0
      ∧ ∀ i, i ≠ 0 → (k.setS i v).getS i = v ∧ ∀ j, j ≠ i → (k.setS i v).getS j = k.getS j)

/-- R177, R173: local scalar accesses at the address their operand gives. A load writes S[RD] with the bytes there, extended; a store
writes the low bytes of S[RD] and no other byte of X or Y; AMOD modifies AN alone; the modify of the operand follows the access. -/
def Obligations.LocalScalarAccesses : Prop :=
  ∀ (s : State) (c w n : Nat), Issues s c w → n = sizeOf' (zFn w % 8) →
    (zOpc w = 0x02 → ∀ a k', (taken (s.core c)).mop (zMop w) (bits w 17 0) n = .ok (a, k') →
      exec (.localScalarLoad c) s = .next (slotA s c (k'.setS (zRd w)
        (if bit (zFn w) 3 then BitVec.ofNat 64 (leNat ((s.core c).lbytes a n))
         else (BitVec.ofNat (8 * n) (leNat ((s.core c).lbytes a n))).signExtend 64))))
    ∧ (zOpc w = 0x03 → ∀ a k', (taken (s.core c)).mop (zMop w) (bits w 17 0) n = .ok (a, k') →
      Memory.wf (s.core c).x = true → Memory.wf (s.core c).y = true →
      ∃ k2, exec (.localScalarStore c) s = .next (slotA s c k2) ∧ k2 = { k' with x := k2.x, y := k2.y }
        ∧ k2.lbytes a n = leBytes n ((s.core c).getS (zRd w)).toNat
        ∧ ∀ b, b < a ∨ a + n ≤ b → k2.lbyte b = (s.core c).lbyte b)
    ∧ (zOpc w = 0x04 → ∀ k', (taken (s.core c)).mopModify (zMop w) n = .ok k' →
      exec (.amod c) s = .next (slotA s c k') ∧ k' = { taken (s.core c) with a := k'.a, shadow := k'.shadow })

/-- R152, R156, R168, R177: a local access off its natural alignment raises ALIGN, one outside X and Y raises ADDRESS, and the faulting
instruction has no effect: memory and the registers keep their values, and the fault is taken at once. R157: modadd. Without BREV a LEN of
0 is linear modulo 2^32, and another LEN brings every address into [B, B + LEN) congruent to A + d; a bit-reversed buffer whose LEN is no
power of two or smaller than the access has none. -/
def Obligations.LocalAccessFaultsAndBuffers : Prop :=
  ((∀ (s : State) (c w cause : Nat), Issues s c w →
      (taken (s.core c)).mopAddr (zMop w) (bits w 17 0) (sizeOf' (zFn w % 8)) = .error cause →
      (zOpc w = 0x02 → exec (.localScalarLoad c) s = .next (((fresh s).setCore c (taken (s.core c))).spdFault c cause))
      ∧ (zOpc w = 0x03 → exec (.localScalarStore c) s = .next (((fresh s).setCore c (taken (s.core c))).spdFault c cause)))
    ∧ (∀ (k : Core) (m abs n : Nat), n ∈ [2, 4, 8, 64, 128] → mopMode m ≠ 3 →
      let a := if mopMode m = 4 then abs else (k.getA (mopAn m)).toNat
      k.mopAddr m abs n = if a % n ≠ 0 then .error 2 else if 0x40000 ≤ a then .error 3 else .ok a))
  ∧ (∀ (k : Core) (n : Nat) (d : Int) (size : Nat),
      let a := (k.getA n).toNat
      let b := (mget k.b n (0 : BitVec 32)).toNat
      let l := (mget k.l n (0 : BitVec 32)).toNat
      let len := l % 2 ^ 19
      (bit l 31 = false → len = 0 → k.modadd n d size = some (BitVec.ofInt 32 (a + d)))
      ∧ (bit l 31 = false → 0 < len → b + len ≤ 2 ^ 32 → ∃ x, k.modadd n d size = some x
          ∧ b ≤ x.toNat ∧ x.toNat < b + len ∧ ((x.toNat : Int) - (a + d)) % len = 0)
      ∧ (bit l 31 = true → len < size ∨ (∀ e, len ≠ 2 ^ e) → k.modadd n d size = none))

/-- R179: the conditions. R179, R180, R183, R162: BR, BRR, SKIP, NOP, FENCE and WAITI in slot A. A branch sets the bundle's target when
its condition holds and does nothing else yet; a target in a register off a multiple of 16 raises ALIGN and changes no register. R162: a
scalar or lane-by-lane vector instruction whose SKIP held has no effect; its slot passes. -/
def Obligations.BranchesAndWaits : Prop :=
  (∀ (k : Core) (ra : Nat), ra < 32 →
      k.holds 0 ra = true
      ∧ k.holds 1 ra = decide ((k.getS ra).toNat = 0)
      ∧ k.holds 2 ra = decide ((k.getS ra).toNat ≠ 0)
      ∧ k.holds 3 ra = decide ((k.getS ra).toInt < 0)
      ∧ k.holds 4 ra = decide (0 ≤ (k.getS ra).toInt)
      ∧ k.holds 5 ra = k.sat
      ∧ (k.holds 6 ra = true ↔ ∃ i, i < 128 ∧ (k.getP (ra % 8)).getLsbD i = true)
      ∧ (k.holds 7 ra = true ↔ ∀ i, i < 128 → (k.getP (ra % 8)).getLsbD i = false))
  ∧ (∀ (s : State) (c w : Nat), Issues s c w →
      (isOp 0x06 0x00 w = true → exec (.br c) s = .next (slotA s c
        (if (s.core c).holds (zCond w) (zCRa w)
         then { taken (s.core c) with jump := some (BitVec.ofNat 16 (zTgt w * 16), true) } else taken (s.core c))))
      ∧ (isOp 0x06 0x01 w = true → ((s.core c).getS (zCRa w)).toNat % 16 = 0 → exec (.brr c) s = .next (slotA s c
          { taken (s.core c) with jump := some (((s.core c).getS (zCRa w)).setWidth 16, true) }))
      ∧ (isOp 0x06 0x01 w = true → ((s.core c).getS (zCRa w)).toNat % 16 ≠ 0 →
          exec (.brr c) s = .next (((fresh s).setCore c (taken (s.core c))).spdFault c 2))
      ∧ (isOp 0x08 0x00 w = true → (s.core c).slotB = false → exec (.skip c) s = .next (slotA s c
          { taken (s.core c) with skip := some ((s.core c).holds (zCond w) (zCRa w)) }))
      ∧ (isOp 0x00 0x00 w = true → (s.core c).slotB = false → exec (.nop c) s = .next (slotA s c (taken (s.core c))))
      ∧ (isOp 0x00 0x00 w = true → (s.core c).slotB = true →
          exec (.nop c) s = .next (slotB s c (taken (s.core c))))
      ∧ (isOp 0x06 0x0A w = true → exec (.fence c) s = .next (slotA s c (taken (s.core c))))
      ∧ (isOp 0x06 0x0B w = true → exec (.waiti c) s = .next (slotA s c { taken (s.core c) with waiting := true })))
  ∧ (∀ (s : State) (c w : Nat) (o : ScalarOp), o ∈ scalarOps → (s.core c).issues = true → (s.core c).word = w →
      zLegal (s.core c) w = true → isOp 0x01 o.fn w = true → (s.core c).skip = some true →
      exec (o.cmd c) s = .next (slotA s c (taken (s.core c))))
  ∧ (∀ (s : State) (c w : Nat) (o : LaneOp), o ∈ laneOps → (s.core c).issues = true → (s.core c).word = w →
      zLegal (s.core c) w = true → isOp 0x10 o.fn w = true → (s.core c).skip = some true →
      exec (o.cmd c) s = .next (slotB s c (taken (s.core c))))

/-- R155, R160, R180: where a bundle ends. A branch target, else the next bundle; repeat-end processing sends the core back to LS with one
count less while LC is above 1, and leaves the repeat when its count is used up. R159: REP and REPR. A count of 0 runs no iteration: the
core goes on after the end bundle. Another count opens an entry with the next bundle as its start, the target as its end and the count. A
fifth level raises REP_DEPTH and changes nothing. -/
def Obligations.RepeatsAndBundleEnds : Prop :=
  (∀ (k : Core), k.rti = false →
      (k.getLd = 0 → ∀ t b, k.jump = some (t, b) → k.endBundle.pc = t)
      ∧ (k.getLd = 0 → k.jump = none → k.endBundle.pc = k.pc + 16)
      ∧ (∀ d, k.jump = none → k.getLd = d + 1 → k.getLe d = k.pc → 1 < (k.getLc d).toNat →
          k.endBundle.pc = k.getLs d ∧ k.endBundle.getLc d = k.getLc d - 1 ∧ k.endBundle.getLd = d + 1)
      ∧ (k.jump = none → k.getLd = 1 → k.getLe 0 = k.pc → (k.getLc 0).toNat ≤ 1 →
          k.endBundle.pc = k.pc + 16 ∧ k.endBundle.getLd = 0)
      ∧ (∀ d, k.jump = none → k.getLd = d + 1 → k.getLe d ≠ k.pc → k.endBundle.pc = k.pc + 16 ∧ k.endBundle.getLd = d + 1))
  ∧ (∀ (s : State) (c w : Nat), Issues s c w →
      let k := s.core c
      let e := BitVec.ofNat 16 (zTgt w * 16)
      let cmd := if isOp 0x06 0x06 w then Instr.rep c else Instr.repr c
      let n := if isOp 0x06 0x06 w then zImm w else (k.getS (zCRa w)).toNat % 2 ^ 32
      isOp 0x06 0x06 w = true ∨ isOp 0x06 0x07 w = true →
      (n = 0 → exec cmd s = .next (slotA s c { taken k with jump := some (e + 16, false) }))
      ∧ (0 < n → k.getLd < 4 → (∀ i, i < k.getLd → k.inBody i k.pc = false) →
          exec cmd s = .next (slotA s c
            { ((((taken k).setLs k.getLd (k.pc + 16)).setLe k.getLd e).setLc k.getLd (BitVec.ofNat 32 n)).setLd (k.getLd + 1) with
              heldIters := [] }))
      ∧ (0 < n → 4 ≤ k.getLd → exec cmd s = .next (((fresh s).setCore c (taken k)).spdFault c 6)))

/-- R163, R164, R180: CALL, CALLR and RET take effect after slot B: in slot A they set the branch and the frame and change nothing else.
R163: at the end of the bundle a call pushes the mask and the registers it names in one frame below S30, the return address goes to S31 and
the core goes on at the target; memory outside the frame and every other register keep their values. R164: at the end of the bundle a return
restores the registers of the frame at S30, frees it and goes on at S31. -/
def Obligations.CallsPushAndReturnsPop : Prop :=
  (∀ (s : State) (c w : Nat), Issues s c w →
      let k := s.core c
      let rs := maskRegs (zImm w)
      let sp := k.getS 30 - BitVec.ofNat 64 (8 * (rs.length + 1))
      sp.toNat % 8 = 0 → frameOk sp.toNat (rs.length + 1) = true →
      ∀ cmd t, (isOp 0x06 0x02 w = true ∧ cmd = Instr.call c ∧ t = BitVec.ofNat 16 (zTgt w * 16))
          ∨ (isOp 0x06 0x03 w = true ∧ cmd = Instr.callr c ∧ t = (k.getS (zCRa w)).setWidth 16
              ∧ (k.getS (zCRa w)).toNat % 16 = 0) →
      exec cmd s = .next (slotA s c { taken k with jump := some (t, false), frame := some (true, rs) }))
  ∧ (∀ (s : State) (c w : Nat), Issues s c w → isOp 0x06 0x04 w = true →
      let k := s.core c
      let a := (k.getS 30).toNat
      let rs := maskRegs (leNat (k.lbytes a 4))
      a % 8 = 0 → frameOk a (rs.length + 1) = true →
      exec (.ret c) s = .next (slotA s c { taken k with jump := some ((k.getS 31).setWidth 16, false), frame := some (false, rs) }))
  ∧ (∀ (k : Core) (m : Nat) (t : BitVec 16), k.rti = false → k.jump = some (t, false) →
      let rs := maskRegs m
      let k' := k.endBundle
      let sp := k.getS 30 - BitVec.ofNat 64 (8 * (rs.length + 1))
      let a := (k.getS 30).toNat
      (k.frame = some (true, rs) → Memory.wf k.x = true → Memory.wf k.y = true → frameOk sp.toNat (rs.length + 1) = true →
        k'.getS 30 = sp ∧ k'.getS 31 = (k.pc + 16).setWidth 64 ∧ (∀ i, i ≠ 30 → i ≠ 31 → k'.getS i = k.getS i)
        ∧ (∀ j, (h : j < rs.length) → leNat (k'.lbytes (sp.toNat + 8 * (j + 1)) 8) = (k.getS rs[j]).toNat)
        ∧ maskRegs (leNat (k'.lbytes sp.toNat 8)) = rs
        ∧ (∀ b, b < sp.toNat ∨ sp.toNat + 8 * (rs.length + 1) ≤ b → k'.lbyte b = k.lbyte b)
        ∧ k' = { k with s := k'.s, shadow := k'.shadow, x := k'.x, y := k'.y, pc := t, slotB := false, jump := none, frame := none
                        heldIters := k'.heldIters })
      ∧ (k.frame = some (false, rs) →
        k'.getS 30 = BitVec.ofNat 64 (a + 8 * (rs.length + 1))
        ∧ (∀ j, (h : j < rs.length) → (k'.getS rs[j]).toNat = leNat (k.lbytes (a + 8 * (j + 1)) 8))
        ∧ (∀ i, i ≠ 30 → i ∉ rs → k'.getS i = k.getS i)
        ∧ k' = { k with s := k'.s, shadow := k'.shadow, pc := t, slotB := false, jump := none, frame := none, heldIters := k'.heldIters }))

/-- R168, R192: an illegal instruction, under any of the scalar commands, is a fault with cause ILLEGAL: recorded with its slot and
bundle, level 3 is entered at VBASE with IPC3 after the bundle, and no other register changes; with level 3 in service the task is halted.
R165, R166: the input that is due is taken: its pending bit is cleared, the return address and the status are saved for its level, the
level is in service, and the core goes on at VBASE + 16 x (1 + input). R167: RTI in slot A; after slot B the core is at IPC of the highest
level in service with the status that level saved, SAT kept set if it was. At base level it is illegal. -/
def Obligations.FaultsAndInterruptsAreEntered : Prop :=
  (∀ (s : State) (c : Nat) (o : ScalarOp), o ∈ scalarOps → (s.core c).issues = true →
      zLegal (s.core c) (s.core c).word = false → (s.core c).slotB = false → (s.core c).tend = false →
      (bit (s.core c).active 3 = false → (s.core c).getLd = 0 → (s.core c).jump = none → (s.core c).rti = false → (s.core c).frame = none →
        ∃ t, exec (o.cmd c) s = .next t ∧ t = { fresh s with cores := t.cores } ∧ (∀ d, d ≠ c → t.core d = s.core d)
          ∧ (t.core c).faultCause = 1 ∧ (t.core c).faultSlot = false ∧ (t.core c).faultPc = (s.core c).pc.toNat
          ∧ (t.core c).faultActive = (s.core c).active ∧ (t.core c).pc = (s.core c).vbase
          ∧ mget (t.core c).ipc 3 0 = (s.core c).pc + 16 ∧ (t.core c).active = (s.core c).active ||| 8
          ∧ (t.core c).shadowOn = true ∧ (t.core c).s = (s.core c).s ∧ (t.core c).v = (s.core c).v
          ∧ (t.core c).x = (s.core c).x ∧ (t.core c).y = (s.core c).y)
      ∧ (bit (s.core c).active 3 = true → ∃ t, exec (o.cmd c) s = .next t ∧ (t.core c).state = 4 ∧ (t.core c).faultHalt = true))
  ∧ (∀ (s : State) (c i : Nat), (s.core c).due = some i →
      let k := s.core c
      let l := k.levelOf i
      ∃ k', exec (.interruptEntry c) s = .next ((fresh s).setCore c k')
        ∧ k'.pc = k.vbase + BitVec.ofNat 16 (16 * (1 + i)) ∧ mget k'.ipc l 0 = k.pc
        ∧ mget k'.isr l 0 = BitVec.ofNat 32 k.sr ∧ k'.active = k.active ||| 2 ^ l
        ∧ k'.ipend = k.ipend &&& ~~~(1#32 <<< i) ∧ k'.shadowOn = (k.shadowOn || l == 3)
        ∧ k' = { k with pc := k'.pc, ipc := k'.ipc, isr := k'.isr, active := k'.active, ipend := k'.ipend, shadowOn := k'.shadowOn
                        waiting := false, iterBoundary := false, heldIters := k'.heldIters })
  ∧ ((∀ (s : State) (c w : Nat), Issues s c w → isOp 0x06 0x05 w = true →
      ((s.core c).active ≠ 0 → exec (.rti c) s = .next (slotA s c { taken (s.core c) with rti := true }))
      ∧ ((s.core c).active = 0 → exec (.rti c) s = .next (((fresh s).setCore c (taken (s.core c))).spdFault c 1)))
    ∧ (∀ (k : Core) (l : Nat), k.rti = true → k.topLevel = some l → k.endBundle.pc = mget k.ipc l 0
      ∧ k.endBundle.active = (mget k.isr l (0 : BitVec 32)).toNat % 16
      ∧ k.endBundle.ie = (mget k.isr l (0 : BitVec 32)).getLsbD 8
      ∧ k.endBundle.sat = (k.sat || (mget k.isr l (0 : BitVec 32)).getLsbD 16)
      ∧ k.endBundle.shadowOn = (k.shadowOn && l != 3)))

/-- R182: MOVC. A read copies a control register, zero-extended, to S[RD]. A write gives BX at most 47, LD at most 4, AS its low six bits,
leaves the read-only registers IPEND and PC as they are, and gives the other registers the low bits of the value. R179, R181, R107: EVP
pulses the event named by IMM32[15:0] in the hank of the task; outside the hank's range it raises ACCESS and pulses nothing. -/
def Obligations.MovcAndEvpReachTheirRegisters : Prop :=
  ((∀ (s : State) (c w : Nat), Issues s c w →
      (isOp 0x07 0x00 w = true → exec (.movcRead c) s = .next (slotA s c
        ((taken (s.core c)).setS (zRd w) (BitVec.ofNat 64 ((taken (s.core c)).getCr (zCr w))))))
      ∧ (isOp 0x07 0x01 w = true → exec (.movcWrite c) s = .next (slotA s c
        ((taken (s.core c)).setCr (zCr w) (if zI w then zImm w else ((s.core c).getS (zRa w)).toNat)))))
    ∧ (∀ (k : Core) (v : Nat), (k.setCr 1 v).getCr 1 = min v 47 ∧ k.setCr 9 v = k ∧ k.setCr 10 v = k
      ∧ bits ((k.setCr 0 v).getCr 0) 22 20 = min (bits v 22 20) 4
      ∧ (∀ i, i < 4 → mget (k.setCr (2 + i) v).as_ i 0 = BitVec.ofNat 6 v)
      ∧ (k.setCr 7 v).getCr 7 = v % 2 ^ 32 ∧ (k.setCr 8 v).getCr 8 = v % 2 ^ 64
      ∧ (∀ i, i < 4 → (k.setCr (12 + i) v).getCr (12 + i) = v % 2 ^ 16 ∧ (k.setCr (16 + i) v).getCr (16 + i) = v % 2 ^ 32
          ∧ (k.setCr (20 + i) v).getCr (20 + i) = v % 2 ^ 16 ∧ (k.setCr (24 + i) v).getCr (24 + i) = v % 2 ^ 16
          ∧ (k.setCr (28 + i) v).getCr (28 + i) = v % 2 ^ 32)
      ∧ ∀ i, i < 8 → (k.setCr (32 + i) v).getCr (32 + i) = v % 2 ^ 32 ∧ (k.setCr (40 + i) v).getCr (40 + i) = v % 2 ^ 32
          ∧ (k.setCr (56 + i) v).getCr (56 + i) = v % 2 ^ 32))
  ∧ (∀ (s : State) (c w : Nat), Issues s c w → isOp 0x06 0x09 w = true →
      let s1 := (fresh s).setCore c (taken (s.core c))
      (s.ownsEvent (s.core c).hank (zImm w % 65536) = true →
        exec (.evp c) s = .next ((s1.pulse (zImm w % 65536)).setCore c
          { (s1.pulse (zImm w % 65536)).core c with slotB := true }))
      ∧ (s.ownsEvent (s.core c).hank (zImm w % 65536) = false →
        ∃ t, exec (.evp c) s = .next t ∧ (t.core c).faultCause = 4 ∧ t.evt = s.evt))

/-- R178: a far scalar access at 48 bits of S[RA] + IMM32. A load of what the memory network answers writes S[RD], extended; a store puts
the low bytes of S[RD] there. An access off its alignment raises ALIGN and reaches no memory. R185: VLDF and VSTF. An address off a
multiple of 128 raises ALIGN; a load of the 128 bytes the memory network answers writes the governed lanes of VD; a store hands the
network the bytes of governed lanes of the vector register, and takes the fault of a request that fails. R175:
other lanes of VD keep their values, and the runs of a store's block are the flagged bytes at their addresses and no other. -/
def Obligations.FarAccesses : Prop :=
  (∀ (s : State) (c w : Nat), Issues s c w → zOpc w = 0x05 →
      let s1 := (fresh s).setCore c (taken (s.core c))
      let a := (s.core c).farAddr w
      let n := 2 ^ (zFn w % 4)
      (a : Int) = (((s.core c).getS (zRa w)).toNat + (BitVec.ofNat 32 w).toInt) % 2 ^ 48
      ∧ (a % n ≠ 0 → exec (if bit (zFn w) 2 then .farScalarStore c else .farScalarLoad c) s = .next ((s1.spdFault c 2).settle))
      ∧ (bit (zFn w) 2 = false → a % n = 0 → ∀ x b s2, s1.busRead (.spindle c) a n = (.ok, x, b, s2) → (s2.core c).slotB = false →
          exec (.farScalarLoad c) s = .next (let s3 := (s2.setCore c ((s2.core c).setS (zRd w)
              (extend n (leNat b) (bit (zFn w) 3)))).coreMeter c a n
            (s3.setCore c { s3.core c with slotB := true }).settle))
      ∧ (bit (zFn w) 2 = true → a % n = 0 → ∀ x s2,
          s1.busWrite (.spindle c) a (leBytes n ((s.core c).getS (zRd w)).toNat) = (.ok, x, s2) → (s2.core c).slotB = false →
          exec (.farScalarStore c) s = .next (let s3 := s2.coreMeter c a n
            (s3.setCore c { s3.core c with slotB := true }).settle)))
  ∧ (∀ (s : State) (c w : Nat), Issues s c w →
      let s1 := (fresh s).setCore c (taken (s.core c))
      let a := (s.core c).farVec w
      (isOp 0x13 0 w = true → a % 128 ≠ 0 → exec (.vldf c) s = .next ((s1.spdFault c 2).settle))
      ∧ (isOp 0x13 1 w = true → a % 128 ≠ 0 → exec (.vstf c) s = .next ((s1.spdFault c 2).settle))
      ∧ (isOp 0x13 0 w = true → a % 128 = 0 → ∀ x b s2, s1.busRead (.spindle c) a 128 = (.ok, x, b, s2) →
          (s2.core c).slotB = true →
          exec (.vldf c) s = .next (let s3 := (s2.setCore c ((s2.core c).vfill w (leNat b))).coreMeter c a 128
            (s3.closeBundle c).settle))
      ∧ (isOp 0x13 1 w = true → a % 128 = 0 → ∀ s2,
          s1.busWriteRuns (.spindle c) a ((s.core c).farStoreBytes w) = (.ok, s2) →
          (s2.core c).slotB = true →
          exec (.vstf c) s = .next (let s3 := s2.coreMeter c a 128
            (s3.closeBundle c).settle))
      ∧ (isOp 0x13 1 w = true → a % 128 = 0 → ∀ st s2,
          s1.busWriteRuns (.spindle c) a ((s.core c).farStoreBytes w) = (st, s2) → st ≠ .ok →
          exec (.vstf c) s = .next (s2.spdFault c (farCause st)).settle))
  ∧ (∀ (k : Core) (w x i : Nat), i < laneN (zW w) →
      lane (laneW (zW w)) ((k.vfill w x).vget (zRd w)) i =
        lane (laneW (zW w)) (if k.governs (zPr w) (zW w) i then x else k.vget (zRd w)) i)
  ∧ (∀ (k : Core) (w i : Nat), i < 128 →
      (k.farStoreBytes w)[i]? = some (k.governs (zPr w) (zW w) (if zW w then i else i / 2), BitVec.ofNat 8 (lane 8 (k.vget (zRd w)) i)))
  ∧ (∀ (a i : Nat) (bs : List (Bool × Byte)) (b : Byte),
      bs[i]? = some (true, b) ↔ ∃ r ∈ runsOf a bs, ∃ j, r.1 + j = a + i ∧ r.2[j]? = some b)

/-- R174, R175, R184: VADD, VSUB, VADDS, VSUBS, VMUL, VMULQ, VAND, VOR, VXOR, VSLL, VSRA, VSRL, VMIN, VMAX and VABS, each a legal word in its
slot, complete: each answers a next state in which the governed lanes of VD hold its exact result, clamped where it saturates
and wrapped; the other lanes keep their values, and SAT is set when a governed lane is clamped. R174: rne_shr rounds to the nearest
multiple, a tie to the even one. -/
def Obligations.VectorLanesAreWritten : Prop :=
  (∀ (s : State) (c w : Nat) (o : LaneOp), o ∈ laneOps → Issues s c w → isOp 0x10 o.fn w = true →
      let k := s.core c
      let b := laneW (zW w)
      let g := k.governs (zPr w) (zW w)
      ∃ k', exec (o.cmd c) s = .next (slotB s c k') ∧ OnlyV (taken k) k' (zRd w)
        ∧ (∀ i, i < laneN (zW w) → lane b (k'.vget (zRd w)) i = if g i then o.lane k w i else lane b (k.vget (zRd w)) i)
        ∧ k'.sat = (k.sat || (List.range (laneN (zW w))).any (fun i => g i && o.saturates k w i)))
  ∧ (∀ (v : Int) (n : Nat), 2 * |rneShr v n * 2 ^ n - v| ≤ 2 ^ n
      ∧ (2 * |rneShr v n * 2 ^ n - v| = 2 ^ n → 0 < n → rneShr v n % 2 = 0))

/-- R184, R175: VSEL, VSLD, VBCAST, VPACK and VUNPK complete, each a legal word in its slot, and give every lane its value. R184, R151:
VCMPEQ, VCMPLT, VCMPLE, PAND, POR, PXOR and PANDN complete: a comparison sets the predicate bits of the governed lanes
where it holds and clears the others, two bits for a 16-bit lane; the predicate operations are bitwise. A write of P0 is ignored. -/
def Obligations.VectorMovesAndPredicatesAreWritten : Prop :=
  (∀ (s : State) (c w : Nat), Issues s c w →
      let k := s.core c
      let b := laneW (zW w)
      let g := k.governs (zPr w) (zW w)
      let va := k.vget (zRa w)
      let vb := k.vget (zRb w)
      let written := fun (cmd : Instr) (wd n : Nat) (gov : Nat → Bool) (f : Nat → Nat) (st : Bool) =>
        ∃ k', exec cmd s = .next (slotB s c k') ∧ OnlyV (taken k) k' (zRd w) ∧ k'.sat = (k.sat || st)
          ∧ ∀ i, i < n → lane wd (k'.vget (zRd w)) i = if gov i then f i else lane wd (k.vget (zRd w)) i
      let half := fun j => if j < 64 then laneI 16 false va j else laneI 16 false vb (j - 64)
      (isOp 0x10 0x0F w = true → written (.vsel c) b (laneN (zW w)) (fun _ => true) (fun i => if g i then lane b va i else lane b vb i) false)
      ∧ (isOp 0x10 0x10 w = true → written (.vsld c) b (laneN (zW w)) g
          (fun i => if i + zImm w < laneN (zW w) then lane b va (i + zImm w) else lane b vb (i + zImm w - laneN (zW w))) false)
      ∧ (isOp 0x10 0x11 w = true → written (.vbcast c) b (laneN (zW w)) g (fun _ => (k.getS (zRa w)).toNat % 2 ^ b) false)
      ∧ (isOp 0x10 0x12 w = true → written (.vpack c) 8 128 (k.governs (zPr w) true)
          (fun j => low 8 (clamp 8 (zU w) (rneShr (half j) (zImm w))))
          ((List.range 128).any (fun j => k.governs (zPr w) true j &&
            clamp 8 (zU w) (rneShr (half j) (zImm w)) != rneShr (half j) (zImm w))))
      ∧ (isOp 0x10 0x13 w = true → written (.vunpk c) 16 64 (k.governs (zPr w) false)
          (fun j => low 16 (laneI 8 (zU w) va (64 * zImm w + j))) false))
  ∧ (∀ (s : State) (c w : Nat), Issues s c w →
      let k := s.core c
      let b := laneW (zW w)
      let x := fun i => laneI b (zU w) (k.vget (zRa w)) i
      let y := fun i => laneI b (zU w) (k.vget (zRb w)) i
      let compares := fun (cmd : Instr) (f : Int → Int → Bool) =>
        ∃ v, exec cmd s = .next (slotB s c ((taken k).setP (zRd w) v))
          ∧ ∀ i, i < 128 → v.getLsbD i = (k.governs (zPr w) (zW w) (if zW w then i else i / 2)
              && f (x (if zW w then i else i / 2)) (y (if zW w then i else i / 2)))
      let logic := fun (cmd : Instr) (f : Bool → Bool → Bool) =>
        ∃ v, exec cmd s = .next (slotB s c ((taken k).setP (zRd w) v))
          ∧ ∀ i, i < 128 → v.getLsbD i = f ((k.getP (zRa w)).getLsbD i) ((k.getP (zRb w)).getLsbD i)
      (isOp 0x11 0x00 w = true → compares (.vcmpeq c) (fun a b => decide (a = b)))
      ∧ (isOp 0x11 0x01 w = true → compares (.vcmplt c) (fun a b => decide (a < b)))
      ∧ (isOp 0x11 0x02 w = true → compares (.vcmple c) (fun a b => decide (a ≤ b)))
      ∧ (isOp 0x11 0x08 w = true → logic (.pand c) (fun a b => a && b))
      ∧ (isOp 0x11 0x09 w = true → logic (.por c) (fun a b => a || b))
      ∧ (isOp 0x11 0x0A w = true → logic (.pxor c) (fun a b => a != b))
      ∧ (isOp 0x11 0x0B w = true → logic (.pandn c) (fun a b => a && !b))
      ∧ (∀ v, k.setP 0 v = k ∧ k.getP 0 = BitVec.allOnes 128))

/-- R185, R175: the local vector accesses. A load writes the governed lanes of the half or the whole it names with the bytes at its
address; a store writes the bytes of governed lanes and no other byte of X or Y. The operand's modify follows. -/
def Obligations.LocalVectorAccesses : Prop :=
  ∀ (s : State) (c w a : Nat) (k1 : Core), Issues s c w →
    let k := s.core c
    let b := laneW (zW w)
    let g := k.governs (zPr w) (zW w)
    let h := zMopY w
    let loads := fun (cmd : Instr) (first size : Nat) => (taken k).mop (zMopX w) 0 size = .ok (a, k1) →
      ∃ k', exec cmd s = .next (slotB s c k') ∧ OnlyV k1 k' (zRd w) ∧ k'.sat = k.sat
        ∧ ∀ i, i < laneN (zW w) → lane b (k'.vget (zRd w)) i =
            if 8 * first ≤ b * i ∧ b * i < 8 * (first + size) ∧ g i = true
            then leNat (k.lbytes (a + (b * i / 8 - first)) (b / 8)) else lane b (k.vget (zRd w)) i
    let stores := fun (cmd : Instr) (first size : Nat) => (taken k).mop (zMopX w) 0 size = .ok (a, k1) →
      Memory.wf k.x = true → Memory.wf k.y = true →
      ∃ k', exec cmd s = .next (slotB s c k') ∧ k' = { k1 with x := k'.x, y := k'.y }
        ∧ (∀ i, i < size → k'.lbyte (a + i) =
            if g (if zW w then first + i else (first + i) / 2) then BitVec.ofNat 8 (lane 8 (k.vget (zRa w)) (first + i))
            else k.lbyte (a + i))
        ∧ ∀ d, d < a ∨ a + size ≤ d → k'.lbyte d = k.lbyte d
    (isOp 0x12 0x00 w = true → loads (.vld c) 0 128)
    ∧ (isOp 0x12 0x01 w = true → stores (.vst c) 0 128)
    ∧ (isOp 0x12 0x02 w = true → loads (.vldh c) (64 * h) 64)
    ∧ (isOp 0x12 0x03 w = true → stores (.vsth c) (64 * h) 64)
    ∧ (isOp 0x12 0x04 w = true → (taken k).mop (zMopX w) 0 2 = .ok (a, k1) →
        ∃ k', exec (.vldb c) s = .next (slotB s c k') ∧ OnlyV k1 k' (zRd w) ∧ k'.sat = k.sat
          ∧ ∀ i, i < laneN (zW w) → lane b (k'.vget (zRd w)) i =
              if g i then (if zW w then (k.lbyte (a + i % 2)).toNat else leNat (k.lbytes a 2)) else lane b (k.vget (zRd w)) i)

/-- R186, R187, R188, R174: MAC, MACXY, CMAC and CMACXY. Governed lanes of ACd take the exact sum of products and the accumulator (or
zero), added or subtracted, clamped to 48 signed bits; SAT is set when one is clamped, and the other lanes keep their values. -/
def Obligations.MultiplyAccumulates : Prop :=
  ∀ (s : State) (c w : Nat), Issues s c w →
    let k := s.core c
    let old := fun j => sx 48 (lane 48 (k.aget (zRd w)) j)
    let sum := fun (j : Nat) (t : Int) =>
      (if bit (zFn w) 0 then 0 else old j) + (if bit (zFn w) 1 then -t else t)
    let into := fun (cmd : Instr) (k1 : Core) (term : Nat → Option Int) =>
      ∃ k', exec cmd s = .next (slotB s c k') ∧ OnlyAc k1 k' (zRd w)
        ∧ (∀ j, j < 64 → lane 48 (k'.aget (zRd w)) j = match term j with
            | some t => low 48 (clamp 48 false (sum j t))
            | none => lane 48 (k.aget (zRd w)) j)
        ∧ k'.sat = (k.sat || (List.range 64).any (fun j => match term j with
            | some t => clamp 48 false (sum j t) != sum j t
            | none => false))
    let macOf := fun x y j => macTerm (k.governs (zPr w) (zW w)) (zW w) (zU w) x y j
    let cmacOf := fun x y j => if (k.getP (zPr w)).getLsbD (4 * (j / 2)) then some (cmacTerm (bit (zFn w) 2) x y j) else none
    let second := if bit (zFn w) 2 then 2 else 128
    (zOpc w = 0x14 → bit (zFn w) 3 = false → bit (zFn w) 2 = false →
        into (.mac c) (taken k) (macOf (k.vget (zRa w)) (k.vget (zRb w))))
    ∧ (zOpc w = 0x14 → bit (zFn w) 3 = false → bit (zFn w) 2 = true → ∀ y,
        (∀ i, i < laneN (zW w) → lane (laneW (zW w)) y i = (k.getS (zRb w)).toNat % 2 ^ laneW (zW w)) →
        into (.mac c) (taken k) (macOf (k.vget (zRa w)) y))
    ∧ (zOpc w = 0x14 → bit (zFn w) 3 = true → ∀ x y k1, (taken k).xyOperands w second = .ok (x, y, k1) →
        into (.macxy c) k1 (macOf x y))
    ∧ (zOpc w = 0x15 → bit (zFn w) 3 = false → into (.cmac c) (taken k) (cmacOf (k.vget (zRa w)) (k.vget (zRb w))))
    ∧ (zOpc w = 0x15 → bit (zFn w) 3 = true → ∀ x y k1, (taken k).xyOperands w 128 = .ok (x, y, k1) →
        into (.cmacxy c) k1 (cmacOf x y))

/-- R189, R191, R174: ACCLR, VTOAC, ACADD, ACSUB and ACMOV write governed accumulator lanes, clamped to 48 signed bits; SMOV narrows an
accumulator into the governed lanes of VD, shifted by AS or by its own amount with rounding, and clamped. R190: BEXP sets BX to the least
redundant sign bits of the governed lanes, BEXP.M lowers BX to it; with no lane governed BEXP sets the width less one and BEXP.M leaves
BX. -/
def Obligations.AccumulatorsAreWritten : Prop :=
  (∀ (s : State) (c w : Nat), Issues s c w →
      let k := s.core c
      let g := k.governs (zPr w) false
      let ac := fun (n j : Nat) => sx 48 (lane 48 (k.aget n) j)
      let into := fun (cmd : Instr) (f : Nat → Int) =>
        ∃ k', exec cmd s = .next (slotB s c k') ∧ OnlyAc (taken k) k' (zRd w)
          ∧ (∀ j, j < 64 → lane 48 (k'.aget (zRd w)) j = if g j then low 48 (clamp 48 false (f j)) else lane 48 (k.aget (zRd w)) j)
          ∧ k'.sat = (k.sat || (List.range 64).any (fun j => g j && clamp 48 false (f j) != f j))
      (isOp 0x16 0x00 w = true → into (.acclr c) (fun _ => 0))
      ∧ (isOp 0x16 0x01 w = true → into (.vtoac c) (fun j => laneI 16 (zU w) (k.vget (zRa w)) j * 2 ^ (zImm w % 32)))
      ∧ (isOp 0x16 0x02 w = true → into (.acadd c) (fun j => ac (zRa w) j + ac (zRb w) j))
      ∧ (isOp 0x16 0x03 w = true → into (.acsub c) (fun j => ac (zRa w) j - ac (zRb w) j))
      ∧ (isOp 0x16 0x04 w = true → into (.acmov c) (fun j => ac (zRa w) j))
      ∧ (isOp 0x18 0x00 w = true →
          let sh : Int := if bit (zImm w) 7 then (BitVec.ofNat 6 (zImm w)).toInt else (mget k.as_ (zRa w) (0 : BitVec 6)).toInt
          let v := fun i => if 0 ≤ sh then ac (zRa w) (i % 64) * 2 ^ sh.toNat else rneShr (ac (zRa w) (i % 64)) (-sh).toNat
          let b := laneW (zW w)
          let gov := fun i => k.governs (zPr w) (zW w) i && (!zW w || decide (i / 64 = zImm w % 2))
          ∃ k', exec (.smov c) s = .next (slotB s c k') ∧ OnlyV (taken k) k' (zRd w)
            ∧ (∀ i, i < laneN (zW w) → lane b (k'.vget (zRd w)) i =
                if gov i then low b (clamp b (zU w) (v i)) else lane b (k.vget (zRd w)) i)
            ∧ k'.sat = (k.sat || (List.range (laneN (zW w))).any (fun i => gov i && clamp b (zU w) (v i) != v i))))
  ∧ (∀ (s : State) (c w : Nat), Issues s c w → zOpc w = 0x17 →
      let k := s.core c
      let ac := bit (zFn w) 0
      let b := if ac then 48 else laneW (zW w)
      let n := if ac then 64 else laneN (zW w)
      let x := if ac then k.aget (zRa w) else k.vget (zRa w)
      let g := fun j => k.governs (zPr w) (!ac && zW w) j
      ∃ e, exec (if bit (zFn w) 1 then .bexpM c else .bexp c) s = .next (slotB s c { taken k with bx := e })
        ∧ ((∀ j, j < n → g j = false) → e = if bit (zFn w) 1 then k.bx else b - 1)
        ∧ ((∃ j, j < n ∧ g j = true) →
            (∀ j, j < n → g j = true → e ≤ nrsb b (lane b x j))
            ∧ ((∃ j, j < n ∧ g j = true ∧ e = nrsb b (lane b x j)) ∨ (bit (zFn w) 1 = true ∧ e = k.bx))
            ∧ (bit (zFn w) 1 = true → e ≤ k.bx)))

/-- R98, R100, R101: regions. A create that its conditions allow, journalled, makes the slot ACTIVE for the hank over cleared granules under
a newly drawn key pair; a destroy makes it SCRUBBING and erases its key, and the end of the scrub frees it and is answered to the bank whose
command waits for it. R101, R116: a scrubbed range reads zero, its granules are unwritten, and every other byte of memory keeps its value.
R100, R101, R103, R104: a region command of a tenant is refused with code 2, and a region or grant command that finds the bank BUSY with
code 1; either steps SEQ and sets DONE, and changes nothing else. -/
def Obligations.RegionsAreCreatedAndDestroyed : Prop :=
  (∀ (s : State) (who : Requester) (slot : Nat),
      let h := s.hnkBank who
      let k := s.hank h
      let base := k.baseLo + k.baseHi % 2 ^ 16 * 2 ^ 32
      let x := s.slotOf slot
      (s.reqHank who = 0 → k.result.busy = false → s.hankExists h = true → base % 4096 = 0 → 0 < k.len → dramBase ≤ base →
        base + k.len * 4096 ≤ s.tagBase → s.slotInRange h slot = true → x.state = 0 →
        s.overlaps base (base + k.len * 4096) = false → s.underLimit h k.len false = true →
        ∀ s1, (fresh s).change [{ origin := authOrigin (reqAuth who), kind := 1, hank := h, object := jObj 4 slot, new := base
                                  data := k.len }] = (true, s1) →
        exec (.regionCreate who slot) s = .next (let d := (s1.scrub base (base + k.len * 4096)).draw
          ({ d.2 with slots := mset s1.slots slot { state := 1, owner := h, base := base, len := k.len, key := d.1 % 2 ^ 512 } } : State).hnkEnd
            h 0))
      ∧ (s.reqHank who = 0 → k.result.busy = false → x.state = 1 → x.owner = h →
        ∀ s1, (fresh s).change [{ origin := authOrigin (reqAuth who), kind := 1, hank := h, object := jObj 4 slot, old := x.base
                                  data := x.len }] = (true, s1) →
        ∃ t, exec (.regionDestroy who slot) s = .next t
          ∧ t.slotOf slot = { x with state := 2, key := 0, waiter := some h } ∧ t.mem = s.mem ∧ (t.hank h).result.busy = true
            ∧ (t.hank h).result.seq = (k.result.seq + 1) % 256)
      ∧ (x.state = 2 → exec (.regionScrubDone slot) s = .next
          (let t : State := { (fresh s).scrub x.base (x.base + x.len * 4096) with slots := mdel s.slots slot }
           match x.waiter with | some b => t.hnkDone b | none => t)))
  ∧ (∀ (s : State) (lo hi : Nat), Memory.wf s.mem = true →
      (∀ a, lo ≤ a → a < hi → memGet (s.scrub lo hi).mem a = 0)
      ∧ (∀ a, a < lo ∨ hi ≤ a → memGet (s.scrub lo hi).mem a = memGet s.mem a)
      ∧ (∀ g, g ∈ (s.scrub lo hi).written ↔ g ∈ s.written ∧ ¬(lo ≤ g ∧ g < hi)))
  ∧ (∀ (s : State) (who : Requester) (slot : Nat),
      let h := s.hnkBank who
      let k := s.hank h
      let ends := fun (code : Nat) => Host.Outcome.next (φ := Fault) (ρ := Refusal) ((fresh s).setHank h
        { k with result := { k.result with done := true, seq := (k.result.seq + 1) % 256, code := code } })
      (k.result.busy = true → s.reqHank who ≠ noHank → exec (.regionCreate who slot) s = ends 1 ∧ exec (.regionDestroy who slot) s = ends 1
        ∧ exec (.grant who slot) s = ends 1 ∧ exec (.revoke who slot) s = ends 1)
      ∧ (k.result.busy = false → s.reqHank who ≠ 0 → s.reqHank who ≠ noHank →
        exec (.regionCreate who slot) s = ends 2 ∧ exec (.regionDestroy who slot) s = ends 2))

/-- R103, R104: grants. A grant of a window its grantor owns takes a free grant number, which the device chooses, for the grantee; a
revoke keeps it until the reads accepted under it are answered, and then it is gone and the command that waits for it is answered. -/
def Obligations.GrantsAreMadeAndRevoked : Prop :=
  ∀ (s : State) (who : Requester) (g : Nat), s.reqHank who ≠ noHank →
    let h := s.hnkBank who
    let k := s.hank h
    let base := k.baseLo + k.baseHi % 2 ^ 16 * 2 ^ 32
    let len := k.len * granuleSize base
    let x := s.grantOf g
    (∀ peer, k.result.busy = false → s.hankExists peer = true → granule base = base → 0 < k.len →
      (if base < dramBase then skeinBase ≤ base ∧ base + len ≤ skeinBase + nBanks s.variant * mib else base + len ≤ s.tagBase) →
      s.windowOwned h base len = true →
      (s.grants.filter (fun e => e.2.state != 0 && e.2.grantor == h)).length < policyN s.img 0x0302 0xFF 32 →
      (∃ n, n < 1024 ∧ (s.grantOf n).state = 0) →
      s.lea.head / 2 ^ 32 = s.lea.epoch → s.lea.ring.length < 4096 →
      ∃ t n, exec (.grant who peer) s = .next t ∧ n < 1024 ∧ (s.grantOf n).state = 0
        ∧ t.grants = mset s.grants n { state := 1, grantor := h, grantee := peer, base := base, len := len }
        ∧ (t.hank h).resultGrant = n ∧ (t.hank h).result.code = 0 ∧ (t.hank h).result.done = true ∧ t.mem = s.mem)
    ∧ (k.result.busy = false → x.state = 1 → x.grantor = h →
      ∀ s1, (fresh s).change [{ origin := s.reqOrigin who, kind := 1, hank := h, object := jObj 5 g, old := x.grantee
                                data := x.base + x.len * 2 ^ 64 }] = (true, s1) →
      exec (.revoke who g) s = .next
        ((({ s1 with grants := mset s1.grants g { x with state := 2, waits := true } } : State).tagUpdate x.base (x.base + x.len)).hnkBusy h))
    ∧ (x.state = 2 → exec (.revokeComplete g) s = .next
        (let t : State := { fresh s with grants := mdel s.grants g }
         if x.waits then t.hnkDone x.grantor else t))

/-- R113 to R117: pool buffers. A request its class may take, under the hank's limit, is answered with a buffer no hank held, now held by
the requester's hank over memory that reads zero; every other byte and every other pool is unchanged. A request that its class may not take is
answered POOL_EMPTY, one over the limit OVER_LIMIT, and one of hank 0, of a hank without a record in the ply or for a pool that is not woven
NO_POOL; none of them changes a buffer. A free of a buffer the hank holds starts its scrub, and the end of the scrub lets it be taken again:
the oldest wait of the highest class that may take one is removed and pulsed. Another free is counted and changes nothing else. -/
def Obligations.PoolBuffersAreTakenAndFreed : Prop :=
  ∀ (s : State) (who : Requester) (p q cls i : Nat), p < 16 → q < 8 → s.reqHank who ≠ noHank →
    let h := s.reqHank who
    let x := s.poolOf p q
    let r : PoolReq := { pos := 0, who := who, p := p, q := q, cls := cls }
    (x.woven = true → h ≠ 0 → (hankRec? s.img h p).isSome = true → x.classMay (s.poolClass r) x.free = true →
      s.underLimit h (x.stride / (if x.skein then 256 else 4096)) x.skein = true →
      (∀ e ∈ x.bufs, e.1 < x.count) → x.bufs.Pairwise (fun a b => a.1 < b.1) →
      Memory.wf s.mem = true →
      ∃ t n, exec (.poolAllocate [(who, p, q, cls)]) s = .next t ∧ n < x.count ∧ mget? x.bufs n = none
        ∧ t.pools = mset s.pools (8 * p + q) { x with bufs := mset x.bufs n { held := true, hank := h }, lastWinner := reqId who }
        ∧ t.out = [.answer 0 (leBytes 4 (2 ^ 31 + n))]
        ∧ (∀ a, x.base + n * x.stride ≤ a → a < x.base + (n + 1) * x.stride → memGet t.mem a = 0)
        ∧ ∀ a, a < x.base + n * x.stride ∨ x.base + (n + 1) * x.stride ≤ a → memGet t.mem a = memGet s.mem a)
    ∧ (x.woven = true → h ≠ 0 → (hankRec? s.img h p).isSome = true → x.classMay (s.poolClass r) x.free = false →
      ∃ t, exec (.poolAllocate [(who, p, q, cls)]) s = .next t ∧ t.out.getLast? = some (.answer 0 (leBytes 4 (2 ^ 26)))
        ∧ (t.poolOf p q).bufs = x.bufs ∧ t.mem = s.mem)
    ∧ (x.woven = true → h ≠ 0 → (hankRec? s.img h p).isSome = true → x.classMay (s.poolClass r) x.free = true →
      s.underLimit h (x.stride / (if x.skein then 256 else 4096)) x.skein = false →
      exec (.poolAllocate [(who, p, q, cls)]) s = .next { s with out := [.answer 0 (leBytes 4 (2 * 2 ^ 26))] })
    ∧ (x.woven = false ∨ h = 0 ∨ (hankRec? s.img h p).isNone = true →
      exec (.poolAllocate [(who, p, q, cls)]) s = .next { s with out := [.answer 0 (leBytes 4 (3 * 2 ^ 26))] })
    ∧ (∀ b, x.woven = true → mget? x.bufs i = some b → b.held = true → b.hank = h →
      ∃ t, exec (.poolFree who p q i) s = .next t
        ∧ t = (((fresh s).setPool p q { x with bufs := mset x.bufs i { held := false, hank := 0 } }).scrub
                (x.base + i * x.stride) (x.base + i * x.stride + x.stride)).voidRange
                (x.base + i * x.stride) (x.base + i * x.stride + x.stride))
    ∧ ((∀ b, x.woven = true → mget? x.bufs i = some b → b.held = true → b.hank ≠ h) →
      exec (.poolFree who p q i) s = .next ((fresh s).setHank h
        { s.hank h with badFrees := min ((s.hank h).badFrees + 1) (2 ^ 32 - 1) }))
    ∧ (∀ b, mget? x.bufs i = some b → b.held = false →
      let y := { x with bufs := mdel x.bufs i }
      (waitFor y 3 0 = none → exec (.poolBufferScrubDone p q i) s = .next ((fresh s).setPool p q y))
      ∧ (∀ v, waitFor y 3 0 = some v → exec (.poolBufferScrubDone p q i) s = .next
          (((fresh s).setPool p q { y with waits := y.waits.erase v }).pulse v.event)
        ∧ y.classMay v.cls y.free = true ∧ y.waits.find? (fun u => u.cls == v.cls) = some v
        ∧ ∀ u ∈ y.waits, y.classMay u.cls y.free = true → u.cls < 3 → v.cls ≤ u.cls))

/-- R61, R62: the boundaries of a ply. Tick t + 1 follows tick t by floor(4,000 / N) granules or one more, and the first boundary at or
after a time is the one the tick engine finds. R64: the boundary sequence of a ply, before which no lower ply's boundary of the granule is
left: what the units have metered, the summary, the latches and loops, the swaps, the fate of the unfinished jobs, the shedding, a reweave
that is due, then budgets, governor and admission of the tick that opens, in this order. R63: the tick that opens is the last one TIME_NS has
passed, and the boundaries passed over are counted. R67, the model's reading (log 166): a boundary that a higher ply's has run already leaves
nothing to do. -/
def Obligations.TicksRunTheBoundarySequence : Prop :=
  (∀ (n phase : Nat), 0 < n → phase < 4000 / n →
      (∀ sec k, k < n → boundaryTime n phase (sec * n + k) = sec * 1000000000 + (phase + k * 4000 / n) * 250000)
      ∧ (∀ t, ∃ e, e ≤ 1 ∧ boundaryTime n phase (t + 1) = boundaryTime n phase t + (4000 / n + e) * 250000)
      ∧ (∀ x, x ≤ boundaryTime n phase (firstTick n phase x) ∧ ∀ u, u < firstTick n phase x → boundaryTime n phase u < x))
  ∧ (∀ (s : State) (p : Nat) (places : List Placement) (meters : List Meter), s.ticking = true → (plyRec? s.img p).isSome = true →
      s.tck.early.contains p = false → (∀ q, q < p → s.dueAt q (s.nextBoundary p) = false) →
      let pl := s.ply p
      let t := s.nextTick p
      let b := boundaryTime pl.ticksPerS pl.phase t
      let skipped := t - firstTick pl.ticksPerS pl.phase pl.openAt
      let closing := if pl.admitting then pl.tick else t - 1
      let hold := decide (s.pwr.state = 1)
      let early := if s.tck.time < b then [] else s.tck.early
      let s0 := ((({ fresh s with tck := { s.tck with early := early }.passTo b } : State).meter p meters).aim p closing t (!pl.admitting)).countDrain p
      let mine := fun (u : State) => u.wrp.pending.any (fun d => d.ply == p)
      let dropAll := hold || s0.wrp.pending.any (fun d => d.ply == p && decide (pl.drainTicks ≤ d.drained))
      let late := if dropAll then [] else s0.overdue p closing t
      let s1 := s0.writeSummary p closing b skipped (!late.isEmpty)
      let s2 := s1.setPly p { (s1.ply p).noteSlack s1.tck.time with
        tick := t, openAt := b + 1, admitting := true, overranNow := false, skipped := min (pl.skipped + skipped) 255, stats := {} }
      let s3 := { s2 with crd := { s2.crd with charged := s2.crd.charged.filter (fun e => e.1 / 4096 != p) } }
      let s4 := if late.isEmpty then s3 else s3.overrunNow p closing late
      let s5 := (((((s4.latchPly p).ratePly p t).headroomPly p t).engineSwaps).backSwap).armTables p
      let s6 := if hold then s5.endQueued p else s5
      let s7 := (s6.unfinished p).foldl (State.jobFate · dropAll) s6
      let s8 := s7.shed p t (s7.jobs.length + 1)
      let s9 := match s8.wrp.pending with
        | some d => if d.ply = p ∧ s8.plyInFlight p = false then s8.reweaveStep d places closing else s8
        | none => s8
      exec (.plyBoundary p ⟨places, meters⟩) s = .next (s9.openTick p closing t (!late.isEmpty) hold (mine s0 && mine s9)))
  ∧ (∀ (s : State) (p : Nat) (places : List Placement) (meters : List Meter), s.tck.early.contains p = true →
      exec (.plyBoundary p ⟨places, meters⟩) s = .next { fresh s with tck := { s.tck with early := s.tck.early.filter (· != p) } })

/-- R75: an entry of the submission ring that passes every check is queued for its hank behind the jobs there are, and its RESULT says so; a
gate outside the hank's events is an access error (R107). The entry is read at the ring's next place, and the place moves on. R79, R25, R27,
R29: a freed slot goes to the selected job of the highest class whose class may take one, the earliest selected first; the peak follows the
count of jobs in flight. R27, R28: a Reserved job may take a slot while any is free; another class leaves the reserve. -/
def Obligations.JobsAreQueuedAndGivenSlots : Prop :=
  (∀ (s : State) (who : Requester) (rec : HankRec),
      let h := s.tckBank who
      let k := s.hank h
      let size := ringSize k.subLog2
      let entry := k.subBase + 64 * (k.subNext % size)
      let s1 := (fresh s).setHank h { k with subNext := (k.subNext + 1) % size }
      let e := (s1.engBytes h tickReq entry 64).1
      let s2 := (s1.engBytes h tickReq entry 64).2
      let p := leAt e 19 1
      let d := s2.engRead h tickReq (leAt e 8 8) 64
      let s3 := d.2.2.2
      let u := descUnit (leAt e 16 1) (slice d.2.2.1 0 64)
      let j : Job := { id := s2.tck.nextJob, hank := h, tag := leAt e 0 8, desc := leAt e 8 8, kind := leAt e 16 1, cls := leAt e 17 1
                       fate := leAt e 18 1, ply := p, costTile := leAt e 20 4, costSpindle := leAt e 24 4, costDram := leAt e 28 4
                       gate := leAt e 32 2, target := nextTickOf s2.tck.time (s2.ply p), unit := u.1, doneEvent := u.2 }
      s.reqHank who ≠ noHank → size ≠ 0 → leAt e 34 22 = 0 → leAt e 60 4 = 0 → 1 ≤ j.kind → j.kind ≤ 5 → j.cls ≤ 2 → j.fate ≤ 1 →
      s2.memAsleep = false → s2.wrp.weaving = none → hankRec? s2.img h p = some rec →
      s2.liveJobs h + 1 ≤ ringSize (s2.hank h).cplLog2 →
      (s2.jobs.filter (fun x => x.hank == h && x.ply == p && x.phase == .queued)).length < rec.depth →
      (s2.ply p).state ≠ 0 → (s2.ply p).state ≠ 3 → d.1 = .ok → s3.unitOk j.kind p u.1 = true →
      (j.cls ≠ 0 → j.costTile ≤ s3.capTile p ∧ j.costSpindle ≤ s3.capSpindle p) →
      (j.cls = 0 → s3.canBook rec j.target j.costTile j.costSpindle j.costDram = true) →
      ∃ t, exec (.submitDoorbell who 1) s = .next t
        ∧ t = (let w := s3.writeResult h entry 0 0
               let w := if j.gate ≠ 0xFFFF ∧ w.ownsEvent h j.gate = false then w.accessError h j.gate 5 else w
               { w with tck := { w.tck with jobs := w.tck.jobs ++ [j], nextJob := w.tck.nextJob + 1 } }))
  ∧ (∀ (s : State) (j : Job), s.nextWaiting = some j →
      (j ∈ s.jobs ∧ j.phase = .selected ∧ s.slotFree j.cls = true
        ∧ ∀ x ∈ s.jobs, x.phase = .selected → s.slotFree x.cls = true →
            j.cls < x.cls ∨ (j.cls = x.cls ∧ j.selSeq ≤ x.selSeq))
      ∧ ∃ t, exec .jobSlotAcquire s = .next t
        ∧ t = { fresh s with tck := t.tck, peak := t.peak } ∧ t.tck = { s.tck with jobs := t.tck.jobs, nextSel := s.tck.nextSel + 1 }
        ∧ t.jobs.map (·.id) = s.jobs.map (·.id)
        ∧ (∀ x ∈ t.jobs, x.id = j.id → x.phase = .admitted ∧ x.slotSeq = s.tck.nextSel)
        ∧ t.peak = max s.peak t.inFlight)
  ∧ (∀ (s : State) (cls : Nat), s.slotFree cls = true ↔
      if cls = 0 then s.inFlight < jobsMax s.variant else s.inFlight + s.jobReserve < jobsMax s.variant)

/-- R147, R148: a task starts on a free core whose unit counts: the core runs for the job's hank with its registers at their start values,
ENTRY in PC, ARG in S1 and the stack address in S30; X and Y hold the task's images, over what they held when the hank did not change and
over zeros when it did, or when it has been destroyed since (R110). -/
def Obligations.SpindleTaskStarts : Prop :=
  ∀ (s : State) (c : Nat) (j : Job), (s.core c).free = true → s.coreJob c = some j → s.counts (48 + c) = true →
    (s.unitSt (48 + c)).latch = false → c < 16 →
    let k := s.core c
    let differ := decide (k.hank ≠ j.hank ∨ k.stranger)
    let s0 := ((fresh s).updJob j.id (fun j => { j with phase := .running, unit := c })).setCore c
      { state := 3, hank := j.hank, job := some j.id, maxHeld := k.maxHeld, window := k.window
        x := if differ then [] else k.x, y := if differ then [] else k.y, pm := k.pm }
    ∀ d s1 p s2 x s3 y s4, s0.coreImage c j.desc 64 = (some d, s1) → spdDescOk d = true →
      (s1.updJob j.id (fun j => { j with doneEvent := leAt d 44 2 })).coreImage c (leAt d 0 8) (leAt d 8 4) = (some p, s2) →
      s2.coreImage c (leAt d 16 8) (leAt d 24 4) = (some x, s3) → s3.coreImage c (leAt d 32 8) (leAt d 28 4) = (some y, s4) →
      exec (.spindleTaskStart c) s = .next ((s4.setCore c { s4.core c with
        pm := memPuts (s4.core c).pm 0 p, x := memPuts (s4.core c).x 0 x, y := memPuts (s4.core c).y 0 y
        holdoff := leAt d 47 1, doneEvent := leAt d 44 2, pc := BitVec.ofNat 16 (leAt d 12 4)
        s := mset (mset [] 1 (BitVec.ofNat 64 (leAt d 48 8))) 30 (BitVec.ofNat 64 (leAt d 40 4)) }).takeReports)

/-- R149, R150, R180: TEND in slot A lets slot B complete; then the task ends at base level and is halted above it. R149, R85, R86: a
Spindle task that has ended frees its core, keeps the cycles metered for it, and its job ends SERVED in its target tick and SERVED_LATE
after it; its slot is free, and the master of a relay whose own job it was learns the status (R414). R85, R86: the 64 bytes of a completion
record. -/
def Obligations.SpindleTasksEndTheirJobs : Prop :=
  (∀ (s : State) (c w : Nat), Issues s c w →
      (isOp 0x06 0x08 w = true → exec (.tend c) s = .next (slotA s c { taken (s.core c) with tend := true }))
      ∧ (isOp 0x00 0x00 w = true → (s.core c).slotB = true → (s.core c).tend = true → (s.core c).active = 0 →
        exec (.nop c) s = .next ((fresh s).setCore c { taken (s.core c) with ended := true, tend := false, slotB := false }))
      ∧ (isOp 0x00 0x00 w = true → (s.core c).slotB = true → (s.core c).tend = true → (s.core c).active ≠ 0 →
        ∃ t, exec (.nop c) s = .next t ∧ (t.core c).state = 4 ∧ (t.core c).faultHalt = true))
  ∧ (∀ (s : State) (c cycles : Nat) (j : Job), (s.core c).state = 3 → (s.core c).ended = true → (s.core c).job = some j.id →
      s.job? j.id = some j →
      let st : JobStatus := if (s.ply j.ply).tick ≤ j.target then .served else .servedLate
      let s1 := (((fresh s).setCore c { s.core c with state := 0, job := none, ended := false }).updJob j.id
        (fun x => { x with usedSpindle := cycles })).rhoNote { j with usedSpindle := cycles }
      let s2 := { s1 with stw := { s1.stw with stages := s1.stw.stages.map (fun (x : RelayStage) =>
        if x.own = j.id ∧ x.ended = 0 then { x with data := [], ended := st.code } else x) } }
      exec (.spindleTaskComplete c cycles) s = .next ((s2.writeRecord { j with usedSpindle := cycles } st 0).dropJob j.id)
      ∧ ∀ t, exec (.spindleTaskComplete c cycles) s = .next t → (t.core c).state = 0 ∧ (t.core c).job = none ∧ t.job? j.id = none)
  ∧ (∀ (j : Job) (tick time detail : Nat) (st : JobStatus) (overran : Bool),
      j.tag < 2 ^ 64 → tick < 2 ^ 64 → time < 2 ^ 64 → detail < 256 → j.hank < 2 ^ 16 → j.ply < 256 →
      let r := recordBytes j tick time st detail overran
      r.length = 64 ∧ leAt r 0 8 = j.tag ∧ leAt r 8 8 = tick ∧ leAt r 16 8 = time ∧ leAt r 24 1 = st.code ∧ leAt r 25 1 = detail
        ∧ leAt r 26 1 = (if st = .servedLate then min 255 (tick - j.target) else 0)
        ∧ leAt r 27 1 = j.cls % 4 + 4 * (j.fate % 2) + (if overran then 8 else 0) + (if j.overDeclared then 16 else 0)
        ∧ leAt r 28 2 = j.hank ∧ leAt r 30 1 = j.ply ∧ leAt r 31 1 = 0 ∧ leAt r 48 16 = 0)

/-- R91, R93, R94: a read of Skein or DRAM inside one aligned block, while its bank or interface is idle. A hank that the tags refuse gets
zeros and an access error; the granule's contents go to another, and zeros, counted, while nothing was written there, or an access error
with kind UNWRITTEN for a hank in fault mode. R91, R95: a write inside one aligned block. Served, its bytes are in memory, the rest of a
granule that was never written reads zero, every other byte is unchanged, and the granule is WRITTEN; refused, memory keeps every byte. -/
def Obligations.MemoryAccessesAreChecked : Prop :=
  (∀ (s : State) (who : Requester) (a n : Nat), Calm s → Quiet s → s.reqHank who ≠ noHank → 1 ≤ n → a % 64 + n ≤ 64 →
      (∃ b, s.target a = .skein b ∨ s.target a = .dram b) → s.inTagTable a = false →
      let h := s.reqHank who
      let answers := fun (u : State) (st : Nat) (bs : List Byte) =>
        ∃ t, exec (.memoryRequest { who := who, addr := a, len := n, data := none, ecc := 0 }) s = .next t
          ∧ t = { u with fab := t.fab, out := [.answer st bs] }
      let counted := (fresh s).setHank h { s.hank h with unwrittenReads := min ((s.hank h).unwrittenReads + 1) (2 ^ 32 - 1) }
      (∀ k, s.accessKind h a false = some k → answers ((fresh s).accessError h a k) 1 (List.replicate n 0))
      ∧ (s.accessKind h a false = none → s.isWritten a = true → answers (fresh s) 0 (s.bytesAt a n))
      ∧ (s.accessKind h a false = none → s.isWritten a = false → s.faultMode h = false →
          answers counted 0 (List.replicate n 0))
      ∧ (s.accessKind h a false = none → s.isWritten a = false → s.faultMode h = true →
          answers (counted.accessError h a 3) 1 (List.replicate n 0)))
  ∧ (∀ (s : State) (who : Requester) (a : Nat) (bs : List Byte), Calm s → Quiet s → s.reqHank who ≠ noHank → Memory.wf s.mem = true →
      1 ≤ bs.length → a % 64 + bs.length ≤ 64 → (∃ b, s.target a = .skein b ∨ s.target a = .dram b) → s.inTagTable a = false →
      let h := s.reqHank who
      let go := exec (.memoryRequest { who := who, addr := a, len := bs.length, data := some bs, ecc := 0 }) s
      (∀ k, s.accessKind h a true = some k → ∃ t, go = .next t
          ∧ t = { (fresh s).accessError h a k with fab := t.fab, out := [.answer 1 []] })
      ∧ (s.accessKind h a true = none → ∃ t, go = .next t ∧ t.out = [.answer 0 []]
          ∧ t = { s with mem := t.mem, written := t.written, fab := t.fab, out := t.out }
          ∧ (∀ i, i < bs.length → memGet t.mem (a + i) = bs.getD i 0)
          ∧ (∀ x, x < a ∨ a + bs.length ≤ x →
              memGet t.mem x = if s.isWritten a = false ∧ granule a ≤ x ∧ x < granule a + granuleSize a then 0 else memGet s.mem x)
          ∧ t.isWritten a = true))

/-- R90, R91, R103: whom the tags let in. The owner of a granule reads and writes it, a grantee reads it, and hank 0 has no more rights
than its own granules give; a range being scrubbed admits nobody, and a granule whose tag was lost no grantee (R140). R18, R19: an access
that no range decodes is a decode error: a read gives zeros and a write is discarded; it is counted, and memory keeps every byte. The
model's choice (log 183): a request of a port that carries no hank is turned away. -/
def Obligations.TagsAndDecodeAdmitAccesses : Prop :=
  (∀ (s : State) (h a : Nat),
      (s.accessKind h a true = none ↔ s.destroyed a = false ∧ s.owner a = h)
      ∧ (s.accessKind h a false = none ↔
          s.destroyed a = false ∧ (s.owner a = h ∨ (s.granted h a = true ∧ khas s.lostOwner (granule a) = false)))
      ∧ (s.destroyed a = true → s.accessKind h a false = some 4 ∧ s.accessKind h a true = some 4))
  ∧ (∀ (s : State) (who : Requester) (a n : Nat) (bs : List Byte), Calm s → s.reqHank who ≠ noHank →
      s.target a = .none → 1 ≤ n → a % 64 + n ≤ 64 → bs.length = n →
      ∃ t : State, t.fab.decodeErrors = min (s.fab.decodeErrors + 1) (2 ^ 32 - 1) ∧ t = { fresh s with fab := t.fab }
        ∧ exec (.memoryRequest { who := who, addr := a, len := n, data := none, ecc := 0 }) s =
            .next { t with out := [.answer 2 (List.replicate n 0)] }
        ∧ exec (.memoryRequest { who := who, addr := a, len := n, data := some bs, ecc := 0 }) s = .next { t with out := [.answer 2 []] })
  ∧ (∀ (s : State) (r : MemReq) (a n : Nat) (v : Word), Calm s → memReqOk r = true → s.reqHank r.who = noHank →
      ∀ cmd ∈ [Instr.memoryRequest r, .registerWrite r.who a n v, .submitDoorbell r.who n, .regionCreate r.who n, .regionDestroy r.who n
              , .grant r.who n, .revoke r.who n, .poolFree r.who a n n, .cvtGo r.who n, .augDoorbell r.who n, .bqCfgWrite r.who n v
              , .start r.who n, .abort r.who n, .resume r.who n, .evtPulse r.who v, .phaseAdjWrite r.who v, .voiceQueue r.who n v
              , .voiceStop r.who n v],
        exec cmd s = .next ((fresh s).turnAway r.who))

/-- R302, R303: an access through BAR0 or BAR2 of an unbound virtual function is answered Unsupported Request and counted. Through another
BAR0 or BAR2 it is made by its function, the PF with hank 0, at the address it names, and completes with the bytes read, as many as asked
for; in Hold a read completes with zeros and a write is discarded (14 R338). BAR4 reads the function's own page. -/
def Obligations.BarAccessCompletes : Prop :=
  ∀ (s : State) (fn bar off n : Nat), s.pci.up = true → s.fnUp fn = true → 1 ≤ n → off + n ≤ barSize fn bar → Calm s →
    (bar ≠ 4 → s.fnBound fn = false → exec (.barAccess fn bar off n none) s = .next
      { s with pci := { s.pci with unbound := min (s.pci.unbound + 1) (2 ^ 32 - 1) }, out := [.unsupported] })
    ∧ (bar ≠ 4 → s.fnBound fn = true → s.memAsleep = false →
        let a := if fn = 0 then off else if bar = 0 then ucbBase + off else (s.fnPage fn).aperture * 2 ^ 30 + off
        let r := (fresh s).barRead fn a n
        s.reqHank (fnReq 0) = 0 ∧ r.1.length = n
        ∧ exec (.barAccess fn bar off n none) s = .next (r.2.emit (.answer 0 r.1)).settle
        ∧ ∀ bs, bs.length = n → exec (.barAccess fn bar off n (some bs)) s = .next (((fresh s).barWrite fn a bs).emit (.answer 0 [])).settle)
    ∧ (bar ≠ 4 → s.fnBound fn = true → s.memAsleep = true →
        exec (.barAccess fn bar off n none) s = .next { s with out := [.answer 0 (List.replicate n 0)] }
        ∧ ∀ bs, bs.length = n → exec (.barAccess fn bar off n (some bs)) s = .next { s with out := [.answer 0 []] })
    ∧ (bar = 4 → exec (.barAccess fn bar off n none) s = .next
        { s with out := [.answer 0 ((List.range n).map (fun k => (s.fnPage fn).byte fn (off + k)))] })

/-- R133, R134, R144: the stream fabric. A flit that a credit covers, on a woven and formed route, is buffered while its port runs no job and
delivered to a job of its hank otherwise, one credit less; one of another hank is discarded as an access error of the hank that sent it. A
flit that this block sent arrives in the order sent, and its credit was spent then. Returned credits are added up to 32; more than 32, or a
flit without a credit or a slot, is a credit fault: the route starts again with 32 credits and nothing under way, counted in LINK_FAULTS.
R138, R139, R146: a patrol read of a written Skein granule corrects what it finds and counts it, and logs what it cannot correct; the last
read of a pass counts the pass. Without an error nothing else changes. -/
def Obligations.FabricCreditsAndPatrol : Prop :=
  (∀ (s : State) (f : Flit) (count : Nat), (s.route f.route).woven = true → (s.route f.route).formed = true → s.stw.reports = [] →
      let r := s.route f.route
      let faulted := fun (o : Host.Outcome State Fault Refusal) => ∃ u : State, o = .next u.takeReports
        ∧ u.route f.route = { r with credits := 32, buf := [], wire := [], open_ := false, resync := true }
        ∧ u.fab.linkFaults = min (s.fab.linkFaults + 1) (2 ^ 32 - 1)
        ∧ u.stw.reports = (endpointUnits s.img r.src ++ endpointUnits s.img r.dst).map (fun e => (e, 3))
      (r.wire = [] → 0 < r.credits → r.buf.length < 32 → r.resync = false → s.portHanks r.dst = none →
        exec (.flitArrival f) s = .next ((fresh s).setRoute f.route { r with credits := r.credits - 1, buf := r.buf ++ [f] }))
      ∧ (∀ g rest, r.wire = g :: rest → r.buf.length < 32 → r.resync = false → s.portHanks r.dst = none →
        ∃ t, exec (.flitArrival f) s = .next t ∧ t = { fresh s with routes := t.routes }
          ∧ t.route f.route = { r with wire := rest, buf := r.buf ++ [g] })
      ∧ (∀ hs, r.wire = [] → 0 < r.credits → r.buf = [] → r.resync = false → s.portHanks r.dst = some hs →
        ∃ t, exec (.flitArrival f) s = .next t ∧ (t.route f.route).credits = r.credits - 1 ∧ (t.route f.route).buf = []
          ∧ (hs.contains f.hank = true → mget t.streams r.dst [] = mget s.streams r.dst [] ++ [f]
              ∧ (t.route f.route).flits = (r.flits + 1) % 2 ^ 32)
          ∧ (hs.contains f.hank = false → t.streams = s.streams
              ∧ (t.hank f.hank).accessErrors = min ((s.hank f.hank).accessErrors + 1) (2 ^ 32 - 1)))
      ∧ (r.credits + count ≤ 32 → (∀ x ∈ s.routes, x.2.ready = []) → r.ready = [] →
        exec (.creditReturn f.route count) s = .next ((fresh s).setRoute f.route { r with credits := r.credits + count }))
      ∧ (32 < r.credits + count → faulted (exec (.creditReturn f.route count) s))
      ∧ (r.wire = [] → r.credits = 0 ∨ 32 ≤ r.buf.length → faulted (exec (.flitArrival f) s)))
  ∧ (∀ (s : State) (a b ecc : Nat) (passDone held : Bool), s.target a = .skein b → s.stw.reports = [] →
      let passes := if passDone then (s.fab.sknPasses + 1) % 2 ^ 20 else s.fab.sknPasses
      (s.isWritten a = false → exec (.patrolScrub a ecc ⟨passDone, held⟩) s = .next { fresh s with fab := { s.fab with sknPasses := passes } })
      ∧ (s.isWritten a = true → Quiet s → mget s.fab.ceTimes (s.memUnit a) [] = [] → 0 < s.fab.ceLimit →
        ∃ t, exec (.patrolScrub a ecc ⟨passDone, false⟩) s = .next t ∧ t.mem = s.mem ∧ t.written = s.written ∧ t.fab.sknPasses = passes
          ∧ (ecc = 0 → t = { fresh s with fab := t.fab } ∧ t.fab.sknCe = s.fab.sknCe ∧ t.fab.sknUe = s.fab.sknUe)
          ∧ (ecc = 1 → t.fab.sknCe = min (s.fab.sknCe + 1) (2 ^ 32 - 1) ∧ t.fab.flaws = [])
          ∧ (ecc = 2 → t.fab.sknUe = min (s.fab.sknUe + 1) (2 ^ 32 - 1) ∧ t.fab.ueLog = [{ base := a - a % 64 }])))

/-- R130: what a Skein bank or a DRAM interface serves next. A patrol scrub that has waited through 64 accesses comes first; else what it
serves has the best rank of what it may serve, and within the rank it is a DRAM request that 64 younger ones have passed, or the first in
round robin after the requester served last in that rank, tag-table traffic set aside where its share is used up. R130, the model's choice
(log 189): a request that finds its target taken, or others waiting there, waits behind them and is not answered yet. R135: the route granted
next is ready; it has been passed over for 64 grants and no forced grant was among the last three, or none is due and no ready route
has a higher PRIORITY. -/
def Obligations.WaitingRequestsAreServedByRank : Prop :=
  (∀ (s : State) (u : Nat) (e : Nat × MemWait), s.pick u = some e →
      let due := fun (x : Nat × MemWait) => x.2.work.isScrub = true ∧ 64 ≤ x.2.waited
      let spent := (mget s.fab.arbs u {}).sinceTag < 3 ∧ ∃ x ∈ s.ready u, x.2.work.isRequest = true ∧ x.2.work.rank = 1
      let last := mget (mget s.fab.arbs u {}).last e.2.work.rank 159
      e ∈ s.ready u
      ∧ (due e ∨ ((∀ x ∈ s.ready u, ¬due x)
          ∧ (∀ x ∈ s.ready u, e.2.work.rank ≤ x.2.work.rank)
          ∧ ((u < 64 ∧ 64 ≤ e.2.passed) ∨ ∀ x ∈ s.ready u, x.2.work.rank = e.2.work.rank → (x.2.work.isTag = true → ¬spent) →
              rrKey last e.2.work.req ≤ rrKey last x.2.work.req)
          ∧ (e.2.work.isTag = true → ¬spent))))
  ∧ (∀ (s : State) (r : MemReq), Calm s → memReqOk r = true → s.reqHank r.who ≠ noHank → r.ecc = 0 → r.flips = [] →
      (∃ b, s.target r.addr = .skein b ∨ s.target r.addr = .dram b) → r.held = true ∨ s.waitsAt (s.memUnit r.addr) ≠ [] →
      ∃ t, exec (.memoryRequest r) s = .next t ∧ t = { fresh s with fab := t.fab }
        ∧ t.fab = { s.fab with waits := t.fab.waits }
        ∧ t.fab.waits.map (·.work) = s.fab.waits.map (·.work) ++ [.request r (s.reqHank r.who) (s.reqClass r.who)])
  ∧ (∀ (s : State) (n : Nat) (r : Route) (forced : Bool), s.pickRoute = some (n, r, forced) →
      (n, r) ∈ s.readyRoutes ∧ r.formed = true ∧ r.ready ≠ [] ∧ 0 < r.credits
      ∧ (forced = true → 64 ≤ r.passed ∧ 3 ≤ s.fab.sinceForced)
      ∧ (forced = false → (s.fab.sinceForced < 3 ∨ ∀ y ∈ s.readyRoutes, y.2.passed < 64)
          ∧ ∀ y ∈ s.readyRoutes, y.2.priority ≤ 3 → y.2.priority ≤ r.priority))

/-- R45: LOAD on an unwoven device with an image that passes every check and an entry the journal takes: the device is WEAVING that image,
BUSY, and the units the image quarantines leave service. R45 t4, R41: when weaving completes the image is the woven one, its serial and
digest are shown, the command is answered OK and is no longer BUSY, and the anti-rollback counter of Warp images is at least the image's
index. -/
def Obligations.LoadWeavesTheImage : Prop :=
  (∀ (s : State) (from_ : Authority) (b : List Byte) (s1 s2 : State), s.noSession from_ = false → s.wrpBusy = false →
      s.wrp.pending = none → s.wrp.device = 0 → (fresh s).wrpSeq.imageSource = (some b, s1) → s1.imageCode b s1.wrp.imgLen none = 0 →
        s1.lockedOut from_ = none →
      s1.change [{ origin := authOrigin from_, kind := 1, object := jObj 2 0xFF, new := (parseImage b).serial
                   data := digestData (parseImage b).digest }] = (true, s2) →
      exec (.load from_) s = .next (({ s2 with wrp := { s2.wrp with
        device := 1, weaving := some (parseImage b, authOrigin from_), result := { s2.wrp.result with busy := true } } } :
          State).quarantineNamed (parseImage b)))
  ∧ (∀ (s : State) (places : List Placement) (m : Image) (o : Nat), s.wrp.weaving = some (m, o) → 5 < s.nv.otp.arb.length →
      ∃ t, exec (.weaveComplete places) s = .next t ∧ t.wrp.image = some m ∧ t.wrp.device = 2 ∧ t.wrp.weaving = none
        ∧ t.wrp.serial = m.serial ∧ t.wrp.digest = m.digest ∧ t.wrp.result.busy = false ∧ t.wrp.result.done = true
        ∧ t.wrp.result.code = 0 ∧ m.rollback ≤ t.nv.otp.arb.getD 5 0 ∧ s.nv.otp.arb.getD 5 0 ≤ t.nv.otp.arb.getD 5 0)

/-- R46, R47, R52: REWEAVE of a woven device with an image that passes every check makes it pending for its ply; CANCEL of a pending one
takes it back and answers 0x42; at a granule boundary the step of an EMPTY ply, or of a HELD one without a job in flight, runs, when its new
records can weave. R40, R44, R46, R52: a Warp command in the wrong state
is answered with its code and changes nothing but WRP_RESULT and the pulse that says so: 0x01 while another one runs, 0x02 LOAD while
woven, 0x03 REWEAVE or CANCEL while not woven, 0x05 CANCEL with nothing pending for the ply. 15 R369: the console's need a session. -/
def Obligations.WarpChangesArePendingOrRefused : Prop :=
  (∀ (s : State) (from_ : Authority) (p : Nat), s.noSession from_ = false → s.wrpBusy = false → s.wrp.device = 2 →
      (∀ b s1 s2, s.wrp.pending = none → (fresh s).wrpSeq.imageSource = (some b, s1) → s1.imageCode b s1.wrp.imgLen (some p) = 0 →
        s1.lockedOut from_ = none →
        s1.change [{ origin := authOrigin from_, kind := 1, aux := p, object := jObj 2 p, old := s1.wrp.serial
                     new := (parseImage b).serial, data := digestData (parseImage b).digest }] = (true, s2) →
        exec (.reweave from_ p) s = .next (({ s2 with wrp := { s2.wrp with
          pending := some { ply := p, image := parseImage b, origin := authOrigin from_ } } } : State).wrpEnd 0 0))
      ∧ (∀ d s2, s.wrp.pending = some d → d.ply = p → (fresh s).wrpSeq.lockedOut from_ = none →
        (fresh s).wrpSeq.change [{ origin := authOrigin from_, kind := 1, code := 0x42, aux := p, object := jObj 2 p
                                   old := d.image.serial, new := s.wrp.serial }] = (true, s2) →
        ∃ t, exec (.cancel from_ p) s = .next t ∧ t.wrp.pending = none ∧ t.wrp.image = s.wrp.image
          ∧ t.wrp.result.code = 0x42 ∧ t.wrp.result.done = true)
      ∧ (∀ d places, s.wrp.pending = some d →
        (s.ply d.ply).state = 0 ∨ ((s.ply d.ply).state = 3 ∧ ∀ j ∈ s.jobs, j.ply = d.ply → j.holds = false) →
        (∀ r, plyRec? d.image d.ply = some r → s.plyEval d.image r ≠ 3) →
        exec (.granuleBoundary places) s = .next ((fresh s).applyReweave d places (s.ply d.ply).tick)))
  ∧ (∀ (s : State) (from_ : Authority) (p : Nat),
      let ends := fun (code : Nat) => Host.Outcome.next (φ := Fault) (ρ := Refusal)
        (({ fresh s with wrp := { s.wrp with result := { s.wrp.result with
            seq := (s.wrp.result.seq + 1) % 256, done := true, authority := 0, code := code } } } : State).pulse 0x004)
      (s.noSession from_ = true → ∀ cmd ∈ [Instr.load from_, .reweave from_ p, .cancel from_ p],
          exec cmd s = .next ((fresh s).answer from_ 0x03 0 []))
      ∧ (s.noSession from_ = false → s.wrpBusy = true →
          exec (.load from_) s = ends 1 ∧ exec (.reweave from_ p) s = ends 1 ∧ exec (.cancel from_ p) s = ends 1)
      ∧ (s.noSession from_ = false → s.wrpBusy = false → s.wrp.pending = none →
          (s.wrp.device ≠ 0 → exec (.load from_) s = ends 2)
          ∧ (s.wrp.device ≠ 2 → exec (.reweave from_ p) s = ends 3 ∧ exec (.cancel from_ p) s = ends 3)
          ∧ (s.wrp.device = 2 → exec (.cancel from_ p) s = ends 5)))

/-- R197: a formed array with a place free in staging takes the waiting job of the highest class, of the earliest slot among those. R198:
a free array starts its first staged job when its tiles count. The descriptor is read under the job's hank; a read that fails ends the
job with the failure's cause, and a descriptor that fails a check with the cause of the first it fails, either with no cycle metered. A job
that passes runs on the tiles its hank finds, with the scale source of the context it names, which it claims, or without one; a streamed one
takes the rows that wait at its port. A streamed job that lacks rows goes on, unless those at hand stop it; another does its work and ends.
R200, R201, R203, R211: the end of a job. It writes its report; stopped, the array is free without resident weights, and the job waits for its
boundary, excused; served, and its report written, the array keeps the weights it names and the job is completed. -/
def Obligations.WhorlJobsRun : Prop :=
  (∀ (s : State) (a : Nat) (j : Job),
      let x := s.arr a
      let waits := fun (k : Job) => k ∈ s.jobs ∧ k.kind = 1 ∧ k.phase = .admitted ∧ k.unit = a
      x.formed = true → x.staged.length < x.depth → waits j →
      (∀ k, waits k → k ≠ j → j.cls < k.cls ∨ (j.cls = k.cls ∧ j.slotSeq < k.slotSeq)) →
      exec (.whorlJobStage a) s = .next (((fresh s).setArr a { x with staged := x.staged ++ [j.id] }).updJob j.id
        (fun j => { j with phase := .staged })))
  ∧ (∀ (s : State) (a id : Nat) (ce : List (Nat × Nat)) (ue : List Nat) (rest : List Nat) (j : Job),
      let x := s.arr a
      let tiles := arrayTiles x.shape x.first
      x.run = none → x.staged = id :: rest → s.job? id = some j →
      (∀ t ∈ tiles, s.counts (14 + t) = true ∧ (s.unitSt (14 + t)).latch = false) →
      let s1 := ((fresh s).setArr a { x with staged := rest }).updJob id (fun j => { j with phase := .running })
      let r0 : WhlRun := { job := id, hank := j.hank }
      let go := exec (.whorlJobStart a ce ue) s
      (∀ e s2, s1.whlRead (84 + x.first) { run := r0 } j.desc 128 = (.error e, s2) →
          go = .next ((s2.whlFinish a 0 (r0.stop e)).takeReports))
      ∧ (∀ b w s2, s1.whlRead (84 + x.first) { run := r0 } j.desc 128 = (.ok (b, w), s2) →
          let r := { w.run with desc := b, ue := ue.any tiles.contains }
          let d := parseWhl b
          let cause := s2.whlCheck a j.ply j.desc j.hank d
          let s3 := (s2.whlZero a j.hank).sramErrors tiles ce ue
          let runs := fun (u : State) (r : WhlRun) => Host.Outcome.next (φ := Fault) (ρ := Refusal)
            (if d.aStream then (u.putRun a { r with streaming := true }).drainPort (0x3000 + 16 * x.first) else u.putRun a r).takeReports
          (cause ≠ 0 → go = .next ((s2.whlFinish a 0 ({ w.run with desc := b }.stop { cause := cause })).takeReports))
          ∧ (cause = 0 → d.fo ≤ 6 → d.ctx ≠ 0xFFFF → go = runs (s3.claimCtx j.ply d.ctx j.hank) { r with
              ctx := some (256 * j.ply + d.ctx), src := ((s3.claimCtx j.ply d.ctx j.hank).ctx j.ply d.ctx).source })
          ∧ (cause = 0 → 6 < d.fo ∨ d.ctx = 0xFFFF → go = runs s3 { r with ctx := none, src := .const 0 })))
  ∧ (∀ (s : State) (a cycles : Nat) (r : WhlRun), (s.arr a).run = some r →
      let p := (fresh s).whlPackets a r
      let q := p.2.whlRun a r p.1 false
      let lacks := r.streaming = true ∧ p.1.length < (parseWhl r.desc).aRows * (parseWhl r.desc).heads ∧ q.1.cause = 0
      let go := exec (.whorlJobEnd a cycles) s
      (r.cause ≠ 0 → go = .next ((fresh s).whlFinish a 0 r).takeReports)
      ∧ (r.cause = 0 → lacks → go = .next (fresh s).takeReports)
      ∧ (r.cause = 0 → ¬lacks → go = .next (q.2.whlFinish a cycles q.1).takeReports))
  ∧ (∀ (s : State) (a cycles : Nat) (r : WhlRun),
      let w := s.whlReported a cycles r
      let s1 := w.2.whlRelease a cycles w.1
      let t := s.whlFinish a cycles r
      (r.cause ≠ 0 → w.1 = r ∧ t = s1.updJob r.job (fun j => { j with phase := .halted, excused := true })
        ∧ (t.arr a).run = none ∧ (t.arr a).resident = none)
      ∧ (r.cause = 0 → w.1 = r → t = (match r.keep with
          | some k => s1.setArr a { s1.arr a with resident := some k }
          | none => s1).serve r.job)
      ∧ (r.cause = 0 → w.1 ≠ r → w.1.cause ≠ 0 ∧ t = s1.updJob r.job (fun j => { j with phase := .halted, excused := true })))

/-- 17 R398: at a swap that a boundary has armed, an array on which no job runs takes the version of the active slot's tables, and its
resident weights are invalid. R232: the headroom loop at the end of a window. With fewer than 4,096 narrowed values it waits; when the
clipped share is over the target H rises by one, up to H_MAX; when it is at most a quarter of it the streak counts, and at four windows H
falls by one, down to H_MIN. A change is journalled. R238, R240: the context and conversion registers. A write of QNT_CTX_CFG by hank 0
that the journal takes stores the mode, H clamped to its range, and the scale, and pins H; GO claims the context it names and starts the
conversion, or is answered with its code; the end of a conversion shows its counts and pulses its event. -/
def Obligations.ScalesFollowTheirLoopsAndCommands : Prop :=
  (∀ (s : State) (a : Nat), (s.arr a).swapArmed = true → (s.arr a).run = none →
      ∃ t, exec (.outputTableSwap a) s = .next t ∧ (t.arr a).tables = some (imgVersion (s.activeImage 5))
        ∧ (t.arr a).resident = none ∧ (t.arr a).swapArmed = false ∧ ∀ b, b ≠ a → t.arr b = s.arr b)
  ∧ (∀ (s : State) (p c : Nat), (mget? s.plies p).isSome = true → c < 256 →
      let x := s.ctx p c
      let l := s.qloop p
      let t := (s.ply p).tick
      let judged := fun (y : Ctx) => Host.Outcome.next (φ := Fault) (ρ := Refusal)
        ((fresh s).setCtx p c { y with judged := some t, winNarrowed := 0, winClipped := 0 })
      let go := exec (.headroomLoop p c) s
      x.judged ≠ some t → x.loop = true → t % l.window = 0 →
      (x.winNarrowed < 4096 → go = judged x)
      ∧ (4096 ≤ x.winNarrowed → x.target * x.winNarrowed < x.winClipped * 1000000 → x.h = l.hmax → go = judged { x with streak := 0 })
      ∧ (4096 ≤ x.winNarrowed → x.target * x.winNarrowed < x.winClipped * 1000000 → x.h ≠ l.hmax → HasRoom s →
          ∃ t', go = .next t' ∧ (t'.ctx p c).h = x.h + 1 ∧ t'.lea.head = s.lea.head + 1)
      ∧ (4096 ≤ x.winNarrowed → x.winClipped * 4000000 ≤ x.target * x.winNarrowed → x.streak < 3 →
          go = judged { x with streak := x.streak + 1 })
      ∧ (4096 ≤ x.winNarrowed → x.winClipped * 4000000 ≤ x.target * x.winNarrowed → x.streak = 3 → x.h ≠ l.hmin →
          HasRoom s → ∃ t', go = .next t' ∧ (t'.ctx p c).h = x.h - 1 ∧ t'.lea.head = s.lea.head + 1))
  ∧ (∀ (s : State) (who : Requester) (p c : Nat),
      let h := s.qntBank who
      let v := (s.hank h).cvt
      (∀ (value : Word), p < 16 → c < 256 → s.reqHank who = 0 → HasRoom s → (s.qloop p).hmin ≤ (s.qloop p).hmax →
        ∃ t, exec (.ctxHWrite who p c value) s = .next t
          ∧ (t.ctx p c).mode = min 2 (bits value.toNat 17 16)
          ∧ (t.ctx p c).h = max (s.qloop p).hmin (min (s.qloop p).hmax (sx 4 (bits value.toNat 15 12)))
          ∧ (t.ctx p c).fixedT = (if bits value.toNat 7 0 = 0 ∨ bits value.toNat 7 0 = 0xFF then 0x7F else bits value.toNat 7 0)
          ∧ ((t.ctx p c).h ≠ (s.ctx p c).h → (t.ctx p c).loop = false))
      ∧ (v.run.isSome = true → s.reqHank who ≠ noHank → exec (.cvtGo who p) s = .next (((fresh s).cvtRefuse h 1).served))
      ∧ (v.run = none → s.reqHank who ≠ noHank → v.src % 64 = 0 → v.dst % 64 = 0 → bits v.cfg 26 24 ≤ 2 → 1 ≤ bits v.cfg 23 20 →
          bits v.cfg 23 20 ≤ 6 →
          bits v.cfg 19 18 ≠ 3 → (v.rowsM1 + 1) * (v.lenM1 + 1) * srcBytes (bits v.cfg 26 24) ≤ 4 * mib →
          let k := bits v.cfg 15 8
          let may := (hankRec? s.img h p).isSome = true ∧ (s.ctx p k).usable h = true
          let starts := fun (u : State) (src : ScaleSrc) (ctx : Option Nat) => ∀ code a s1,
            u.cvtRows h v src v.cfg (v.rowsM1 + 1) 0 {} = (code, a, s1) → exec (.cvtGo who p) s = .next ((s1.setCvt h { (s1.hank h).cvt with
              run := some { code := code, clips := a.clips, invalid := a.invalid, jobMax := a.big, narrowed := a.narrowed, ctx := ctx } }).served)
          (bit v.cfg 16 = false → starts (fresh s) (.const ((bits v.cfg 7 0 : Int) - 127)) none)
          ∧ (bit v.cfg 16 = true → ¬may → exec (.cvtGo who p) s = .next (((fresh s).cvtRefuse h 3).served))
          ∧ (bit v.cfg 16 = true → may →
              starts ((fresh s).claimCtx p k h) (((fresh s).claimCtx p k h).ctx p k).source (some (256 * p + k))))
      ∧ (∀ r, v.run = some r →
          let u := ((fresh s).setCvt h { v with run := none, done := true, code := r.code, clips := r.clips, invalid := r.invalid }).quantCounts
            r.clips r.invalid
          exec (.conversionDone h) s = .next ((match r.ctx with
            | some k => u.endCtx (k / 256) (k % 256) r.jobMax r.narrowed r.clips false
            | none => u).hankPulse h v.event)))

/-- R244: when the wait for a gap is over, the flow goes on after the gap with the packets it holds; a flow that holds none has no gap.
R246 to R248, R250: the access unit at the head of a flow. One of skipped NAL units alone leaves. While an overload discards, one that is
no random-access point is counted under 0x09. One over the registry's size is rejected under 0x04 and its parameter set is remembered; an
unsupported one under 0x05, and a reference lost that way releases the flow's references; one that is no random-access point in a flow
that waits for one under 0x08; another is admitted with what its header says, and a random-access point opens the flow. -/
def Obligations.AccessUnitsAreAdmittedOrRejected : Prop :=
  (∀ (s : State) (flow : Nat) (r : CamRec), s.cam? flow = some r →
      (((s.flow flow).held = [] → exec (.gapWaitExpiry flow) s = .next (fresh s))
      ∧ (∀ e d, (s.flow flow).held ≠ [] → (s.flow flow).next = some e → (s.flow flow).nearest e = some d → d ≠ 0 →
          exec (.gapWaitExpiry flow) s = .next ((((fresh s).setFlow flow
            { (s.flow flow).lose with next := some ((e + d) % 65536) }).releaseRun flow ((s.ply r.ply).state == 3) 65).gapStart flow))))
  ∧ (∀ (s : State) (flow : Nat) (info : AuInfo) (r : CamRec) (au : AccessUnit) (rest : List AccessUnit),
      let f := s.flow r.cam
      let keep := au.frags.filter (fun p => !nalSkipped r.codec p)
      let u := (fresh s).popAu r.cam
      s.cam? flow = some r → f.queue = au :: rest → au.info = none →
      (keep = [] → au.frags ≠ [] → au.gap = false → exec (.auAdmit flow info) s = .next u)
      ∧ (f.discard = true → (keep ≠ [] ∨ au.frags = [] ∨ au.gap = true) → r.rap info = false →
          exec (.auAdmit flow info) s = .next (u.reason r.cam 0x09))
      ∧ ((f.discard = false ∨ r.rap info = true) → (keep ≠ [] ∨ au.frags = [] ∨ au.gap = true) → (ceil16 r.maxW < info.width
          ∨ ceil16 r.maxH < info.height ∨ info.paramSet ∈ f.badParams) →
          exec (.auAdmit flow info) s = .next ((u.setFlow r.cam { u.flow r.cam with
            badParams := kins f.badParams info.paramSet, discard := false }).reject r au info 0x04))
      ∧ ((f.discard = false ∨ r.rap info = true) → (keep ≠ [] ∨ au.frags = [] ∨ au.gap = true) → info.width ≤ ceil16 r.maxW →
          info.height ≤ ceil16 r.maxH → info.paramSet ∉ f.badParams →
          (auSupported r.codec info au = false →
              let v := (u.setFlow r.cam { u.flow r.cam with discard := false }).reject r au info 0x05
              exec (.auAdmit flow info) s = .next (if info.isRef && r.codec != 3 then v.corruptRef r else v))
          ∧ (auSupported r.codec info au = true → f.st = 1 → r.rap info = false →
              exec (.auAdmit flow info) s = .next (u.reject r au info 0x08))
          ∧ (auSupported r.codec info au = true → (f.st ≠ 1 ∨ r.rap info = true) → exec (.auAdmit flow info) s = .next ((fresh s).setFlow r.cam
            { f with queue := { au with info := some info, frags := keep } :: rest, discard := false
                     st := if r.rap info then 2 else f.st }))))

/-- R251: decode starts in order: among the flows an engine may start, those whose hank's quota covers them go first, by arrival. The one
that starts takes a frame buffer, its macroblocks are charged to its hank, and the engine is one busier. R249, R251: the end of a decode
frees the engine's context and counts the picture's macroblocks and its frame. R249, R250: the subscribers are offered a picture with a
syntax error as corrupt, under 0x06, and a reference lost that way releases the flow's references; they are offered a whole picture with
what it shows, which the flow keeps, flagged concealed where it refers to one that is. -/
def Obligations.PicturesAreDecodedInOrder : Prop :=
  (∀ (s : State) (e : Nat) (x : CamRec × AccessUnit × Nat × Bool),
      let g := mget s.crd.engines e {}
      e < nDecode s.variant → s.counts (24 + e) = true → s.counts 23 = true → g.swap ≠ 2 → g.busy < nDecCtx s.variant / nDecode s.variant →
      x ∈ s.startable e → x.2.2.2 = true →
      (∀ y ∈ s.startable e, y ≠ x → y.2.2.2 = true →
        x.2.1.arrival * 2 ^ 64 + x.2.1.order < y.2.1.arrival * 2 ^ 64 + y.2.1.order) →
      x.2.1.arrival * 2 ^ 64 + x.2.1.order < 2 ^ 160 →
      ∃ t b, exec (.decodeStart e) s = .next t
        ∧ (t.flow x.1.cam).queue = (s.flow x.1.cam).queue.drop 1 ∧ (t.flow x.1.cam).bufs = (s.flow x.1.cam).bufs ++ [b]
        ∧ (t.flow x.1.cam).dec = (s.flow x.1.cam).dec ++ [{ au := x.2.1, engine := e, buf := b }]
        ∧ (mget t.crd.engines e {}).busy = g.busy + 1
        ∧ mget t.crd.charged (4096 * x.1.ply + x.1.owner) 0 = mget s.crd.charged (4096 * x.1.ply + x.1.owner) 0 + x.2.2.1)
  ∧ (∀ (s : State) (flow : Nat) (d : Decoded) (r : CamRec) (x : Decoding) (rest : List Decoding) (info : AuInfo),
      s.cam? flow = some r → (s.flow r.cam).dec = x :: rest → x.au.info = some info → d.busReason = 0 →
      let c := r.cam
      let f := s.flow c
      let g := mget s.crd.engines x.engine {}
      let g' := { g with busy := g.busy - 1, mb := (g.mb + macroblocks info.width info.height) % 2 ^ 64 }
      let p : Pic :=
        { w := d.width, h := d.height, luma := d.luma, cb := d.cb, cr := d.cr, c422 := d.c422, capture := x.au.capture, noSr := x.au.noSr
          concealed := !r.rap info && d.uses.any f.tainted.contains, frameNo := f.frameNo + 1, buf := x.buf }
      let decoded := fun (concealed : Nat) =>
        ({ fresh s with crd := { s.crd with engines := mset s.crd.engines x.engine g' } } : State).setFlow c
          { f with dec := rest, frameNo := f.frameNo + 1, frames := min (f.frames + 1) (2 ^ 32 - 1)
                   concealed := min (f.concealed + concealed) (2 ^ 32 - 1) }
      (d.syntaxError = true → exec (.pictureDecoded flow d) s = .next
        (let u := ((decoded 0).reason c 0x06).roiStage r p (some 0x06)
         if d.isRef && r.codec != 3 then u.corruptRef r
         else (u.setFlow c { u.flow c with refs := (u.flow c).refs.filter (fun b => !(d.unref.contains b)) }).releaseBufs r))
      ∧ (d.syntaxError = false → d.missing = [] → exec (.pictureDecoded flow d) s = .next
        (let u := (decoded (b2n p.concealed)).roiStage r p none
         (u.setFlow c { u.flow c with
            prev := some p, lastGood := if r.stale then some p else none
            refs := (u.flow c).refs.filter (fun b => !(d.unref.contains b)) ++ (if d.isRef && r.codec != 3 then [x.buf] else [])
            tainted := (if r.rap info then [] else (u.flow c).tainted)
              ++ (if d.isRef && r.codec != 3 && p.concealed then [x.buf] else []) }).releaseBufs r)))

/-- R254: the sampling-rate loop of a subscriber whose divider is not pinned. A latched table of at least HI entries makes the divider one
less, down to 1; QUIET quiet boundaries make it one more, up to its limit; a change is journalled. R259: augmentation. A doorbell of
a hank whose record allows it, in a training ply, adds its records; another is refused and flagged. A record that is due leaves the ring,
and what it names is made. R263, R264, R268: batch queues. A configuration written while the queue is disabled is stored; while it is
enabled only ENABLE takes, and clearing it closes the batch; the oldest closed batch's record goes to the ring, its head moves on and its
event is pulsed. -/
def Obligations.SamplesAreTakenAndBatched : Prop :=
  (∀ (s : State) (flow i h : Nat) (r : CamRec), s.cam? flow = some r → r.subs[i]? = some h → h ≠ 0 → s.rateOn r.ply = true → HasRoom s →
      let f := s.flow r.cam
      let d := mget f.div i 1
      mget f.pin i 0 = 0 → mget? f.judged i ≠ some (s.ply r.ply).tick →
      (policyN s.img 0x0612 r.ply 1 ≤ (f.table i).entries.length → ∃ t, exec (.samplingRateLoop flow i) s = .next t
        ∧ mget (t.flow r.cam).div i 1 = (if 1 < d then d - 1 else d) ∧ mget (t.flow r.cam).quiet i 0 = 0
        ∧ t.lea.head = s.lea.head + (if 1 < d then 1 else 0))
      ∧ ((f.table i).entries.length < policyN s.img 0x0612 r.ply 1 → mget f.quiet i 0 + 1 < policyN s.img 0x0613 r.ply 30 →
        ∃ t, exec (.samplingRateLoop flow i) s = .next t
        ∧ mget (t.flow r.cam).div i 1 = d ∧ mget (t.flow r.cam).quiet i 0 = mget f.quiet i 0 + 1)
      ∧ ((f.table i).entries.length < policyN s.img 0x0612 r.ply 1 → policyN s.img 0x0613 r.ply 30 ≤ mget f.quiet i 0 + 1 →
        ∃ t, exec (.samplingRateLoop flow i) s = .next t
        ∧ mget (t.flow r.cam).div i 1 = (if d < policyN s.img 0x0611 r.ply 4 then d + 1 else d) ∧ mget (t.flow r.cam).quiet i 0 = 0
        ∧ t.lea.head = s.lea.head + (if d < policyN s.img 0x0611 r.ply 4 then 1 else 0)))
  ∧ (∀ (s : State) (who : Requester) (count : Nat), s.reqHank who ≠ noHank →
      let h := s.crdBank who
      let k := s.hank h
      let may := (s.ply k.card.augPly).training = true ∧ ∃ r, hankRec? s.img h k.card.augPly = some r ∧ bit r.flags 1 = true
      (may → exec (.augDoorbell who count) s = .next (((fresh s).setHank h { k with card := { k.card with
          augPending := k.card.augPending + count % 2 ^ 13 } }).served))
      ∧ (¬may → exec (.augDoorbell who count) s = .next
          (((fresh s).setHank h { k with card := { k.card with augRefused := true } }).served))
      ∧ (may → 0 < k.card.augPending → ringSize k.card.augLog2 ≠ 0 → s.counts 26 = true → ∀ a b s1,
          ((fresh s).setHank h { k with card := { k.card with
            augPending := k.card.augPending - 1, augTaken := (k.card.augTaken + 1) % 65536 } }).engRead h cardReq
              (k.card.augBase + 64 * (k.card.augTaken % ringSize k.card.augLog2)) 64 = (.ok, a, b, s1) →
          exec (.augRecord h) s = .next (s1.augSampleOf h b)))
  ∧ (∀ (s : State) (who : Requester) (k : Nat) (v : Word), k < 16 → s.reqHank who ≠ noHank →
      let h := s.crdBank who
      let q := s.queue h k
      (q.enable = false → exec (.bqCfgWrite who k v) s = .next (((fresh s).setQueue h k { q with
        event := v.toNat / 2 ^ 16, size := v.toNat / 256 % 256 + 1, ply := v.toNat / 16 % 16, modeTick := v.getLsbD 1
        enable := v.getLsbD 0 }).served))
      ∧ (q.enable = true → v.getLsbD 0 = true → exec (.bqCfgWrite who k v) s = .next (fresh s).served)
      ∧ (q.enable = true → v.getLsbD 0 = false → ∃ t, exec (.bqCfgWrite who k v) s = .next t ∧ (t.queue h k).enable = false)
      ∧ (∀ b rest, q.closed = b :: rest → q.room = true → exec (.batchRecordWrite h k) s = .next
          ((((fresh s).setQueue h k { q with closed := rest, head := (q.head + 1) % 65536 }).engWrite h cardReq
            (q.ring + q.head % ringSize q.log2 * b.length) b).2.2.hankPulse h q.event)))

/-- 11 R270, R271, R274, R276: the tokenizer. A free engine takes the job of the highest class, of the earliest slot among those, when its
unit counts. A descriptor that cannot be read, or that breaks its rules, and a dictionary header that does, end the job at once with their
cause; another runs, on the strings in memory or, streamed, on those that arrive. A job's end writes its report and frees the engine: a
stopped job waits for its boundary, excused, and a served one completes; a streamed job whose strings have not all come goes on, unless
one that has come stops it. -/
def Obligations.TokenizerJobsRun : Prop :=
  ∀ (s : State) (j : Job) (r : TokRun),
    let ends := fun (u : State) (q : TokRun) =>
      let w := u.tokReported q
      let v := w.2.tokRelease w.1
      Host.Outcome.next (φ := Fault) (ρ := Refusal) (if w.1.cause = 0 then v.serve w.1.job
        else v.updJob w.1.job (fun j => { j with phase := .halted, excused := true })).takeReports
    (s.tok.run = none → s.nextTok = some j → s.counts 27 = true → (s.unitSt 27).latch = false →
      let s1 : State := { (fresh s).updJob j.id (fun j => { j with phase := .running }) with tok := { s.tok with hank := j.hank, state := 1 } }
      let r0 : TokRun := { job := j.id, hank := j.hank }
      let starts := fun (u : State) (q : TokRun) => ({ u with tok := { u.tok with run := some q } } : State)
      let go := exec .tokenizerJobStart s
      (∀ e s2, s1.tokRead j.hank j.desc 64 = (.error e, s2) → go = ends s2 (r0.stop e))
      ∧ (∀ b s2, s1.tokRead j.hank j.desc 64 = (.ok b, s2) →
          let r1 := { r0 with desc := b, usedDram := dramBytes j.desc 64 }
          (tokDescOk j.desc b = false → go = ends s2 (r1.stop { cause := 1 }))
          ∧ (tokDescOk j.desc b = true →
              (∀ e s3, s2.openDict j.hank (leAt b 8 8) (tokMode b).fold = (.error e, s3) → go = ends s3 (r1.stop e))
              ∧ (∀ d s3, s2.openDict j.hank (leAt b 8 8) (tokMode b).fold = (.ok d, s3) →
                  (bit (leAt b 2 1) 0 = false → go = .next (starts s3 { r1 with dict := d }).takeReports)
                  ∧ (bit (leAt b 2 1) 0 = true →
                      go = .next ((starts s3 { r1 with dict := d, streaming := true }).drainPort 0x6000).takeReports)))))
    ∧ (s.nextTok = some j → j ∈ s.jobs ∧ j.kind = 4 ∧ j.phase = .admitted ∧ ∀ x ∈ s.jobs, x.kind = 4 → x.phase = .admitted →
        j.cls < x.cls ∨ (j.cls = x.cls ∧ j.slotSeq ≤ x.slotSeq))
    ∧ (s.tok.run = some r →
      let packets := ((fresh s).tokPackets r).1
      let q := ((fresh s).tokPackets r).2.runTok r packets false
      let short := r.streaming = true ∧ packets.length < leAt r.desc 4 4
      let go := exec .tokenizerJobEnd s
      (r.cause ≠ 0 → go = ends (fresh s) r)
      ∧ (r.cause = 0 → short → q.1.cause = 0 → go = .next (fresh s).takeReports)
      ∧ (r.cause = 0 → (¬short ∨ q.1.cause ≠ 0) → go = ends q.2 q.1))

/-- R281 to R289: the channel instructions. The channel runs the instruction its program holds at PC: MOVE copies its blocks and moves both
cursors past them, waiting with DRAIN; LOOP counts its level down and branches with both cursors strided; WAIT and PACE wait on an event of
the hank; SIGNAL pulses one; a foreign event is an access error and halts the channel with cause 6; END ends the job or pulses DONE_EVENT. A
malformed instruction halts the channel with cause 4. -/
def Obligations.ChannelInstructionsRun : Prop :=
  ∀ (s t : State) (n : Nat) (i : BobIns), (s.chan n).ready = true → (fresh s).bobFetch n = ((some i, 0), t) →
    let c := t.chan n
    let next := fun (cmd : Instr) (u : State) => exec cmd s = .next u.settle
    (i = .bad → ∀ cmd, cmd ∈ [Instr.move n, Instr.loop n, Instr.wait n, Instr.pace n, Instr.signal n, Instr.end_ n] →
      next cmd (t.setChan n { c with cause := 4, halting := true }))
    ∧ (∀ drain sc dc len src dst, i = .move drain sc dc len src dst →
      let a := if sc then c.scur else src
      let d := if dc then c.dcur else dst
      (a % 64 ≠ 0 → next (.move n) (t.setChan n { c with cause := 1, halting := true, dir := false, haddr := a }))
      ∧ (a % 64 = 0 → d % 64 ≠ 0 → next (.move n) (t.setChan n { c with cause := 1, halting := true, dir := true, haddr := d }))
      ∧ (a % 64 = 0 → d % 64 = 0 → len % 64 = 0 → 0 < len → len ≤ 0x100000 →
        ∀ u, (t.setChan n { c with moveLen := len, moveDrain := drain }).moveBlocks n a d (len / 64) 0 = (none, u) →
        (u.chan n).state = 1 →
        next (.move n) (u.setChan n { u.chan n with
          scur := (a + len) % 2 ^ 64, dcur := (d + len) % 2 ^ 64, pc := (u.chan n).pc + 1, bad := none
          state := if drain then 4 else 1 })))
    ∧ (∀ level count target ss ds, i = .loop level count target ss ds →
      let old := if level = 0 then c.lc0 else c.lc1
      let k := (if old = 0 then count else old) - 1
      next (.loop n) (t.setChan n { c with
        lc0 := if level = 0 then k else c.lc0, lc1 := if level = 0 then c.lc1 else k
        pc := if 0 < k then target else c.pc + 1
        scur := if 0 < k then low 64 (c.scur + ss * 64) else c.scur, dcur := if 0 < k then low 64 (c.dcur + ds * 64) else c.dcur }))
    ∧ (∀ e, i = .wait e →
      (t.ownsEvent c.hank e = true → next (.wait n)
        ((t.setChan n { c with state := 2, waitEvent := e, waitHigh := 1, waitTake := 1 }).serveEvent e)))
    ∧ (∀ e, t.ownsEvent c.hank e = false →
      let u := t.accessError c.hank e 5
      let v := u.setChan n { u.chan n with cause := 6, halting := true }
      (i = .wait e → next (.wait n) v) ∧ (∀ high low take, i = .pace e high low take → next (.pace n) v)
      ∧ (i = .signal e → next (.signal n) v))
    ∧ (∀ e high low take, i = .pace e high low take → t.ownsEvent c.hank e = true →
      let u := t.serveEvent e
      let d := u.chan n
      (d.paceOn = true → d.paceIdx = some d.pc → low < u.tallyOf e → next (.pace n)
        (({ u with evt := { u.evt with tally := mset u.evt.tally e (u.tallyOf e - take), last := mset u.evt.last e n } } : State).setChan n
          { d with pc := d.pc + 1 }))
      ∧ (d.paceOn = false ∨ d.paceIdx ≠ some d.pc ∨ u.tallyOf e ≤ low → next (.pace n)
        ((u.setChan n { d with state := 3, paceOn := false, paceIdx := some d.pc, waitEvent := e, waitHigh := high, waitTake := take }
          ).serveEvent e)))
    ∧ (∀ e, i = .signal e → t.ownsEvent c.hank e = true → next (.signal n) ((t.setChan n { c with pc := c.pc + 1 }).pulse e))
    ∧ (i = .finish → ∀ id, c.job = some id → next (.end_ n)
        (((t.setChan n { c with state := 0, job := none }).updJob id (fun j => { j with usedDram := c.dramBytes })).serve id))
    ∧ (i = .finish → c.job = none → c.doneEvent ≠ 0xFFFF → t.ownsEvent c.hank c.doneEvent = true → next (.end_ n)
        ((t.setChan n { c with state := 0, job := none }).pulse c.doneEvent))

/-- R279, R280, R285, R289, R290 to R296, R298: what moves a channel beside its instructions. A free channel takes its job; pulses let the
one waiter of an event go on and take from its tally; a drained MOVE ends; an error is retried up to its limit and then halts the channel;
a halt, a stop, RESUME, ABORT and START change its state and its job. -/
def Obligations.ChannelsStartHaltAndStop : Prop :=
  ∀ (s : State) (who : Requester) (n e : Nat),
    let c := s.chan n
    let f := fresh s
    (∀ j, c.free = true → s.chanJob n = some j → s.counts (128 + n) = true → (s.unitSt (128 + n)).latch = false →
      exec (.bobbinProgramStart n) s = .next
        (((f.updJob j.id (fun j => { j with phase := .running, unit := n })).chanBegin n j.hank j.cls j.desc (some j.id)).settle))
    ∧ (∀ h cls addr job a d u,
        let c0 := { c with
          hank := h, cls := cls, job := job, own := job.isNone, state := 1, pc := 0, paceOn := false, paceIdx := none, lc0 := 0, lc1 := 0
          cause := 0, dir := false, tries := 0, dramBytes := 0, bad := none, halting := false, resumed := false
          prog := 0, progLen := 0, errMode := 0, errRetries := 0, doneEvent := 0xFFFF, haltEvent := 0xFFFF }
        (s.setChan n c0).engRead h (16 + n) addr 64 = (.ok, a, d, u) → bobDescOk addr d = true → u.chan n = c0 →
        (s.chanBegin n h cls addr job).chan n = { c0 with
          prog := leAt d 0 8, progLen := leAt d 8 4, errMode := leAt d 13 1, errRetries := leAt d 14 1, doneEvent := leAt d 16 2
          haltEvent := leAt d 18 2, scur := leAt d 24 8, dcur := leAt d 32 8, dramBytes := if dramBase ≤ addr then 64 else 0 })
    ∧ (n < 64 → c.state = 2 ∨ c.state = 3 → c.waitEvent = e → c.waitHigh ≤ s.tallyOf e →
      (∀ m, m < 64 → m ≠ n → (s.chan m).state ∈ [2, 3] → (s.chan m).waitEvent ≠ e) →
      exec (.channelWaitSatisfied e) s = .next
        (({ f with evt := { s.evt with tally := mset s.evt.tally e (s.tallyOf e - c.waitTake), last := mset s.evt.last e n } } : State).setChan
          n { c with state := 1, pc := c.pc + 1, paceOn := c.paceOn || decide (c.state = 3) }))
    ∧ (c.state = 4 → exec (.moveDrainDone n) s = .next (f.setChan n { c with state := 1 }))
    ∧ (∀ b, c.bad = some b → c.state = 1 → c.halting = false → c.retryLimit ≤ b.tries → exec (.bobbinBusError n) s = .next
        ((f.setChan n { c with tries := b.tries, cause := b.cause, halting := true, dir := b.write
                               haddr := if b.write then b.dst + b.off else b.src + b.off }).settle))
    ∧ (∀ b, c.bad = some b → c.state = 1 → c.halting = false → b.tries < c.retryLimit → exec (.bobbinBusError n) s = .next
        (((f.setChan n { c with retried := min (c.retried + 1) (2 ^ 32 - 1), tries := b.tries + 1
                                bad := some { b with tries := b.tries + 1 } }).moveRetry n { b with tries := b.tries + 1 }).settle))
    ∧ (∀ id, c.halting = true → c.job = some id → exec (.channelHalt n) s = .next
        (((f.setChan n { c with halting := false, state := 6 }).updJob id (fun j => { j with phase := .halted, excused := true })).hankPulse
          c.hank c.haltEvent))
    ∧ (∀ id, c.state = 5 → c.bad = none → c.job = some id → exec (.channelStopDone n) s = .next
        ((((f.setChan n { c with state := 0, job := none, bad := none, halting := false }).updJob id
          (fun j => { j with usedDram := c.dramBytes })).complete id .dropped 0).settle))
    ∧ (s.reqHank who ≠ 0 → s.reqHank who ≠ c.hank → s.reqHank who ≠ noHank →
        exec (.resume who n) s = .next ((f.denyReg who (28 + n / 16) (0x100 * (n % 16) + 0x14) 0).settle)
        ∧ exec (.abort who n) s = .next ((f.denyReg who (28 + n / 16) (0x100 * (n % 16) + 0x14) 0).settle))
    ∧ (s.reqHank who ≠ 0 → s.reqHank who ≠ noHank →
        exec (.start who n) s = .next ((f.denyReg who (28 + n / 16) (0x100 * (n % 16) + 0x14) 0).settle))
    ∧ (∀ id, s.reqHank who = 0 ∨ s.reqHank who = c.hank → s.reqHank who ≠ noHank → c.state = 6 → c.job = some id →
        exec (.resume who n) s = .next ((fun u : State => (u.setChan n { u.chan n with resumed := c.bad.isSome }).served.settle)
          ((f.setChan n { c with state := 1 }).updJob id (fun j => { j with phase := .running, excused := false })))
        ∧ exec (.abort who n) s = .next (((f.setChan n { c with state := 0, job := none, bad := none, resumed := false }).updJob id
            (fun j => { j with usedDram := c.dramBytes })).served.settle))
    ∧ (s.reqHank who = 0 → n < 4 → c.free = true → s.counts (128 + n) = true → (s.unitSt (128 + n)).latch = false →
        exec (.start who n) s = .next (((f.chanBegin n 0 0 c.start none).served).settle))
    ∧ (∀ value : Word, s.reqHank who ≠ noHank → let ev := bits value.toNat 9 0
        (s.ownsEvent (s.reqHank who) ev = true → exec (.evtPulse who value) s = .next ((f.pulseN ev (bits value.toNat 31 16)).served))
        ∧ (s.ownsEvent (s.reqHank who) ev = false → exec (.evtPulse who value) s = .next
            ((f.accessError (s.reqHank who) (ucbBase + 32 * mib) 5).emit (.answer 1 []))))

/-- R309 to R312: frames. A received frame with a bad FCS or under 64 bytes, over 9,216 bytes, or of a VLAN that the port does not
accept is counted and dropped. A PTP frame goes to the protocol engine with its time, and the clock hears the one of its port; a pause
frame ends in the MAC, the RTP and RTCP of a camera go to its flow, and the rest to the services, whose full queue drops it, counted; a
datagram of no camera is counted as unmatched. A frame of running services leaves the port, with its time in it in one-step mode; a
two-step PTP event message keeps its time, and the read of the stamp takes it. No frame leaves without services, and no Sync of the
clock's port while a better clock is heard. -/
def Obligations.EthernetFramesAreCountedAndDelivered : Prop :=
  ∀ (s : State) (f : EthFrame), s.ethUp f.port = true →
    let e := s.ethPort f.port
    let n := f.bytes.length + 4
    let counts := fun (x : Eth) => exec (.ethFrameReceive f) s = .next ((fresh s).setEth f.port x)
    let good := f.fcsOk = true ∧ 64 ≤ n
    let seen := (fresh s).setEth f.port { e with rxFrames := min (e.rxFrames + 1) (2 ^ 32 - 1) }
    (¬good → counts { e with fcsErrors := min (e.fcsErrors + 1) (2 ^ 32 - 1) })
    ∧ (good → 9216 < n → counts { e with oversize := min (e.oversize + 1) (2 ^ 32 - 1) })
    ∧ (good → n ≤ 9216 → (untag f.bytes = none ∨ ∃ v t p, untag f.bytes = some (v, t, p) ∧ s.acceptsVlan f.port v = false) →
        counts { e with vlanDrop := min (e.vlanDrop + 1) (2 ^ 32 - 1) })
    ∧ (∀ v t p, good → n ≤ 9216 → untag f.bytes = some (v, t, p) → s.acceptsVlan f.port v = true →
        let u := udpOf t p
        let pause := t = 0x8808 ∧ beAt p 0 2 = 1
        let ptp := t = 0x88F7 ∨ ∃ src data, u = some (src, 319, data) ∨ u = some (src, 320, data)
        let heard : State := { seen with out := [.toPtp f.port f.bytes s.tck.time] }
        let services := fun (x : State) => exec (.ethFrameReceive f) s = .next (if f.rxFull
          then x.setEth f.port { e with rxDrop := min (e.rxDrop + 1) (2 ^ 32 - 1) }
          else { x.setEth f.port { e with rxFrames := min (e.rxFrames + 1) (2 ^ 32 - 1) } with out := [.toServices f.port f.bytes s.tck.time] })
        let cam := fun (d : Nat) (src port : Nat) =>
          s.img.cams.find? (fun c => c.eth == f.port && c.vlan == v && c.srcAddr == src && c.port + d == port)
        (ptp → ∃ k, ptpStart t p = some k
          ∧ exec (.ethFrameReceive f) s = .next (if f.port = s.tck.port then heard.ptpMessage (p.drop k) else heard))
        ∧ (pause → exec (.ethFrameReceive f) s = .next seen)
        ∧ (¬ptp → ¬pause → u = none → services (fresh s))
        ∧ (∀ src port data, ¬ptp → u = some (src, port, data) →
            (f.port = 2 → services (fresh s))
            ∧ (∀ c, f.port ≠ 2 → cam 0 src port = some c → exec (.ethFrameReceive f) s = .next (seen.rtp c s.tck.time data))
            ∧ (∀ c, f.port ≠ 2 → cam 0 src port = none → cam 1 src port = some c → exec (.ethFrameReceive f) s = .next (seen.rtcp c data))
            ∧ (f.port ≠ 2 → cam 0 src port = none → cam 1 src port = none →
                services { fresh s with crd := { s.crd with unmatched := min (s.crd.unmatched + 1) (2 ^ 32 - 1) } })))
    ∧ (∀ event oneStep,
        let m := (ptpIn f.bytes).map (f.bytes.drop ·)
        let may := ∀ x, m = some x → s.maySync f.port x = true
        let sent : State := match m with | some x => (fresh s).ptpSent f.port x | none => fresh s
        (s.servicesUp = false ∨ ¬may → exec (.frameTransmit f.port f.bytes event oneStep) s = .next (fresh s))
        ∧ (s.servicesUp = true → may →
          (event = false → exec (.frameTransmit f.port f.bytes event oneStep) s = .next { sent with out := [.ethFrame f.port f.bytes none] })
          ∧ (event = true → oneStep = true → exec (.frameTransmit f.port f.bytes event oneStep) s =
              .next { sent with out := [.ethFrame f.port (stamped f.bytes s.tck.time) (some s.tck.time)] })
          ∧ (event = true → oneStep = false → exec (.frameTransmit f.port f.bytes event oneStep) s = .next { sent.setEth f.port
              (if e.txts.length < 16 then { e with txts := e.txts ++ [s.tck.time] }
               else { e with txtsLost := min (e.txtsLost + 1) (2 ^ 32 - 1) }) with out := [.ethFrame f.port f.bytes none] })))
    ∧ (∀ who t ts, e.txts = t :: ts → exec (.txtsPop who f.port) s = .next { (fresh s).setEth f.port { e with txts := ts } with
        out := [.answer 0 (leBytes 4 (2 ^ 31 + t / 2 ^ 32 % 2 ^ 31))] })
    ∧ (∀ who, e.txts = [] → ∃ t, exec (.txtsPop who f.port) s = .next t ∧ t.out = [.answer 0 (leBytes 4 0)]
        ∧ (t.ethPort f.port) = e ∧ t.tck = s.tck)
    ∧ (∀ up speed, f.port = 2 ∨ f.port < nEth10 s.variant → exec (.ethLinkChange f.port up speed) s = .next
        ((fresh s).setEth f.port { e with link := up && s.pins.refEth, speed := if f.port = 2 then speed % 8 else 0 }))

/-- R57, R58, R63, R312 to R314: time. TIME_NS runs by whole nanoseconds without corrections; a phase adjustment at or over the step limit
steps it, counted and journalled with slewing ended, and a smaller one is left to be slewed; the loss of Sync leaves LOCKED for HOLDOVER
and is journalled; an expired holdover is flagged. -/
def Obligations.TimeIsSteppedOrSlewed : Prop :=
  ∀ (s : State) (who : Requester) (v : Word),
    let d := sx 32 v.toNat
    let f := fresh s
    (s.pins.porN = true → s.pins.pwrEn = true → s.tck.freqAdj = 0 → s.tck.slew = 0 → s.tck.frac < nsUnit →
      s.pending = [] → ∃ t, step s = .next t ∧ t = { f with tck := t.tck } ∧ t.tck.time = (s.tck.time + 1) % 2 ^ 64
        ∧ t.tck.frac = s.tck.frac)
    ∧ (s.reqHank who ≠ 0 → s.reqHank who ≠ noHank → exec (.phaseAdjWrite who v) s = .next (f.denyReg who 2 0x2C 0))
    ∧ (s.reqHank who = 0 → s.tck.software = false → exec (.phaseAdjWrite who v) s = .next { s with out := [.answer 0 []] })
    ∧ (s.reqHank who = 0 → s.tck.software = true → s.woven = true → d < s.tck.stepUs * 1000 → exec (.phaseAdjWrite who v) s =
        .next { s with tck := { s.tck with slew := d * nsUnit + s.tck.slew }, out := [.answer 0 []] })
    ∧ (s.reqHank who = 0 → s.tck.software = true → s.woven = true → s.tck.stepUs * 1000 ≤ d → HasRoom s →
        ∃ t, exec (.phaseAdjWrite who v) s = .next t ∧ t.tck = { s.tck with
            time := (s.tck.time + d).toNat % 2 ^ 64, slew := 0, steps := min (s.tck.steps + 1) (2 ^ 16 - 1) }
          ∧ t.lea.head = s.lea.head + 1
          ∧ (t.lea.ring.getLast?.map (fun e => (e.object, e.old, e.new))) = some (jObj 11 0, s.tck.time, t.tck.time))
    ∧ (s.tck.sync = 1 → HasRoom s → ∃ t, exec .ptpSyncLoss s = .next t
        ∧ t.tck = { s.tck with sync := 2, goodSyncs := 0, holdoverNs := 0, ptp := { s.tck.ptp with best := none, sync := none } }
          ∧ t.lea.head = s.lea.head + 1)
    ∧ (s.tck.sync = 2 → ∃ t, exec .holdoverExpired s = .next t ∧ t = { f with tck := t.tck }
        ∧ t.tck = { s.tck with expired := true, holdoverNs := t.tck.holdoverNs })

/-- R371, R372: a change of `k` entries that the ring has room for takes all of them, with consecutive SEQ in their order; with less room
it takes none and is counted. A record of fact always takes a SEQ. R378, R379: acknowledgement and reading. An acknowledgement from a
source that counts releases every entry up to its SEQ, which never goes back; one from another source is counted and releases nothing. A
read answers the entries from a SEQ on, in ascending order. -/
def Obligations.JournalEntriesAreKeptReadAndAcknowledged : Prop :=
  (∀ (s : State) (es : List JEntry), s.lea.head / 2 ^ 32 = s.lea.epoch →
      (s.lea.ring.length + es.length ≤ 4096 → (s.change es).1 = true
        ∧ (s.change es).2.lea.head = s.lea.head + es.length
        ∧ (s.change es).2.lea.ring.length = s.lea.ring.length + es.length
        ∧ (s.change es).2.lea.ring.take s.lea.ring.length = s.lea.ring
        ∧ ((s.change es).2.lea.ring.drop s.lea.ring.length).map (·.seq) = (List.range es.length).map (s.lea.head + ·)
        ∧ ((s.change es).2.lea.ring.drop s.lea.ring.length).map (fun e => (e.kind, e.hank, e.object, e.old, e.new, e.data)) =
            es.map (fun e => (e.kind, e.hank, e.object, e.old, e.new, e.data))
        ∧ (s.change es).2.mem = s.mem)
      ∧ (4096 < s.lea.ring.length + es.length → s.change es =
          (false, { s with lea := { s.lea with refused := min (s.lea.refused + 1) (2 ^ 32 - 1) } }))
      ∧ (∀ e, s.lea.head < (s.fact e).lea.head))
  ∧ (∀ (s : State) (from_ : Authority) (seq n : Nat) (who : Requester) (v : Word),
      let f := fresh s
      let counts := fun (b : Option Nat) => ∃ k, b = some k ∧ bit s.lea.sources k = true
      let bad := { f with lea := { s.lea with badAcks := min (s.lea.badAcks + 1) (2 ^ 32 - 1) } }
      (s.stw.session = true ∨ from_ ≠ .console →
        (¬counts (authBit from_) → exec (.journalAck from_ seq) s = .next { bad with out := [.mgmt (authCode from_) 0 0 []] })
        ∧ (counts (authBit from_) → s.lea.ack ≤ seq → 0 < s.lea.head → ∃ t, exec (.journalAck from_ seq) s = .next t
          ∧ t.lea.ack = min seq (s.lea.head - 1) ∧ t.lea.head = s.lea.head
          ∧ t.lea.ring = s.lea.ring.filter (fun e => decide (t.lea.ack < e.seq))
          ∧ t.lea.reserve = s.lea.reserve.filter (fun e => decide (t.lea.ack < e.2.seq)) ∧ t = { f with lea := t.lea, out := t.out })
        ∧ (counts (authBit from_) → seq < s.lea.ack → exec (.journalAck from_ seq) s = .next { f with out := [.mgmt (authCode from_) 0 0 []] })
        ∧ (from_ = .console → ∃ l, exec (.journalRead from_ seq n) s = .next { s with
              out := [.entries l, .mgmt (authCode from_) 0 0 []] }
            ∧ l.length ≤ n ∧ (∀ e ∈ l, seq ≤ e.seq ∧ e ∈ s.jAll)
            ∧ (s.lea.ring.Pairwise (fun a b => a.seq < b.seq) → l.Pairwise (fun a b => a.seq ≤ b.seq))))
      ∧ (s.stw.session = false → exec (.journalRead .console seq n) s = .next { s with out := [.mgmt 3 3 0 []] }
          ∧ exec (.journalAck .console seq) s = .next { s with out := [.mgmt 3 3 0 []] })
      ∧ (s.reqHank who = 0 → ¬counts (ackBit who) → exec (.leaAckWrite who v) s = .next { bad with out := [.answer 0 []] })
      ∧ (s.reqHank who = 0 → counts (ackBit who) → 0 < s.lea.head → s.lea.ack ≤ v.toNat * 2 ^ 32 + s.lea.ackLo →
          ∃ t, exec (.leaAckWrite who v) s = .next t ∧ t.lea.ack = min (v.toNat * 2 ^ 32 + s.lea.ackLo) (s.lea.head - 1)
            ∧ t.lea.ring = s.lea.ring.filter (fun e => decide (t.lea.ack < e.seq))
            ∧ t.lea.reserve = s.lea.reserve.filter (fun e => decide (t.lea.ack < e.2.seq)) ∧ t = { s with lea := t.lea, out := [.answer 0 []] })
      ∧ (s.reqHank who = 0 → counts (ackBit who) → v.toNat * 2 ^ 32 + s.lea.ackLo < s.lea.ack →
          exec (.leaAckWrite who v) s = .next { f with out := [.answer 0 []] }))

/-- R380, R381: the flush. It needs an erased idle area; when it is done the area holds every unacknowledged entry and the epoch, and is
the current one; when it takes too long the previous area stays current. An erased area serves the next flush; an epoch that was not
programmed is tried again. -/
def Obligations.FlushMakesTheIdleAreaCurrent : Prop :=
  ∀ (s : State),
    let f := fresh s
    (s.lea.flushing = false → s.nv.flash.idle.erased = true → ∀ who, s.reqHank who = 0 →
      exec (.flush who) s = .next { f with lea := { s.lea with flushing := true }, out := [.answer 0 []] })
    ∧ (s.lea.flushing = true → s.pwr.state ≠ 4 → ∃ t, exec .flushDone s = .next t ∧ t.nv.flash.current = !s.nv.flash.current
        ∧ t.nv.flash.cur = { entries := s.jAll, epochs := [s.lea.epoch], erased := false } ∧ t.nv.flash.idle = s.nv.flash.cur
        ∧ t.lea.flushing = false ∧ t.lea.flushFailed = false ∧ t.lea.ring = s.lea.ring)
    ∧ (s.lea.flushing = true → s.pwr.state ≠ 4 → ∃ t, exec .flushTimeout s = .next t ∧ t.nv.flash.current = s.nv.flash.current
        ∧ t.nv.flash.cur = s.nv.flash.cur ∧ t.lea.flushing = false ∧ t.lea.flushFailed = true)
    ∧ (∃ t, exec .idleAreaErased s = .next t ∧ t = { f with nv := t.nv } ∧ t.nv.flash.idle.erased = true
        ∧ t.nv.flash.idle.entries = [] ∧ t.nv.flash.cur = s.nv.flash.cur)
    ∧ (s.lea.epochUnsaved = true → s.nv.flash.cur.epochs.length < 512 → ∃ t, exec (.epochProgramRetry true) s = .next t
        ∧ t.lea.epochUnsaved = false ∧ t.nv.flash.cur.epochs = s.nv.flash.cur.epochs ++ [s.lea.epoch]
        ∧ t.nv.flash.idle = s.nv.flash.idle)

/-- R300, R304, R305, R308, 19 R430, R432: the endpoint. A function-level reset clears the function's page, and the PF's removes the
virtual functions; a lost link is counted and its waiting replies are discarded; PERST takes the link and every page; a link that trains,
with PCIE_REFCLK, at a width and rate of the endpoint's presents its IDs; a pending, unmasked vector of a function whose MSI-X is enabled
sends its message and its pending bit clears. -/
def Obligations.PcieFunctionsResetAndSignal : Prop :=
  ∀ (s : State) (fn : Nat),
    let f := fresh s
    (1 ≤ fn → s.fnUp fn = true → exec (.functionLevelReset fn) s = .next { f with pci := { s.pci with fns := mdel s.pci.fns fn } })
    ∧ (s.pci.fns.Pairwise (fun a b => a.1 < b.1) → ∃ t, exec (.functionLevelReset 0) s = .next t ∧ t = { f with pci := t.pci }
        ∧ t.pci.numVfs = 0
        ∧ (∀ g, mget? t.pci.fns g = none) ∧ t.pci.up = s.pci.up)
    ∧ (∃ t, exec .perst s = .next t ∧ t.pci.up = false ∧ t.pci.numVfs = 0 ∧ t.pci.fns = [] ∧ t.hanks = s.hanks ∧ t.mem = s.mem)
    ∧ (s.pci.up = true → ∃ t, exec .pcieLinkDown s = .next t ∧ t = { f with pci := t.pci } ∧ t.pci.up = false
        ∧ t.pci.downEvents = min (s.pci.downEvents + 1) (2 ^ 16 - 1)
        ∧ ∀ g, (mget? s.pci.fns g).isSome = true → (t.fnPage g).replies = []
            ∧ (t.fnPage g).lost = ((s.fnPage g).reqTail + 65536 - (s.fnPage g).reqHead) % 65536)
    ∧ (∀ w r, w ∈ [1, 2, 4, 8] → 1 ≤ r → r ≤ 4 → s.pins.refPcie = true → exec (.pcieLinkUp w r) s = .next
        { f with pci := { s.pci with up := true, width := w, rate := r }, out := [.present 0x1F3A (deviceId s.variant)] })
    ∧ (∀ w r, s.pins.refPcie = false ∨ w ∉ [1, 2, 4, 8] ∨ r < 1 ∨ 4 < r → exec (.pcieLinkUp w r) s = .next f)
    ∧ (∀ n, s.pci.fns.Pairwise (fun a b => a.1 < b.1) → ∃ t, exec (.vfEnable n) s = .next t ∧ t = { f with pci := t.pci }
        ∧ t.pci.numVfs = min n 63
        ∧ (∀ g, g ≤ min n 63 → t.fnPage g = s.fnPage g) ∧ ∀ g, min n 63 < g → mget? t.pci.fns g = none)
    ∧ (∀ v cfg, s.fnUp fn = true → ∃ t, exec (.msixMessage fn v cfg) s = .next t ∧ t = { f with pci := t.pci, out := t.out }
        ∧ (t.fnPage fn).enabled = cfg.getD (s.fnPage fn).enabled
        ∧ (∀ u, u ≠ v → (t.fnPage fn).pba.testBit u = (s.fnPage fn).pba.testBit u)
        ∧ (v < 32 → (t.fnPage fn).enabled = true → (s.fnPage fn).pba.testBit v = true → (s.fnPage fn).masked v = false →
          t.out = [.msix fn v] ∧ (t.fnPage fn).pba.testBit v = false)
        ∧ ((t.fnPage fn).enabled = false ∨ (s.fnPage fn).masked v = true → t.out = [] ∧ (t.fnPage fn).pba = (s.fnPage fn).pba))

/-- R2 to R6, R30, R54: a register write. One to an absent block is ignored; a tenant's write of a register outside its bank is an access
error and changes none; a bank register of the requester's hank takes the value; a journalled field changes with one entry, or not at all,
counted, when the journal has no room; the host's write that raises TDP is refused while REMOTE_DANGER is 0 (R359; log 81). -/
def Obligations.RegisterWritesAreServedOrRefused : Prop :=
  ∀ (s : State) (who : Requester) (v : Word), Calm s → s.reqHank who ≠ noHank →
    let h := s.reqHank who
    let ok : List Out := [.answer 0 []]
    (∀ b off, b < 256 → blockPresent s.variant b = false → exec (.registerWrite who b off v) s = .next { s with out := ok })
    ∧ (h ≠ 0 → ∀ b off, b ∈ [0, 1, 4, 5, 27, 33, 43, 45, 46] → off < 0x1000 → off % 4 = 0 → blockPresent s.variant b = true →
        exec (.registerWrite who b off v) s = .next (((fresh s).accessError h (ucbBase + b * mib + off) 1).emit (.answer 1 [])))
    ∧ (h ≠ 0 → exec (.registerWrite who 3 0x404 v) s = .next { (fresh s).setHank h { s.hank h with baseLo := v.toNat } with out := ok })
    ∧ (h = 0 → HasRoom s → ∃ t, exec (.registerWrite who 2 0x038 v) s = .next t
        ∧ ButJournal { s with tck := { s.tck with stepUs := bits v.toNat 19 0 } } t
        ∧ OneEntry s t (regObj 2 0x038) s.tck.stepUs (bits v.toNat 19 0))
    ∧ (h = 0 → s.lea.head / 2 ^ 32 = s.lea.epoch → 4096 ≤ s.lea.ring.length → exec (.registerWrite who 2 0x038 v) s = .next
        { s with lea := { s.lea with refused := min (s.lea.refused + 1) (2 ^ 32 - 1) }, out := ok })
    ∧ (who = .pf → s.stw.remoteDanger = false →
        s.pwr.tdp < clampN (tdpRange s.variant).1 (tdpRange s.variant).2.1 (bits v.toNat 6 0) →
        exec (.registerWrite who 43 0x014 v) s = .next (((fresh s).accessError 0 (ucbBase + 43 * mib + 0x014) 1).emit (.answer 1 [])))

/-- R28, R29, R56, R60, R143: single registers. PIN_JOBS written sets the peak, not below the jobs in flight, and a job that takes a slot
raises it; PIN_JOB_RESERVE and WRP_PLYn_DRAIN are journalled and clamped, and a direct write of the drain limit is counted; the read of a
low word latches its high word; the read of an error address takes the next error again. -/
def Obligations.SingleRegisterCommands : Prop :=
  ∀ (s : State) (who : Requester) (v : Word), s.reqHank who ≠ noHank →
    let ok : List Out := [.answer 0 []]
    (s.reqHank who = 0 → exec (.peakWrite who v) s = .next { s with peak := max (bits v.toNat 24 16) s.inFlight, out := ok })
    ∧ (∀ j, s.nextWaiting = some j → ∃ t, exec .jobSlotAcquire s = .next t ∧ t.peak = max s.peak t.inFlight)
    ∧ (s.reqHank who = 0 → HasRoom s → ∃ t, exec (.jobReserveWrite who v) s = .next t
        ∧ ButJournal { s with jobReserve := min (bits v.toNat 8 0) (jobsMax s.variant) } t
        ∧ OneEntry s t (regObj 0 0x04C) s.jobReserve (min (bits v.toNat 8 0) (jobsMax s.variant)))
    ∧ (∀ p, p < 16 → s.reqHank who = 0 → HasRoom s → (mget? s.plies p).isSome = true → ∃ t, exec (.drainTicksWrite who p v) s = .next t
        ∧ ButJournal (s.setPly p { s.ply p with
            drainTicks := max 1 (bits v.toNat 7 0), overrides := min ((s.ply p).overrides + 1) (2 ^ 32 - 1) }) t
        ∧ OneEntry s t (regObj 1 (0x108 + 0x20 * p)) (s.ply p).drainTicks (max 1 (bits v.toNat 7 0)))
    ∧ (∃ t, exec (.latchingLowRead who 2 0) s = .next t ∧ t.out = [.answer 0 (leBytes 4 (s.tck.time % 2 ^ 32))]
        ∧ t.latches.find? (fun e => e.1 == latchKey who 2 4) = some (latchKey who 2 4, s.tck.time / 2 ^ 32 % 2 ^ 32)
        ∧ t = { s with latches := t.latches, out := t.out })
    ∧ exec (.errLatchRearmRead who 5 4) s = .next { s with
        fab := { s.fab with decodeLatch := { s.fab.decodeLatch with held := false } }, out := [.answer 0 (leBytes 4 (s.regWord who 5 4))] }

/-- 00 R7, 17 R389 to R392, 19 R423 to R430, 14 R342: the pins and the boot. POR_N held low for 10 us is a COLD reset, which keeps OTP,
flash and the wake domain and clears the rest; under 1 us it is ignored. Its release with the reference clock samples the straps and boots
the steward or waits in RECOVERY; the services' report leads on to the Warp. The wake supply's fall takes all power; WAKE_N starts the
device again after the 50 ms that PWR_EN stays low, and leaves Hold. -/
def Obligations.PinsAndBootMoveTheDevice : Prop :=
  ∀ (s : State) (env : BootEnv) (ns : Nat) (b : List Byte),
    let f := fresh s
    (10000 ≤ ns → ∃ t, exec (.porNAssert ns) s = .next t ∧ t.nv.otp = s.nv.otp ∧ t.pending = s.pending
        ∧ t.pins.porN = false ∧ t.pins.pwrEn = s.pins.pwrEn ∧ t.pins.fanHiZ = true ∧ t.boot.state = 0 ∧ t.tck.time = 0
        ∧ t.tier = 0 ∧ t.wrp.device = 0 ∧ t.jobs = [] ∧ t.hanks = [] ∧ t.plies = [] ∧ t.cores = [] ∧ t.chans = [] ∧ t.slots = [] ∧ t.grants = []
        ∧ t.jobReserve = reserveDefault s.variant ∧ (s.lea.flushing = false → t.nv = s.nv))
    ∧ (ns < 1000 → exec (.porNAssert ns) s = .next f)
    ∧ (s.pins.pwrEn = true → s.pins.porN = false → env.refSys = false →
        exec (.porNRelease env) s = .next { f with pins := { s.pins with refSys := false } })
    ∧ (s.pins.pwrEn = true → s.pins.porN = false → env.refSys = true → ∃ t, exec (.porNRelease env) s = .next t
        ∧ t.pins = { s.pins with porN := true, strapMaster := env.master, strapAddr := env.addr % 16, refSys := true
                                 refPcie := env.refPcie, refEth := env.refEth, fanHiZ := false }
        ∧ (t.boot.state = 4 ∨ t.boot.state = 7))
    ∧ (s.boot.awaiting = true → ∃ t, exec .servicesReady s = .next t ∧ t.boot.awaiting = false ∧ t.boot.warm = false
        ∧ t.boot.state = if t.wrp.device = 0 then 6 else 5)
    ∧ (s.boot.state = 7 → s.fwCode 1 b ≠ 0 → exec (.recoveryImage b) s = .next { s with out := [.mgmt 3 (s.fwCode 1 b) 0 []] })
    ∧ (s.boot.state = 7 → s.fwCode 1 b = 0 → ∃ t, exec (.recoveryImage b) s = .next t ∧ mget t.nv.flash.images 2 [] = b
        ∧ Out.mgmt 3 0 0 [] ∈ t.out)
    ∧ (s.pins.vddWake = false → exec .vddWakeRise s = .next
        { f with pins := { s.pins with vddWake := true, pwrEn := true, offTimeDone := true } })
    ∧ (∃ t, exec .vddWakeFall s = .next t ∧ t.nv = s.nv ∧ t.pending = s.pending ∧ t.pins.vddWake = false ∧ t.pins.pwrEn = false
        ∧ t.boot.state = 0 ∧ t.mem = [] ∧ t.tck.time = 0)
    ∧ (10000 ≤ ns → s.pins.pwrEn = false → s.pins.offTimeDone = true → exec (.wakeNQualified ns) s = .next
        { f with pins := { s.pins with pwrEn := true, wakeArmed := false, wakeLatched := false } })
    ∧ (10000 ≤ ns → s.pins.pwrEn = false → s.pins.offTimeDone = false →
        exec (.wakeNQualified ns) s = .next { f with pins := { s.pins with wakeLatched := true } })
    ∧ (10000 ≤ ns → s.pins.pwrEn = true → s.pins.wakeArmed = false → s.pwr.state = 2 → s.pwr.forced = false → s.pwr.level ≠ 3 →
        ∃ t, exec (.wakeNQualified ns) s = .next t ∧ t.pwr.state = 3 ∧ t.pwr.result.busy = true
          ∧ ∀ i, i ∈ s.islands → i < 5 → (t.isl i).st = 2 ∧ (t.isl i).volt = 550)
    ∧ (ns < 5000 → exec (.wakeNQualified ns) s = .next f)
    ∧ (s.pins.pwrEn = false → exec .pwrEnOffTime s = .next { f with pins := if s.pins.wakeLatched
        then { s.pins with offTimeDone := true, pwrEn := true, wakeArmed := false, wakeLatched := false }
        else { s.pins with offTimeDone := true } })

/-- R391, 15 R359, R369: RESET. From an authority that may order it, with the device running, it journals the danger action and runs the
WARM reset: jobs, hanks, plies and the Warp are gone, TIME_NS and the non-volatile memory stay, and the boot goes on to the services;
remote authorities need STW_POLICY, and one while a WARM reset runs finds it BUSY. -/
def Obligations.WarmResetClearsTheDevice : Prop :=
  ∀ (s : State) (from_ : Authority) (c : List Nat),
    (s.noSession from_ = false → s.dangerOk from_ = true → s.boot.warm = false → 4 ≤ s.boot.state → s.boot.state ≠ 7 →
      s.pwr.level ≠ 3 → s.pwr.forced = false → s.pwr.state = 0 → HasRoom s →
      ∃ t, exec (.reset from_ c) s = .next t ∧ t.jobs = [] ∧ t.hanks = [] ∧ t.plies = [] ∧ t.cores = [] ∧ t.chans = []
        ∧ t.wrp.image = none ∧ t.wrp.device = 0 ∧ t.boot.state = 4 ∧ t.tck.time = s.tck.time ∧ t.pending = s.pending
        ∧ t.nv.otp = s.nv.otp ∧ t.stw.remoteDanger = false ∧ Out.mgmt (authCode from_) 0 0 [] ∈ t.out
        ∧ ∃ e ∈ t.lea.ring, e.kind = 4 ∧ e.object = jObj 9 0x0107 ∧ e.seq = s.lea.head)
    ∧ ((from_ = .console ∧ s.stw.session = false) ∨ (from_ = .host ∧ s.stw.remoteDanger = false) →
      exec (.reset from_ c) s = .next { s with out := [.mgmt (authCode from_) 0x03 0 []] })
    ∧ (s.noSession from_ = false → s.dangerOk from_ = true → s.boot.warm = true →
      exec (.reset from_ c) s = .next { s with out := [.mgmt (authCode from_) 0x04 0 []] })

/-- The values that the spec gives for reset: the block is unwoven, unpowered by no boot, at tier 0 with its reserve of jobs, the counters
and the queue empty, registers at their reset values, and memory lists nothing. -/
def Obligations.ResetLeavesTheStatedValues : Prop :=
  let s := State.reset
  s.wrp.device = 0 ∧ s.tier = 0 ∧ s.tierChanges = 0 ∧ s.peak = 0 ∧ s.jobReserve = 64 ∧ s.pending = [] ∧ s.tck.time = 0
    ∧ s.tck.sync = 0 ∧ s.boot.state = 0 ∧ s.lea.warnPct = 75 ∧ s.lea.sources = 7 ∧ s.stw.remoteDanger = false
    ∧ (∀ e, s.tallyOf e = 0) ∧ (∀ n, (s.chan n).state = 0 ∧ (s.core n).state = 0)
    ∧ s.mem = [] ∧ Memory.wf s.mem = true

/-- R307: the rings of a function. A post within 16 outstanding requests moves REQ_TAIL; the services take the request at REQ_HEAD and
answer it: PING with its payload, ROUTE_EVENT with its register, PLAY_PROMPT with a queued clip, PUBLISH by sending what it read on its
topic, an unknown OP and an unbound function with their codes; a reply is written into a free slot and vector 0 is signalled. -/
def Obligations.MailboxRequestsAreAnswered : Prop :=
  ∀ (s : State) (fn : Nat) (req : List Byte), s.fnUp fn = true →
    let f := fresh s
    let p := s.fnPage fn
    let n := leAt req 4 1
    let body := slice req 8 n
    let answers := fun (cmd : Instr) (t : State) (st : Nat) (out : List Byte) => exec cmd s = .next (t.reply fn req st 0 out)
    (∀ tail, tail < 65536 → (tail + 65536 - p.reqHead) % 65536 ≤ 16 → exec (.mailboxRequestPost fn tail) s = .next
        (f.setFn fn { p with reqTail := tail }))
    ∧ (∀ tail, 16 < (tail % 65536 + 65536 - p.reqHead) % 65536 → exec (.mailboxRequestPost fn tail) s = .next f)
    ∧ (∀ r rest, p.replies = r :: rest → (p.rplHead + 65536 - p.rplTail) % 65536 < 16 → r.length = 64 →
        ∃ t, exec (.mailboxReply fn) s = .next t ∧ (t.fnPage fn).replies = rest ∧ (t.fnPage fn).rplHead = (p.rplHead + 1) % 65536
          ∧ (t.fnPage fn).pba.testBit 0 = true
          ∧ ∀ k, k < 64 → mget (t.fnPage fn).rplSlots (p.rplHead % 16 * 64 + k) 0 = r.getD k 0)
    ∧ (s.servicesUp = true → p.waiting = none → p.request = some req → n ≤ 56 →
      (s.fnBound fn = false → answers (.ping fn) f 0x03 [])
      ∧ (s.fnBound fn = true →
        (leAt req 0 2 = 1 → answers (.ping fn) f 0 body)
        ∧ (4 < leAt req 0 2 → leAt req 0 2 < 0x0101 → answers (.ping fn) f 0x01 [])
        ∧ (∀ c, leAt req 0 2 = 2 → n = 4 → leAt body 2 1 = 1 → leAt body 3 1 ≤ 31 → c < 4 →
            s.ownsEvent (s.fnHank fn) (leAt body 0 2) = true → leAt body 0 2 < 1024 → HasRoom s →
            ∃ t, exec (.routeEvent fn c) s = .next t
              ∧ (let w := (mget t.evt.route (leAt body 0 2) 0#32).toNat; bit w 15 = true ∧ bits w 14 13 = c))
        ∧ (leAt req 0 2 = 2 → n = 4 → leAt body 2 1 ≤ 2 → leAt body 3 1 ≤ 31 → s.ownsEvent (s.fnHank fn) (leAt body 0 2) = false →
            answers (.routeEvent fn 0) f 0x03 [])
        ∧ (∀ v d, leAt req 0 2 = 3 → hasAud s.variant = true → n = 32 → body.length = 32 → parseVoice (s.fnHank fn) body = some d →
            s.servable fn d.clip (4 * d.frames) = true → v < 4 → (s.voice v).queue.length < 8 →
            answers (.playPrompt fn v) (f.queueVoice v d) 0 [])
        ∧ (∀ a b t, leAt req 0 2 = 4 → n = 14 → body.length = 14 → s.servable fn (leAt body 0 8) (leAt body 8 4) = true →
            f.engRead 0 80 (leAt body 0 8) (leAt body 8 4) = (.ok, a, b, t) →
            answers (.publish fn false) (t.emit (.publish (leAt body 12 2) b)) 0 []
            ∧ answers (.publish fn true) (t.emit (.publish (leAt body 12 2) b)) 0x07 [])))

/-- R315, R316: voices. A descriptor within its ranges is queued behind the others, or plays at once; a full queue refuses it, counted; STOP
empties the queue and ends the clip at the next frame; a clip that has played its last sample pulses its event and the next one plays; a
frame without a voice sends zeros in each slot; a gain is the nearest integer. R318: amplifier faults. A fault is counted and mutes a
playing or retrying amplifier, or latches it, muted or not, after three retries, with a record of fact; after 2 s the retry ramps to the
reduced level while the input is high; 60 s without a fault give full gain back, and so does CLEAR, which the journal may refuse. -/
def Obligations.VoicesPlayAndAmplifiersMute : Prop :=
  (∀ (s : State) (who : Requester) (v : Nat) (w : Word), hasAud s.variant = true → v < 4 →
      let f := fresh s
      let x := s.voice v
      (s.reqHank who = 0 →
        (8 ≤ x.queue.length → exec (.voiceQueue who v w) s = .next
          (({ f.setVoice v { x with refused := min (x.refused + 1) (2 ^ 16 - 1) } with out := [.answer 0 []] } : State)))
        ∧ (∀ a b t d, x.queue.length < 8 → f.engRead 0 158 (x.cmdLo + w.toNat * 2 ^ 32) 32 = (.ok, a, b, t) → parseVoice 0 b = some d →
            t.aud = s.aud → exec (.voiceQueue who v w) s = .next ((t.setVoice v (match x.cur with
              | some _ => { x with queue := x.queue ++ [d] }
              | none => match x.queue with
                | [] => { x with cur := some d, queue := [], pos := 0 }
                | e :: rest => { x with cur := some e, queue := rest ++ [d], pos := 0 })).served))
        ∧ (w.getLsbD 0 = true → exec (.voiceStop who v w) s = .next
            (f.setVoice v { x with queue := [], stop := x.cur.isSome }).served))
      ∧ (s.reqHank who ≠ 0 → s.reqHank who ≠ noHank → exec (.voiceQueue who v w) s = .next (f.denyReg who 37 (0x44 + 0x10 * v) 0)
          ∧ exec (.voiceStop who v w) s = .next (f.denyReg who 37 (0x4C + 0x10 * v) 0))
      ∧ (∀ d, x.cur = some d → d.frames ≤ x.pos → x.queue = [] → exec (.clipEnd v) s = .next
          ((f.setVoice v { x with cur := none, stop := false }).hankPulse d.hank d.doneEvent))
      ∧ (∀ d e rest, x.cur = some d → d.frames ≤ x.pos → x.queue = e :: rest → exec (.clipEnd v) s = .next
          ((f.setVoice v { x with cur := some e, queue := rest, pos := 0, stop := false }).hankPulse d.hank d.doneEvent))
      ∧ (s.aud.enable = true → (∀ u, u < 4 → (s.voice u).cur = none ∧ (s.voice u).stop = false) → (∀ a, a < 4 → (s.amp a).left = 0) →
          exec (.audioFrame []) s = .next { s with out := [.audio (audWire s.aud.i2s (List.replicate (if s.aud.i2s then 2 else 8) 0))] })
      ∧ (∀ g : Nat, g ≤ 127 → (2 * gainOf g - 1) ^ 40 * 10 ^ g ≤ (2 ^ 17) ^ 40 ∧ (2 ^ 17) ^ 40 < (2 * gainOf g + 1) ^ 40 * 10 ^ g))
  ∧ (∀ (s : State) (a : Nat), hasAud s.variant = true → a < 4 → HasRoom s →
      let x := s.amp a
      (x.st = 0 ∨ x.st = 2 → ∃ t, exec (.ampFault a) s = .next t ∧ (t.amp a).st = (if x.retries = 3 then 3 else 1)
          ∧ (t.amp a).factor = 0 ∧ (t.amp a).left = 0 ∧ (t.amp a).faults = min (x.faults + 1) (2 ^ 8 - 1)
          ∧ (∀ b, b ≠ a → t.amp b = s.amp b) ∧ OneEntry s t (jObj 15 a) x.st (if x.retries = 3 then 3 else 1))
      ∧ (x.st = 1 → x.retries = 3 → ∃ t, exec (.ampFault a) s = .next t ∧ OneEntry s t (jObj 15 a) 1 3
          ∧ t.amp a = { x with st := 3, faults := min (x.faults + 1) (2 ^ 8 - 1), inputHigh := false })
      ∧ (x.st = 3 ∨ (x.st = 1 ∧ x.retries ≠ 3) → exec (.ampFault a) s = .next
          ((fresh s).setAmp a { x with faults := min (x.faults + 1) (2 ^ 8 - 1), inputHigh := false }))
      ∧ (x.st = 1 → x.retries < 3 → ∃ t, exec (.ampRetry a true) s = .next t ∧ OneEntry s t (jObj 15 a) 1 2
          ∧ t.amp a = { x with retries := x.retries + 1, inputHigh := true, st := 2, from_ := x.factor, goal := 16462, left := 2400 })
      ∧ (x.st = 2 → exec (.ampRetryClean a) s = .next
          ((fresh s).setAmp a { x with st := 0, retries := 0, from_ := x.factor, goal := 65536, left := 2400 }))
      ∧ (s.stw.session = true → ∃ t, exec (.clear .console a false) s = .next t ∧ OneEntry s t (jObj 15 a) x.st 0
          ∧ t.amp a = { x with st := 0, retries := 0, inputHigh := true, from_ := x.factor, goal := 65536, left := 2400 }
          ∧ Out.mgmt 3 0 0 [] ∈ t.out))

/-- R328 to R332, 19 R433: regulators. A confirmation within 10 mV and 25 mV of the command ends the island's transition, a raise at its
target; a lost link or a time out leaves an island in transition LINK_LOST at the clock it runs, counted, with a record of fact; a
LINK_LOST island whose monitor reads under 525 mV loses its clock, and has one at OP0 again from 525 mV on, with its entries; a monitor far
from the voltage of a settled island is reported; a retry that succeeds commands the voltage again; an alert shows the STATUS_WORD. -/
def Obligations.RegulatorsConfirmOrLoseTheirIslands : Prop :=
  ∀ (s : State) (i v m : Nat), i ∈ s.islands → s.stw.reports = [] →
    let f := fresh s
    let x := s.isl i
    let near := v ≤ x.volt + 10 ∧ x.volt ≤ v + 10 ∧ m ≤ x.volt + 25 ∧ x.volt ≤ m + 25
    (x.st = 2 → x.waiting = none → near → exec (.regulatorConfirm i v m true) s = .next
        (f.setIsl i { x with readback := v, monitor := m, st := 0, cur := x.target, stopped := x.stopped && s.clockHeld }))
    ∧ (x.st = 1 → x.waiting = none → near → exec (.regulatorConfirm i v m true) s = .next
        (f.setIsl i { x with readback := v, monitor := m, st := 0 }))
    ∧ (¬near → ∀ ok, exec (.regulatorConfirm i v m ok) s = .next (f.setIsl i { x with readback := v, monitor := m }))
    ∧ (∀ cmd, cmd ∈ [Instr.linkLost i, Instr.confirmTimeout i] → x.st = 1 ∨ x.st = 2 → ∃ t, exec cmd s = .next t
        ∧ t.isl i = { x with st := 3, target := x.cur, losses := min (x.losses + 1) (2 ^ 16 - 1), waiting := none, recover := false,
                             stopped := x.stopped && s.clockHeld, lowVolt := x.lowVolt || (x.stopped && !s.clockHeld) }
        ∧ (∀ j, j ≠ i → t.isl j = s.isl j) ∧ s.lea.head < t.lea.head)
    ∧ (x.st = 0 → m ≤ opVolt x.cur + 50 → opVolt x.cur ≤ m + 50 → exec (.monitorCheck i m) s = .next (f.setIsl i { x with monitor := m }))
    ∧ (x.st = 0 → opVolt x.cur + 50 < m → exec (.monitorCheck i m) s = .next ((f.setIsl i { x with monitor := m }).takeReport 43 7))
    ∧ (x.st = 3 → x.stopped = false → x.lowVolt = false → m < 525 → ∃ t, exec (.monitorCheck i m) s = .next t
        ∧ t.isl i = { x with monitor := m, lowVolt := true, cur := 0, target := 0 } ∧ s.lea.head < t.lea.head)
    ∧ (x.st = 3 → x.stopped = false → x.lowVolt = true → 525 ≤ m → ∃ t, exec (.monitorCheck i m) s = .next t
        ∧ t.isl i = { x with monitor := m, lowVolt := false, cur := 0, target := 0 } ∧ s.lea.head < t.lea.head)
    ∧ (x.st = 3 → exec (.pmbusRetry i true) s = .next { (f.setIsl i { x with recover := true, volt := opVolt x.cur }) with
        out := [.vout i (opVolt x.cur)] })
    ∧ (∀ p words, ∃ t, exec (.pmbusAlert p words) s = .next t ∧ t = { f with pwr := t.pwr }
        ∧ t.isl i = (if (match policy? s.img 0x0920 0xFF with | some b => leAt b (3 * i) 1 | none => 0) = p
            then { x with status := words.getD i x.status } else x))

/-- R334 to R336, R345: thermal limits and TDP. A sample moves the level by its thresholds and enters warn or throttle with an entry; the
cap falls in throttle and rises below 97 degrees; a site at 110 degrees trips the device, which holds islands 0 to 4 at OP0, and, if one
is still there a second later, forces Hold; the TDP cap falls over the limit. -/
def Obligations.ThermalAndPowerLimitsHold : Prop :=
  ∀ (s : State),
    let f := fresh s
    (∀ l, l.length = 16 → s.pwr.level ≠ 3 → ∃ t, exec (.thermalSample l) s = .next t ∧ t.stw.sites = l
        ∧ (let top := (hottest l 0 (0, 0)).2
           t.pwr.level = if 100 ≤ top then 2
             else if s.pwr.level = 2 then (if top < 92 then 0 else if top < 97 then 1 else 2)
             else if 95 ≤ top then 1 else if top < 92 then 0 else s.pwr.level)
        ∧ (s.pwr.level = 0 → t.pwr.level ≠ 0 → s.lea.head < t.lea.head))
    ∧ (s.pwr.level = 2 → 1 ≤ s.pwr.thermCap → ∃ t, exec .throttleStep s = .next t ∧ t.pwr.thermCap = s.pwr.thermCap - 1)
    ∧ (s.pwr.level < 2 → (hottest s.stw.sites 0 (0, 0)).2 < 97 → s.pwr.thermCap < 7 →
        ∃ t, exec .throttleStep s = .next t ∧ t.pwr.thermCap = s.pwr.thermCap + 1)
    ∧ (∀ site temp, site < 16 → 110 ≤ temp → s.pwr.level ≠ 3 → ∃ t, exec (.thermalTrip site temp) s = .next t ∧ t.pwr.level = 3
        ∧ t.pins.thermAlert = true ∧ t.stw.sites.getD site 0 = temp
        ∧ ∀ i, i ∈ s.islands → i < 5 → (s.isl i).st ≠ 4 → (s.isl i).st ≠ 5 → (t.isl i).cur = 0)
    ∧ (s.pwr.level = 3 → (∃ x ∈ s.stw.sites, 110 ≤ x) → s.pwr.state = 0 → ∃ t, exec .forcedHold s = .next t ∧ t.pwr.forced = true
        ∧ t.pwr.state = 1 ∧ ∀ i, i ∈ s.islands → i < 4 → (t.isl i).stopped = true)
    ∧ (∀ r, ∃ t, exec (.powerSample r) s = .next t ∧ t = { f with pwr := t.pwr } ∧ t.pwr.powers = (r.power :: s.pwr.powers).take 100
        ∧ ∀ i v, i ∈ s.islands → r.vout[i]? = some v → (t.isl i).readback = v)
    ∧ (s.tdpNow * 5000 < s.pwr.powers.sum → 1 ≤ s.pwr.tdpCap → ∃ t, exec .tdpCapStep s = .next t ∧ t.pwr.tdpCap = s.pwr.tdpCap - 1)
    ∧ (s.pwr.powers.sum ≤ s.tdpNow * 5000 → 100 ≤ s.pwr.below → s.pwr.tdpCap < 7 →
        ∃ t, exec .tdpCapStep s = .next t ∧ t.pwr.tdpCap = s.pwr.tdpCap + 1 ∧ t.pwr.below = 0)

/-- R335, R337 to R341, R344: the power states. HOLD, RUN and DORMANT are accepted with one entry and BUSY; Hold is entered when the plies
are done, with islands 0 to 3 off and their memories lost; it is left with the confirmed islands at OP0; an order during a transition
finds it BUSY; a trip overrides all but the console's RUN; a full journal refuses the order; the flush of Dormant entry removes power. A
console without a session is not heard. -/
def Obligations.PowerStatesFollowTheirOrders : Prop :=
  ∀ (s : State) (from_ : Authority), s.noSession from_ = false →
    let f := fresh s
    let free := s.pwr.level ≠ 3 ∧ s.pwr.forced = false ∧ s.holder 0x0103 0 = none
    let result := fun (t : State) (code auth : Nat) => t.pwr.result = { s.pwr.result with done := true, authority := auth, code := code }
    (s.pwr.state = 0 → free → HasRoom s → ∃ t, exec (.hold from_) s = .next t ∧ t.pwr.state = 1 ∧ t.wrp.pending = none
        ∧ t.pwr.result.busy = true ∧ ∃ e ∈ t.lea.ring, e.seq = s.lea.head ∧ e.object = jObj 7 0 ∧ e.old = 0 ∧ e.new = 1)
    ∧ (s.pwr.state = 2 → free → HasRoom s → ∃ t, exec (.run from_) s = .next t ∧ t.pwr.state = 3 ∧ t.pwr.result.busy = true
        ∧ OneEntry s t (jObj 7 0) 2 3 ∧ ∀ i, i ∈ s.islands → i < 5 → (t.isl i).st = 2 ∧ (t.isl i).volt = 550)
    ∧ (s.pwr.state = 0 → s.pwr.wantDormant = false → free → HasRoom s → s.dangerOk from_ = true →
        ∃ t, exec (.dormant from_) s = .next t ∧ t.pwr.state = 1 ∧ t.pwr.wantDormant = true ∧ t.pins.wakeArmed = true)
    ∧ (s.pwr.state = 1 ∨ s.pwr.state = 3 ∨ s.pwr.state = 4 →
        (∃ t, exec (.hold from_) s = .next t ∧ result t 1 0 ∧ t = { f with pwr := t.pwr })
        ∧ (∃ t, exec (.run from_) s = .next t ∧ result t 1 0 ∧ t = { f with pwr := t.pwr }))
    ∧ (s.pwr.state = 0 → s.pwr.level = 3 → from_ ≠ .console → HasRoom s →
        ∃ t, exec (.run from_) s = .next t ∧ result t 0x51 1 ∧ t.pwr.level = 3 ∧ OneEntry s t (jObj 7 0) 0 0)
    ∧ (s.pwr.state = 0 → free → s.lea.head / 2 ^ 32 = s.lea.epoch → 4096 ≤ s.lea.ring.length →
        ∃ t, exec (.hold from_) s = .next t ∧ result t 0x50 0 ∧ t.pwr.state = 0)
    ∧ (s.pwr.state = 1 → s.holdReady = true → s.pwr.wantDormant = false → ∃ t, exec .holdEntryComplete s = .next t ∧ t.pwr.state = 2
        ∧ t.pwr.result = { s.pwr.result with busy := false, done := true, authority := 0, code := 0 }
        ∧ (∀ i, i ∈ s.islands → i < 4 → (t.isl i).st = 4 ∧ (t.isl i).volt = 0) ∧ (t.isl 4).st = 5 ∧ (t.isl 4).volt = 500
        ∧ ∀ c, (t.core c).x = [] ∧ (t.core c).y = [] ∧ (t.core c).pm = [])
    ∧ (s.pwr.state = 3 → s.pwr.wantDormant = false → (∀ i, i ∈ s.islands → i < 5 → (s.isl i).st = 2) →
        ∃ t, exec (.holdExitComplete s.islands) s = .next t ∧ t.pwr.state = 0
        ∧ ∀ i, i ∈ s.islands → i < 5 → t.isl i = { s.isl i with st := 0, cur := (s.isl i).target, stopped := false })
    ∧ (s.lea.flushing = true → s.pwr.state = 4 → ∃ t, exec .flushDone s = .next t ∧ t.pins.pwrEn = false ∧ t.pins.wakeArmed = true
        ∧ t.mem = [] ∧ t.nv.flash.cur.entries = s.jAll ∧ t.nv.otp = s.nv.otp)
    ∧ (s.lea.flushing = true → s.pwr.state = 4 → ∃ t, exec .flushTimeout s = .next t ∧ t.pwr.state = 2 ∧ t.pwr.result.code = 3
        ∧ t.pwr.result.done = true)
    ∧ (∀ (u : State), u.stw.session = false → ∀ cmd ∈ [Instr.hold .console, .run .console, .dormant .console],
        exec cmd u = .next { u with out := [.mgmt 3 3 0 []] })

/-- 05 R128, R347 to R352: DRAM temperature, fans and the watchdog. The first HOT interface sets the DRAM cap, with a record, and its
release clears it, with a record; the curve duty rises at once and falls by at most half a point an update, which takes the tach readings; a
fan fault of a driven fan is recorded once and drives it at 100 %, and is cleared; a kick of the steward with the expected value makes the
other value the expected one, and any other is counted; an expiry holds islands 0 to 4 at the clock of OP0, counted, with a record, and ends
the console's session; the steward's release ends it when every site is below 110 degrees and every island is confirmed, and no other
requester's does. -/
def Obligations.StewardGuardsTheBoard : Prop :=
  ∀ (s : State) (who : Requester) (i : Nat) (v : Word),
    let f := fresh s
    (∀ (l : List (Nat × Bool)), s.pwr.hotCap = false → (∃ k m d, mget? s.dram k = some d ∧ d.state = 2 ∧ l[k]? = some (m, true)) →
      ∃ t, exec (.mr4Poll l) s = .next t
        ∧ t.pwr.hotCap = true ∧ s.lea.head < t.lea.head)
    ∧ (s.pwr.hotCap = true → s.anyHot = false → ∃ t, exec .dramHotRelease s = .next t ∧ t.pwr.hotCap = false ∧ s.lea.head < t.lea.head)
    ∧ (∀ l, ∃ t, exec (.fanCurveUpdate l) s = .next t ∧ t = { f with stw := t.stw }
        ∧ (let goal := 2 * s.stw.curve (hottest s.stw.sites 0 (0, 0)).2
           t.stw.curve2 = if s.stw.curve2 ≤ goal then goal else max goal (s.stw.curve2 - 1))
        ∧ ∀ n r, n < 4 → l[n]? = some r → (t.fan n).rpm = r % 2 ^ 16)
    ∧ (i < 4 → bit s.stw.fanMask i = true → (s.fan i).fault = false → 0 < s.fanDuty i → HasRoom s → ∃ t, exec (.fanFault i) s = .next t
        ∧ (t.fan i).fault = true ∧ t.fanDuty i = 100 ∧ OneEntry s t (jObj 15 (16 + i)) (s.fanDuty i) 100)
    ∧ ((s.fan i).fault = true → exec (.fanFaultClear i) s = .next (f.setFan i { s.fan i with fault := false }))
    ∧ (v.toNat % 2 ^ 16 = (if s.stw.kick5a then 0x5A5A else 0xA5A5) → exec (.watchdogKick .steward v) s = .next
        { f with stw := { s.stw with kick5a := !s.stw.kick5a }, out := [.answer 0 []] })
    ∧ (s.reqHank who = 0 → who ≠ .steward ∨ v.toNat % 2 ^ 16 ≠ (if s.stw.kick5a then 0x5A5A else 0xA5A5) →
        exec (.watchdogKick who v) s = .next
          { f with stw := { s.stw with badKicks := min (s.stw.badKicks + 1) (2 ^ 8 - 1) }, out := [.answer 0 []] })
    ∧ (∃ t, exec .watchdogExpiry s = .next t ∧ t.stw.wdForced = true ∧ t.stw.expiries = min (s.stw.expiries + 1) (2 ^ 16 - 1)
        ∧ t.stw.session = false ∧ t.pins.thermAlert = true ∧ s.lea.head < t.lea.head
        ∧ ∀ i, i ∈ s.islands → i < 5 → (s.isl i).st ≠ 4 → (s.isl i).st ≠ 5 → (t.isl i).cur = 0)
    ∧ (∀ sites c, s.stw.wdForced = true → (∀ k, k < 16 → sites.getD k 0 < 110) → (∀ j, j ∈ s.islands → j ∈ c) →
        ∃ t, exec (.wdogRelease .steward sites c) s = .next t ∧ t.stw.wdForced = false ∧ t.pins.thermAlert = (s.pwr.level == 3)
          ∧ ∀ j, j ∈ s.islands → j < 5 → (s.isl j).st ≠ 4 → (s.isl j).st ≠ 5 →
              t.isl j = { s.isl j with st := 0, volt := 550, recover := false })
    ∧ (∀ sites c, who ≠ .steward → s.reqHank who ≠ noHank → exec (.wdogRelease who sites c) s = .next (f.denyReg who 44 0x00C 0))

/-- R357 to R360, R369: overrides and danger actions. A command within its ranges installs its authority's override, with one entry; a
higher authority's override refuses it, journalled, with its holder; PIN, TDP and FAN that raise power or lower cooling are danger
actions, which remote authorities may not order without STW_POLICY; RELEASE and expiry give the object back; the after-readings of a
danger action are recorded. -/
def Obligations.OverridesAreHeldByAuthority : Prop :=
  ∀ (s : State) (a : MgmtArgs), s.mayManage a.from_ = true → a.durationS ≤ 86400 →
    let au := authCode a.from_
    let replied := fun (t : State) (st h : Nat) => Out.mgmt au st h [] ∈ t.out
    let installed := fun (cmd : Instr) (object index value : Nat) => ∃ t, exec cmd s = .next t ∧ replied t 0 0
      ∧ s.lea.head < t.lea.head ∧ t.holder object index = some
        { auth := au, value := value, untilNs := s.tck.time + (if a.durationS = 0 then s.stw.dur else a.durationS) * 1000000000 }
    (s.holder 0x0109 0 = none → HasRoom s → installed (.warplock a) 0x0109 0 0)
    ∧ (∀ o, s.holder 0x0109 0 = some o → o.auth < au → HasRoom s → ∃ t, exec (.warplock a) s = .next t ∧ replied t 0x51 o.auth
        ∧ t.holder 0x0109 0 = some o ∧ OneEntry s t (jObj 9 0x0109) o.auth au)
    ∧ (a.object ∈ s.islands → a.value < 2 ^ 24 → bits a.value 7 0 = 0xFF → bits a.value 15 8 ≤ 7 → bits a.value 23 16 ≤ (s.isl a.object).cur →
        (s.isl a.object).cur ≤ 7 → s.holder 0x0104 a.object = none → HasRoom s → installed (.pin a) 0x0104 a.object a.value)
    ∧ (let r := tdpRange s.variant
       r.1 ≤ 2 * a.value → 2 * a.value ≤ r.2.1 → s.holder 0x0105 0 = none → HasRoom s →
        (2 * a.value ≤ s.tdpNow ∨ s.dangerOk a.from_ = true → installed (.tdp a) 0x0105 0 (2 * a.value))
        ∧ (s.tdpNow < 2 * a.value → s.dangerOk a.from_ = false → exec (.tdp a) s = .next { s with out := [.mgmt au 0x03 0 []] }))
    ∧ (a.object < 4 → a.value ≤ 100 → s.stw.curveDuty ≤ a.value → s.fanHolder a.object = none → HasRoom s →
        installed (.fan a) 0x0106 a.object a.value)
    ∧ (∀ o, a.object = 0x0109 → a.value = 0 → s.holder 0x0109 0 = some o → au ≤ o.auth → HasRoom s → ∃ t, exec (.release a) s = .next t
        ∧ replied t 0 0 ∧ OneEntry s t (jObj 9 0x0109) o.auth 0 ∧ t.stw.overrides = mdel s.stw.overrides (0x0109 * 256))
    ∧ (∀ o, s.holder 0x0109 0 = some o → ∃ t, exec (.overrideExpiry 0x0109 0) s = .next t
        ∧ t.stw.overrides = mdel s.stw.overrides (0x0109 * 256) ∧ s.lea.head < t.lea.head)
    ∧ (∀ e rest, s.stw.dangers = e :: rest → ∃ t, exec .dangerAfterReading s = .next t ∧ t.stw.dangers = rest ∧ s.lea.head < t.lea.head)
    ∧ (a.value = 2 → s.pwr.state = 0 → s.pwr.level ≠ 3 → s.pwr.forced = false → s.holder 0x0103 0 = none → s.pins.pwrEn = true → HasRoom s →
        ∃ t, exec (.power a) s = .next t ∧ replied t 0 0 ∧ t.pwr.state = 1 ∧ (t.holder 0x0103 0).map (·.auth) = some au)

/-- R369: sessions and STATUS. LOGIN opens the console's session when an operator key has signed the nonce; LOGOUT and 15 minutes without
a command close it; without it the console's commands but STATUS are refused; STATUS answers the tier, the power state, the level, the
power, the sites and the units, but in RECOVERY (17 R390). -/
def Obligations.SessionsOpenTheConsole : Prop :=
  ∀ (s : State) (key r v : Nat) (a : MgmtArgs),
    let f := fresh s
    let n := Config.free s.freeCount % 2 ^ 256
    let ok := s.operatorKey key = true ∧ Crypto.verify key (Crypto.sha384 (beBytes 32 n ++ beBytes 8 s.nv.otp.serial)) r v = true
    let drawn := { f with freeCount := s.freeCount + 1, stw := { s.stw with nonce := s.stw.nonce + 1 } }
    (s.boot.state ≠ 7 → exec (.login key r v) s = .next (if ok
        then { drawn with stw := { drawn.stw with session := true, sessionKey := key }, out := [.mgmt 3 0 0 [n]] }
        else { drawn with out := [.mgmt 3 0x03 0 [n]] }))
    ∧ exec .logout s = .next { f with stw := { s.stw with session := false, sessionKey := 0 } }
    ∧ exec .sessionTimeout s = .next { f with stw := { s.stw with session := false, sessionKey := 0 } }
    ∧ (a.from_ = .console → s.stw.session = false → ∀ cmd, cmd ∈ [Instr.unit a, Instr.power a, Instr.pin a, Instr.tdp a, Instr.fan a,
        Instr.release a, Instr.warplock a] → exec cmd s = .next { s with out := [.mgmt 3 0x03 0 []] })
    ∧ (s.boot.state = 7 → ∀ from_, exec (.status from_) s = .next { s with out := [.mgmt (authCode from_) 0x03 0 []] })
    ∧ (s.boot.state ≠ 7 → ∀ from_, ∃ d, exec (.status from_) s = .next { s with out := [.mgmt (authCode from_) 0 0 d] }
        ∧ d.take 4 = [s.tier, s.pwr.state, s.pwr.level, s.power1s] ∧ d.length = 4 + 16 + 192
        ∧ ∀ i, i < 192 → d.getD (20 + i) 0 = (s.unitSt i).state)

/-- R361 to R367, 18 R416: a peer of the tray. A frame with a bad CRC is counted and dropped; one from its own address isolates the chip;
a repeated one is acknowledged again and not acted on; POLL and DISCOVER of the master are answered with the identity; a POLL of a later
EPOCH and the loss of the master end the jobs that are staged here; a STATUS of the master is answered with its data; a relay frame of an
old EPOCH is counted, one for a hank without a record here is refused, and data for a job that is staged are staged. -/
def Obligations.PeersAnswerTheirMaster : Prop :=
  ∀ (s : State) (h : Ebvar) (e : Nat), s.stw.role = 0 → s.boot.state ≠ 7 →
    let f := fresh s
    let l := s.link 0
    let mine := h.crcOk = true ∧ h.src = 0 ∧ h.dst = s.stw.trayAddr ∧ 0 < s.stw.trayAddr ∧ s.stw.trayAddr < 16
    let l1 := { l with unacked := match l.unacked with
      | some w => if w.seq = h.ack then none else some w
      | none => none }
    let me := s.stw.trayAddr
    let heard := f.setLink 0 { l1 with rxSeq := some h.seq }
    let sends := fun (t : State) (ty : Nat) (p : List Nat) => (t.setLink 0 { l1 with
      rxSeq := some h.seq, txSeq := (l.txSeq + 1) % 256
      unacked := some { type := ty, seq := l.txSeq, payload := p } }).emit (.ebvar 0 me ty l.txSeq h.seq p)
    let self_ := [deviceId s.variant, b2n s.woven, s.wrp.serial, s.img.ownerKey]
    (h.crcOk = false → exec (.poll h e) s = .next { f with stw := { s.stw with crc := min (s.stw.crc + 1) (2 ^ 32 - 1) } })
    ∧ (h.crcOk = true → h.src = s.stw.trayAddr → ∃ t, exec (.poll h e) s = .next t ∧ t.stw.role = 2 ∧ t.stw.addrConflict = true
        ∧ s.lea.head < t.lea.head)
    ∧ (mine → l.rxSeq = some h.seq → ∃ t, exec (.poll h e) s = .next t ∧ t.stw.peers = s.stw.peers ∧ t.stw.stages = s.stw.stages
        ∧ (l1.unacked = none → t.out = [.ebvar 0 me 2 ((l.txSeq + 255) % 256) h.seq []])
        ∧ (∀ w, l1.unacked = some w → w.left ≠ 0 → t.out = [.ebvar 0 me w.type w.seq h.seq w.payload]
            ∧ (t.link 0).unacked = some { w with left := w.left - 1 }))
    ∧ (mine → l.rxSeq ≠ some h.seq → exec (.poll h e) s = .next
        (((heard.setPeerRec 0 { s.peer 0 with epoch := e }).dropStages (fun x => decide (x.epoch < e))).sendFrame 0 2 self_))
    ∧ (mine → l.rxSeq ≠ some h.seq → exec (.discover h) s = .next (sends f 4 self_))
    ∧ (mine → l.rxSeq ≠ some h.seq → ∀ object value dur origin data,
        exec (.mgmt h 0x0101 object value dur origin data) s = .next
          ((({ heard with out := [.mgmt 4 0 0 s.statusData] } : State)).sendFrame 0 6 ([0x0101, 0, 0] ++ s.statusData)))
    ∧ exec .masterLost s = .next (({ f with stw := { s.stw with masterLost := true } } : State).dropStages (fun _ => true))
    ∧ exec .frameAbort s = .next f
    ∧ (∀ r : RelayFrame, r.hdr = h → mine → l.rxSeq ≠ some h.seq → r.epoch < (s.peer 0).epoch → exec (.relay r) s = .next
        { heard with stw := { heard.stw with staleRelay := min (s.stw.staleRelay + 1) (2 ^ 32 - 1) } })
    ∧ (∀ r : RelayFrame, r.hdr = h → mine → l.rxSeq ≠ some h.seq → (s.peer 0).epoch ≤ r.epoch →
        s.stw.stages.find? (fun x => x.job == r.job && x.epoch == r.epoch) = none → hankRec? s.img r.hank r.remotePly = none →
        exec (.relay r) s = .next (sends f 8 [r.epoch, r.job, 5, 4, 0]))
    ∧ (∀ (r : RelayFrame) (x : RelayStage), r.hdr = h → mine → l.rxSeq ≠ some h.seq → (s.peer 0).epoch ≤ r.epoch →
        s.stw.stages.find? (fun x => x.job == r.job && x.epoch == r.epoch) = some x → x.ended = 0 → x.data = [] → r.put = true →
        (∀ j, s.job? x.own = some j → j.phase = .running) → r.data ≠ [] → r.commit = false →
          exec (.relay r) s = .next (sends { f with stw := { s.stw with
          stages := s.stw.stages.filter (fun y => !(y.job == x.job && y.epoch == x.epoch))
            ++ [{ x with base := r.addr, data := overlay [] 0 r.data }] } } 8 [r.epoch, r.job, 0, 0, 0]))

/-- R363 to R366, R368, 16 R379, 18 R414, R415: the master of the tray. A poll cycle polls every peer that is JOINING, PRESENT or in
MISMATCH, a discovery round those that are ABSENT or LOST; answers make a peer JOINING or PRESENT, with a new EPOCH as it becomes PRESENT;
too many misses lose it; a relay job that its peer has delivered is served, and one whose peer is not usable ends at once. -/
def Obligations.MasterTracksItsPeers : Prop :=
  ∀ (s : State) (a : Nat) (h : Ebvar) (id : PeerId), s.stw.role = 1 → s.boot.state ≠ 7 → 0 < a → a < 16 →
    let f := fresh s
    let p := s.peer a
    let l := s.link a
    let fromA := h.crcOk = true ∧ h.src = a ∧ s.stw.trayAddr = 0 ∧ h.dst = 0 ∧ l.rxSeq ≠ some h.seq
    (∃ t, exec .pollCycle s = .next t ∧ t.out.length = ((List.range 16).filter (fun b => b != 0 && decide (1 ≤ (s.peer b).state
      ∧ (s.peer b).state ≤ 3))).length
        ∧ (1 ≤ p.state → p.state ≤ 3 → l.unacked = none →
            Out.ebvar a s.stw.trayAddr 1 l.txSeq (l.rxSeq.getD 0) [p.epoch] ∈ t.out
            ∧ (t.link a).unacked = some { type := 1, seq := l.txSeq, payload := [p.epoch] })
        ∧ (∀ w, 1 ≤ p.state → p.state ≤ 3 → l.unacked = some w → w.left ≠ 0 →
            Out.ebvar a s.stw.trayAddr w.type w.seq (l.rxSeq.getD 0) w.payload ∈ t.out
            ∧ (t.link a).unacked = some { w with left := w.left - 1 }))
    ∧ (s.woven = false → p.state = 0 ∨ p.state = 4 → ∃ t, exec .discoverRound s = .next t
        ∧ Out.ebvar a s.stw.trayAddr 3 l.txSeq (l.rxSeq.getD 0) [] ∈ t.out)
    ∧ (p.state ≠ 0 → p.state ≠ 4 → min 15 (p.misses + 1) < s.stw.miss → exec (.pollMissed a) s = .next
        (f.setPeerRec a { p with misses := min 15 (p.misses + 1) }))
    ∧ (p.state = 1 → s.stw.miss ≤ min 15 (p.misses + 1) → s.jobs = [] → ∃ t, exec (.pollMissed a) s = .next t ∧ (t.peer a).state = 4
        ∧ s.lea.head < t.lea.head)
    ∧ (fromA → s.woven = false → p.state ≠ 2 → id.woven = true → ∀ cmd, cmd ∈ [Instr.reply h id, Instr.announce h id] →
        ∃ t, exec cmd s = .next t ∧ (t.peer a).state = 2 ∧ (t.peer a).epoch = (p.epoch + 1) % 2 ^ 32
          ∧ (t.peer a).misses = 0 ∧ (t.peer a).deviceId = id.deviceId ∧ s.lea.head < t.lea.head)
    ∧ (fromA → ∀ op st d, ∃ t, exec (.mgmtRpl h op st d) s = .next t ∧ t.out = [.mgmt 4 st 0 ([a, op] ++ d.map (·.toNat))]
        ∧ t.stw.peers = s.stw.peers)
    ∧ (∀ r : RelayAckFrame, ∀ run j, r.hdr = h → fromA → p.epoch ≤ r.epoch → s.job? r.job = some j → j.id = r.job → r.status = 0 →
        r.delivered = true →
        s.stw.relays.find? (fun x => x.job == r.job && x.peer == a) = some run → run.committed = true → run.job = r.job →
        ∃ t u : State, exec (.relayAck r) s = .next t ∧ t = u.serve j.id ∧ u.stw.relays = s.stw.relays.filter (fun x => x.job != r.job)
          ∧ u.jobs = s.jobs)
    ∧ (∀ j, s.job? j.id = some j → j.kind = 5 → j.phase = .admitted → (∀ x ∈ s.stw.stages, x.own = j.id → x.waiting = []) →
        s.relayUsable j.ply j.unit = false →
        exec (.relayJobStart j.id) s = .next (f.complete j.id .unavailable 2))
    ∧ (∀ j d u t, s.job? j.id = some j → j.kind = 5 → j.phase = .admitted → (∀ x ∈ s.stw.stages, x.own = j.id → x.waiting = []) →
        s.relayUsable j.ply j.unit = true → j.desc % 64 = 0 →
        f.engRead j.hank 159 j.desc 64 = (.ok, u, d, t) → relayDescOk d = true →
        ∃ v, exec (.relayJobStart j.id) s = .next v ∧ v = ((fun w : State => w.relayNext j { job := j.id, peer := j.unit, desc := d })
          (({ t with stw := { t.stw with relays := t.stw.relays ++ [{ job := j.id, peer := j.unit, desc := d }] } } : State).updJob j.id
            (fun k => { k with phase := .running }))))

/-- R393 to R395: slots and trials. STAGE erases the other slot and stages the image it read; the end of programming makes it VALID, or
BAD; ACTIVATE puts a VALID slot on trial; COMMIT and a passed test make it ACTIVE and raise the anti-rollback counter; REVERT and a failed
test go back to the other slot. A command while another runs is BUSY. R384, R385: owner keys. A certificate of the root key enrols the key
in the lowest free slot; a statement of the root key or of another owner revokes a slot, but never the last one; both from the console
only, with one entry. -/
def Obligations.SlotsTrialsAndOwnersChange : Prop :=
  (∀ (s : State) (from_ : Authority) (p : Nat), s.noSession from_ = false → 2 ≤ p → p ≤ 5 → p ≤ s.nv.otp.arb.length →
      let d := s.dirEntry p
      let o := !d.active
      let q := fresh s
      let done := fun (t : State) (code : Nat) => t.boot.result.done = true ∧ t.boot.result.code = code ∧ t.boot.result.busy = false
        ∧ t.boot.result.seq = (s.boot.result.seq + 1) % 256 ∧ Out.mgmt (authCode from_) code 0 [] ∈ t.out
      let asked := s.bootBusy = false ∧ HasRoom s
      (∀ cmd, cmd ∈ [Instr.stage from_ p, Instr.activate from_ p, Instr.commit from_ p, Instr.revert from_ p] → s.bootBusy = true →
          ∃ t, exec cmd s = .next t ∧ t.boot.result.code = 1 ∧ t.boot.result.done = true ∧ t.boot.dir = s.boot.dir ∧ t.nv = s.nv)
      ∧ (∀ a b s1, asked → s.boot.len ≤ slotSize p → s.onTrial p = false → q.bootSeq.engRead 0 158 s.boot.src s.boot.len = (.ok, a, b, s1) →
          s1.boot = q.bootSeq.boot → s1.lea = s.lea → s1.nv = s.nv → s1.partCode p b = 0 →
          ∃ t, exec (.stage from_ p) s = .next t ∧ t.boot.stage = some (p, b) ∧ t.boot.result.busy = true
            ∧ (t.dirEntry p).slot o = .empty ∧ (t.dirEntry p).slot d.active = d.slot d.active)
      ∧ (∀ b ok, s.boot.stage = some (p, b) → ∃ t, exec (.stageComplete ok) s = .next t ∧ t.boot.stage = none
          ∧ mget t.nv.flash.images (2 * p + b2n o) [] = b ∧ (t.dirEntry p).slot o = (if ok then .valid else .bad)
          ∧ t.boot.result.busy = false ∧ t.boot.result.done = true ∧ t.boot.result.code = if ok then 0 else 0x37)
      ∧ (asked → s.onTrial p = false → d.slot o = .valid → s.compatible p (s.slotImage p o) = true → ∃ t, exec (.activate from_ p) s = .next t
          ∧ done t 0 ∧ (t.dirEntry p).active = o ∧ (t.dirEntry p).slot o = .trial ∧ (t.dirEntry p).slot d.active = .valid
          ∧ (t.dirEntry p).tries = if p ≤ 2 then 3 else 1)
      ∧ (asked → s.onTrial p = true → ∃ t, exec (.commit from_ p) s = .next t ∧ done t 0 ∧ (t.dirEntry p).active = d.active
          ∧ (t.dirEntry p).slot d.active = .active ∧ (t.dirEntry p).tries = 0
          ∧ t.nv.otp.arb.getD (p - 1) 0 = max (s.counter p) (imgRollback (s.activeImage p)))
      ∧ (asked → s.onTrial p = false → ∃ t, exec (.commit from_ p) s = .next t ∧ done t 0x36 ∧ t.nv = s.nv)
      ∧ (asked → d.slot o = .valid → ∃ t, exec (.revert from_ p) s = .next t ∧ done t 0 ∧ (t.dirEntry p).active = o
          ∧ (t.dirEntry p).slot o = .active ∧ (t.dirEntry p).slot d.active = .valid)
      ∧ (s.onTrial p = true → ∃ t, exec (.trialCommitTest p true) s = .next t ∧ (t.dirEntry p).slot d.active = .active
          ∧ t.nv.otp.arb.getD (p - 1) 0 = max (s.counter p) (imgRollback (s.activeImage p)) ∧ s.lea.head < t.lea.head)
      ∧ (s.onTrial p = true → d.tries ≤ 1 → ∃ t, exec (.trialCommitTest p false) s = .next t ∧ (t.dirEntry p).active = o
          ∧ (t.dirEntry p).slot o = .active ∧ (t.dirEntry p).slot d.active = .bad ∧ s.lea.head < t.lea.head)
      ∧ (s.onTrial p = true → 1 < d.tries → ∃ t, exec (.trialCommitTest p false) s = .next t ∧ (t.dirEntry p).tries = d.tries - 1))
  ∧ (∀ (s : State) (key serial r v slot id signer : Nat), s.stw.session = true → s.bootBusy = false → HasRoom s → s.nv.otp.owners.length = 4 →
      let o := s.nv.otp.owners.getD slot {}
      let done := fun (t : State) (code : Nat) => t.boot.result.done = true ∧ t.boot.result.code = code ∧ Out.mgmt 3 code 0 [] ∈ t.out
      let signed := fun (k : Nat) (b : List Byte) => Crypto.verify k (Crypto.sha384 (b ++ beBytes 8 serial)) r v = true
      (∀ i, serial = s.nv.otp.serial → signed s.nv.otp.rootKey (beBytes 96 key) → i < 4 → (s.nv.otp.owners.getD i {}).enrolled = false →
        (∀ j, j < i → (s.nv.otp.owners.getD j {}).enrolled = true) → ∃ t, exec (.enrollOwner .console key serial r v) s = .next t ∧ done t 0
          ∧ t.nv.otp.owners = s.nv.otp.owners.set i { key := key, enrolled := true, revoked := false } ∧ OneEntry s t (jObj 10 (16 + i)) 0 1)
      ∧ (¬signed s.nv.otp.rootKey (beBytes 96 key) → ∃ t, exec (.enrollOwner .console key serial r v) s = .next t ∧ done t 0x21 ∧ t.nv = s.nv)
      ∧ (slot < 4 → o.enrolled = true → o.revoked = false → id = Crypto.keyId o.key → serial = s.nv.otp.serial →
          s.mayRevoke slot signer = true →
        signed signer (leBytes 8 id) → (∃ k, k < 4 ∧ k ≠ slot ∧ (s.nv.otp.owners.getD k {}).enrolled = true
          ∧ (s.nv.otp.owners.getD k {}).revoked = false) →
        ∃ t, exec (.revokeOwner .console slot id serial signer r v) s = .next t ∧ done t 0
          ∧ t.nv.otp.owners = s.nv.otp.owners.set slot { o with revoked := true } ∧ OneEntry s t (jObj 10 (16 + slot)) 1 2)
      ∧ (∀ from_, from_ ≠ .console → exec (.enrollOwner from_ key serial r v) s = .next { s with out := [.mgmt (authCode from_) 3 0 []] }
          ∧ exec (.revokeOwner from_ slot id serial signer r v) s = .next { s with out := [.mgmt (authCode from_) 3 0 []] }))

/-- R401 to R406: the unit state table. A report makes an ONLINE unit SUSPECT, and a serious cause drains it; without reports it is ONLINE
again; a DRAINING unit that is idle, or whose limit has run out, moves to its target; UNIT drains to OFFLINE; a self-test that passes puts
the unit ONLINE and one that fails leaves it QUARANTINED, but a DRAM interface that training left out stays OFFLINE. -/
def Obligations.UnitsAreReportedDrainedAndReturned : Prop :=
  ∀ (s : State) (i : Nat), i < 192 → unitPresent s.variant i = true → fixedUnit i = false → s.stw.reports = [] →
    let u := s.unitSt i
    let st := fun (t : State) => (t.unitSt i).state
    (∀ c, c < 4 → u.state = 1 → u.reports = [] → 2 ≤ s.stw.reportLimit → ∃ t, exec (.faultReport i c) s = .next t ∧ st t = 2
        ∧ (t.unitSt i).latch = true ∧ (t.unitSt i).lastCause = c ∧ (t.unitSt i).faults = min (u.faults + 1) (2 ^ 16 - 1)
            ∧ s.lea.head < t.lea.head)
    ∧ (u.state = 1 ∨ u.state = 2 → ∃ t, exec (.unitNoResponse i) s = .next t ∧ st t = 3 ∧ (t.unitSt i).lastCause = 6)
    ∧ (u.state = 2 → ∃ t, exec (.suspectClear i) s = .next t ∧ st t = 1 ∧ (t.unitSt i).latch = false ∧ s.lea.head < t.lea.head)
    ∧ (u.state = 3 → s.unitIdle i = true → ∃ t, exec (.unitDrained i) s = .next t ∧ st t = u.target)
    ∧ (u.state = 3 → s.unitIdle i = false → exec (.unitDrained i) s = .next (fresh s))
    ∧ (u.state = 3 → s.jobsOn i true = [] → ∃ t, exec (.drainLimitExpiry i) s = .next t ∧ st t = u.target)
    ∧ (∀ a : MgmtArgs, s.mayManage a.from_ = true → a.object = i → a.value = 2 → a.durationS ≤ 86400 → u.state = 1 → u.testing = none →
        u.policyHold = none → s.holder 0x0102 i = none → HasRoom s → ∃ t, exec (.unit a) s = .next t ∧ st t = 3 ∧ (t.unitSt i).target = 5
          ∧ Out.mgmt (authCode a.from_) 0 0 [] ∈ t.out)
    ∧ (∀ au ok, u.testing = some au → s.leftOut i = true → ∃ t, exec (.selftestDone i ok) s = .next t ∧ st t = 5 ∧ (t.unitSt i).testing = none)
    ∧ (∀ au, u.testing = some au → s.leftOut i = false → ∃ t, exec (.selftestDone i true) s = .next t ∧ st t = 1
        ∧ (t.unitSt i).testing = none ∧ (t.unitSt i).latch = false)
    ∧ (∀ au, u.testing = some au → s.leftOut i = false → ∃ t, exec (.selftestDone i false) s = .next t ∧ st t = 4 ∧ (t.unitSt i).testing = none
        ∧ (t.unitSt i).lastCause = 8 ∧ (t.unitSt i).faults = min (u.faults + 1) (2 ^ 16 - 1))

/-- The invariant of memory: after every step from a state whose memory is in canonical form, its memory is in canonical form. -/
def Obligations.EveryStepKeepsMemoryCanonical : Prop :=
  ∀ (s t : State), Memory.wf s.mem = true → step s = .next t → Memory.wf t.mem = true
end

