-- ==== Sys2Proof/Laws/Tables.lean ====
section
/-! SUPPORT. Sparse tables: a read after a write, and a write after a write. -/

namespace Sys2Proof

@[simp] theorem mget?_mset {α : Type} (m : NMap α) (k : Nat) (x : α) : mget? (mset m k x) k = some x := by
  induction m with
  | nil => simp [mset, mget?]
  | cons p m ih =>
    obtain ⟨j, y⟩ := p
    unfold mset
    split
    · simp [mget?]
    · split <;> simp [mget?, *]

@[simp] theorem mget_mset {α : Type} (m : NMap α) (k : Nat) (x d : α) : mget (mset m k x) k d = x := by
  simp [mget]

theorem mget?_mset_ne {α : Type} (m : NMap α) (k j : Nat) (x : α) (h : j ≠ k) : mget? (mset m k x) j = mget? m j := by
  induction m with
  | nil => simp [mset, mget?]; omega
  | cons p m ih =>
    obtain ⟨i, y⟩ := p
    unfold mset
    split
    · subst i; simp only [mget?, if_neg (Ne.symm h)]
    · split
      · simp only [mget?, if_neg (Ne.symm h)]; split <;> [skip; rfl]; split <;> [omega; (split <;> [rfl; omega])]
      · simp [mget?, *]

theorem mget_mset_ne {α : Type} (m : NMap α) (k j : Nat) (x d : α) (h : j ≠ k) : mget (mset m k x) j d = mget m j d := by
  simp [mget, mget?_mset_ne m k j x h]

@[simp] theorem mset_mset {α : Type} (m : NMap α) (k : Nat) (x y : α) : mset (mset m k x) k y = mset m k y := by
  induction m with
  | nil => simp [mset]
  | cons p m ih =>
    obtain ⟨i, z⟩ := p
    simp only [mset]
    split
    · simp [mset]
    · split <;> simp [mset, *]

end Sys2Proof
end

