-- ==== Sys2Proof/Laws/State.lean ====
section
/-! SUPPORT. What the updates of State leave unchanged, field by field, and what they write. -/

namespace Sys2Proof.Machine

/-! ### setPly -/

@[simp] theorem State.setPly_nv (s : State) (p : Nat) (x : Ply) : (s.setPly p x).nv = s.nv := rfl
@[simp] theorem State.setPly_pins (s : State) (p : Nat) (x : Ply) : (s.setPly p x).pins = s.pins := rfl
@[simp] theorem State.setPly_tier (s : State) (p : Nat) (x : Ply) : (s.setPly p x).tier = s.tier := rfl
@[simp] theorem State.setPly_tierChanges (s : State) (p : Nat) (x : Ply) : (s.setPly p x).tierChanges = s.tierChanges := rfl
@[simp] theorem State.setPly_peak (s : State) (p : Nat) (x : Ply) : (s.setPly p x).peak = s.peak := rfl
@[simp] theorem State.setPly_jobReserve (s : State) (p : Nat) (x : Ply) : (s.setPly p x).jobReserve = s.jobReserve := rfl
@[simp] theorem State.setPly_wrp (s : State) (p : Nat) (x : Ply) : (s.setPly p x).wrp = s.wrp := rfl
@[simp] theorem State.setPly_tck (s : State) (p : Nat) (x : Ply) : (s.setPly p x).tck = s.tck := rfl
@[simp] theorem State.setPly_hanks (s : State) (p : Nat) (x : Ply) : (s.setPly p x).hanks = s.hanks := rfl
@[simp] theorem State.setPly_hnkHsel (s : State) (p : Nat) (x : Ply) : (s.setPly p x).hnkHsel = s.hnkHsel := rfl
@[simp] theorem State.setPly_slots (s : State) (p : Nat) (x : Ply) : (s.setPly p x).slots = s.slots := rfl
@[simp] theorem State.setPly_grants (s : State) (p : Nat) (x : Ply) : (s.setPly p x).grants = s.grants := rfl
@[simp] theorem State.setPly_pools (s : State) (p : Nat) (x : Ply) : (s.setPly p x).pools = s.pools := rfl
@[simp] theorem State.setPly_written (s : State) (p : Nat) (x : Ply) : (s.setPly p x).written = s.written := rfl
@[simp] theorem State.setPly_lostOwner (s : State) (p : Nat) (x : Ply) : (s.setPly p x).lostOwner = s.lostOwner := rfl
@[simp] theorem State.setPly_mem (s : State) (p : Nat) (x : Ply) : (s.setPly p x).mem = s.mem := rfl
@[simp] theorem State.setPly_fab (s : State) (p : Nat) (x : Ply) : (s.setPly p x).fab = s.fab := rfl
@[simp] theorem State.setPly_dram (s : State) (p : Nat) (x : Ply) : (s.setPly p x).dram = s.dram := rfl
@[simp] theorem State.setPly_routes (s : State) (p : Nat) (x : Ply) : (s.setPly p x).routes = s.routes := rfl
@[simp] theorem State.setPly_streams (s : State) (p : Nat) (x : Ply) : (s.setPly p x).streams = s.streams := rfl
@[simp] theorem State.setPly_cores (s : State) (p : Nat) (x : Ply) : (s.setPly p x).cores = s.cores := rfl
@[simp] theorem State.setPly_tiles (s : State) (p : Nat) (x : Ply) : (s.setPly p x).tiles = s.tiles := rfl
@[simp] theorem State.setPly_arrays (s : State) (p : Nat) (x : Ply) : (s.setPly p x).arrays = s.arrays := rfl
@[simp] theorem State.setPly_qnt (s : State) (p : Nat) (x : Ply) : (s.setPly p x).qnt = s.qnt := rfl
@[simp] theorem State.setPly_crd (s : State) (p : Nat) (x : Ply) : (s.setPly p x).crd = s.crd := rfl
@[simp] theorem State.setPly_tok (s : State) (p : Nat) (x : Ply) : (s.setPly p x).tok = s.tok := rfl
@[simp] theorem State.setPly_chans (s : State) (p : Nat) (x : Ply) : (s.setPly p x).chans = s.chans := rfl
@[simp] theorem State.setPly_evt (s : State) (p : Nat) (x : Ply) : (s.setPly p x).evt = s.evt := rfl
@[simp] theorem State.setPly_pci (s : State) (p : Nat) (x : Ply) : (s.setPly p x).pci = s.pci := rfl
@[simp] theorem State.setPly_eth (s : State) (p : Nat) (x : Ply) : (s.setPly p x).eth = s.eth := rfl
@[simp] theorem State.setPly_aud (s : State) (p : Nat) (x : Ply) : (s.setPly p x).aud = s.aud := rfl
@[simp] theorem State.setPly_pwr (s : State) (p : Nat) (x : Ply) : (s.setPly p x).pwr = s.pwr := rfl
@[simp] theorem State.setPly_stw (s : State) (p : Nat) (x : Ply) : (s.setPly p x).stw = s.stw := rfl
@[simp] theorem State.setPly_lea (s : State) (p : Nat) (x : Ply) : (s.setPly p x).lea = s.lea := rfl
@[simp] theorem State.setPly_boot (s : State) (p : Nat) (x : Ply) : (s.setPly p x).boot = s.boot := rfl
@[simp] theorem State.setPly_latches (s : State) (p : Nat) (x : Ply) : (s.setPly p x).latches = s.latches := rfl
@[simp] theorem State.setPly_freeCount (s : State) (p : Nat) (x : Ply) : (s.setPly p x).freeCount = s.freeCount := rfl
@[simp] theorem State.setPly_out (s : State) (p : Nat) (x : Ply) : (s.setPly p x).out = s.out := rfl
@[simp] theorem State.setPly_pending (s : State) (p : Nat) (x : Ply) : (s.setPly p x).pending = s.pending := rfl

/-! ### setHank -/

@[simp] theorem State.setHank_nv (s : State) (h : Nat) (x : Hank) : (s.setHank h x).nv = s.nv := rfl
@[simp] theorem State.setHank_pins (s : State) (h : Nat) (x : Hank) : (s.setHank h x).pins = s.pins := rfl
@[simp] theorem State.setHank_tier (s : State) (h : Nat) (x : Hank) : (s.setHank h x).tier = s.tier := rfl
@[simp] theorem State.setHank_tierChanges (s : State) (h : Nat) (x : Hank) : (s.setHank h x).tierChanges = s.tierChanges := rfl
@[simp] theorem State.setHank_peak (s : State) (h : Nat) (x : Hank) : (s.setHank h x).peak = s.peak := rfl
@[simp] theorem State.setHank_jobReserve (s : State) (h : Nat) (x : Hank) : (s.setHank h x).jobReserve = s.jobReserve := rfl
@[simp] theorem State.setHank_wrp (s : State) (h : Nat) (x : Hank) : (s.setHank h x).wrp = s.wrp := rfl
@[simp] theorem State.setHank_tck (s : State) (h : Nat) (x : Hank) : (s.setHank h x).tck = s.tck := rfl
@[simp] theorem State.setHank_plies (s : State) (h : Nat) (x : Hank) : (s.setHank h x).plies = s.plies := rfl
@[simp] theorem State.setHank_hnkHsel (s : State) (h : Nat) (x : Hank) : (s.setHank h x).hnkHsel = s.hnkHsel := rfl
@[simp] theorem State.setHank_slots (s : State) (h : Nat) (x : Hank) : (s.setHank h x).slots = s.slots := rfl
@[simp] theorem State.setHank_grants (s : State) (h : Nat) (x : Hank) : (s.setHank h x).grants = s.grants := rfl
@[simp] theorem State.setHank_pools (s : State) (h : Nat) (x : Hank) : (s.setHank h x).pools = s.pools := rfl
@[simp] theorem State.setHank_written (s : State) (h : Nat) (x : Hank) : (s.setHank h x).written = s.written := rfl
@[simp] theorem State.setHank_lostOwner (s : State) (h : Nat) (x : Hank) : (s.setHank h x).lostOwner = s.lostOwner := rfl
@[simp] theorem State.setHank_mem (s : State) (h : Nat) (x : Hank) : (s.setHank h x).mem = s.mem := rfl
@[simp] theorem State.setHank_fab (s : State) (h : Nat) (x : Hank) : (s.setHank h x).fab = s.fab := rfl
@[simp] theorem State.setHank_dram (s : State) (h : Nat) (x : Hank) : (s.setHank h x).dram = s.dram := rfl
@[simp] theorem State.setHank_routes (s : State) (h : Nat) (x : Hank) : (s.setHank h x).routes = s.routes := rfl
@[simp] theorem State.setHank_streams (s : State) (h : Nat) (x : Hank) : (s.setHank h x).streams = s.streams := rfl
@[simp] theorem State.setHank_cores (s : State) (h : Nat) (x : Hank) : (s.setHank h x).cores = s.cores := rfl
@[simp] theorem State.setHank_tiles (s : State) (h : Nat) (x : Hank) : (s.setHank h x).tiles = s.tiles := rfl
@[simp] theorem State.setHank_arrays (s : State) (h : Nat) (x : Hank) : (s.setHank h x).arrays = s.arrays := rfl
@[simp] theorem State.setHank_qnt (s : State) (h : Nat) (x : Hank) : (s.setHank h x).qnt = s.qnt := rfl
@[simp] theorem State.setHank_crd (s : State) (h : Nat) (x : Hank) : (s.setHank h x).crd = s.crd := rfl
@[simp] theorem State.setHank_tok (s : State) (h : Nat) (x : Hank) : (s.setHank h x).tok = s.tok := rfl
@[simp] theorem State.setHank_chans (s : State) (h : Nat) (x : Hank) : (s.setHank h x).chans = s.chans := rfl
@[simp] theorem State.setHank_evt (s : State) (h : Nat) (x : Hank) : (s.setHank h x).evt = s.evt := rfl
@[simp] theorem State.setHank_pci (s : State) (h : Nat) (x : Hank) : (s.setHank h x).pci = s.pci := rfl
@[simp] theorem State.setHank_eth (s : State) (h : Nat) (x : Hank) : (s.setHank h x).eth = s.eth := rfl
@[simp] theorem State.setHank_aud (s : State) (h : Nat) (x : Hank) : (s.setHank h x).aud = s.aud := rfl
@[simp] theorem State.setHank_pwr (s : State) (h : Nat) (x : Hank) : (s.setHank h x).pwr = s.pwr := rfl
@[simp] theorem State.setHank_stw (s : State) (h : Nat) (x : Hank) : (s.setHank h x).stw = s.stw := rfl
@[simp] theorem State.setHank_lea (s : State) (h : Nat) (x : Hank) : (s.setHank h x).lea = s.lea := rfl
@[simp] theorem State.setHank_boot (s : State) (h : Nat) (x : Hank) : (s.setHank h x).boot = s.boot := rfl
@[simp] theorem State.setHank_latches (s : State) (h : Nat) (x : Hank) : (s.setHank h x).latches = s.latches := rfl
@[simp] theorem State.setHank_freeCount (s : State) (h : Nat) (x : Hank) : (s.setHank h x).freeCount = s.freeCount := rfl
@[simp] theorem State.setHank_out (s : State) (h : Nat) (x : Hank) : (s.setHank h x).out = s.out := rfl
@[simp] theorem State.setHank_pending (s : State) (h : Nat) (x : Hank) : (s.setHank h x).pending = s.pending := rfl

/-! ### setCore -/

@[simp] theorem State.setCore_nv (s : State) (c : Nat) (x : Core) : (s.setCore c x).nv = s.nv := rfl
@[simp] theorem State.setCore_pins (s : State) (c : Nat) (x : Core) : (s.setCore c x).pins = s.pins := rfl
@[simp] theorem State.setCore_tier (s : State) (c : Nat) (x : Core) : (s.setCore c x).tier = s.tier := rfl
@[simp] theorem State.setCore_tierChanges (s : State) (c : Nat) (x : Core) : (s.setCore c x).tierChanges = s.tierChanges := rfl
@[simp] theorem State.setCore_peak (s : State) (c : Nat) (x : Core) : (s.setCore c x).peak = s.peak := rfl
@[simp] theorem State.setCore_jobReserve (s : State) (c : Nat) (x : Core) : (s.setCore c x).jobReserve = s.jobReserve := rfl
@[simp] theorem State.setCore_wrp (s : State) (c : Nat) (x : Core) : (s.setCore c x).wrp = s.wrp := rfl
@[simp] theorem State.setCore_tck (s : State) (c : Nat) (x : Core) : (s.setCore c x).tck = s.tck := rfl
@[simp] theorem State.setCore_plies (s : State) (c : Nat) (x : Core) : (s.setCore c x).plies = s.plies := rfl
@[simp] theorem State.setCore_hanks (s : State) (c : Nat) (x : Core) : (s.setCore c x).hanks = s.hanks := rfl
@[simp] theorem State.setCore_hnkHsel (s : State) (c : Nat) (x : Core) : (s.setCore c x).hnkHsel = s.hnkHsel := rfl
@[simp] theorem State.setCore_slots (s : State) (c : Nat) (x : Core) : (s.setCore c x).slots = s.slots := rfl
@[simp] theorem State.setCore_grants (s : State) (c : Nat) (x : Core) : (s.setCore c x).grants = s.grants := rfl
@[simp] theorem State.setCore_pools (s : State) (c : Nat) (x : Core) : (s.setCore c x).pools = s.pools := rfl
@[simp] theorem State.setCore_written (s : State) (c : Nat) (x : Core) : (s.setCore c x).written = s.written := rfl
@[simp] theorem State.setCore_lostOwner (s : State) (c : Nat) (x : Core) : (s.setCore c x).lostOwner = s.lostOwner := rfl
@[simp] theorem State.setCore_mem (s : State) (c : Nat) (x : Core) : (s.setCore c x).mem = s.mem := rfl
@[simp] theorem State.setCore_fab (s : State) (c : Nat) (x : Core) : (s.setCore c x).fab = s.fab := rfl
@[simp] theorem State.setCore_dram (s : State) (c : Nat) (x : Core) : (s.setCore c x).dram = s.dram := rfl
@[simp] theorem State.setCore_routes (s : State) (c : Nat) (x : Core) : (s.setCore c x).routes = s.routes := rfl
@[simp] theorem State.setCore_streams (s : State) (c : Nat) (x : Core) : (s.setCore c x).streams = s.streams := rfl
@[simp] theorem State.setCore_tiles (s : State) (c : Nat) (x : Core) : (s.setCore c x).tiles = s.tiles := rfl
@[simp] theorem State.setCore_arrays (s : State) (c : Nat) (x : Core) : (s.setCore c x).arrays = s.arrays := rfl
@[simp] theorem State.setCore_qnt (s : State) (c : Nat) (x : Core) : (s.setCore c x).qnt = s.qnt := rfl
@[simp] theorem State.setCore_crd (s : State) (c : Nat) (x : Core) : (s.setCore c x).crd = s.crd := rfl
@[simp] theorem State.setCore_tok (s : State) (c : Nat) (x : Core) : (s.setCore c x).tok = s.tok := rfl
@[simp] theorem State.setCore_chans (s : State) (c : Nat) (x : Core) : (s.setCore c x).chans = s.chans := rfl
@[simp] theorem State.setCore_evt (s : State) (c : Nat) (x : Core) : (s.setCore c x).evt = s.evt := rfl
@[simp] theorem State.setCore_pci (s : State) (c : Nat) (x : Core) : (s.setCore c x).pci = s.pci := rfl
@[simp] theorem State.setCore_eth (s : State) (c : Nat) (x : Core) : (s.setCore c x).eth = s.eth := rfl
@[simp] theorem State.setCore_aud (s : State) (c : Nat) (x : Core) : (s.setCore c x).aud = s.aud := rfl
@[simp] theorem State.setCore_pwr (s : State) (c : Nat) (x : Core) : (s.setCore c x).pwr = s.pwr := rfl
@[simp] theorem State.setCore_stw (s : State) (c : Nat) (x : Core) : (s.setCore c x).stw = s.stw := rfl
@[simp] theorem State.setCore_lea (s : State) (c : Nat) (x : Core) : (s.setCore c x).lea = s.lea := rfl
@[simp] theorem State.setCore_boot (s : State) (c : Nat) (x : Core) : (s.setCore c x).boot = s.boot := rfl
@[simp] theorem State.setCore_latches (s : State) (c : Nat) (x : Core) : (s.setCore c x).latches = s.latches := rfl
@[simp] theorem State.setCore_freeCount (s : State) (c : Nat) (x : Core) : (s.setCore c x).freeCount = s.freeCount := rfl
@[simp] theorem State.setCore_out (s : State) (c : Nat) (x : Core) : (s.setCore c x).out = s.out := rfl
@[simp] theorem State.setCore_pending (s : State) (c : Nat) (x : Core) : (s.setCore c x).pending = s.pending := rfl

/-! ### setTile -/

@[simp] theorem State.setTile_nv (s : State) (t : Nat) (x : Tile) : (s.setTile t x).nv = s.nv := rfl
@[simp] theorem State.setTile_pins (s : State) (t : Nat) (x : Tile) : (s.setTile t x).pins = s.pins := rfl
@[simp] theorem State.setTile_tier (s : State) (t : Nat) (x : Tile) : (s.setTile t x).tier = s.tier := rfl
@[simp] theorem State.setTile_tierChanges (s : State) (t : Nat) (x : Tile) : (s.setTile t x).tierChanges = s.tierChanges := rfl
@[simp] theorem State.setTile_peak (s : State) (t : Nat) (x : Tile) : (s.setTile t x).peak = s.peak := rfl
@[simp] theorem State.setTile_jobReserve (s : State) (t : Nat) (x : Tile) : (s.setTile t x).jobReserve = s.jobReserve := rfl
@[simp] theorem State.setTile_wrp (s : State) (t : Nat) (x : Tile) : (s.setTile t x).wrp = s.wrp := rfl
@[simp] theorem State.setTile_tck (s : State) (t : Nat) (x : Tile) : (s.setTile t x).tck = s.tck := rfl
@[simp] theorem State.setTile_plies (s : State) (t : Nat) (x : Tile) : (s.setTile t x).plies = s.plies := rfl
@[simp] theorem State.setTile_hanks (s : State) (t : Nat) (x : Tile) : (s.setTile t x).hanks = s.hanks := rfl
@[simp] theorem State.setTile_hnkHsel (s : State) (t : Nat) (x : Tile) : (s.setTile t x).hnkHsel = s.hnkHsel := rfl
@[simp] theorem State.setTile_slots (s : State) (t : Nat) (x : Tile) : (s.setTile t x).slots = s.slots := rfl
@[simp] theorem State.setTile_grants (s : State) (t : Nat) (x : Tile) : (s.setTile t x).grants = s.grants := rfl
@[simp] theorem State.setTile_pools (s : State) (t : Nat) (x : Tile) : (s.setTile t x).pools = s.pools := rfl
@[simp] theorem State.setTile_written (s : State) (t : Nat) (x : Tile) : (s.setTile t x).written = s.written := rfl
@[simp] theorem State.setTile_lostOwner (s : State) (t : Nat) (x : Tile) : (s.setTile t x).lostOwner = s.lostOwner := rfl
@[simp] theorem State.setTile_mem (s : State) (t : Nat) (x : Tile) : (s.setTile t x).mem = s.mem := rfl
@[simp] theorem State.setTile_fab (s : State) (t : Nat) (x : Tile) : (s.setTile t x).fab = s.fab := rfl
@[simp] theorem State.setTile_dram (s : State) (t : Nat) (x : Tile) : (s.setTile t x).dram = s.dram := rfl
@[simp] theorem State.setTile_routes (s : State) (t : Nat) (x : Tile) : (s.setTile t x).routes = s.routes := rfl
@[simp] theorem State.setTile_streams (s : State) (t : Nat) (x : Tile) : (s.setTile t x).streams = s.streams := rfl
@[simp] theorem State.setTile_cores (s : State) (t : Nat) (x : Tile) : (s.setTile t x).cores = s.cores := rfl
@[simp] theorem State.setTile_arrays (s : State) (t : Nat) (x : Tile) : (s.setTile t x).arrays = s.arrays := rfl
@[simp] theorem State.setTile_qnt (s : State) (t : Nat) (x : Tile) : (s.setTile t x).qnt = s.qnt := rfl
@[simp] theorem State.setTile_crd (s : State) (t : Nat) (x : Tile) : (s.setTile t x).crd = s.crd := rfl
@[simp] theorem State.setTile_tok (s : State) (t : Nat) (x : Tile) : (s.setTile t x).tok = s.tok := rfl
@[simp] theorem State.setTile_chans (s : State) (t : Nat) (x : Tile) : (s.setTile t x).chans = s.chans := rfl
@[simp] theorem State.setTile_evt (s : State) (t : Nat) (x : Tile) : (s.setTile t x).evt = s.evt := rfl
@[simp] theorem State.setTile_pci (s : State) (t : Nat) (x : Tile) : (s.setTile t x).pci = s.pci := rfl
@[simp] theorem State.setTile_eth (s : State) (t : Nat) (x : Tile) : (s.setTile t x).eth = s.eth := rfl
@[simp] theorem State.setTile_aud (s : State) (t : Nat) (x : Tile) : (s.setTile t x).aud = s.aud := rfl
@[simp] theorem State.setTile_pwr (s : State) (t : Nat) (x : Tile) : (s.setTile t x).pwr = s.pwr := rfl
@[simp] theorem State.setTile_stw (s : State) (t : Nat) (x : Tile) : (s.setTile t x).stw = s.stw := rfl
@[simp] theorem State.setTile_lea (s : State) (t : Nat) (x : Tile) : (s.setTile t x).lea = s.lea := rfl
@[simp] theorem State.setTile_boot (s : State) (t : Nat) (x : Tile) : (s.setTile t x).boot = s.boot := rfl
@[simp] theorem State.setTile_latches (s : State) (t : Nat) (x : Tile) : (s.setTile t x).latches = s.latches := rfl
@[simp] theorem State.setTile_freeCount (s : State) (t : Nat) (x : Tile) : (s.setTile t x).freeCount = s.freeCount := rfl
@[simp] theorem State.setTile_out (s : State) (t : Nat) (x : Tile) : (s.setTile t x).out = s.out := rfl
@[simp] theorem State.setTile_pending (s : State) (t : Nat) (x : Tile) : (s.setTile t x).pending = s.pending := rfl

/-! ### setChan -/

@[simp] theorem State.setChan_nv (s : State) (n : Nat) (x : Chan) : (s.setChan n x).nv = s.nv := rfl
@[simp] theorem State.setChan_pins (s : State) (n : Nat) (x : Chan) : (s.setChan n x).pins = s.pins := rfl
@[simp] theorem State.setChan_tier (s : State) (n : Nat) (x : Chan) : (s.setChan n x).tier = s.tier := rfl
@[simp] theorem State.setChan_tierChanges (s : State) (n : Nat) (x : Chan) : (s.setChan n x).tierChanges = s.tierChanges := rfl
@[simp] theorem State.setChan_peak (s : State) (n : Nat) (x : Chan) : (s.setChan n x).peak = s.peak := rfl
@[simp] theorem State.setChan_jobReserve (s : State) (n : Nat) (x : Chan) : (s.setChan n x).jobReserve = s.jobReserve := rfl
@[simp] theorem State.setChan_wrp (s : State) (n : Nat) (x : Chan) : (s.setChan n x).wrp = s.wrp := rfl
@[simp] theorem State.setChan_tck (s : State) (n : Nat) (x : Chan) : (s.setChan n x).tck = s.tck := rfl
@[simp] theorem State.setChan_plies (s : State) (n : Nat) (x : Chan) : (s.setChan n x).plies = s.plies := rfl
@[simp] theorem State.setChan_hanks (s : State) (n : Nat) (x : Chan) : (s.setChan n x).hanks = s.hanks := rfl
@[simp] theorem State.setChan_hnkHsel (s : State) (n : Nat) (x : Chan) : (s.setChan n x).hnkHsel = s.hnkHsel := rfl
@[simp] theorem State.setChan_slots (s : State) (n : Nat) (x : Chan) : (s.setChan n x).slots = s.slots := rfl
@[simp] theorem State.setChan_grants (s : State) (n : Nat) (x : Chan) : (s.setChan n x).grants = s.grants := rfl
@[simp] theorem State.setChan_pools (s : State) (n : Nat) (x : Chan) : (s.setChan n x).pools = s.pools := rfl
@[simp] theorem State.setChan_written (s : State) (n : Nat) (x : Chan) : (s.setChan n x).written = s.written := rfl
@[simp] theorem State.setChan_lostOwner (s : State) (n : Nat) (x : Chan) : (s.setChan n x).lostOwner = s.lostOwner := rfl
@[simp] theorem State.setChan_mem (s : State) (n : Nat) (x : Chan) : (s.setChan n x).mem = s.mem := rfl
@[simp] theorem State.setChan_fab (s : State) (n : Nat) (x : Chan) : (s.setChan n x).fab = s.fab := rfl
@[simp] theorem State.setChan_dram (s : State) (n : Nat) (x : Chan) : (s.setChan n x).dram = s.dram := rfl
@[simp] theorem State.setChan_routes (s : State) (n : Nat) (x : Chan) : (s.setChan n x).routes = s.routes := rfl
@[simp] theorem State.setChan_streams (s : State) (n : Nat) (x : Chan) : (s.setChan n x).streams = s.streams := rfl
@[simp] theorem State.setChan_cores (s : State) (n : Nat) (x : Chan) : (s.setChan n x).cores = s.cores := rfl
@[simp] theorem State.setChan_tiles (s : State) (n : Nat) (x : Chan) : (s.setChan n x).tiles = s.tiles := rfl
@[simp] theorem State.setChan_arrays (s : State) (n : Nat) (x : Chan) : (s.setChan n x).arrays = s.arrays := rfl
@[simp] theorem State.setChan_qnt (s : State) (n : Nat) (x : Chan) : (s.setChan n x).qnt = s.qnt := rfl
@[simp] theorem State.setChan_crd (s : State) (n : Nat) (x : Chan) : (s.setChan n x).crd = s.crd := rfl
@[simp] theorem State.setChan_tok (s : State) (n : Nat) (x : Chan) : (s.setChan n x).tok = s.tok := rfl
@[simp] theorem State.setChan_evt (s : State) (n : Nat) (x : Chan) : (s.setChan n x).evt = s.evt := rfl
@[simp] theorem State.setChan_pci (s : State) (n : Nat) (x : Chan) : (s.setChan n x).pci = s.pci := rfl
@[simp] theorem State.setChan_eth (s : State) (n : Nat) (x : Chan) : (s.setChan n x).eth = s.eth := rfl
@[simp] theorem State.setChan_aud (s : State) (n : Nat) (x : Chan) : (s.setChan n x).aud = s.aud := rfl
@[simp] theorem State.setChan_pwr (s : State) (n : Nat) (x : Chan) : (s.setChan n x).pwr = s.pwr := rfl
@[simp] theorem State.setChan_stw (s : State) (n : Nat) (x : Chan) : (s.setChan n x).stw = s.stw := rfl
@[simp] theorem State.setChan_lea (s : State) (n : Nat) (x : Chan) : (s.setChan n x).lea = s.lea := rfl
@[simp] theorem State.setChan_boot (s : State) (n : Nat) (x : Chan) : (s.setChan n x).boot = s.boot := rfl
@[simp] theorem State.setChan_latches (s : State) (n : Nat) (x : Chan) : (s.setChan n x).latches = s.latches := rfl
@[simp] theorem State.setChan_freeCount (s : State) (n : Nat) (x : Chan) : (s.setChan n x).freeCount = s.freeCount := rfl
@[simp] theorem State.setChan_out (s : State) (n : Nat) (x : Chan) : (s.setChan n x).out = s.out := rfl
@[simp] theorem State.setChan_pending (s : State) (n : Nat) (x : Chan) : (s.setChan n x).pending = s.pending := rfl

/-! ### setArr -/

@[simp] theorem State.setArr_nv (s : State) (a : Nat) (x : WArray) : (s.setArr a x).nv = s.nv := rfl
@[simp] theorem State.setArr_pins (s : State) (a : Nat) (x : WArray) : (s.setArr a x).pins = s.pins := rfl
@[simp] theorem State.setArr_tier (s : State) (a : Nat) (x : WArray) : (s.setArr a x).tier = s.tier := rfl
@[simp] theorem State.setArr_tierChanges (s : State) (a : Nat) (x : WArray) : (s.setArr a x).tierChanges = s.tierChanges := rfl
@[simp] theorem State.setArr_peak (s : State) (a : Nat) (x : WArray) : (s.setArr a x).peak = s.peak := rfl
@[simp] theorem State.setArr_jobReserve (s : State) (a : Nat) (x : WArray) : (s.setArr a x).jobReserve = s.jobReserve := rfl
@[simp] theorem State.setArr_wrp (s : State) (a : Nat) (x : WArray) : (s.setArr a x).wrp = s.wrp := rfl
@[simp] theorem State.setArr_tck (s : State) (a : Nat) (x : WArray) : (s.setArr a x).tck = s.tck := rfl
@[simp] theorem State.setArr_plies (s : State) (a : Nat) (x : WArray) : (s.setArr a x).plies = s.plies := rfl
@[simp] theorem State.setArr_hanks (s : State) (a : Nat) (x : WArray) : (s.setArr a x).hanks = s.hanks := rfl
@[simp] theorem State.setArr_hnkHsel (s : State) (a : Nat) (x : WArray) : (s.setArr a x).hnkHsel = s.hnkHsel := rfl
@[simp] theorem State.setArr_slots (s : State) (a : Nat) (x : WArray) : (s.setArr a x).slots = s.slots := rfl
@[simp] theorem State.setArr_grants (s : State) (a : Nat) (x : WArray) : (s.setArr a x).grants = s.grants := rfl
@[simp] theorem State.setArr_pools (s : State) (a : Nat) (x : WArray) : (s.setArr a x).pools = s.pools := rfl
@[simp] theorem State.setArr_written (s : State) (a : Nat) (x : WArray) : (s.setArr a x).written = s.written := rfl
@[simp] theorem State.setArr_lostOwner (s : State) (a : Nat) (x : WArray) : (s.setArr a x).lostOwner = s.lostOwner := rfl
@[simp] theorem State.setArr_mem (s : State) (a : Nat) (x : WArray) : (s.setArr a x).mem = s.mem := rfl
@[simp] theorem State.setArr_fab (s : State) (a : Nat) (x : WArray) : (s.setArr a x).fab = s.fab := rfl
@[simp] theorem State.setArr_dram (s : State) (a : Nat) (x : WArray) : (s.setArr a x).dram = s.dram := rfl
@[simp] theorem State.setArr_routes (s : State) (a : Nat) (x : WArray) : (s.setArr a x).routes = s.routes := rfl
@[simp] theorem State.setArr_streams (s : State) (a : Nat) (x : WArray) : (s.setArr a x).streams = s.streams := rfl
@[simp] theorem State.setArr_cores (s : State) (a : Nat) (x : WArray) : (s.setArr a x).cores = s.cores := rfl
@[simp] theorem State.setArr_tiles (s : State) (a : Nat) (x : WArray) : (s.setArr a x).tiles = s.tiles := rfl
@[simp] theorem State.setArr_qnt (s : State) (a : Nat) (x : WArray) : (s.setArr a x).qnt = s.qnt := rfl
@[simp] theorem State.setArr_crd (s : State) (a : Nat) (x : WArray) : (s.setArr a x).crd = s.crd := rfl
@[simp] theorem State.setArr_tok (s : State) (a : Nat) (x : WArray) : (s.setArr a x).tok = s.tok := rfl
@[simp] theorem State.setArr_chans (s : State) (a : Nat) (x : WArray) : (s.setArr a x).chans = s.chans := rfl
@[simp] theorem State.setArr_evt (s : State) (a : Nat) (x : WArray) : (s.setArr a x).evt = s.evt := rfl
@[simp] theorem State.setArr_pci (s : State) (a : Nat) (x : WArray) : (s.setArr a x).pci = s.pci := rfl
@[simp] theorem State.setArr_eth (s : State) (a : Nat) (x : WArray) : (s.setArr a x).eth = s.eth := rfl
@[simp] theorem State.setArr_aud (s : State) (a : Nat) (x : WArray) : (s.setArr a x).aud = s.aud := rfl
@[simp] theorem State.setArr_pwr (s : State) (a : Nat) (x : WArray) : (s.setArr a x).pwr = s.pwr := rfl
@[simp] theorem State.setArr_stw (s : State) (a : Nat) (x : WArray) : (s.setArr a x).stw = s.stw := rfl
@[simp] theorem State.setArr_lea (s : State) (a : Nat) (x : WArray) : (s.setArr a x).lea = s.lea := rfl
@[simp] theorem State.setArr_boot (s : State) (a : Nat) (x : WArray) : (s.setArr a x).boot = s.boot := rfl
@[simp] theorem State.setArr_latches (s : State) (a : Nat) (x : WArray) : (s.setArr a x).latches = s.latches := rfl
@[simp] theorem State.setArr_freeCount (s : State) (a : Nat) (x : WArray) : (s.setArr a x).freeCount = s.freeCount := rfl
@[simp] theorem State.setArr_out (s : State) (a : Nat) (x : WArray) : (s.setArr a x).out = s.out := rfl
@[simp] theorem State.setArr_pending (s : State) (a : Nat) (x : WArray) : (s.setArr a x).pending = s.pending := rfl

/-! ### setDram -/

@[simp] theorem State.setDram_nv (s : State) (i : Nat) (x : Dram) : (s.setDram i x).nv = s.nv := rfl
@[simp] theorem State.setDram_pins (s : State) (i : Nat) (x : Dram) : (s.setDram i x).pins = s.pins := rfl
@[simp] theorem State.setDram_tier (s : State) (i : Nat) (x : Dram) : (s.setDram i x).tier = s.tier := rfl
@[simp] theorem State.setDram_tierChanges (s : State) (i : Nat) (x : Dram) : (s.setDram i x).tierChanges = s.tierChanges := rfl
@[simp] theorem State.setDram_peak (s : State) (i : Nat) (x : Dram) : (s.setDram i x).peak = s.peak := rfl
@[simp] theorem State.setDram_jobReserve (s : State) (i : Nat) (x : Dram) : (s.setDram i x).jobReserve = s.jobReserve := rfl
@[simp] theorem State.setDram_wrp (s : State) (i : Nat) (x : Dram) : (s.setDram i x).wrp = s.wrp := rfl
@[simp] theorem State.setDram_tck (s : State) (i : Nat) (x : Dram) : (s.setDram i x).tck = s.tck := rfl
@[simp] theorem State.setDram_plies (s : State) (i : Nat) (x : Dram) : (s.setDram i x).plies = s.plies := rfl
@[simp] theorem State.setDram_hanks (s : State) (i : Nat) (x : Dram) : (s.setDram i x).hanks = s.hanks := rfl
@[simp] theorem State.setDram_hnkHsel (s : State) (i : Nat) (x : Dram) : (s.setDram i x).hnkHsel = s.hnkHsel := rfl
@[simp] theorem State.setDram_slots (s : State) (i : Nat) (x : Dram) : (s.setDram i x).slots = s.slots := rfl
@[simp] theorem State.setDram_grants (s : State) (i : Nat) (x : Dram) : (s.setDram i x).grants = s.grants := rfl
@[simp] theorem State.setDram_pools (s : State) (i : Nat) (x : Dram) : (s.setDram i x).pools = s.pools := rfl
@[simp] theorem State.setDram_written (s : State) (i : Nat) (x : Dram) : (s.setDram i x).written = s.written := rfl
@[simp] theorem State.setDram_lostOwner (s : State) (i : Nat) (x : Dram) : (s.setDram i x).lostOwner = s.lostOwner := rfl
@[simp] theorem State.setDram_mem (s : State) (i : Nat) (x : Dram) : (s.setDram i x).mem = s.mem := rfl
@[simp] theorem State.setDram_fab (s : State) (i : Nat) (x : Dram) : (s.setDram i x).fab = s.fab := rfl
@[simp] theorem State.setDram_routes (s : State) (i : Nat) (x : Dram) : (s.setDram i x).routes = s.routes := rfl
@[simp] theorem State.setDram_streams (s : State) (i : Nat) (x : Dram) : (s.setDram i x).streams = s.streams := rfl
@[simp] theorem State.setDram_cores (s : State) (i : Nat) (x : Dram) : (s.setDram i x).cores = s.cores := rfl
@[simp] theorem State.setDram_tiles (s : State) (i : Nat) (x : Dram) : (s.setDram i x).tiles = s.tiles := rfl
@[simp] theorem State.setDram_arrays (s : State) (i : Nat) (x : Dram) : (s.setDram i x).arrays = s.arrays := rfl
@[simp] theorem State.setDram_qnt (s : State) (i : Nat) (x : Dram) : (s.setDram i x).qnt = s.qnt := rfl
@[simp] theorem State.setDram_crd (s : State) (i : Nat) (x : Dram) : (s.setDram i x).crd = s.crd := rfl
@[simp] theorem State.setDram_tok (s : State) (i : Nat) (x : Dram) : (s.setDram i x).tok = s.tok := rfl
@[simp] theorem State.setDram_chans (s : State) (i : Nat) (x : Dram) : (s.setDram i x).chans = s.chans := rfl
@[simp] theorem State.setDram_evt (s : State) (i : Nat) (x : Dram) : (s.setDram i x).evt = s.evt := rfl
@[simp] theorem State.setDram_pci (s : State) (i : Nat) (x : Dram) : (s.setDram i x).pci = s.pci := rfl
@[simp] theorem State.setDram_eth (s : State) (i : Nat) (x : Dram) : (s.setDram i x).eth = s.eth := rfl
@[simp] theorem State.setDram_aud (s : State) (i : Nat) (x : Dram) : (s.setDram i x).aud = s.aud := rfl
@[simp] theorem State.setDram_pwr (s : State) (i : Nat) (x : Dram) : (s.setDram i x).pwr = s.pwr := rfl
@[simp] theorem State.setDram_stw (s : State) (i : Nat) (x : Dram) : (s.setDram i x).stw = s.stw := rfl
@[simp] theorem State.setDram_lea (s : State) (i : Nat) (x : Dram) : (s.setDram i x).lea = s.lea := rfl
@[simp] theorem State.setDram_boot (s : State) (i : Nat) (x : Dram) : (s.setDram i x).boot = s.boot := rfl
@[simp] theorem State.setDram_latches (s : State) (i : Nat) (x : Dram) : (s.setDram i x).latches = s.latches := rfl
@[simp] theorem State.setDram_freeCount (s : State) (i : Nat) (x : Dram) : (s.setDram i x).freeCount = s.freeCount := rfl
@[simp] theorem State.setDram_out (s : State) (i : Nat) (x : Dram) : (s.setDram i x).out = s.out := rfl
@[simp] theorem State.setDram_pending (s : State) (i : Nat) (x : Dram) : (s.setDram i x).pending = s.pending := rfl

/-! ### setRoute -/

@[simp] theorem State.setRoute_nv (s : State) (n : Nat) (x : Route) : (s.setRoute n x).nv = s.nv := rfl
@[simp] theorem State.setRoute_pins (s : State) (n : Nat) (x : Route) : (s.setRoute n x).pins = s.pins := rfl
@[simp] theorem State.setRoute_tier (s : State) (n : Nat) (x : Route) : (s.setRoute n x).tier = s.tier := rfl
@[simp] theorem State.setRoute_tierChanges (s : State) (n : Nat) (x : Route) : (s.setRoute n x).tierChanges = s.tierChanges := rfl
@[simp] theorem State.setRoute_peak (s : State) (n : Nat) (x : Route) : (s.setRoute n x).peak = s.peak := rfl
@[simp] theorem State.setRoute_jobReserve (s : State) (n : Nat) (x : Route) : (s.setRoute n x).jobReserve = s.jobReserve := rfl
@[simp] theorem State.setRoute_wrp (s : State) (n : Nat) (x : Route) : (s.setRoute n x).wrp = s.wrp := rfl
@[simp] theorem State.setRoute_tck (s : State) (n : Nat) (x : Route) : (s.setRoute n x).tck = s.tck := rfl
@[simp] theorem State.setRoute_plies (s : State) (n : Nat) (x : Route) : (s.setRoute n x).plies = s.plies := rfl
@[simp] theorem State.setRoute_hanks (s : State) (n : Nat) (x : Route) : (s.setRoute n x).hanks = s.hanks := rfl
@[simp] theorem State.setRoute_hnkHsel (s : State) (n : Nat) (x : Route) : (s.setRoute n x).hnkHsel = s.hnkHsel := rfl
@[simp] theorem State.setRoute_slots (s : State) (n : Nat) (x : Route) : (s.setRoute n x).slots = s.slots := rfl
@[simp] theorem State.setRoute_grants (s : State) (n : Nat) (x : Route) : (s.setRoute n x).grants = s.grants := rfl
@[simp] theorem State.setRoute_pools (s : State) (n : Nat) (x : Route) : (s.setRoute n x).pools = s.pools := rfl
@[simp] theorem State.setRoute_written (s : State) (n : Nat) (x : Route) : (s.setRoute n x).written = s.written := rfl
@[simp] theorem State.setRoute_lostOwner (s : State) (n : Nat) (x : Route) : (s.setRoute n x).lostOwner = s.lostOwner := rfl
@[simp] theorem State.setRoute_mem (s : State) (n : Nat) (x : Route) : (s.setRoute n x).mem = s.mem := rfl
@[simp] theorem State.setRoute_fab (s : State) (n : Nat) (x : Route) : (s.setRoute n x).fab = s.fab := rfl
@[simp] theorem State.setRoute_dram (s : State) (n : Nat) (x : Route) : (s.setRoute n x).dram = s.dram := rfl
@[simp] theorem State.setRoute_streams (s : State) (n : Nat) (x : Route) : (s.setRoute n x).streams = s.streams := rfl
@[simp] theorem State.setRoute_cores (s : State) (n : Nat) (x : Route) : (s.setRoute n x).cores = s.cores := rfl
@[simp] theorem State.setRoute_tiles (s : State) (n : Nat) (x : Route) : (s.setRoute n x).tiles = s.tiles := rfl
@[simp] theorem State.setRoute_arrays (s : State) (n : Nat) (x : Route) : (s.setRoute n x).arrays = s.arrays := rfl
@[simp] theorem State.setRoute_qnt (s : State) (n : Nat) (x : Route) : (s.setRoute n x).qnt = s.qnt := rfl
@[simp] theorem State.setRoute_crd (s : State) (n : Nat) (x : Route) : (s.setRoute n x).crd = s.crd := rfl
@[simp] theorem State.setRoute_tok (s : State) (n : Nat) (x : Route) : (s.setRoute n x).tok = s.tok := rfl
@[simp] theorem State.setRoute_chans (s : State) (n : Nat) (x : Route) : (s.setRoute n x).chans = s.chans := rfl
@[simp] theorem State.setRoute_evt (s : State) (n : Nat) (x : Route) : (s.setRoute n x).evt = s.evt := rfl
@[simp] theorem State.setRoute_pci (s : State) (n : Nat) (x : Route) : (s.setRoute n x).pci = s.pci := rfl
@[simp] theorem State.setRoute_eth (s : State) (n : Nat) (x : Route) : (s.setRoute n x).eth = s.eth := rfl
@[simp] theorem State.setRoute_aud (s : State) (n : Nat) (x : Route) : (s.setRoute n x).aud = s.aud := rfl
@[simp] theorem State.setRoute_pwr (s : State) (n : Nat) (x : Route) : (s.setRoute n x).pwr = s.pwr := rfl
@[simp] theorem State.setRoute_stw (s : State) (n : Nat) (x : Route) : (s.setRoute n x).stw = s.stw := rfl
@[simp] theorem State.setRoute_lea (s : State) (n : Nat) (x : Route) : (s.setRoute n x).lea = s.lea := rfl
@[simp] theorem State.setRoute_boot (s : State) (n : Nat) (x : Route) : (s.setRoute n x).boot = s.boot := rfl
@[simp] theorem State.setRoute_latches (s : State) (n : Nat) (x : Route) : (s.setRoute n x).latches = s.latches := rfl
@[simp] theorem State.setRoute_freeCount (s : State) (n : Nat) (x : Route) : (s.setRoute n x).freeCount = s.freeCount := rfl
@[simp] theorem State.setRoute_out (s : State) (n : Nat) (x : Route) : (s.setRoute n x).out = s.out := rfl
@[simp] theorem State.setRoute_pending (s : State) (n : Nat) (x : Route) : (s.setRoute n x).pending = s.pending := rfl

/-! ### setIsl -/

@[simp] theorem State.setIsl_nv (s : State) (i : Nat) (x : Island) : (s.setIsl i x).nv = s.nv := rfl
@[simp] theorem State.setIsl_pins (s : State) (i : Nat) (x : Island) : (s.setIsl i x).pins = s.pins := rfl
@[simp] theorem State.setIsl_tier (s : State) (i : Nat) (x : Island) : (s.setIsl i x).tier = s.tier := rfl
@[simp] theorem State.setIsl_tierChanges (s : State) (i : Nat) (x : Island) : (s.setIsl i x).tierChanges = s.tierChanges := rfl
@[simp] theorem State.setIsl_peak (s : State) (i : Nat) (x : Island) : (s.setIsl i x).peak = s.peak := rfl
@[simp] theorem State.setIsl_jobReserve (s : State) (i : Nat) (x : Island) : (s.setIsl i x).jobReserve = s.jobReserve := rfl
@[simp] theorem State.setIsl_wrp (s : State) (i : Nat) (x : Island) : (s.setIsl i x).wrp = s.wrp := rfl
@[simp] theorem State.setIsl_tck (s : State) (i : Nat) (x : Island) : (s.setIsl i x).tck = s.tck := rfl
@[simp] theorem State.setIsl_plies (s : State) (i : Nat) (x : Island) : (s.setIsl i x).plies = s.plies := rfl
@[simp] theorem State.setIsl_hanks (s : State) (i : Nat) (x : Island) : (s.setIsl i x).hanks = s.hanks := rfl
@[simp] theorem State.setIsl_hnkHsel (s : State) (i : Nat) (x : Island) : (s.setIsl i x).hnkHsel = s.hnkHsel := rfl
@[simp] theorem State.setIsl_slots (s : State) (i : Nat) (x : Island) : (s.setIsl i x).slots = s.slots := rfl
@[simp] theorem State.setIsl_grants (s : State) (i : Nat) (x : Island) : (s.setIsl i x).grants = s.grants := rfl
@[simp] theorem State.setIsl_pools (s : State) (i : Nat) (x : Island) : (s.setIsl i x).pools = s.pools := rfl
@[simp] theorem State.setIsl_written (s : State) (i : Nat) (x : Island) : (s.setIsl i x).written = s.written := rfl
@[simp] theorem State.setIsl_lostOwner (s : State) (i : Nat) (x : Island) : (s.setIsl i x).lostOwner = s.lostOwner := rfl
@[simp] theorem State.setIsl_mem (s : State) (i : Nat) (x : Island) : (s.setIsl i x).mem = s.mem := rfl
@[simp] theorem State.setIsl_fab (s : State) (i : Nat) (x : Island) : (s.setIsl i x).fab = s.fab := rfl
@[simp] theorem State.setIsl_dram (s : State) (i : Nat) (x : Island) : (s.setIsl i x).dram = s.dram := rfl
@[simp] theorem State.setIsl_routes (s : State) (i : Nat) (x : Island) : (s.setIsl i x).routes = s.routes := rfl
@[simp] theorem State.setIsl_streams (s : State) (i : Nat) (x : Island) : (s.setIsl i x).streams = s.streams := rfl
@[simp] theorem State.setIsl_cores (s : State) (i : Nat) (x : Island) : (s.setIsl i x).cores = s.cores := rfl
@[simp] theorem State.setIsl_tiles (s : State) (i : Nat) (x : Island) : (s.setIsl i x).tiles = s.tiles := rfl
@[simp] theorem State.setIsl_arrays (s : State) (i : Nat) (x : Island) : (s.setIsl i x).arrays = s.arrays := rfl
@[simp] theorem State.setIsl_qnt (s : State) (i : Nat) (x : Island) : (s.setIsl i x).qnt = s.qnt := rfl
@[simp] theorem State.setIsl_crd (s : State) (i : Nat) (x : Island) : (s.setIsl i x).crd = s.crd := rfl
@[simp] theorem State.setIsl_tok (s : State) (i : Nat) (x : Island) : (s.setIsl i x).tok = s.tok := rfl
@[simp] theorem State.setIsl_chans (s : State) (i : Nat) (x : Island) : (s.setIsl i x).chans = s.chans := rfl
@[simp] theorem State.setIsl_evt (s : State) (i : Nat) (x : Island) : (s.setIsl i x).evt = s.evt := rfl
@[simp] theorem State.setIsl_pci (s : State) (i : Nat) (x : Island) : (s.setIsl i x).pci = s.pci := rfl
@[simp] theorem State.setIsl_eth (s : State) (i : Nat) (x : Island) : (s.setIsl i x).eth = s.eth := rfl
@[simp] theorem State.setIsl_aud (s : State) (i : Nat) (x : Island) : (s.setIsl i x).aud = s.aud := rfl
@[simp] theorem State.setIsl_stw (s : State) (i : Nat) (x : Island) : (s.setIsl i x).stw = s.stw := rfl
@[simp] theorem State.setIsl_lea (s : State) (i : Nat) (x : Island) : (s.setIsl i x).lea = s.lea := rfl
@[simp] theorem State.setIsl_boot (s : State) (i : Nat) (x : Island) : (s.setIsl i x).boot = s.boot := rfl
@[simp] theorem State.setIsl_latches (s : State) (i : Nat) (x : Island) : (s.setIsl i x).latches = s.latches := rfl
@[simp] theorem State.setIsl_freeCount (s : State) (i : Nat) (x : Island) : (s.setIsl i x).freeCount = s.freeCount := rfl
@[simp] theorem State.setIsl_out (s : State) (i : Nat) (x : Island) : (s.setIsl i x).out = s.out := rfl
@[simp] theorem State.setIsl_pending (s : State) (i : Nat) (x : Island) : (s.setIsl i x).pending = s.pending := rfl

/-! ### setFlow -/

@[simp] theorem State.setFlow_nv (s : State) (f : Nat) (x : Flow) : (s.setFlow f x).nv = s.nv := rfl
@[simp] theorem State.setFlow_pins (s : State) (f : Nat) (x : Flow) : (s.setFlow f x).pins = s.pins := rfl
@[simp] theorem State.setFlow_tier (s : State) (f : Nat) (x : Flow) : (s.setFlow f x).tier = s.tier := rfl
@[simp] theorem State.setFlow_tierChanges (s : State) (f : Nat) (x : Flow) : (s.setFlow f x).tierChanges = s.tierChanges := rfl
@[simp] theorem State.setFlow_peak (s : State) (f : Nat) (x : Flow) : (s.setFlow f x).peak = s.peak := rfl
@[simp] theorem State.setFlow_jobReserve (s : State) (f : Nat) (x : Flow) : (s.setFlow f x).jobReserve = s.jobReserve := rfl
@[simp] theorem State.setFlow_wrp (s : State) (f : Nat) (x : Flow) : (s.setFlow f x).wrp = s.wrp := rfl
@[simp] theorem State.setFlow_tck (s : State) (f : Nat) (x : Flow) : (s.setFlow f x).tck = s.tck := rfl
@[simp] theorem State.setFlow_plies (s : State) (f : Nat) (x : Flow) : (s.setFlow f x).plies = s.plies := rfl
@[simp] theorem State.setFlow_hanks (s : State) (f : Nat) (x : Flow) : (s.setFlow f x).hanks = s.hanks := rfl
@[simp] theorem State.setFlow_hnkHsel (s : State) (f : Nat) (x : Flow) : (s.setFlow f x).hnkHsel = s.hnkHsel := rfl
@[simp] theorem State.setFlow_slots (s : State) (f : Nat) (x : Flow) : (s.setFlow f x).slots = s.slots := rfl
@[simp] theorem State.setFlow_grants (s : State) (f : Nat) (x : Flow) : (s.setFlow f x).grants = s.grants := rfl
@[simp] theorem State.setFlow_pools (s : State) (f : Nat) (x : Flow) : (s.setFlow f x).pools = s.pools := rfl
@[simp] theorem State.setFlow_written (s : State) (f : Nat) (x : Flow) : (s.setFlow f x).written = s.written := rfl
@[simp] theorem State.setFlow_lostOwner (s : State) (f : Nat) (x : Flow) : (s.setFlow f x).lostOwner = s.lostOwner := rfl
@[simp] theorem State.setFlow_mem (s : State) (f : Nat) (x : Flow) : (s.setFlow f x).mem = s.mem := rfl
@[simp] theorem State.setFlow_fab (s : State) (f : Nat) (x : Flow) : (s.setFlow f x).fab = s.fab := rfl
@[simp] theorem State.setFlow_dram (s : State) (f : Nat) (x : Flow) : (s.setFlow f x).dram = s.dram := rfl
@[simp] theorem State.setFlow_routes (s : State) (f : Nat) (x : Flow) : (s.setFlow f x).routes = s.routes := rfl
@[simp] theorem State.setFlow_streams (s : State) (f : Nat) (x : Flow) : (s.setFlow f x).streams = s.streams := rfl
@[simp] theorem State.setFlow_cores (s : State) (f : Nat) (x : Flow) : (s.setFlow f x).cores = s.cores := rfl
@[simp] theorem State.setFlow_tiles (s : State) (f : Nat) (x : Flow) : (s.setFlow f x).tiles = s.tiles := rfl
@[simp] theorem State.setFlow_arrays (s : State) (f : Nat) (x : Flow) : (s.setFlow f x).arrays = s.arrays := rfl
@[simp] theorem State.setFlow_qnt (s : State) (f : Nat) (x : Flow) : (s.setFlow f x).qnt = s.qnt := rfl
@[simp] theorem State.setFlow_tok (s : State) (f : Nat) (x : Flow) : (s.setFlow f x).tok = s.tok := rfl
@[simp] theorem State.setFlow_chans (s : State) (f : Nat) (x : Flow) : (s.setFlow f x).chans = s.chans := rfl
@[simp] theorem State.setFlow_evt (s : State) (f : Nat) (x : Flow) : (s.setFlow f x).evt = s.evt := rfl
@[simp] theorem State.setFlow_pci (s : State) (f : Nat) (x : Flow) : (s.setFlow f x).pci = s.pci := rfl
@[simp] theorem State.setFlow_eth (s : State) (f : Nat) (x : Flow) : (s.setFlow f x).eth = s.eth := rfl
@[simp] theorem State.setFlow_aud (s : State) (f : Nat) (x : Flow) : (s.setFlow f x).aud = s.aud := rfl
@[simp] theorem State.setFlow_pwr (s : State) (f : Nat) (x : Flow) : (s.setFlow f x).pwr = s.pwr := rfl
@[simp] theorem State.setFlow_stw (s : State) (f : Nat) (x : Flow) : (s.setFlow f x).stw = s.stw := rfl
@[simp] theorem State.setFlow_lea (s : State) (f : Nat) (x : Flow) : (s.setFlow f x).lea = s.lea := rfl
@[simp] theorem State.setFlow_boot (s : State) (f : Nat) (x : Flow) : (s.setFlow f x).boot = s.boot := rfl
@[simp] theorem State.setFlow_latches (s : State) (f : Nat) (x : Flow) : (s.setFlow f x).latches = s.latches := rfl
@[simp] theorem State.setFlow_freeCount (s : State) (f : Nat) (x : Flow) : (s.setFlow f x).freeCount = s.freeCount := rfl
@[simp] theorem State.setFlow_out (s : State) (f : Nat) (x : Flow) : (s.setFlow f x).out = s.out := rfl
@[simp] theorem State.setFlow_pending (s : State) (f : Nat) (x : Flow) : (s.setFlow f x).pending = s.pending := rfl

/-! ### setEth -/

@[simp] theorem State.setEth_nv (s : State) (p : Nat) (x : Eth) : (s.setEth p x).nv = s.nv := rfl
@[simp] theorem State.setEth_pins (s : State) (p : Nat) (x : Eth) : (s.setEth p x).pins = s.pins := rfl
@[simp] theorem State.setEth_tier (s : State) (p : Nat) (x : Eth) : (s.setEth p x).tier = s.tier := rfl
@[simp] theorem State.setEth_tierChanges (s : State) (p : Nat) (x : Eth) : (s.setEth p x).tierChanges = s.tierChanges := rfl
@[simp] theorem State.setEth_peak (s : State) (p : Nat) (x : Eth) : (s.setEth p x).peak = s.peak := rfl
@[simp] theorem State.setEth_jobReserve (s : State) (p : Nat) (x : Eth) : (s.setEth p x).jobReserve = s.jobReserve := rfl
@[simp] theorem State.setEth_wrp (s : State) (p : Nat) (x : Eth) : (s.setEth p x).wrp = s.wrp := rfl
@[simp] theorem State.setEth_tck (s : State) (p : Nat) (x : Eth) : (s.setEth p x).tck = s.tck := rfl
@[simp] theorem State.setEth_plies (s : State) (p : Nat) (x : Eth) : (s.setEth p x).plies = s.plies := rfl
@[simp] theorem State.setEth_hanks (s : State) (p : Nat) (x : Eth) : (s.setEth p x).hanks = s.hanks := rfl
@[simp] theorem State.setEth_hnkHsel (s : State) (p : Nat) (x : Eth) : (s.setEth p x).hnkHsel = s.hnkHsel := rfl
@[simp] theorem State.setEth_slots (s : State) (p : Nat) (x : Eth) : (s.setEth p x).slots = s.slots := rfl
@[simp] theorem State.setEth_grants (s : State) (p : Nat) (x : Eth) : (s.setEth p x).grants = s.grants := rfl
@[simp] theorem State.setEth_pools (s : State) (p : Nat) (x : Eth) : (s.setEth p x).pools = s.pools := rfl
@[simp] theorem State.setEth_written (s : State) (p : Nat) (x : Eth) : (s.setEth p x).written = s.written := rfl
@[simp] theorem State.setEth_lostOwner (s : State) (p : Nat) (x : Eth) : (s.setEth p x).lostOwner = s.lostOwner := rfl
@[simp] theorem State.setEth_mem (s : State) (p : Nat) (x : Eth) : (s.setEth p x).mem = s.mem := rfl
@[simp] theorem State.setEth_fab (s : State) (p : Nat) (x : Eth) : (s.setEth p x).fab = s.fab := rfl
@[simp] theorem State.setEth_dram (s : State) (p : Nat) (x : Eth) : (s.setEth p x).dram = s.dram := rfl
@[simp] theorem State.setEth_routes (s : State) (p : Nat) (x : Eth) : (s.setEth p x).routes = s.routes := rfl
@[simp] theorem State.setEth_streams (s : State) (p : Nat) (x : Eth) : (s.setEth p x).streams = s.streams := rfl
@[simp] theorem State.setEth_cores (s : State) (p : Nat) (x : Eth) : (s.setEth p x).cores = s.cores := rfl
@[simp] theorem State.setEth_tiles (s : State) (p : Nat) (x : Eth) : (s.setEth p x).tiles = s.tiles := rfl
@[simp] theorem State.setEth_arrays (s : State) (p : Nat) (x : Eth) : (s.setEth p x).arrays = s.arrays := rfl
@[simp] theorem State.setEth_qnt (s : State) (p : Nat) (x : Eth) : (s.setEth p x).qnt = s.qnt := rfl
@[simp] theorem State.setEth_crd (s : State) (p : Nat) (x : Eth) : (s.setEth p x).crd = s.crd := rfl
@[simp] theorem State.setEth_tok (s : State) (p : Nat) (x : Eth) : (s.setEth p x).tok = s.tok := rfl
@[simp] theorem State.setEth_chans (s : State) (p : Nat) (x : Eth) : (s.setEth p x).chans = s.chans := rfl
@[simp] theorem State.setEth_evt (s : State) (p : Nat) (x : Eth) : (s.setEth p x).evt = s.evt := rfl
@[simp] theorem State.setEth_pci (s : State) (p : Nat) (x : Eth) : (s.setEth p x).pci = s.pci := rfl
@[simp] theorem State.setEth_aud (s : State) (p : Nat) (x : Eth) : (s.setEth p x).aud = s.aud := rfl
@[simp] theorem State.setEth_pwr (s : State) (p : Nat) (x : Eth) : (s.setEth p x).pwr = s.pwr := rfl
@[simp] theorem State.setEth_stw (s : State) (p : Nat) (x : Eth) : (s.setEth p x).stw = s.stw := rfl
@[simp] theorem State.setEth_lea (s : State) (p : Nat) (x : Eth) : (s.setEth p x).lea = s.lea := rfl
@[simp] theorem State.setEth_boot (s : State) (p : Nat) (x : Eth) : (s.setEth p x).boot = s.boot := rfl
@[simp] theorem State.setEth_latches (s : State) (p : Nat) (x : Eth) : (s.setEth p x).latches = s.latches := rfl
@[simp] theorem State.setEth_freeCount (s : State) (p : Nat) (x : Eth) : (s.setEth p x).freeCount = s.freeCount := rfl
@[simp] theorem State.setEth_out (s : State) (p : Nat) (x : Eth) : (s.setEth p x).out = s.out := rfl
@[simp] theorem State.setEth_pending (s : State) (p : Nat) (x : Eth) : (s.setEth p x).pending = s.pending := rfl

/-! ### setFn -/

@[simp] theorem State.setFn_nv (s : State) (f : Nat) (x : FnPage) : (s.setFn f x).nv = s.nv := rfl
@[simp] theorem State.setFn_pins (s : State) (f : Nat) (x : FnPage) : (s.setFn f x).pins = s.pins := rfl
@[simp] theorem State.setFn_tier (s : State) (f : Nat) (x : FnPage) : (s.setFn f x).tier = s.tier := rfl
@[simp] theorem State.setFn_tierChanges (s : State) (f : Nat) (x : FnPage) : (s.setFn f x).tierChanges = s.tierChanges := rfl
@[simp] theorem State.setFn_peak (s : State) (f : Nat) (x : FnPage) : (s.setFn f x).peak = s.peak := rfl
@[simp] theorem State.setFn_jobReserve (s : State) (f : Nat) (x : FnPage) : (s.setFn f x).jobReserve = s.jobReserve := rfl
@[simp] theorem State.setFn_wrp (s : State) (f : Nat) (x : FnPage) : (s.setFn f x).wrp = s.wrp := rfl
@[simp] theorem State.setFn_tck (s : State) (f : Nat) (x : FnPage) : (s.setFn f x).tck = s.tck := rfl
@[simp] theorem State.setFn_plies (s : State) (f : Nat) (x : FnPage) : (s.setFn f x).plies = s.plies := rfl
@[simp] theorem State.setFn_hanks (s : State) (f : Nat) (x : FnPage) : (s.setFn f x).hanks = s.hanks := rfl
@[simp] theorem State.setFn_hnkHsel (s : State) (f : Nat) (x : FnPage) : (s.setFn f x).hnkHsel = s.hnkHsel := rfl
@[simp] theorem State.setFn_slots (s : State) (f : Nat) (x : FnPage) : (s.setFn f x).slots = s.slots := rfl
@[simp] theorem State.setFn_grants (s : State) (f : Nat) (x : FnPage) : (s.setFn f x).grants = s.grants := rfl
@[simp] theorem State.setFn_pools (s : State) (f : Nat) (x : FnPage) : (s.setFn f x).pools = s.pools := rfl
@[simp] theorem State.setFn_written (s : State) (f : Nat) (x : FnPage) : (s.setFn f x).written = s.written := rfl
@[simp] theorem State.setFn_lostOwner (s : State) (f : Nat) (x : FnPage) : (s.setFn f x).lostOwner = s.lostOwner := rfl
@[simp] theorem State.setFn_mem (s : State) (f : Nat) (x : FnPage) : (s.setFn f x).mem = s.mem := rfl
@[simp] theorem State.setFn_fab (s : State) (f : Nat) (x : FnPage) : (s.setFn f x).fab = s.fab := rfl
@[simp] theorem State.setFn_dram (s : State) (f : Nat) (x : FnPage) : (s.setFn f x).dram = s.dram := rfl
@[simp] theorem State.setFn_routes (s : State) (f : Nat) (x : FnPage) : (s.setFn f x).routes = s.routes := rfl
@[simp] theorem State.setFn_streams (s : State) (f : Nat) (x : FnPage) : (s.setFn f x).streams = s.streams := rfl
@[simp] theorem State.setFn_cores (s : State) (f : Nat) (x : FnPage) : (s.setFn f x).cores = s.cores := rfl
@[simp] theorem State.setFn_tiles (s : State) (f : Nat) (x : FnPage) : (s.setFn f x).tiles = s.tiles := rfl
@[simp] theorem State.setFn_arrays (s : State) (f : Nat) (x : FnPage) : (s.setFn f x).arrays = s.arrays := rfl
@[simp] theorem State.setFn_qnt (s : State) (f : Nat) (x : FnPage) : (s.setFn f x).qnt = s.qnt := rfl
@[simp] theorem State.setFn_crd (s : State) (f : Nat) (x : FnPage) : (s.setFn f x).crd = s.crd := rfl
@[simp] theorem State.setFn_tok (s : State) (f : Nat) (x : FnPage) : (s.setFn f x).tok = s.tok := rfl
@[simp] theorem State.setFn_chans (s : State) (f : Nat) (x : FnPage) : (s.setFn f x).chans = s.chans := rfl
@[simp] theorem State.setFn_evt (s : State) (f : Nat) (x : FnPage) : (s.setFn f x).evt = s.evt := rfl
@[simp] theorem State.setFn_eth (s : State) (f : Nat) (x : FnPage) : (s.setFn f x).eth = s.eth := rfl
@[simp] theorem State.setFn_aud (s : State) (f : Nat) (x : FnPage) : (s.setFn f x).aud = s.aud := rfl
@[simp] theorem State.setFn_pwr (s : State) (f : Nat) (x : FnPage) : (s.setFn f x).pwr = s.pwr := rfl
@[simp] theorem State.setFn_stw (s : State) (f : Nat) (x : FnPage) : (s.setFn f x).stw = s.stw := rfl
@[simp] theorem State.setFn_lea (s : State) (f : Nat) (x : FnPage) : (s.setFn f x).lea = s.lea := rfl
@[simp] theorem State.setFn_boot (s : State) (f : Nat) (x : FnPage) : (s.setFn f x).boot = s.boot := rfl
@[simp] theorem State.setFn_latches (s : State) (f : Nat) (x : FnPage) : (s.setFn f x).latches = s.latches := rfl
@[simp] theorem State.setFn_freeCount (s : State) (f : Nat) (x : FnPage) : (s.setFn f x).freeCount = s.freeCount := rfl
@[simp] theorem State.setFn_out (s : State) (f : Nat) (x : FnPage) : (s.setFn f x).out = s.out := rfl
@[simp] theorem State.setFn_pending (s : State) (f : Nat) (x : FnPage) : (s.setFn f x).pending = s.pending := rfl

/-! ### setPool -/

@[simp] theorem State.setPool_nv (s : State) (p q : Nat) (x : Pool) : (s.setPool p q x).nv = s.nv := rfl
@[simp] theorem State.setPool_pins (s : State) (p q : Nat) (x : Pool) : (s.setPool p q x).pins = s.pins := rfl
@[simp] theorem State.setPool_tier (s : State) (p q : Nat) (x : Pool) : (s.setPool p q x).tier = s.tier := rfl
@[simp] theorem State.setPool_tierChanges (s : State) (p q : Nat) (x : Pool) : (s.setPool p q x).tierChanges = s.tierChanges := rfl
@[simp] theorem State.setPool_peak (s : State) (p q : Nat) (x : Pool) : (s.setPool p q x).peak = s.peak := rfl
@[simp] theorem State.setPool_jobReserve (s : State) (p q : Nat) (x : Pool) : (s.setPool p q x).jobReserve = s.jobReserve := rfl
@[simp] theorem State.setPool_wrp (s : State) (p q : Nat) (x : Pool) : (s.setPool p q x).wrp = s.wrp := rfl
@[simp] theorem State.setPool_tck (s : State) (p q : Nat) (x : Pool) : (s.setPool p q x).tck = s.tck := rfl
@[simp] theorem State.setPool_plies (s : State) (p q : Nat) (x : Pool) : (s.setPool p q x).plies = s.plies := rfl
@[simp] theorem State.setPool_hanks (s : State) (p q : Nat) (x : Pool) : (s.setPool p q x).hanks = s.hanks := rfl
@[simp] theorem State.setPool_hnkHsel (s : State) (p q : Nat) (x : Pool) : (s.setPool p q x).hnkHsel = s.hnkHsel := rfl
@[simp] theorem State.setPool_slots (s : State) (p q : Nat) (x : Pool) : (s.setPool p q x).slots = s.slots := rfl
@[simp] theorem State.setPool_grants (s : State) (p q : Nat) (x : Pool) : (s.setPool p q x).grants = s.grants := rfl
@[simp] theorem State.setPool_written (s : State) (p q : Nat) (x : Pool) : (s.setPool p q x).written = s.written := rfl
@[simp] theorem State.setPool_lostOwner (s : State) (p q : Nat) (x : Pool) : (s.setPool p q x).lostOwner = s.lostOwner := rfl
@[simp] theorem State.setPool_mem (s : State) (p q : Nat) (x : Pool) : (s.setPool p q x).mem = s.mem := rfl
@[simp] theorem State.setPool_fab (s : State) (p q : Nat) (x : Pool) : (s.setPool p q x).fab = s.fab := rfl
@[simp] theorem State.setPool_dram (s : State) (p q : Nat) (x : Pool) : (s.setPool p q x).dram = s.dram := rfl
@[simp] theorem State.setPool_routes (s : State) (p q : Nat) (x : Pool) : (s.setPool p q x).routes = s.routes := rfl
@[simp] theorem State.setPool_streams (s : State) (p q : Nat) (x : Pool) : (s.setPool p q x).streams = s.streams := rfl
@[simp] theorem State.setPool_cores (s : State) (p q : Nat) (x : Pool) : (s.setPool p q x).cores = s.cores := rfl
@[simp] theorem State.setPool_tiles (s : State) (p q : Nat) (x : Pool) : (s.setPool p q x).tiles = s.tiles := rfl
@[simp] theorem State.setPool_arrays (s : State) (p q : Nat) (x : Pool) : (s.setPool p q x).arrays = s.arrays := rfl
@[simp] theorem State.setPool_qnt (s : State) (p q : Nat) (x : Pool) : (s.setPool p q x).qnt = s.qnt := rfl
@[simp] theorem State.setPool_crd (s : State) (p q : Nat) (x : Pool) : (s.setPool p q x).crd = s.crd := rfl
@[simp] theorem State.setPool_tok (s : State) (p q : Nat) (x : Pool) : (s.setPool p q x).tok = s.tok := rfl
@[simp] theorem State.setPool_chans (s : State) (p q : Nat) (x : Pool) : (s.setPool p q x).chans = s.chans := rfl
@[simp] theorem State.setPool_evt (s : State) (p q : Nat) (x : Pool) : (s.setPool p q x).evt = s.evt := rfl
@[simp] theorem State.setPool_pci (s : State) (p q : Nat) (x : Pool) : (s.setPool p q x).pci = s.pci := rfl
@[simp] theorem State.setPool_eth (s : State) (p q : Nat) (x : Pool) : (s.setPool p q x).eth = s.eth := rfl
@[simp] theorem State.setPool_aud (s : State) (p q : Nat) (x : Pool) : (s.setPool p q x).aud = s.aud := rfl
@[simp] theorem State.setPool_pwr (s : State) (p q : Nat) (x : Pool) : (s.setPool p q x).pwr = s.pwr := rfl
@[simp] theorem State.setPool_stw (s : State) (p q : Nat) (x : Pool) : (s.setPool p q x).stw = s.stw := rfl
@[simp] theorem State.setPool_lea (s : State) (p q : Nat) (x : Pool) : (s.setPool p q x).lea = s.lea := rfl
@[simp] theorem State.setPool_boot (s : State) (p q : Nat) (x : Pool) : (s.setPool p q x).boot = s.boot := rfl
@[simp] theorem State.setPool_latches (s : State) (p q : Nat) (x : Pool) : (s.setPool p q x).latches = s.latches := rfl
@[simp] theorem State.setPool_freeCount (s : State) (p q : Nat) (x : Pool) : (s.setPool p q x).freeCount = s.freeCount := rfl
@[simp] theorem State.setPool_out (s : State) (p q : Nat) (x : Pool) : (s.setPool p q x).out = s.out := rfl
@[simp] theorem State.setPool_pending (s : State) (p q : Nat) (x : Pool) : (s.setPool p q x).pending = s.pending := rfl

/-! ### emit -/

@[simp] theorem State.emit_nv (s : State) (o : Out) : (s.emit o).nv = s.nv := rfl
@[simp] theorem State.emit_pins (s : State) (o : Out) : (s.emit o).pins = s.pins := rfl
@[simp] theorem State.emit_tier (s : State) (o : Out) : (s.emit o).tier = s.tier := rfl
@[simp] theorem State.emit_tierChanges (s : State) (o : Out) : (s.emit o).tierChanges = s.tierChanges := rfl
@[simp] theorem State.emit_peak (s : State) (o : Out) : (s.emit o).peak = s.peak := rfl
@[simp] theorem State.emit_jobReserve (s : State) (o : Out) : (s.emit o).jobReserve = s.jobReserve := rfl
@[simp] theorem State.emit_wrp (s : State) (o : Out) : (s.emit o).wrp = s.wrp := rfl
@[simp] theorem State.emit_tck (s : State) (o : Out) : (s.emit o).tck = s.tck := rfl
@[simp] theorem State.emit_plies (s : State) (o : Out) : (s.emit o).plies = s.plies := rfl
@[simp] theorem State.emit_hanks (s : State) (o : Out) : (s.emit o).hanks = s.hanks := rfl
@[simp] theorem State.emit_hnkHsel (s : State) (o : Out) : (s.emit o).hnkHsel = s.hnkHsel := rfl
@[simp] theorem State.emit_slots (s : State) (o : Out) : (s.emit o).slots = s.slots := rfl
@[simp] theorem State.emit_grants (s : State) (o : Out) : (s.emit o).grants = s.grants := rfl
@[simp] theorem State.emit_pools (s : State) (o : Out) : (s.emit o).pools = s.pools := rfl
@[simp] theorem State.emit_written (s : State) (o : Out) : (s.emit o).written = s.written := rfl
@[simp] theorem State.emit_lostOwner (s : State) (o : Out) : (s.emit o).lostOwner = s.lostOwner := rfl
@[simp] theorem State.emit_mem (s : State) (o : Out) : (s.emit o).mem = s.mem := rfl
@[simp] theorem State.emit_fab (s : State) (o : Out) : (s.emit o).fab = s.fab := rfl
@[simp] theorem State.emit_dram (s : State) (o : Out) : (s.emit o).dram = s.dram := rfl
@[simp] theorem State.emit_routes (s : State) (o : Out) : (s.emit o).routes = s.routes := rfl
@[simp] theorem State.emit_streams (s : State) (o : Out) : (s.emit o).streams = s.streams := rfl
@[simp] theorem State.emit_cores (s : State) (o : Out) : (s.emit o).cores = s.cores := rfl
@[simp] theorem State.emit_tiles (s : State) (o : Out) : (s.emit o).tiles = s.tiles := rfl
@[simp] theorem State.emit_arrays (s : State) (o : Out) : (s.emit o).arrays = s.arrays := rfl
@[simp] theorem State.emit_qnt (s : State) (o : Out) : (s.emit o).qnt = s.qnt := rfl
@[simp] theorem State.emit_crd (s : State) (o : Out) : (s.emit o).crd = s.crd := rfl
@[simp] theorem State.emit_tok (s : State) (o : Out) : (s.emit o).tok = s.tok := rfl
@[simp] theorem State.emit_chans (s : State) (o : Out) : (s.emit o).chans = s.chans := rfl
@[simp] theorem State.emit_evt (s : State) (o : Out) : (s.emit o).evt = s.evt := rfl
@[simp] theorem State.emit_pci (s : State) (o : Out) : (s.emit o).pci = s.pci := rfl
@[simp] theorem State.emit_eth (s : State) (o : Out) : (s.emit o).eth = s.eth := rfl
@[simp] theorem State.emit_aud (s : State) (o : Out) : (s.emit o).aud = s.aud := rfl
@[simp] theorem State.emit_pwr (s : State) (o : Out) : (s.emit o).pwr = s.pwr := rfl
@[simp] theorem State.emit_stw (s : State) (o : Out) : (s.emit o).stw = s.stw := rfl
@[simp] theorem State.emit_lea (s : State) (o : Out) : (s.emit o).lea = s.lea := rfl
@[simp] theorem State.emit_boot (s : State) (o : Out) : (s.emit o).boot = s.boot := rfl
@[simp] theorem State.emit_latches (s : State) (o : Out) : (s.emit o).latches = s.latches := rfl
@[simp] theorem State.emit_freeCount (s : State) (o : Out) : (s.emit o).freeCount = s.freeCount := rfl
@[simp] theorem State.emit_pending (s : State) (o : Out) : (s.emit o).pending = s.pending := rfl

/-! ### setUnit -/

@[simp] theorem State.setUnit_nv (s : State) (i : Nat) (u : UnitSt) : (s.setUnit i u).nv = s.nv := rfl
@[simp] theorem State.setUnit_pins (s : State) (i : Nat) (u : UnitSt) : (s.setUnit i u).pins = s.pins := rfl
@[simp] theorem State.setUnit_tier (s : State) (i : Nat) (u : UnitSt) : (s.setUnit i u).tier = s.tier := rfl
@[simp] theorem State.setUnit_tierChanges (s : State) (i : Nat) (u : UnitSt) : (s.setUnit i u).tierChanges = s.tierChanges := rfl
@[simp] theorem State.setUnit_peak (s : State) (i : Nat) (u : UnitSt) : (s.setUnit i u).peak = s.peak := rfl
@[simp] theorem State.setUnit_jobReserve (s : State) (i : Nat) (u : UnitSt) : (s.setUnit i u).jobReserve = s.jobReserve := rfl
@[simp] theorem State.setUnit_wrp (s : State) (i : Nat) (u : UnitSt) : (s.setUnit i u).wrp = s.wrp := rfl
@[simp] theorem State.setUnit_tck (s : State) (i : Nat) (u : UnitSt) : (s.setUnit i u).tck = s.tck := rfl
@[simp] theorem State.setUnit_plies (s : State) (i : Nat) (u : UnitSt) : (s.setUnit i u).plies = s.plies := rfl
@[simp] theorem State.setUnit_hanks (s : State) (i : Nat) (u : UnitSt) : (s.setUnit i u).hanks = s.hanks := rfl
@[simp] theorem State.setUnit_hnkHsel (s : State) (i : Nat) (u : UnitSt) : (s.setUnit i u).hnkHsel = s.hnkHsel := rfl
@[simp] theorem State.setUnit_slots (s : State) (i : Nat) (u : UnitSt) : (s.setUnit i u).slots = s.slots := rfl
@[simp] theorem State.setUnit_grants (s : State) (i : Nat) (u : UnitSt) : (s.setUnit i u).grants = s.grants := rfl
@[simp] theorem State.setUnit_pools (s : State) (i : Nat) (u : UnitSt) : (s.setUnit i u).pools = s.pools := rfl
@[simp] theorem State.setUnit_written (s : State) (i : Nat) (u : UnitSt) : (s.setUnit i u).written = s.written := rfl
@[simp] theorem State.setUnit_lostOwner (s : State) (i : Nat) (u : UnitSt) : (s.setUnit i u).lostOwner = s.lostOwner := rfl
@[simp] theorem State.setUnit_mem (s : State) (i : Nat) (u : UnitSt) : (s.setUnit i u).mem = s.mem := rfl
@[simp] theorem State.setUnit_fab (s : State) (i : Nat) (u : UnitSt) : (s.setUnit i u).fab = s.fab := rfl
@[simp] theorem State.setUnit_dram (s : State) (i : Nat) (u : UnitSt) : (s.setUnit i u).dram = s.dram := rfl
@[simp] theorem State.setUnit_routes (s : State) (i : Nat) (u : UnitSt) : (s.setUnit i u).routes = s.routes := rfl
@[simp] theorem State.setUnit_streams (s : State) (i : Nat) (u : UnitSt) : (s.setUnit i u).streams = s.streams := rfl
@[simp] theorem State.setUnit_cores (s : State) (i : Nat) (u : UnitSt) : (s.setUnit i u).cores = s.cores := rfl
@[simp] theorem State.setUnit_tiles (s : State) (i : Nat) (u : UnitSt) : (s.setUnit i u).tiles = s.tiles := rfl
@[simp] theorem State.setUnit_arrays (s : State) (i : Nat) (u : UnitSt) : (s.setUnit i u).arrays = s.arrays := rfl
@[simp] theorem State.setUnit_qnt (s : State) (i : Nat) (u : UnitSt) : (s.setUnit i u).qnt = s.qnt := rfl
@[simp] theorem State.setUnit_crd (s : State) (i : Nat) (u : UnitSt) : (s.setUnit i u).crd = s.crd := rfl
@[simp] theorem State.setUnit_tok (s : State) (i : Nat) (u : UnitSt) : (s.setUnit i u).tok = s.tok := rfl
@[simp] theorem State.setUnit_chans (s : State) (i : Nat) (u : UnitSt) : (s.setUnit i u).chans = s.chans := rfl
@[simp] theorem State.setUnit_evt (s : State) (i : Nat) (u : UnitSt) : (s.setUnit i u).evt = s.evt := rfl
@[simp] theorem State.setUnit_pci (s : State) (i : Nat) (u : UnitSt) : (s.setUnit i u).pci = s.pci := rfl
@[simp] theorem State.setUnit_eth (s : State) (i : Nat) (u : UnitSt) : (s.setUnit i u).eth = s.eth := rfl
@[simp] theorem State.setUnit_aud (s : State) (i : Nat) (u : UnitSt) : (s.setUnit i u).aud = s.aud := rfl
@[simp] theorem State.setUnit_pwr (s : State) (i : Nat) (u : UnitSt) : (s.setUnit i u).pwr = s.pwr := rfl
@[simp] theorem State.setUnit_lea (s : State) (i : Nat) (u : UnitSt) : (s.setUnit i u).lea = s.lea := rfl
@[simp] theorem State.setUnit_boot (s : State) (i : Nat) (u : UnitSt) : (s.setUnit i u).boot = s.boot := rfl
@[simp] theorem State.setUnit_latches (s : State) (i : Nat) (u : UnitSt) : (s.setUnit i u).latches = s.latches := rfl
@[simp] theorem State.setUnit_freeCount (s : State) (i : Nat) (u : UnitSt) : (s.setUnit i u).freeCount = s.freeCount := rfl
@[simp] theorem State.setUnit_out (s : State) (i : Nat) (u : UnitSt) : (s.setUnit i u).out = s.out := rfl
@[simp] theorem State.setUnit_pending (s : State) (i : Nat) (u : UnitSt) : (s.setUnit i u).pending = s.pending := rfl

/-! ### What is written is read -/

@[simp] theorem State.core_setCore (s : State) (i : Nat) (x : Core) : (s.setCore i x).core i = x := by
  simp [State.core, State.setCore]

theorem State.core_setCore_ne (s : State) (i j : Nat) (x : Core) (h : j ≠ i) : (s.setCore i x).core j = s.core j := by
  simp [State.core, State.setCore, mget_mset_ne _ _ _ _ _ h]

@[simp] theorem State.ply_setPly (s : State) (i : Nat) (x : Ply) : (s.setPly i x).ply i = x := by
  simp [State.ply, State.setPly]

theorem State.ply_setPly_ne (s : State) (i j : Nat) (x : Ply) (h : j ≠ i) : (s.setPly i x).ply j = s.ply j := by
  simp [State.ply, State.setPly, mget_mset_ne _ _ _ _ _ h]

@[simp] theorem State.hank_setHank (s : State) (i : Nat) (x : Hank) : (s.setHank i x).hank i = x := by
  simp [State.hank, State.setHank]

theorem State.hank_setHank_ne (s : State) (i j : Nat) (x : Hank) (h : j ≠ i) : (s.setHank i x).hank j = s.hank j := by
  simp [State.hank, State.setHank, mget_mset_ne _ _ _ _ _ h]

@[simp] theorem State.tile_setTile (s : State) (i : Nat) (x : Tile) : (s.setTile i x).tile i = x := by
  simp [State.tile, State.setTile]

theorem State.tile_setTile_ne (s : State) (i j : Nat) (x : Tile) (h : j ≠ i) : (s.setTile i x).tile j = s.tile j := by
  simp [State.tile, State.setTile, mget_mset_ne _ _ _ _ _ h]

@[simp] theorem State.chan_setChan (s : State) (i : Nat) (x : Chan) : (s.setChan i x).chan i = x := by
  simp [State.chan, State.setChan]

theorem State.chan_setChan_ne (s : State) (i j : Nat) (x : Chan) (h : j ≠ i) : (s.setChan i x).chan j = s.chan j := by
  simp [State.chan, State.setChan, mget_mset_ne _ _ _ _ _ h]

@[simp] theorem State.arr_setArr (s : State) (i : Nat) (x : WArray) : (s.setArr i x).arr i = x := by
  simp [State.arr, State.setArr]

theorem State.arr_setArr_ne (s : State) (i j : Nat) (x : WArray) (h : j ≠ i) : (s.setArr i x).arr j = s.arr j := by
  simp [State.arr, State.setArr, mget_mset_ne _ _ _ _ _ h]

@[simp] theorem State.dramIf_setDram (s : State) (i : Nat) (x : Dram) : (s.setDram i x).dramIf i = x := by
  simp [State.dramIf, State.setDram]

theorem State.dramIf_setDram_ne (s : State) (i j : Nat) (x : Dram) (h : j ≠ i) : (s.setDram i x).dramIf j = s.dramIf j := by
  simp [State.dramIf, State.setDram, mget_mset_ne _ _ _ _ _ h]

@[simp] theorem State.route_setRoute (s : State) (i : Nat) (x : Route) : (s.setRoute i x).route i = x := by
  simp [State.route, State.setRoute]

theorem State.route_setRoute_ne (s : State) (i j : Nat) (x : Route) (h : j ≠ i) : (s.setRoute i x).route j = s.route j := by
  simp [State.route, State.setRoute, mget_mset_ne _ _ _ _ _ h]

@[simp] theorem State.isl_setIsl (s : State) (i : Nat) (x : Island) : (s.setIsl i x).isl i = x := by
  simp [State.isl, State.setIsl]

theorem State.isl_setIsl_ne (s : State) (i j : Nat) (x : Island) (h : j ≠ i) : (s.setIsl i x).isl j = s.isl j := by
  simp [State.isl, State.setIsl, mget_mset_ne _ _ _ _ _ h]

@[simp] theorem State.flow_setFlow (s : State) (i : Nat) (x : Flow) : (s.setFlow i x).flow i = x := by
  simp [State.flow, State.setFlow]

theorem State.flow_setFlow_ne (s : State) (i j : Nat) (x : Flow) (h : j ≠ i) : (s.setFlow i x).flow j = s.flow j := by
  simp [State.flow, State.setFlow, mget_mset_ne _ _ _ _ _ h]

@[simp] theorem State.ethPort_setEth (s : State) (i : Nat) (x : Eth) : (s.setEth i x).ethPort i = x := by
  simp [State.ethPort, State.setEth]

theorem State.ethPort_setEth_ne (s : State) (i j : Nat) (x : Eth) (h : j ≠ i) : (s.setEth i x).ethPort j = s.ethPort j := by
  simp [State.ethPort, State.setEth, mget_mset_ne _ _ _ _ _ h]

@[simp] theorem State.fnPage_setFn (s : State) (i : Nat) (x : FnPage) : (s.setFn i x).fnPage i = x := by
  simp [State.fnPage, State.setFn]

theorem State.fnPage_setFn_ne (s : State) (i j : Nat) (x : FnPage) (h : j ≠ i) : (s.setFn i x).fnPage j = s.fnPage j := by
  simp [State.fnPage, State.setFn, mget_mset_ne _ _ _ _ _ h]

@[simp] theorem State.setCore_setCore (s : State) (i : Nat) (x y : Core) : (s.setCore i x).setCore i y = s.setCore i y := by
  simp [State.setCore]

@[simp] theorem State.unitSt_setUnit (s : State) (i : Nat) (u : UnitSt) : (s.setUnit i u).unitSt i = u := by
  simp [State.unitSt, State.setUnit]

end Sys2Proof.Machine
end

