-- ==== Sys2Proof/Laws/Issue.lean ====
section
/-! SUPPORT. What issuing a Zagil instruction does, once for all instructions on a core alone: slot A, slot B, a fault (06 R155, R168;
07 R192). -/

namespace Sys2Proof.Machine

open Safety

@[simp] theorem fresh_core (s : State) (c : Nat) : (fresh s).core c = s.core c := rfl

/-- A legal instruction of slot A, commanded by its name, leaves slot B next. -/
theorem zagil_slotA (s : State) (c w : Nat) (op : Nat → Bool) (f : Core → Nat → Except Nat Core) (k : Core)
    (hi : Issues s c w) (hop : op w = true) (hf : f (taken (s.core c)) w = .ok k) (hk : k.slotB = false) :
    s.zagil c op f = slotA s c k := by
  obtain ⟨h1, h2, h3, h4⟩ := hi
  have hc : ({ s with out := [] } : State).core c = s.core c := rfl
  simp only [taken] at hf
  unfold State.zagil State.issue
  simp [hc, h1, h2, h3, hop, h4, onCore, State.slotDone, hf, hk, slotA, fresh]

/-- A legal instruction of slot B ends its bundle. -/
theorem zagil_slotB (s : State) (c w : Nat) (op : Nat → Bool) (f : Core → Nat → Except Nat Core) (k : Core)
    (hi : Issues s c w) (hop : op w = true) (hf : f (taken (s.core c)) w = .ok k) (hk : k.slotB = true) :
    s.zagil c op f = slotB s c k := by
  obtain ⟨h1, h2, h3, h4⟩ := hi
  have hc : ({ s with out := [] } : State).core c = s.core c := rfl
  simp only [taken] at hf
  unfold State.zagil State.issue
  simp [hc, h1, h2, h3, hop, h4, onCore, State.slotDone, hf, hk, slotB, fresh]

/-- An instruction that faults raises its cause with the core as it was. -/
theorem zagil_fault (s : State) (c w : Nat) (op : Nat → Bool) (f : Core → Nat → Except Nat Core) (cause : Nat)
    (hi : Issues s c w) (hop : op w = true) (hf : f (taken (s.core c)) w = .error cause) :
    s.zagil c op f = ((fresh s).setCore c (taken (s.core c))).spdFault c cause := by
  obtain ⟨h1, h2, h3, h4⟩ := hi
  have hc : ({ s with out := [] } : State).core c = s.core c := rfl
  simp only [taken] at hf
  unfold State.zagil State.issue
  simp [hc, h1, h2, h3, hop, h4, onCore, hf, fresh, taken]

/-- An illegal instruction faults under any instruction command (R192). -/
theorem zagil_illegal (s : State) (c : Nat) (op : Nat → Bool) (f : Core → Nat → Except Nat Core)
    (hi : (s.core c).issues = true) (hl : zLegal (s.core c) (s.core c).word = false) :
    s.zagil c op f = ((fresh s).setCore c (taken (s.core c))).spdFault c 1 := by
  have hc : ({ s with out := [] } : State).core c = s.core c := rfl
  unfold State.zagil State.issue
  simp [hc, hi, hl, fresh, taken]

end Sys2Proof.Machine
end

