-- ==== Sys2Proof/Laws/Memory.lean ====
section
/-! SUPPORT. The canonical form of memory: every operation keeps it; reads after writes and clears. -/

namespace Sys2Proof.Machine

/-- Every address of `m` is above `lo`. -/
def memAbove (lo : Option Nat) (m : List Host.Cell) : Prop := ∀ c ∈ m, ∀ l, lo = some l → l < c.1

theorem memWfFrom_weaken (m : List Host.Cell) (lo lo' : Option Nat) (h : memWfFrom lo m = true) (hl : ∀ l, lo' = some l → ∃ l2, lo = some l2 ∧ l ≤ l2) :
    memWfFrom lo' m = true := by
  cases m with
  | nil => rfl
  | cons c m =>
    obtain ⟨a, b⟩ := c
    simp only [memWfFrom, Bool.and_eq_true] at h ⊢
    refine ⟨⟨?_, h.1.2⟩, h.2⟩
    cases lo' with
    | none => rfl
    | some l =>
      obtain ⟨l2, rfl, hle⟩ := hl l rfl
      have := h.1.1
      simp at this ⊢
      omega

theorem memPut_wf_from (m : List Host.Cell) (a : Nat) (b : Byte) :
    ∀ lo, memWfFrom lo m = true → (∀ l, lo = some l → l < a) → memWfFrom lo (memPut m a b) = true := by
  induction m with
  | nil =>
    intro lo _ ha
    simp only [memPut]
    split
    · rfl
    · cases lo with
      | none => simp_all [memWfFrom]
      | some l => have := ha l rfl; simp_all [memWfFrom]
  | cons c m ih =>
    obtain ⟨j, x⟩ := c
    intro lo h ha
    have h' := h
    simp only [memWfFrom, Bool.and_eq_true] at h
    simp only [memPut]
    split
    · subst j
      split
      · refine memWfFrom_weaken m _ _ h.2 ?_
        intro l hl; exact ⟨a, rfl, Nat.le_of_lt (ha l hl)⟩
      · cases lo <;> simp_all [memWfFrom]
    · split
      · split
        · exact h'
        · cases lo <;> simp_all [memWfFrom]
      · have hj : memWfFrom (some j) (memPut m a b) = true := by
          refine ih (some j) h.2 ?_
          intro l hl; injection hl; omega
        simp only [memWfFrom, Bool.and_eq_true]
        exact ⟨h.1, hj⟩

/-- A byte put in memory keeps the form. -/
theorem memPut_wf (m : List Host.Cell) (a : Nat) (b : Byte) (h : Memory.wf m = true) : Memory.wf (memPut m a b) = true :=
  memPut_wf_from m a b none h (by simp)

/-- So do bytes put in memory. -/
theorem memPuts_wf (bs : List Byte) : ∀ (m : List Host.Cell) (a : Nat), Memory.wf m = true → Memory.wf (memPuts m a bs) = true := by
  induction bs with
  | nil => intro m a h; exact h
  | cons b bs ih => intro m a h; exact ih _ _ (memPut_wf m a b h)

theorem memFilter_wf_from (p : Host.Cell → Bool) (m : List Host.Cell) :
    ∀ lo, memWfFrom lo m = true → memWfFrom lo (m.filter p) = true := by
  induction m with
  | nil => intro lo h; exact h
  | cons c m ih =>
    obtain ⟨a, b⟩ := c
    intro lo h
    have h' := h
    simp only [memWfFrom, Bool.and_eq_true] at h
    simp only [List.filter_cons]
    split
    · simp only [memWfFrom, Bool.and_eq_true]
      exact ⟨h.1, ih _ h.2⟩
    · refine memWfFrom_weaken _ _ _ (ih _ h.2) ?_
      intro l hl
      subst hl
      have := h.1.1
      simp at this
      exact ⟨a, rfl, Nat.le_of_lt this⟩

/-- Clearing a range keeps the form. -/
theorem memClear_wf (m : List Host.Cell) (lo hi : Nat) (h : Memory.wf m = true) : Memory.wf (memClear m lo hi) = true :=
  memFilter_wf_from _ m none h

theorem memGet_below (m : List Host.Cell) (j a : Nat) (h : memWfFrom (some j) m = true) (ha : a ≤ j) : memGet m a = 0 := by
  cases m with
  | nil => rfl
  | cons c m =>
    obtain ⟨i, x⟩ := c
    simp [memWfFrom] at h
    simp only [memGet]
    split
    · omega
    · split <;> [rfl; omega]

theorem memGet_memPut_from (m : List Host.Cell) (a : Nat) (b : Byte) :
    ∀ lo, memWfFrom lo m = true → ∀ x, memGet (memPut m a b) x = if x = a then b else memGet m x := by
  induction m with
  | nil =>
    intro lo _ x
    simp only [memPut]
    split
    · simp_all [memGet]
    · by_cases hx : x = a
      · subst hx; simp [memGet]
      · simp only [memGet, if_neg hx, if_neg (Ne.symm hx)]; split <;> rfl
  | cons c m ih =>
    obtain ⟨j, y⟩ := c
    intro lo h x
    simp only [memWfFrom, Bool.and_eq_true] at h
    simp only [memPut]
    split
    · subst j
      split
      · subst b
        by_cases hx : x = a
        · subst hx; simp [memGet_below m x x h.2 (Nat.le_refl _)]
        · simp only [memGet, if_neg hx, if_neg (Ne.symm hx)]
          split
          · exact memGet_below m a x h.2 (by omega)
          · rfl
      · by_cases hx : x = a
        · subst hx; simp [memGet]
        · simp only [memGet, if_neg hx, if_neg (Ne.symm hx)]
    · rename_i hja
      split
      · rename_i haj
        split
        · subst b
          by_cases hx : x = a
          · subst hx; simp [memGet, hja, haj]
          · simp [hx]
        · by_cases hx : x = a
          · subst hx; simp [memGet]
          · simp only [memGet, if_neg hx, if_neg (Ne.symm hx)]
            split
            · split <;> [omega; (split <;> [rfl; omega])]
            · rfl
      · rename_i haj
        simp only [memGet]
        by_cases hx : x = a
        · subst hx; simp [hja, haj, ih _ h.2]
        · simp only [if_neg hx]
          split
          · rfl
          · split
            · rfl
            · simp [ih _ h.2, hx]

/-- A read after a put. -/
theorem memGet_memPut (m : List Host.Cell) (a x : Nat) (b : Byte) (h : Memory.wf m = true) :
    memGet (memPut m a b) x = if x = a then b else memGet m x :=
  memGet_memPut_from m a b none h x

/-- A read after several puts: an address outside the bytes put reads as before. -/
theorem memGet_memPuts_outside (bs : List Byte) : ∀ (m : List Host.Cell) (a x : Nat), Memory.wf m = true →
    (x < a ∨ a + bs.length ≤ x) → memGet (memPuts m a bs) x = memGet m x := by
  induction bs with
  | nil => intro m a x _ _; rfl
  | cons b bs ih =>
    intro m a x h hx
    simp only [List.length_cons] at hx
    rw [memPuts, ih _ _ _ (memPut_wf m a b h) (by omega), memGet_memPut m a x b h, if_neg (by omega)]

/-- A read after several puts: a byte put is read. -/
theorem memGet_memPuts_inside (bs : List Byte) : ∀ (m : List Host.Cell) (a i : Nat), Memory.wf m = true →
    i < bs.length → memGet (memPuts m a bs) (a + i) = bs.getD i 0 := by
  induction bs with
  | nil => intro m a i _ h; simp at h
  | cons b bs ih =>
    intro m a i h hi
    cases i with
    | zero =>
      rw [memPuts, memGet_memPuts_outside bs _ _ _ (memPut_wf m a b h) (by omega), memGet_memPut m a _ b h]
      simp
    | succ i =>
      have := ih (memPut m a b) (a + 1) i (memPut_wf m a b h) (by simpa using hi)
      rw [memPuts, show a + (i + 1) = a + 1 + i by omega, this]
      simp

end Sys2Proof.Machine
end

