-- ==== Sys2Proof/Machine/Package.lean ====
section
/-! DEFINITION. Pins, rails and package: what each pin does in each power state, the limits and the order of the supplies, the thermal
path, and the ball map (19 R419 to R422, R424, R425, R427, R431, R432, R434 to R439). -/

namespace Sys2Proof.Machine

/-! ### Pins (R432, R439) -/

inductive Pin
  | fanPwm (fan : Nat)
  | thermAlert | pwrEn
  | audBclk | audFsync | audSd
  | conTxd | ebvDe
  | xspiCs | xspiReset
  | perst | clkreq
  deriving DecidableEq, Repr

/-- What the device does on a pin: it drives a level, a PWM of a duty in percent, or the protocol of the pin's unit; it releases or pulls
down an open drain; it listens; or it does nothing. -/
inductive Drive
  | low | high
  | pwm (duty : Nat)
  | protocol
  | released | pulled
  | input
  | highImpedance | unpowered
  deriving DecidableEq, Repr

/-- A pin's state (R432): in Dormant, that is while PWR_EN is low; while POR_N is low or the steward drives nothing yet; in Run and Hold. -/
def State.pinDrive (s : State) (p : Pin) : Drive :=
  match p with
  | .fanPwm f => if !s.pins.pwrEn || s.pins.fanHiZ then .highImpedance else .pwm (s.fanDuty f)
  | .pwrEn => if s.pins.pwrEn then .high else .low
  | p =>
    if !s.pins.pwrEn then .unpowered
    else match p with
      | .thermAlert => if s.pins.thermAlert then .pulled else .released
      | .audBclk | .audFsync | .audSd => if hasAud s.variant && s.pins.porN && s.aud.enable then .protocol else .low
      | .ebvDe => if s.pins.porN && s.stw.role != 2 then .protocol else .low
      | .conTxd | .xspiCs | .xspiReset => if s.pins.porN then .protocol else .high
      | .perst => .input
      | _ => .pulled

/-- The level that a 1.8 V input reads at a voltage, on a rail, both in mV; none between the thresholds (R431). -/
def inputLevel (rail mv : Nat) : Option Bool :=
  if 65 * rail ≤ 100 * mv then some true else if 100 * mv ≤ 35 * rail then some false else none

/-! ### Rails (R419 to R422, R424, R427) -/

inductive Rail
  | island (i : Nat)
  | stw | pcie | eth | ddrPhy | ddrQ | io18 | wake
  deriving DecidableEq, Repr

/-- The stress limit in mV: beyond it, or below -300 mV, the device may be damaged (R419). -/
def Rail.stressMax : Rail → Int
  | .stw => 900
  | .ddrPhy => 1250
  | .ddrQ => 700
  | .io18 | .wake => 2100
  | _ => 1000

def Rail.unharmed (r : Rail) (mv : Int) : Bool := decide (-300 ≤ mv ∧ mv ≤ r.stressMax)

/-- The nominal voltage in mV; a governed island's is the commanded one (R420). -/
def State.nominal (s : State) : Rail → Nat
  | .island i => (s.isl i).volt
  | .stw => 750
  | .pcie | .eth => 850
  | .ddrPhy => 1050
  | .ddrQ => 500
  | .io18 | .wake => 1800

/-- The tolerance at the balls in percent (R420). -/
def Rail.tolerance : Rail → Nat
  | .io18 | .wake => 5
  | _ => 3

/-- Whether a rail is within the limits of R420; an absent island's rail is tied off, or not looked at (R421). -/
def State.withinLimits (s : State) (r : Rail) (mv : Nat) : Bool :=
  let v := s.nominal r
  (match r with | .island i => !s.islands.contains i | _ => false)
  || decide (v * (100 - r.tolerance) ≤ 100 * mv ∧ 100 * mv ≤ v * (100 + r.tolerance))

/-- The junction temperatures, in degrees, between which the device operates as described (R420). -/
def junctionOk (t : Int) : Bool := decide (-20 ≤ t ∧ t ≤ 105)

/-- The largest current on the Z740 in mA (R422). -/
def Rail.maxCurrent : Rail → Nat
  | .island i => [10000, 10000, 3500, 3500, 5500, 3000].getD i 0
  | .stw => 300
  | .pcie => 1000
  | .eth => 800
  | .ddrPhy => 1500
  | .ddrQ => 2000
  | .io18 => 100
  | .wake => 5

/-- The largest power in 10 mW on a variant; the wake rail's is below 2 mW in Dormant. -/
def Rail.maxPower (v : Variant) (r : Rail) : Nat :=
  let pick := fun (a b c : Nat) => match v with | .z740 => a | .z720 => b | .z710 => c
  match r with
  | .island 0 => pick 840 840 420
  | .island 1 => pick 840 0 0
  | .island 2 => pick 280 280 140
  | .island 3 => pick 280 0 0
  | .island 4 => pick 450 450 300
  | .island _ => pick 240 240 120
  | .stw => 15
  | .pcie => 80
  | .eth => pick 60 60 40
  | .ddrPhy => pick 120 120 60
  | .ddrQ => pick 80 80 40
  | .io18 => 10
  | .wake => 0

/-- The group in which a rail rises after PWR_EN rises; the groups are removed in reverse (R424, R427). The wake rail stands by itself. -/
def Rail.group : Rail → Option Nat
  | .io18 => some 1
  | .stw | .ddrPhy => some 2
  | .island _ | .pcie | .eth => some 3
  | .ddrQ => some 4
  | .wake => none

/-- Whether a rail may rise while `up` rails have reached 90 % of their nominal voltage: every rail of the group before it must (R424). -/
def mayRise (v : Variant) (up : List Rail) (r : Rail) : Bool :=
  let rails := (islandsOf v).map Rail.island ++ [.stw, .pcie, .eth, .ddrPhy, .ddrQ, .io18]
  match r.group with
  | none => true
  | some g => rails.all (fun q => q.group != some (g - 1) || up.contains q)

/-! ### Thermal path (R435) -/

/-- Thermal resistances in m°C/W: junction to lid, the interface, and the reference heatsink in an airflow of 1.5 m/s or in still air. -/
def thermalSum (still : Bool) : Nat := 80 + 100 + (if still then 3200 else 1600)

/-- The steady junction temperature in m°C, from the ambient one and a power in mW. -/
def junction (ambient power : Nat) (still : Bool) : Nat := ambient + power * thermalSum still / 1000

/-! ### Balls (R436 to R438) -/

/-- A signal of a DRAM region: of channel A (0) or B (1), a bus and its bit; or the region's own. -/
inductive DramSig
  | ca (ch bit : Nat) | cs (ch : Nat) | ckT (ch : Nat) | ckC (ch : Nat)
  | dq (ch bit : Nat) | dmi (ch bit : Nat) | rdqsT (ch bit : Nat) | rdqsC (ch bit : Nat) | wckT (ch bit : Nat) | wckC (ch bit : Nat)
  | resetN | zq
  deriving DecidableEq, Repr

/-- Signal `k` of the 74 of a DRAM region (R438). -/
def dramSig (k : Nat) : Option DramSig :=
  let c := k / 36
  let n := k % 36
  if 74 ≤ k then none
  else if k = 72 then some .resetN
  else if k = 73 then some .zq
  else if n < 7 then some (.ca c n)
  else if n = 7 then some (.cs c)
  else if n = 8 then some (.ckT c)
  else if n = 9 then some (.ckC c)
  else if n < 26 then some (.dq c (n - 10))
  else if n < 28 then some (.dmi c (n - 26))
  else if n < 30 then some (.rdqsT c (n - 28))
  else if n < 32 then some (.rdqsC c (n - 30))
  else if n < 34 then some (.wckT c (n - 32))
  else some (.wckC c (n - 34))

inductive Ball
  | vss
  | supply (r : Rail)
  | dram (interface : Nat) (sig : DramSig)
  | signal (name : String)
  | pcieLane (lane : Nat) (name : String)
  | ethPort (port : Nat) (name : String)
  deriving DecidableEq, Repr

/-- The letters of the 37 rows, from A. -/
def rowNames : List String :=
  ["A", "B", "C", "D", "E", "F", "G", "H", "J", "K", "L", "M", "N", "P", "T", "U", "V", "W", "X", "Y", "Z"]
  ++ ["AA", "AB", "AC", "AD", "AE", "AF", "AG", "AH", "AJ", "AK", "AL", "AM", "AN", "AP", "AT", "AU"]

/-- The low-speed balls: rows T to AE, columns 34 to 37. -/
def lowSpeed : List (List String) :=
  [["REFCLK_SYS", "POR_N", "WAKE_N", "PWR_EN"], ["TRAY_MASTER", "TRAY_ADDR[0]", "TRAY_ADDR[1]", "TRAY_ADDR[2]"],
   ["TRAY_ADDR[3]", "THERM_ALERT_N", "CON_TXD", "CON_RXD"], ["XSPI_CLK", "XSPI_CS_N", "XSPI_DQS", "XSPI_RESET_N"],
   ["XSPI_DQ[0]", "XSPI_DQ[1]", "XSPI_DQ[2]", "XSPI_DQ[3]"], ["XSPI_DQ[4]", "XSPI_DQ[5]", "XSPI_DQ[6]", "XSPI_DQ[7]"]]
  ++ [["PMB0_SCL", "PMB0_SDA", "PMB0_ALERT_N", "PMB1_SCL"], ["PMB1_SDA", "PMB1_ALERT_N", "EBV_TXD", "EBV_RXD"],
   ["EBV_DE", "AUD_BCLK", "AUD_FSYNC", "AUD_SD"], ["AMP_FAULT_N[0]", "AMP_FAULT_N[1]", "AMP_FAULT_N[2]", "AMP_FAULT_N[3]"],
   ["FAN_PWM[0]", "FAN_PWM[1]", "FAN_PWM[2]", "FAN_PWM[3]"], ["FAN_TACH[0]", "FAN_TACH[1]", "FAN_TACH[2]", "FAN_TACH[3]"]]

/-- The rail of a power ball: rows are counted from 0, columns from 1; even columns are VSS (R437). -/
def supplyOf (row col : Nat) : Option Rail :=
  let at_ := fun (r0 r1 c0 c1 : Nat) => decide (r0 ≤ row ∧ row ≤ r1 ∧ c0 ≤ col ∧ col ≤ c1)
  if col % 2 = 0 then none
  else if at_ 6 11 7 17 then some (.island 0)
  else if at_ 6 11 21 31 then some (.island 1)
  else if at_ 12 15 7 17 then some (.island 2)
  else if at_ 12 15 21 31 then some (.island 3)
  else if at_ 16 24 7 31 then some (.island 4)
  else if at_ 25 30 7 17 then some (.island 5)
  else if at_ 25 27 21 23 then some .stw
  else if at_ 29 30 21 21 then some .wake
  else if at_ 5 5 5 33 || at_ 31 31 5 33 then some .ddrQ
  else if at_ 14 30 5 5 || at_ 14 30 33 33 then some .ddrPhy
  else if at_ 6 13 5 5 then some .pcie
  else if at_ 6 13 33 33 then some .eth
  else if at_ 26 31 35 37 then some .io18
  else none

/-- The ball at a row, counted from 0, and a column, from 1 (R437). -/
def ball (row col : Nat) : Ball :=
  let dram := fun (i r c : Nat) => match dramSig (17 * r + c) with | some g => Ball.dram i g | none => .vss
  if row < 5 ∧ 1 ≤ col ∧ col ≤ 17 then dram 0 row (col - 1)
  else if row < 5 ∧ 21 ≤ col then dram 1 row (col - 21)
  else if 32 ≤ row ∧ 1 ≤ col ∧ col ≤ 17 then dram 2 (row - 32) (col - 1)
  else if 32 ≤ row ∧ 21 ≤ col then dram 3 (row - 32) (col - 21)
  else if row = 5 ∧ 1 ≤ col ∧ col ≤ 4 then
    .signal (["PCIE_REFCLK_P", "PCIE_REFCLK_N", "PERST_N", "CLKREQ_N"].getD (col - 1) "")
  else if 6 ≤ row ∧ row ≤ 13 ∧ 1 ≤ col ∧ col ≤ 4 then .pcieLane (row - 6) (["TX_P", "TX_N", "RX_P", "RX_N"].getD (col - 1) "")
  else if row = 5 ∧ 34 ≤ col then
    (if col = 34 then .signal "ETH_REFCLK_P" else if col = 35 then .signal "ETH_REFCLK_N" else .vss)
  else if 6 ≤ row ∧ row ≤ 8 ∧ 34 ≤ col then .ethPort (row - 6) (["TX_P", "TX_N", "RX_P", "RX_N"].getD (col - 34) "")
  else if 14 ≤ row ∧ row ≤ 25 ∧ 34 ≤ col then .signal ((lowSpeed.getD (row - 14) []).getD (col - 34) "")
  else match supplyOf row col with
    | some r => .supply r
    | none => .vss

/-- The balls of a rail. -/
def ballsOf (r : Rail) : List (Nat × Nat) :=
  ((List.range 37).flatMap (fun i => (List.range 37).map (fun j => (i, j + 1)))).filter (fun x => ball x.1 x.2 == .supply r)

end Sys2Proof.Machine
end

