-- ==== Sys2Proof/WellFormed.lean ====
section
/-! DEFINITION. Well-formed commands: operands within what the spec numbers. The meanings answer for every operand; a command that is not
well formed is one that nothing outside the block sends. -/

namespace Sys2Proof

/-- A word-aligned register of a control block (00 R2). -/
def regOk (block off : Nat) : Bool := decide (block < 256 ∧ off < 2 ^ 20 ∧ off % 4 = 0)

/-- A requester of R112: its number lies in its range, and its hank, where its port attaches one, has 12 bits. -/
def Requester.wf : Requester → Bool
  | .spindle c => decide (c < 16)
  | .bobbin n => decide (n < 64)
  | .app c h => decide (c < 4 ∧ h < 4096)
  | .tile t => decide (t < 8)
  | .carding h => decide (h < 4096)
  | .vf n => decide (1 ≤ n ∧ n < 64)
  | .relay h => decide (h < 4096)
  | .tokenizer | .pf | .steward | .console | .trayMaster => true

/-- A request of 1 to 64 bytes inside one aligned 64-byte block of the 48-bit space, its data as long as it says (05 section Memory
requests). -/
def MemReq.wf (r : MemReq) : Bool :=
  r.who.wf && decide (r.addr < 2 ^ 48 ∧ 1 ≤ r.len ∧ r.addr % 64 + r.len ≤ 64 ∧ r.ecc ≤ 3)
  && r.flips.all (fun f => decide (f.1 < 2 ^ 48 ∧ 1 ≤ f.2 ∧ f.2 ≤ 2))
  && (match r.data with | some d => d.length == r.len | none => true)

/-- A flit's fields (05 R133). -/
def Flit.wf (f : Flit) : Bool :=
  decide (f.hank < 4096 ∧ f.route < 1024 ∧ f.bytesM1 < 64 ∧ f.data.length = f.bytesM1 + 1)

/-- A placement for a pool of a ply (04 R113). -/
def Placement.wf (p : Placement) : Bool := decide (p.ply < 16 ∧ p.pool < 8 ∧ p.base < 2 ^ 48)

/-- Ebvar addresses and sequence numbers (15 R362). -/
def Ebvar.wf (h : Ebvar) : Bool :=
  decide (h.src < 16 ∧ (h.dst < 16 ∨ h.dst = 0xFF) ∧ h.seq < 256 ∧ h.ack < 256)

/-- Management operands (15 R369). -/
def MgmtArgs.wf (a : MgmtArgs) : Bool := decide (a.object < 2 ^ 16 ∧ a.value < 2 ^ 32 ∧ a.durationS < 2 ^ 32)

/-- The operands of a command lie in the ranges the spec gives them. -/
def Instr.wf : Instr → Bool
  | .registerWrite who block off _ => who.wf && regOk block off
  | .latchingLowRead who block off => who.wf && regOk block off
  | .errLatchRearmRead who block off => who.wf && regOk block off
  | .peakWrite who _ | .jobReserveWrite who _ | .evtPulse who _ | .phaseAdjWrite who _ | .watchdogKick who _ | .leaAckWrite who _
  | .flush who => who.wf
  | .drainTicksWrite who ply _ => who.wf && decide (ply < 16)
  | .porNAssert _ | .wakeNQualified _ | .porNRelease _ | .servicesReady | .recoveryImage _ | .vddWakeRise | .perst | .pcieLinkDown
  | .jobSlotAcquire | .dramHotRelease | .tokenizerJobStart | .tokenizerJobEnd | .ptpSyncLoss | .holdoverExpired | .throttleStep
  | .forcedHold | .tdpCapStep | .holdEntryComplete | .watchdogExpiry | .dangerAfterReading | .pollCycle | .discoverRound | .masterLost
  | .logout | .sessionTimeout | .flushDone | .flushTimeout | .pwrEnOffTime | .vddWakeFall | .frameAbort | .idleAreaErased
  | .epochProgramRetry _ | .stageComplete _ => true
  | .functionLevelReset fn | .mailboxReply fn | .ping fn | .publish fn _ => decide (fn < 64)
  | .vfEnable n => decide (n < 64)
  | .mailboxRequestPost fn tail => decide (fn < 64 ∧ tail < 65536)
  | .routeEvent fn c => decide (fn < 64 ∧ c < 4)
  | .playPrompt fn v => decide (fn < 64 ∧ v < 4)
  | .msixMessage fn v _ => decide (fn < 64 ∧ v < 32)
  | .barAccess fn bar _ len d => decide (fn < 64 ∧ (bar = 0 ∨ bar = 2 ∨ bar = 4))
      && (match d with | some b => b.length == len && decide (1 ≤ len) | none => decide (1 ≤ len))
  | .load _ | .run _ | .hold _ | .dormant _ | .status _ => true
  | .reset _ c | .holdExitComplete c => c.all (fun i => decide (i < 6))
  | .weaveComplete ps | .granuleBoundary ps => ps.all Placement.wf
  | .plyBoundary ply i => decide (ply < 16) && i.places.all Placement.wf
  | .reweave _ ply | .cancel _ ply => decide (ply < 16)
  | .submitDoorbell who n => who.wf && decide (n < 2 ^ 13)
  | .memoryRequest r => r.wf
  | .regionCreate who slot | .regionDestroy who slot => who.wf && decide (slot < 4096)
  | .regionScrubDone slot => decide (slot < 4096)
  | .grant who peer => who.wf && decide (peer < 4096)
  | .revoke who g => who.wf && decide (g < 1024)
  | .revokeComplete g => decide (g < 1024)
  | .poolAllocate rs => rs.all (fun r => r.1.wf && decide (r.2.1 < 16 ∧ r.2.2.1 < 8 ∧ r.2.2.2 < 3))
  | .poolFree who p q i => who.wf && decide (p < 16 ∧ q < 8 ∧ i < 2 ^ 16)
  | .poolBufferScrubDone p q i => decide (p < 16 ∧ q < 8 ∧ i < 2 ^ 16)
  | .mr4Poll l => decide (l.length ≤ 4) && l.all (fun r => decide (r.1 < 8))
  | .patrolScrub a e _ => decide (a < 2 ^ 48 ∧ e ≤ 3)
  | .flitArrival f => f.wf
  | .creditReturn r n => decide (r < 1024 ∧ n ≤ 32)
  | .spindleTaskComplete c _ => decide (c < 16)
  | .spindleTaskStart c | .interruptEntry c | .nop c | .add c | .sub c | .and c | .or c | .xor c | .sll c | .srl c | .sra c
  | .slt c | .sltu c | .mul c | .mulh c | .min c | .max c | .movi c | .movhi c | .localScalarLoad c | .localScalarStore c | .amod c
  | .farScalarLoad c | .farScalarStore c | .br c | .brr c | .call c | .callr c | .ret c | .rti c | .rep c | .repr c | .tend c | .evp c
  | .fence c | .waiti c | .movcRead c | .movcWrite c | .skip c | .vadd c | .vsub c | .vadds c | .vsubs c | .vmul c | .vmulq c | .vand c
  | .vor c | .vxor c | .vsll c | .vsra c | .vsrl c | .vmin c | .vmax c | .vabs c | .vsel c | .vsld c | .vbcast c | .vpack c | .vunpk c
  | .vcmpeq c | .vcmplt c | .vcmple c | .pand c | .por c | .pxor c | .pandn c | .vld c | .vst c | .vldh c | .vsth c | .vldb c | .vldf c
  | .vstf c | .mac c | .macxy c | .cmac c | .cmacxy c | .acclr c | .vtoac c | .acadd c | .acsub c | .acmov c | .bexp c | .bexpM c
  | .smov c => decide (c < 16)
  | .whorlJobStart a ce ue => decide (a < 8) && ce.all (fun e => decide (e.1 < 8)) && ue.all (fun t => decide (t < 8))
  | .whorlJobStage a | .whorlJobEnd a _ | .outputTableSwap a => decide (a < 8)
  | .headroomLoop p c => decide (p < 16 ∧ c < 256)
  | .ctxHWrite who p c _ => who.wf && decide (p < 16 ∧ c < 256)
  | .cvtGo who p => who.wf && decide (p < 16)
  | .conversionDone h | .augRecord h => decide (h < 4096)
  | .ethFrameReceive f => decide (f.port < 3)
  | .frameTransmit p _ _ _ => decide (p < 3)
  | .txtsPop who p => who.wf && decide (p < 3)
  | .ethLinkChange p _ sp => decide (p < 3 ∧ sp < 8)
  | .pcieLinkUp w r => decide (w < 16 ∧ r < 16)
  | .gapWaitExpiry f | .auAdmit f _ | .pictureDecoded f _ => decide (f < 1024)
  | .samplingRateLoop f i => decide (f < 1024 ∧ i < 8)
  | .decodeStart e => decide (e < 2)
  | .augDoorbell who n => who.wf && decide (n < 2 ^ 13)
  | .bqCfgWrite who k _ => who.wf && decide (k < 16)
  | .batchRecordWrite h k => decide (h < 4096 ∧ k < 16)
  | .bobbinProgramStart n | .move n | .loop n | .wait n | .pace n | .signal n | .end_ n | .moveDrainDone n | .bobbinBusError n
  | .channelHalt n | .channelStopDone n => decide (n < 64)
  | .channelWaitSatisfied e => decide (e < 1024)
  | .resume who n | .abort who n => who.wf && decide (n < 64)
  | .start who n => who.wf && decide (n < 4)
  | .voiceQueue who v _ | .voiceStop who v _ => who.wf && decide (v < 4)
  | .clipEnd v => decide (v < 4)
  | .audioFrame l => l.all (fun v => decide (v < 4))
  | .ampFault a | .ampRetry a _ | .ampRetryClean a | .clear _ a _ => decide (a < 4)
  | .regulatorConfirm i _ _ _ | .linkLost i | .confirmTimeout i | .monitorCheck i _ | .pmbusRetry i _ => decide (i < 6)
  | .pmbusAlert m _ => decide (m < 2)
  | .thermalSample l => l.length == 16
  | .thermalTrip site _ => decide (site < 16)
  | .powerSample r => decide (r.vout.length ≤ 6)
  | .fanCurveUpdate l => decide (l.length ≤ 4)
  | .fanFault f | .fanFaultClear f => decide (f < 4)
  | .wdogRelease who l c => who.wf && l.length == 16 && c.all (fun i => decide (i < 6))
  | .overrideExpiry o i => decide (o < 2 ^ 16 ∧ i < 256)
  | .pollMissed p => decide (1 ≤ p ∧ p < 16)
  | .poll h e => h.wf && decide (e < 2 ^ 32)
  | .reply h _ | .announce h _ | .discover h => h.wf
  | .mgmt h _ _ _ _ _ d | .mgmtRpl h _ _ d => h.wf && decide (d.length ≤ 1024)
  | .relay f => f.hdr.wf && decide (f.data.length ≤ 1024)
  | .relayAck f => f.hdr.wf && decide (f.data.length ≤ 1024)
  | .relayJobStart _ => true
  | .login _ r v => decide (r < 2 ^ 384 ∧ v < 2 ^ 384)
  | .unit a | .power a | .pin a | .tdp a | .fan a | .release a | .warplock a => a.wf
  | .journalRead _ a n => decide (a < 2 ^ 64 ∧ n < 2 ^ 32)
  | .journalAck _ a => decide (a < 2 ^ 64)
  | .stage _ p | .activate _ p | .commit _ p | .revert _ p | .trialCommitTest p _ => decide (1 ≤ p ∧ p ≤ 8)
  | .enrollOwner _ _ serial r v => decide (serial < 2 ^ 64 ∧ r < 2 ^ 384 ∧ v < 2 ^ 384)
  | .revokeOwner _ slot id serial _ r v => decide (slot < 4 ∧ id < 2 ^ 64 ∧ serial < 2 ^ 64 ∧ r < 2 ^ 384 ∧ v < 2 ^ 384)
  | .faultReport i c => decide (i < 192 ∧ c < 256)
  | .unitNoResponse i | .suspectClear i | .drainLimitExpiry i | .unitDrained i => decide (i < 192)
  | .selftestDone i _ => decide (i < 192)

end Sys2Proof
end

