-- ==== Sys2Proof/Tests/Slice0.lean ====
section
/-! SUPPORT. Tests: ill-formed commands, the spec's own worked values, and for every statement a state and operands that meet its
hypotheses. Each is one command on a small state. -/

namespace Sys2Proof.Tests

open Machine Safety

set_option Elab.async false

/-- The state a command answers; the state it started from when it answers none. -/
def after (c : Instr) (s : State) : State := match exec c s with | .next t => t | _ => s

/-- A table of one entry. -/
abbrev only {α : Type} (k : Nat) (x : α) : NMap α := [(k, x)]

/-! ### Ill-formed commands -/

theorem test_ill_registers : Instr.wf (.registerWrite .pf 256 0 0) = false ∧ Instr.wf (.registerWrite .pf 0 2 0) = false
    ∧ Instr.wf (.latchingLowRead (.bobbin 64) 2 0) = false ∧ Instr.wf (.errLatchRearmRead .pf 4 (2 ^ 20)) = false
    ∧ Instr.wf (.peakWrite (.spindle 16) 0) = false ∧ Instr.wf (.drainTicksWrite .pf 16 0) = false
    ∧ Instr.wf (.registerWrite .pf 255 0xFFFFC 0) = true := by decide

theorem test_ill_memory : Instr.wf (.memoryRequest { who := .pf, addr := 60, len := 5, data := none, ecc := 0 }) = false
    ∧ Instr.wf (.memoryRequest { who := .pf, addr := 0, len := 0, data := none, ecc := 0 }) = false
    ∧ Instr.wf (.memoryRequest { who := .pf, addr := 0, len := 2, data := some [0], ecc := 0 }) = false
    ∧ Instr.wf (.memoryRequest { who := .pf, addr := 0, len := 1, data := none, ecc := 4 }) = false
    ∧ Instr.wf (.memoryRequest { who := .vf 64, addr := 0, len := 1, data := none, ecc := 0 }) = false
    ∧ Instr.wf (.barAccess 0 1 0 4 none) = false ∧ Instr.wf (.barAccess 64 0 0 4 none) = false ∧ Instr.wf (.barAccess 0 0 0 0 none) = false
    ∧ Instr.wf (.memoryRequest { who := .pf, addr := 60, len := 4, data := none, ecc := 3 }) = true := by decide

theorem test_ill_regions : Instr.wf (.regionCreate .pf 4096) = false ∧ Instr.wf (.regionScrubDone 4096) = false
    ∧ Instr.wf (.grant .pf 4096) = false ∧ Instr.wf (.revoke .pf 1024) = false ∧ Instr.wf (.revokeComplete 1024) = false
    ∧ Instr.wf (.poolAllocate [(.pf, 16, 0, 0)]) = false ∧ Instr.wf (.poolAllocate [(.pf, 0, 8, 0)]) = false
    ∧ Instr.wf (.poolAllocate [(.pf, 0, 0, 3)]) = false ∧ Instr.wf (.poolFree .pf 0 8 0) = false
    ∧ Instr.wf (.poolBufferScrubDone 16 0 0) = false ∧ Instr.wf (.weaveComplete [{ ply := 16, pool := 0, base := 0 }]) = false
    ∧ Instr.wf (.plyBoundary 16 ⟨[], []⟩) = false ∧ Instr.wf (.reweave .host 16) = false ∧ Instr.wf (.submitDoorbell .pf 8192) = false := by decide

theorem test_ill_fabric : Instr.wf (.flitArrival { hank := 0, route := 1024, first := true, last := true, poison := false, bytesM1 := 0, data := [0] }) = false
    ∧ Instr.wf (.flitArrival { hank := 4096, route := 0, first := true, last := true, poison := false, bytesM1 := 0, data := [0] }) = false
    ∧ Instr.wf (.flitArrival { hank := 0, route := 0, first := true, last := true, poison := false, bytesM1 := 1, data := [0] }) = false
    ∧ Instr.wf (.creditReturn 1024 0) = false ∧ Instr.wf (.creditReturn 0 33) = false ∧ Instr.wf (.patrolScrub (2 ^ 48) 0 ⟨false, false⟩) = false
    ∧ Instr.wf (.mr4Poll [(8, false)]) = false := by decide

theorem test_ill_engines : Instr.wf (.add 16) = false ∧ Instr.wf (.smov 16) = false ∧ Instr.wf (.spindleTaskComplete 16 0) = false
    ∧ Instr.wf (.whorlJobStage 8) = false ∧ Instr.wf (.headroomLoop 16 0) = false ∧ Instr.wf (.ctxHWrite .pf 0 256 0) = false
    ∧ Instr.wf (.cvtGo .pf 16) = false ∧ Instr.wf (.conversionDone 4096) = false ∧ Instr.wf (.gapWaitExpiry 1024) = false
    ∧ Instr.wf (.samplingRateLoop 0 8) = false ∧ Instr.wf (.decodeStart 2) = false ∧ Instr.wf (.augDoorbell .pf 8192) = false
    ∧ Instr.wf (.bqCfgWrite .pf 16 0) = false ∧ Instr.wf (.batchRecordWrite 0 16) = false ∧ Instr.wf (.move 64) = false
    ∧ Instr.wf (.channelWaitSatisfied 1024) = false ∧ Instr.wf (.resume .pf 64) = false ∧ Instr.wf (.start .pf 4) = false := by decide

theorem test_ill_links : Instr.wf (.functionLevelReset 64) = false ∧ Instr.wf (.vfEnable 64) = false
    ∧ Instr.wf (.mailboxRequestPost 0 65536) = false ∧ Instr.wf (.routeEvent 0 4) = false ∧ Instr.wf (.playPrompt 0 4) = false
    ∧ Instr.wf (.msixMessage 0 32 (some true)) = false ∧ Instr.wf (.frameTransmit 3 [] false false) = false ∧ Instr.wf (.txtsPop .pf 3) = false
    ∧ Instr.wf (.ethLinkChange 0 true 8) = false ∧ Instr.wf (.pcieLinkUp 16 0) = false ∧ Instr.wf (.voiceQueue .pf 4 0) = false
    ∧ Instr.wf (.clipEnd 4) = false ∧ Instr.wf (.audioFrame [4]) = false ∧ Instr.wf (.ampFault 4) = false := by decide

theorem test_ill_steward : Instr.wf (.linkLost 6) = false ∧ Instr.wf (.pmbusAlert 2 []) = false ∧ Instr.wf (.thermalSample []) = false
    ∧ Instr.wf (.thermalTrip 16 110) = false ∧ Instr.wf (.powerSample { power := 0, vout := [0, 0, 0, 0, 0, 0, 0] }) = false
    ∧ Instr.wf (.fanCurveUpdate [0, 0, 0, 0, 0]) = false ∧ Instr.wf (.fanFault 4) = false ∧ Instr.wf (.wdogRelease .steward [] []) = false
    ∧ Instr.wf (.overrideExpiry 0 256) = false ∧ Instr.wf (.pollMissed 0) = false
    ∧ Instr.wf (.poll { src := 16, dst := 0, seq := 0, ack := 0, crcOk := true } 0) = false
    ∧ Instr.wf (.unit { from_ := .host, object := 2 ^ 16, value := 0, durationS := 0 }) = false ∧ Instr.wf (.stage .host 9) = false
    ∧ Instr.wf (.revokeOwner .console 4 0 0 0 0 0) = false ∧ Instr.wf (.login 0 (2 ^ 384) 0) = false ∧ Instr.wf (.faultReport 192 0) = false
    ∧ Instr.wf (.journalAck .host (2 ^ 64)) = false ∧ Instr.wf (.reset .host [6]) = false := by decide

/-! ### Zagil: words by the formats of 07 R170 and R172 -/

def fmtR (opc fn rd ra rb i imm : Nat) : Nat := opc * 2 ^ 58 + fn * 2 ^ 52 + rd * 2 ^ 47 + ra * 2 ^ 42 + rb * 2 ^ 37 + i * 2 ^ 32 + imm
def fmtM (opc fn rd mop abs : Nat) : Nat := opc * 2 ^ 58 + fn * 2 ^ 52 + rd * 2 ^ 47 + mop * 2 ^ 31 + abs
def fmtC (fn tgt ra cond imm : Nat) : Nat := 0x06 * 2 ^ 58 + fn * 2 ^ 52 + tgt * 2 ^ 40 + ra * 2 ^ 35 + cond * 2 ^ 32 + imm
def fmtV (opc fn vd va vb pr w u imm : Nat) : Nat :=
  opc * 2 ^ 58 + fn * 2 ^ 52 + vd * 2 ^ 47 + va * 2 ^ 42 + vb * 2 ^ 37 + pr * 2 ^ 34 + w * 2 ^ 33 + u * 2 ^ 32 + imm
def mopOf (an mode d : Nat) : Nat := an * 2 ^ 13 + mode * 2 ^ 10 + d

/-- Core 0 runs at 0x40, where the word `a` stands in slot A. -/
def kA (a : Nat) : Core :=
  { state := 3, pc := 0x40, pm := memPuts [] 0x40 (leBytes 8 a), s := [(1, 7#64), (2, BitVec.ofInt 64 (-2)), (30, 0x100#64)]
    a := [(1, 0x80#32)], hank := 5 }
/-- The same, with the word in slot B. -/
def kB (a : Nat) : Core :=
  { kA 0 with pm := memPuts [] 0x48 (leBytes 8 a), slotB := true, v := [(1, 0x7FFF0003#1024), (2, 0x00010005#1024)]
              p := [(1, 0x1F#128)], ac := [(1, 5#3072), (2, 9#3072)], s := [(1, 7#64)] }
def sc (k : Core) : State := { State.reset with cores := only 0 k }
def k1 (c : Instr) (k : Core) : Core := (after c (sc k)).core 0

theorem wit_scalar : (∀ o ∈ scalarOps, Issues (sc (kA (fmtR 1 o.fn 3 1 2 0 0))) 0 (fmtR 1 o.fn 3 1 2 0 0)
      ∧ isOp 0x01 o.fn (fmtR 1 o.fn 3 1 2 0 0) = true)
    ∧ Issues (sc (kA (fmtR 1 0xE 3 0 0 1 5))) 0 (fmtR 1 0xE 3 0 0 1 5) ∧ Issues (sc (kA (fmtR 1 0xF 3 0 0 1 5))) 0 (fmtR 1 0xF 3 0 0 1 5) := by
  unfold Issues; decide +kernel

/-- 07 R176 on 7 and -2: the table's results by hand. -/
theorem test_scalar : (scalarOps.map (fun o => ((k1 (o.cmd 0) (kA (fmtR 1 o.fn 3 1 2 0 0))).getS 3).toInt)) =
    [5, 9, 6, -1, -7, -(2 ^ 62), 0, 0, 0, 1, -14, -1, -2, 7] := by decide +kernel

theorem test_movi : ((k1 (.movi 0) (kA (fmtR 1 0xE 3 0 0 1 0xFFFFFFFF))).getS 3).toInt = -1
    ∧ ((k1 (.movhi 0) (kA (fmtR 1 0xF 1 0 0 1 5))).getS 1).toNat = 5 * 2 ^ 32 + 7 := by decide +kernel

/-- R177: a load, a store and an AMOD through A1 = 0x80, in a mode of each shape. -/
theorem wit_local : Issues (sc (kA (fmtM 2 2 3 (mopOf 1 1 4) 0))) 0 (fmtM 2 2 3 (mopOf 1 1 4) 0)
    ∧ (taken (kA 0)).mop (mopOf 1 1 4) 0 4 = .ok (0x80, { taken (kA 0) with a := [(1, 0x90#32)] })
    ∧ Issues (sc (kA (fmtM 3 2 1 (mopOf 1 0 0) 0))) 0 (fmtM 3 2 1 (mopOf 1 0 0) 0)
    ∧ Issues (sc (kA (fmtM 4 2 0 (mopOf 1 1 4) 0))) 0 (fmtM 4 2 0 (mopOf 1 1 4) 0) ∧ Memory.wf (kA 0).x = true := by
  unfold Issues; decide +kernel

theorem test_local : ((k1 (.localScalarLoad 0) { kA (fmtM 2 2 3 (mopOf 1 1 4) 0) with x := memPuts [] 0x80 [1, 2, 3, 0x84] }).getS 3).toNat
      = 0xFFFFFFFF84030201
    ∧ (let k := k1 (.localScalarStore 0) { kA (fmtM 3 2 1 (mopOf 1 0 0) 0) with s := only 1 0x11223344#64 }
       k.lbytes 0x80 4 = [0x44, 0x33, 0x22, 0x11] ∧ (k.getA 1).toNat = 0x80)
    ∧ ((k1 (.amod 0) (kA (fmtM 4 2 0 (mopOf 1 1 0x3FF) 0))).getA 1).toNat = 0x7C := by decide +kernel

/-- R156, R168: a load off its alignment (2), one outside X and Y (3), and 2 as the address's low bits; modadd in a buffer of 12 bytes at
0x100. -/
theorem wit_local_faults : Issues (sc (kA (fmtM 2 2 3 (mopOf 0 4 0) 0x82))) 0 (fmtM 2 2 3 (mopOf 0 4 0) 0x82)
    ∧ (taken (kA 0)).mopAddr (mopOf 0 4 0) 0x82 4 = .error 2 ∧ (taken (kA 0)).mopAddr (mopOf 2 0 0) 0 4 = .ok 0
    ∧ ({ kA 0 with a := only 1 0x40000#32 } : Core).mopAddr (mopOf 1 0 0) 0 2 = .error 3 ∧ mopMode (mopOf 1 0 0) ≠ 3
    ∧ (k1 (.localScalarLoad 0) (kA (fmtM 2 2 3 (mopOf 0 4 0) 0x82))).faultCause = 2
    ∧ (({ kA 0 with a := only 1 0x108#32, b := only 1 0x100#32, l := only 1 12#32 } : Core).modadd 1 8 4).map (·.toNat) = some 0x104
    ∧ (({ kA 0 with l := only 1 (0x80000000#32 + 12) } : Core).modadd 1 4 4) = none := by unfold Issues; decide +kernel

/-- R179 to R183: a branch taken and not taken, BRR on and off its alignment, SKIP, NOP in both slots, FENCE and WAITI. -/
theorem wit_control : Issues (sc (kA (fmtC 0 9 1 2 0))) 0 (fmtC 0 9 1 2 0) ∧ isOp 0x06 0x00 (fmtC 0 9 1 2 0) = true
    ∧ Issues (sc { kA (fmtC 1 0 1 0 0) with s := only 1 0x90#64 }) 0 (fmtC 1 0 1 0 0) ∧ Issues (sc (kA (fmtC 1 0 1 0 0))) 0 (fmtC 1 0 1 0 0)
    ∧ Issues (sc (kA (fmtR 8 0 0 0 0 0 0 + 1 * 2 ^ 35 + 2 * 2 ^ 32))) 0 (fmtR 8 0 0 0 0 0 0 + 1 * 2 ^ 35 + 2 * 2 ^ 32)
    ∧ Issues (sc (kA 0)) 0 0 ∧ Issues (sc (kB 0)) 0 0
    ∧ Issues (sc (kA (fmtC 0xA 0 0 0 0))) 0 (fmtC 0xA 0 0 0 0) ∧ Issues (sc (kA (fmtC 0xB 0 0 0 0))) 0 (fmtC 0xB 0 0 0 0)
    ∧ (let k := { kA (fmtR 1 0 3 1 2 0 0) with skip := some true }; k.issues = true ∧ zLegal k k.word = true) := by
  unfold Issues; decide +kernel

theorem test_control : (k1 (.br 0) (kA (fmtC 0 9 1 2 0))).jump = some (0x90, true) ∧ (k1 (.br 0) (kA (fmtC 0 9 1 1 0))).jump = none
    ∧ (k1 (.brr 0) (kA (fmtC 1 0 1 0 0))).faultCause = 2 ∧ (k1 (.nop 0) (kB 0)).pc = 0x50
    ∧ (k1 (.skip 0) (kA (fmtR 8 0 0 0 0 0 0 + 1 * 2 ^ 35 + 2 * 2 ^ 32))).skip = some true
    ∧ (k1 (.add 0) { kA (fmtR 1 0 3 1 2 0 0) with skip := some true }).getS 3 = 0 := by decide +kernel

/-- R155, R159: the end of a repeat's body with its count above 1 and at 1; REP opening, with a count of 0, and a fifth level. -/
theorem wit_repeats : (let k := { kB 0 with ld := 1, le := only 0 0x40#16, ls := only 0 0x20#16, lc := only 0 3#32 }
      k.jump = none ∧ k.getLd = 1 ∧ k.getLe 0 = k.pc ∧ k.endBundle.pc = 0x20 ∧ k.endBundle.getLc 0 = 2)
    ∧ (let k := { kB 0 with ld := 1, le := only 0 0x40#16, ls := only 0 0x20#16, lc := only 0 1#32 }; k.endBundle.pc = 0x50
        ∧ k.endBundle.getLd = 0)
    ∧ (let k := { kB 0 with ld := 1, le := only 0 0x60#16 }; k.getLe 0 ≠ k.pc ∧ k.endBundle.pc = 0x50)
    ∧ Issues (sc (kA (fmtC 6 9 0 0 3))) 0 (fmtC 6 9 0 0 3) ∧ Issues (sc (kA (fmtC 6 9 0 0 0))) 0 (fmtC 6 9 0 0 0)
    ∧ Issues (sc { kA (fmtC 7 9 1 0 0) with ld := 4 }) 0 (fmtC 7 9 1 0 0)
    ∧ (let k := k1 (.rep 0) (kA (fmtC 6 9 0 0 3)); k.getLd = 1 ∧ k.getLs 0 = 0x50 ∧ k.getLe 0 = 0x90 ∧ k.getLc 0 = 3)
    ∧ (k1 (.repr 0) { kA (fmtC 7 9 1 0 0) with ld := 4 }).faultCause = 6 := by unfold Issues; decide +kernel

/-- R163, R164: a frame of S1 and S2 below 0x100, pushed at the bundle's end, and its return. -/
theorem wit_call_ret : (let k := kA (fmtC 2 9 0 0 6)
      Issues (sc k) 0 (fmtC 2 9 0 0 6) ∧ maskRegs 6 = [1, 2] ∧ frameOk 0xE8 3 = true ∧ Memory.wf k.x = true
      ∧ (let k' := { k1 (.call 0) k with slotB := true }
         k'.rti = false ∧ k'.jump = some (0x90, false) ∧ k'.frame = some (true, [1, 2]) ∧ Memory.wf k'.x = true ∧ k'.getS 30 = 0x100
         ∧ k'.endBundle.getS 30 = 0xE8 ∧ k'.endBundle.getS 31 = 0x50 ∧ k'.endBundle.pc = 0x90 ∧ k'.endBundle.lbytes 0xF0 8 = leBytes 8 7))
    ∧ (let k := { kA (fmtC 4 0 0 0 0) with s := [(30, 0xE8#64), (31, 0x50#64)], x := memPuts [] 0xE8 (leBytes 8 2 ++ leBytes 8 99) }
       let k' := { k1 (.ret 0) k with slotB := true }
       Issues (sc k) 0 (fmtC 4 0 0 0 0) ∧ maskRegs (leNat (k.lbytes 0xE8 4)) = [1] ∧ k'.frame = some (false, [1])
       ∧ k'.jump = some (0x50, false) ∧ k'.getS 1 = 0 ∧ k'.endBundle.getS 1 = 99 ∧ k'.endBundle.getS 30 = 0xF8 ∧ k'.endBundle.pc = 0x50)
    ∧ (let k := kA (fmtC 3 0 1 0 6); ¬(k.getS 1).toNat % 16 = 0)
    ∧ (let k := { kA (fmtC 3 0 1 0 6) with s := [(1, 0x90#64), (30, 0x100#64)] }
       Issues (sc k) 0 (fmtC 3 0 1 0 6) ∧ (k.getS 1).toNat % 16 = 0) := by unfold Issues; decide +kernel

/-- R165 to R168: an illegal word below and at level 3, an input that is due, RTI in service and at base level. -/
theorem wit_faults : (let k := kA (2 ^ 63); k.issues = true ∧ zLegal k k.word = false ∧ (k1 (.add 0) k).active = 8
      ∧ (k1 (.add 0) k).faultCause = 1)
    ∧ (let k := { kA (2 ^ 63) with active := 8 }; k.issues = true ∧ zLegal k k.word = false ∧ (k1 (.add 0) k).state = 4)
    ∧ (let k := { kA 0 with ie := true, ien := 1, ipend := 1, ilvl := 1 }
       k.due.isSome = true ∧ (k1 (.interruptEntry 0) k).ipend = 0 ∧ (k1 (.interruptEntry 0) k).pc = 16)
    ∧ (let k := { kA (fmtC 5 0 0 0 0) with active := 2 }; Issues (sc k) 0 (fmtC 5 0 0 0 0) ∧ (k1 (.rti 0) k).rti = true)
    ∧ (k1 (.rti 0) (kA (fmtC 5 0 0 0 0))).faultCause = 1
    ∧ (let k := { kB 0 with rti := true, active := 2, ipc := only 1 0x80#16, isr := only 1 0x10100#32 }
       k.topLevel = some 1 ∧ k.endBundle.pc = 0x80 ∧ k.endBundle.active = 0 ∧ k.endBundle.ie = true ∧ k.endBundle.sat = true) := by
  unfold Issues; decide +kernel

/-- R181, R182: BX clamped by MOVC, and an event inside and outside the hank's range. -/
theorem wit_movc_evp : Issues (sc (kA (fmtR 7 1 0 1 0 0 0 + 1 * 2 ^ 34))) 0 (fmtR 7 1 0 1 0 0 0 + 1 * 2 ^ 34)
    ∧ (k1 (.movcWrite 0) { kA (fmtR 7 1 0 1 0 0 0 + 1 * 2 ^ 34) with s := only 1 60#64 }).bx = 47
    ∧ Issues (sc (kA (fmtR 7 0 3 0 0 0 0 + 10 * 2 ^ 34))) 0 (fmtR 7 0 3 0 0 0 0 + 10 * 2 ^ 34)
    ∧ ((k1 (.movcRead 0) (kA (fmtR 7 0 3 0 0 0 0 + 10 * 2 ^ 34))).getS 3).toNat = 0x40
    ∧ (let s := sc { kA (fmtC 9 0 0 0 0x3F) with hank := 0 }
       Issues s 0 (fmtC 9 0 0 0 0x3F) ∧ s.ownsEvent 0 0x3F = true ∧ (after (.evp 0) s).tallyOf 0x3F = 1)
    ∧ (let s := sc { kA (fmtC 9 0 0 0 0x40) with hank := 0 }
       Issues s 0 (fmtC 9 0 0 0 0x40) ∧ s.ownsEvent 0 0x40 = false ∧ ((after (.evp 0) s).core 0).faultCause = 4) := by
  unfold Issues; decide +kernel

/-- R178, R185: far accesses off their alignment reach no memory; an aligned one of hank 0's DRAM is answered. -/
theorem wit_far : (let k := { kA (fmtR 5 2 3 1 0 0 0) with s := only 1 0x100000002#64 }
      Issues (sc k) 0 (fmtR 5 2 3 1 0 0 0) ∧ k.farAddr (fmtR 5 2 3 1 0 0 0) % 4 ≠ 0 ∧ (k1 (.farScalarLoad 0) k).faultCause = 2)
    ∧ (let k := { kA (fmtR 5 6 2 1 0 0 0) with s := [(1, 0x100000004#64), (2, 0x1234#64)], hank := 0 }
       let s := { sc k with dram := only 0 { state := 2, density := 1 } }
       Issues s 0 (fmtR 5 6 2 1 0 0 0) ∧ (after (.farScalarStore 0) s).bytesAt 0x100000004 2 = [0x34, 0x12]
       ∧ (s.busWrite (.spindle 0) 0x100000004 (leBytes 4 0x1234)).1 = .ok)
    ∧ (let k := { kA (fmtR 5 2 3 1 0 0 0) with s := only 1 0x100000004#64, hank := 0 }
       let s := { sc k with dram := only 0 { state := 2, density := 1 }, mem := memPuts [] 0x100000004 [5], written := [0x100000000] }
       Issues s 0 (fmtR 5 2 3 1 0 0 0) ∧ ((after (.farScalarLoad 0) s).core 0).getS 3 = 5
       ∧ (s.busRead (.spindle 0) 0x100000004 4).1 = .ok)
    ∧ (let k := { kB (fmtV 0x13 0 3 1 0 0 0 0 0) with s := only 1 0x100000000#64, hank := 0 }
       let s := { sc k with dram := only 0 { state := 2, density := 1 }, mem := memPuts [] 0x100000000 [5, 6], written := [0x100000000] }
       Issues s 0 (fmtV 0x13 0 3 1 0 0 0 0 0) ∧ (k1 (.vldf 0) { k with s := only 1 4#64 }).faultCause = 2
       ∧ (s.busRead (.spindle 0) 0x100000000 128).1 = .ok ∧ ((after (.vldf 0) s).core 0).vget 3 = 0x605) := by
  unfold Issues; decide +kernel

/-- R175, R185: VSTF of V2 under P1, which governs bytes 0 to 4: byte 5 and the second request's bytes stay. -/
theorem wit_far_governed : (let w := fmtV 0x13 1 2 1 0 1 1 0 0
      let k := { kB w with s := only 1 0x100000000#64, hank := 0 }
      let s := { sc k with dram := only 0 { state := 2, density := 1 }, mem := memPuts [] 0x100000000 [8, 8, 8, 8, 8, 8], written := [0x100000000] }
      Issues s 0 w ∧ (s.core 0).farVec w % 128 = 0
      ∧ (s.busWriteRuns (.spindle 0) 0x100000000 ((s.core 0).farStoreBytes w)).1 = .ok
      ∧ (after (.vstf 0) s).bytesAt 0x100000000 7 = [5, 0, 1, 0, 0, 8, 0]) := by
  unfold Issues; decide +kernel

/-- R184: all lane instructions, 16-bit lanes, governed by P1 = 0x1F: lanes 0 and 1 on 3 and 0x7FFF, 5 and 1. -/
theorem wit_lanes : (∀ o ∈ laneOps, Issues (sc (kB (fmtV 0x10 o.fn 3 1 2 0 0 0 0))) 0 (fmtV 0x10 o.fn 3 1 2 0 0 0 0)
      ∧ isOp 0x10 o.fn (fmtV 0x10 o.fn 3 1 2 0 0 0 0) = true)
    ∧ (let k := { kB (fmtV 0x10 0 3 1 2 0 0 0 0) with skip := some true }
       k.issues = true ∧ zLegal k k.word = true ∧ (k1 (.vadd 0) k).vget 3 = 0 ∧ (k1 (.vadd 0) k).pc = 0x50)
    ∧ (k1 (.vadd 0) { kB (fmtV 0x10 0 3 1 2 0 0 0 0) with tend := true }).ended = true := by unfold Issues; decide +kernel

theorem test_lanes : (laneOps.map (fun o => lane 16 ((k1 (o.cmd 0) (kB (fmtV 0x10 o.fn 3 1 2 0 0 0 0))).vget 3) 1)) =
    [0x8000, 0x7FFE, 0x7FFF, 0x7FFE, 0x7FFF, 1, 1, 0x7FFF, 0x7FFE, 0x7FFF, 0x7FFF, 0x7FFF, 1, 0x7FFF, 0x7FFF]
    ∧ (k1 (.vadds 0) (kB (fmtV 0x10 2 3 1 2 0 0 0 0))).sat = true ∧ (k1 (.vsubs 0) (kB (fmtV 0x10 3 3 1 2 0 0 0 0))).sat = false := by
  decide +kernel

theorem wit_moves : (∀ f ∈ [0x0F, 0x10, 0x11, 0x12, 0x13], Issues (sc (kB (fmtV 0x10 f 3 1 2 1 0 0 0))) 0 (fmtV 0x10 f 3 1 2 1 0 0 0))
    ∧ (∀ f ∈ [0, 1, 2], Issues (sc (kB (fmtV 0x11 f 3 1 2 1 0 0 0))) 0 (fmtV 0x11 f 3 1 2 1 0 0 0))
    ∧ (∀ f ∈ [8, 9, 10, 11], Issues (sc (kB (fmtV 0x11 f 3 1 2 0 0 0 0))) 0 (fmtV 0x11 f 3 1 2 0 0 0 0)) := by unfold Issues; decide +kernel

theorem test_moves : lane 16 ((k1 (.vsel 0) (kB (fmtV 0x10 0x0F 3 1 2 1 0 0 0))).vget 3) 1 = 0x7FFF
    ∧ lane 16 ((k1 (.vsld 0) (kB (fmtV 0x10 0x10 3 1 2 0 0 0 63))).vget 3) 1 = 5
    ∧ lane 16 ((k1 (.vbcast 0) (kB (fmtV 0x10 0x11 3 1 0 0 0 0 0))).vget 3) 9 = 7
    ∧ lane 8 ((k1 (.vpack 0) (kB (fmtV 0x10 0x12 3 1 2 0 0 1 7))).vget 3) 1 = 255
    ∧ lane 16 ((k1 (.vunpk 0) (kB (fmtV 0x10 0x13 3 1 0 0 0 0 0))).vget 3) 3 = 0x7F
    ∧ (k1 (.vcmplt 0) (kB (fmtV 0x11 1 3 1 2 0 0 0 0))).getP 3 = 3#128
    ∧ (k1 (.pandn 0) (kB (fmtV 0x11 11 3 0 1 0 0 0 0))).getP 3 = ~~~0x1F#128
    ∧ (k1 (.pand 0) (kB (fmtV 0x11 8 0 0 1 0 0 0 0))).getP 0 = BitVec.allOnes 128 := by decide +kernel

/-- R185: a load, a half load, a broadcast load and a governed store. -/
theorem wit_vmem : (∀ f ∈ [0, 1, 2, 3, 4], Issues (sc (kB (fmtV 0x12 f 3 1 0 1 0 0 0))) 0 (fmtV 0x12 f 3 1 0 1 0 0 0))
    ∧ (taken (kB 0)).mop (mopOf 1 0 0) 0 128 = .ok (0x80, taken (kB 0)) ∧ (taken (kB 0)).mop (mopOf 1 0 0) 0 2 = .ok (0x80, taken (kB 0)) := by
  unfold Issues; decide +kernel

theorem test_vmem : (k1 (.vld 0) { kB (fmtV 0x12 0 3 1 0 0 0 0 (mopOf 1 0 0 * 65536)) with x := memPuts [] 0x80 [1, 2] }).vget 3 = 0x201
    ∧ (k1 (.vldh 0) { kB (fmtV 0x12 2 3 1 0 0 0 0 (mopOf 1 0 0 * 65536 + 1)) with x := memPuts [] 0x80 [1, 2] }).vget 3 = 0x201#1024 <<< 512
    ∧ lane 16 ((k1 (.vldb 0) { kB (fmtV 0x12 4 3 1 0 0 0 0 (mopOf 1 0 0 * 65536)) with x := memPuts [] 0x80 [1, 2] }).vget 3) 63 = 0x201
    ∧ (k1 (.vst 0) (kB (fmtV 0x12 1 0 1 0 1 0 0 (mopOf 1 0 0 * 65536)))).lbytes 0x80 5 = [3, 0, 0xFF, 0x7F, 0] := by decide +kernel

/-- R186 to R191: the accumulator instructions. -/
theorem wit_mac : Issues (sc (kB (fmtV 0x14 0 1 1 2 0 0 0 0))) 0 (fmtV 0x14 0 1 1 2 0 0 0 0)
    ∧ Issues (sc (kB (fmtV 0x14 4 1 1 1 0 0 0 0))) 0 (fmtV 0x14 4 1 1 1 0 0 0 0)
    ∧ (let w := fmtV 0x14 8 1 0 0 0 0 0 (mopOf 1 0 0 * 65536 + mopOf 2 0 0)
       let k := { kB w with a := [(1, 0x80#32), (2, 0x20000#32)] }
       Issues (sc k) 0 w ∧ ((taken k).xyOperands w 128).isOk = true)
    ∧ Issues (sc (kB (fmtV 0x15 0 1 1 2 0 0 0 0))) 0 (fmtV 0x15 0 1 1 2 0 0 0 0)
    ∧ (let w := fmtV 0x15 8 1 0 0 0 0 0 (mopOf 1 0 0 * 65536 + mopOf 2 0 0)
       let k := { kB w with a := [(1, 0x80#32), (2, 0x20000#32)] }
       Issues (sc k) 0 w ∧ ((taken k).xyOperands w 128).isOk = true) := by unfold Issues; decide +kernel

theorem test_mac : lane 48 ((k1 (.mac 0) (kB (fmtV 0x14 0 1 1 2 0 0 0 0))).aget 1) 0 = 5 + 3 * 5
    ∧ lane 48 ((k1 (.mac 0) (kB (fmtV 0x14 1 1 1 2 0 0 0 0))).aget 1) 1 = 0x7FFF
    ∧ lane 48 ((k1 (.mac 0) (kB (fmtV 0x14 6 1 1 1 0 0 0 0))).aget 1) 0 = 2 ^ 48 + 5 - 3 * 7
    ∧ lane 48 ((k1 (.cmac 0) (kB (fmtV 0x15 1 1 1 2 0 0 0 0))).aget 1) 0 = 2 ^ 48 + 3 * 5 - 0x7FFF
    ∧ lane 48 ((k1 (.cmac 0) (kB (fmtV 0x15 1 1 1 2 0 0 0 0))).aget 1) 1 = 3 * 1 + 0x7FFF * 5 := by decide +kernel

theorem wit_acc : (∀ f ∈ [0, 1, 2, 3, 4], Issues (sc (kB (fmtV 0x16 f 3 1 2 0 0 0 0))) 0 (fmtV 0x16 f 3 1 2 0 0 0 0))
    ∧ (∀ f ∈ [0, 1, 2, 3], Issues (sc (kB (fmtV 0x17 f 0 1 0 1 0 0 0))) 0 (fmtV 0x17 f 0 1 0 1 0 0 0))
    ∧ Issues (sc (kB (fmtV 0x18 0 3 1 0 0 0 0 0xBF))) 0 (fmtV 0x18 0 3 1 0 0 0 0 0xBF) := by unfold Issues; decide +kernel

theorem test_acc : lane 48 ((k1 (.acsub 0) (kB (fmtV 0x16 3 3 1 2 0 0 0 0))).aget 3) 0 = 2 ^ 48 - 4
    ∧ lane 48 ((k1 (.vtoac 0) (kB (fmtV 0x16 1 3 1 0 0 0 0 4))).aget 3) 0 = 48 ∧ (k1 (.acclr 0) (kB (fmtV 0x16 0 1 0 0 0 0 0 0))).aget 1 = 0
    ∧ (k1 (.bexp 0) (kB (fmtV 0x17 0 0 1 0 1 0 0 0))).bx = 0 ∧ (k1 (.bexpM 0) { kB (fmtV 0x17 2 0 2 0 1 0 0 0) with bx := 3 }).bx = 3
    ∧ lane 16 ((k1 (.smov 0) (kB (fmtV 0x18 0 3 2 0 0 0 0 0xBF))).vget 3) 0 = 4 := by decide +kernel

/-! ### A woven device -/

/-- The key whose private half is 1. -/
def ownerKey : Nat := Crypto.gx * 2 ^ 384 + Crypto.gy

/-- Two images by 02 R31 to R38, signed outside the model: ply 0 with two tiles, cluster 0, banks 8 to 15 and channels 4 to 15, and hank 5 in
it; serial numbers 9 and 10, queue depths 8 and 16. -/
def body9 : Nat := 0x100000000000000000000000000000000000000000000000000000000000000000000000000000000000000000000000000000000000000000000000000000000000000000000000000000000000000000000000000000000000000000000000000000000000000000000000000000000000000000000000000000000000000000000000000000000000000000001001000008000a00000000000000000000000000000000000004000000040000080040000000050000000000000000000000400000000100000000000000000000000000000000000000000000fff0000000000000ff00000001030000010100010000000a00000000000000000000000000200000000100000000000000000000000000000000000000000000000000000000000000000000000000000000000000000000000000000000000000000000000000000000000000000000000000000000000000000000000000000000000000000000000000000000000000000000000000000000000000000000000000000000000000000000000000000000000000000000000000000040000002000000000800000040000001c0000000070000008000000140000000040000004000000100000000010000000000000000eb82b571b14d9da1000000000000000000000000000000090000000000000000000000ff0000000700000004000003400100000150524157
def body10 : Nat := 0x100000000000000000000000000000000000000000000000000000000000000000000000000000000000000000000000000000000000000000000000000000000000000000000000000000000000000000000000000000000000000000000000000000000000000000000000000000000000000000000000000000000000000000000000000000000000000000001001000010000a00000000000000000000000000000000000004000000040000080040000000050000000000000000000000400000000100000000000000000000000000000000000000000000fff0000000000000ff00000001030000010100010000000a00000000000000000000000000200000000100000000000000000000000000000000000000000000000000000000000000000000000000000000000000000000000000000000000000000000000000000000000000000000000000000000000000000000000000000000000000000000000000000000000000000000000000000000000000000000000000000000000000000000000000000000000000000000000000000040000002000000000800000040000001c0000000070000008000000140000000040000004000000100000000010000000000000000eb82b571b14d9da10000000000000000000000000000000a0000000000000000000000ff0000000700000004000003400100000150524157
def sigR : Nat := 0x08d999057ba3d2d969260045c55b97f089025959a6f434d651d207d19fb96e9e4fe0e86ebe0e64f85b96a9c75295df61
def sig9 : Nat := 0xc62d2d7fd6b76f67df46ca25b5b38d5d8dfb17c15fcd9dac514d54abfde0f67e7daa45c872ee8dac46b514e66dc5d9a0
def sig10 : Nat := 0x9b22632c256ac1a976bc10599aa9854d339bc6724cf3d9f66e76d8676434b8778f1691358a05247f3b1b38e71219f9fa
def signed (body sig : Nat) : List Byte :=
  leBytes 576 body ++ leBytes 16 1 ++ beBytes 48 sigR ++ beBytes 48 sig ++ List.replicate 144 0

/-- Whether command `c` answers exactly the state `t`. -/
def gives (c : Instr) (s t : State) : Bool := match exec c s with | .next u => decide (u = t) | _ => false

def wImg : Image :=
  { variantMask := 7, serial := 9
    plies := [{ id := 0, ticksPerS := 10, drainTicks := 1, minTiles := 1, minClusters := 1, tileMask := 3, clusterMask := 1
                bankMask := 0xFF00, channelMask := 0xFFF0 }]
    tiles := [{ array := 0, ply := 0, shape := 1, first := 0 }]
    routes := [{ id := 1, ply := 0, priority := 2, src := 0x2001, dst := 0x2010 }]
    hanks := [{ hank := 5, ply := 0, keyFirst := 64, keyCount := 8, dramLimit := 1024, skeinLimit := 1024, depth := 8
                evBase := 0x100, evCount := 16 }]
    pools := [{ ply := 0, pool := 0, size := 4096, count := 4 }] }

/-- A woven device, out of its boot: DRAM of 2 GiB, hank 5 with one granule of its own at the start of DRAM, and a pool of 4 buffers. -/
def w : State :=
  { State.reset with
    pins := { porN := true }
    wrp := { device := 2, serial := 9, image := some wImg }
    boot := { state := 6 }
    dram := [(0, { state := 2, density := 1 })]
    plies := [(0, { state := 1, ticksPerS := 10, admitting := true })]
    slots := [(64, { state := 1, owner := 5, base := 0x100000000, len := 4 })]
    pools := [(0, { woven := true, base := 0x100100000, size := 4096, count := 4 })]
    arrays := [(0, { formed := true, ply := 0, shape := 1, first := 0 })]
    tck := { time := 1000000000 } }

/-- Its hank 5, given the registers `k`. -/
def wh (k : Hank) : State := w.setHank 5 k

/-- R100, R101: hank 0 creates a region for the bank it selects, then destroys it, and the scrub ends; a tenant is refused. -/
theorem wit_regions : (let s := { wh { baseLo := 0x8000, baseHi := 1, len := 2 } with hnkHsel := 5 }
      let e : JEntry := { origin := authOrigin (reqAuth .pf), kind := 1, hank := 5, object := jObj 4 65, new := 0x100008000, data := 2 }
      s.hnkBank .pf = 5 ∧ s.reqHank .pf = 0 ∧ s.hankExists 5 = true ∧ 0x100008000 + 2 * 4096 ≤ s.tagBase ∧ s.slotInRange 5 65 = true
      ∧ (s.slotOf 65).state = 0 ∧ s.overlaps 0x100008000 0x10000A000 = false ∧ s.underLimit 5 2 false = true
      ∧ ((fresh s).change [e]).1 = true
      ∧ (let x := (after (.regionCreate .pf 65) s).slotOf 65
         x.state = 1 ∧ x.owner = 5 ∧ x.base = 0x100008000 ∧ x.len = 2 ∧ x.waiter = none))
    ∧ (let s := { w with hnkHsel := 5 }
       ((fresh s).change [{ origin := authOrigin (reqAuth .pf), kind := 1, hank := 5, object := jObj 4 64, old := 0x100000000
                            data := 4 }]).1 = true
       ∧ (s.slotOf 64).state = 1 ∧ (s.slotOf 64).owner = 5 ∧ ((after (.regionDestroy .pf 64) s).slotOf 64).state = 2
       ∧ ((after (.regionScrubDone 64) (after (.regionDestroy .pf 64) s)).hank 5).result.done = true)
    ∧ (let s := { w with slots := only 64 { state := 2, owner := 5, base := 0x100000000, len := 4 }, mem := memPuts [] 0x100000010 [7]
                         written := [0x100000000] }
       (s.slotOf 64).state = 2 ∧ Memory.wf s.mem = true ∧ (after (.regionScrubDone 64) s).mem = []
       ∧ (after (.regionScrubDone 64) s).written = [])
    ∧ ((wh { result := { busy := true } }).hank 5).result.busy = true ∧ (w.hank 5).result.busy = false
    ∧ (({ w with hnkHsel := 5 }.setChan 0 { hank := 5 }).reqHank (.bobbin 0) ≠ 0) := by decide +kernel

theorem wit_grants : (let s := wh { baseHi := 1, len := 1 }
      let s := { s with hnkHsel := 5 }
      s.hankExists 5 = true ∧ granule 0x100000000 = 0x100000000 ∧ 0x100000000 + 4096 ≤ s.tagBase ∧ s.windowOwned 5 0x100000000 4096 = true
      ∧ (s.grants.filter (fun e => e.2.state != 0 && e.2.grantor == 5)).length < policyN s.img 0x0302 0xFF 32
      ∧ (s.grantOf 1023).state = 0 ∧ HasRoom s ∧ (s.hank 5).result.busy = false ∧ s.reqHank .pf ≠ noHank
      ∧ (s.windowOwned 5 0x100008000 4096) = false)
    ∧ (let s := { w with hnkHsel := 5, grants := only 3 { state := 1, grantor := 5, grantee := 0, base := 0x100000000, len := 4096 } }
       ((fresh s).change [{ origin := s.reqOrigin .pf, kind := 1, hank := 5, object := jObj 5 3, old := 0
                            data := 0x100000000 + 4096 * 2 ^ 64 }]).1 = true
       ∧ ((after (.revoke .pf 3) s).grantOf 3).state = 2 ∧ (after (.revokeComplete 3) (after (.revoke .pf 3) s)).grants = []
       ∧ s.accessKind 0 0x100000000 false = none ∧ s.accessKind 0 0x100000000 true = some 2 ∧ s.accessKind 5 0x100000000 true = none
       ∧ s.accessKind 7 0x100000000 false = some 1) := by unfold HasRoom; decide +kernel

/-- R113 to R117 for Bobbin channel 4 acting for hank 5. -/
theorem wit_pool : (let s := w.setChan 4 { hank := 5 }
      let x := s.poolOf 0 0
      let r : PoolReq := { pos := 0, who := .bobbin 4, p := 0, q := 0, cls := 1 }
      x.woven = true ∧ s.reqHank (.bobbin 4) = 5 ∧ (hankRec? s.img 5 0).isSome = true ∧ x.classMay (s.poolClass r) x.free = true
      ∧ s.underLimit 5 (x.stride / (if x.skein then 256 else 4096)) x.skein = true ∧ x.bufs = [])
    ∧ (let s := (w.setChan 4 { hank := 5 }).setPool 0 0 { w.poolOf 0 0 with bufs := [(1, { held := true, hank := 5 }), (2, { held := false })] }
       mget? (s.poolOf 0 0).bufs 1 = some { held := true, hank := 5 } ∧ mget? (s.poolOf 0 0).bufs 0 = none
       ∧ mget? (s.poolOf 0 0).bufs 2 = some { held := false } ∧ (s.poolOf 0 0).waits = []
       ∧ ((after (.poolFree (.bobbin 4) 0 0 1) s).poolOf 0 0).bufs = [(1, {}), (2, {})]
       ∧ ((after (.poolFree (.bobbin 4) 0 0 0) s).hank 5).badFrees = 1
       ∧ ((after (.poolBufferScrubDone 0 0 2) s).poolOf 0 0).bufs = [(1, { held := true, hank := 5 })]
       ∧ (let x := s.poolOf 0 0
          let s := s.setPool 0 0 { x with waits := [{ hank := 5, cls := 2, event := 0x101 }, { hank := 5, cls := 1, event := 0x102 }] }
          waitFor { s.poolOf 0 0 with bufs := [(1, { held := true, hank := 5 })] } 3 0 = some { hank := 5, cls := 1, event := 0x102 }
          ∧ (after (.poolBufferScrubDone 0 0 2) s).tallyOf 0x102 = 1))
    ∧ (let s := w.setChan 4 { hank := 5 }
       let ask := fun (s : State) => (after (.poolAllocate [(.bobbin 4, 0, 0, 1)]) s).out
       let full := s.setPool 0 0 { w.poolOf 0 0 with bufs := (List.range 4).map (fun i => (i, { held := true, hank := 7 })) }
       (full.poolOf 0 0).classMay 1 (full.poolOf 0 0).free = false ∧ ask full = [.answer 0 (leBytes 4 (2 ^ 26))]
       ∧ (let s : State := { s with slots := only 64 { state := 1, owner := 5, base := 0x100000000, len := 2 ^ 18 } }
          s.underLimit 5 1 false = false ∧ ask s = [.answer 0 (leBytes 4 (2 * 2 ^ 26))])
       ∧ (s.poolOf 0 1).woven = false ∧ (after (.poolAllocate [(.bobbin 4, 0, 1, 1)]) s).out = [.answer 0 (leBytes 4 (3 * 2 ^ 26))]) := by
  decide +kernel

/-- R61: the boundaries of 30 ticks a second lie 133 or 134 granules of 250 us apart. -/
theorem test_ticks : (List.range 4).map (boundaryTime 30 0) = [0, 33250000, 66500000, 100000000]
    ∧ firstTick 30 0 33250001 = 2 ∧ firstTick 30 0 0 = 0 := by decide +kernel

/-- R61 to R64, R67: the boundary of ply 0 opens its tick 10; one that ran early leaves nothing to do. -/
theorem wit_ticks : (0 < 30 ∧ 5 < 4000 / 30) ∧ w.ticking = true ∧ (plyRec? w.img 0).isSome = true ∧ w.tck.early.contains 0 = false
    ∧ w.wrp.pending = none ∧ w.pwr.state ≠ 1 ∧ (w.ply 0).admitting = true ∧ ((after (.plyBoundary 0 ⟨[], []⟩) w).ply 0).tick = 10
    ∧ (after (.plyBoundary 0 ⟨[], []⟩) w).wrp.pending = none
    ∧ (let s : State := { w with tck := { w.tck with early := [0, 3] } }
       s.tck.early.contains 0 = true ∧ (after (.plyBoundary 0 ⟨[], []⟩) s).tck.early = [3]
         ∧ (after (.plyBoundary 0 ⟨[], []⟩) s).plies = s.plies) := by
  decide +kernel

/-- An entry of the submission ring at 0x100000040 for a Spindle task of ply 0, whose descriptor stands at 0x100001000. -/
def subEntry : List Byte :=
  leBytes 8 77 ++ leBytes 8 0x100001000 ++ leBytes 1 2 ++ leBytes 1 1 ++ leBytes 1 0 ++ leBytes 1 0 ++ leBytes 4 0 ++ leBytes 4 100
  ++ leBytes 4 0 ++ leBytes 2 0xFFFF ++ List.replicate 30 0

/-- The descriptor of a task of 16 bytes of program at 0x100002000, without images, on any core of the ply. -/
def taskDesc : List Byte :=
  leBytes 8 0x100002000 ++ leBytes 4 16 ++ leBytes 4 0 ++ leBytes 8 0 ++ leBytes 4 0 ++ leBytes 4 0 ++ leBytes 8 0 ++ leBytes 4 0x20000
  ++ leBytes 2 0xFFFF ++ leBytes 1 3 ++ leBytes 1 0 ++ leBytes 8 41 ++ leBytes 8 0

def wJob : State :=
  { (wh { subBase := 0x100000000, subLog2 := 4, cplBase := 0x100003000, cplLog2 := 4, subNext := 1 }) with
    mem := memPuts (memPuts [] 0x100000040 subEntry) 0x100001000 taskDesc, written := [0x100000000, 0x100001000, 0x100002000]
    tck := { time := 1000000000, hsel := 5 } }

theorem wit_jobs : subEntry.length = 64 ∧ taskDesc.length = 64
    ∧ (let s := wJob
       let s1 := (fresh s).setHank 5 { s.hank 5 with subNext := 2 }
       let e := (s1.engBytes 5 tickReq 0x100000040 64).1
       let s2 := (s1.engBytes 5 tickReq 0x100000040 64).2
       let d := s2.engRead 5 tickReq 0x100001000 64
       let u := descUnit 2 (slice d.2.2.1 0 64)
       s.tckBank .pf = 5 ∧ ringSize (s.hank 5).subLog2 = 16 ∧ e = subEntry ∧ (hankRec? s2.img 5 0).isSome = true
       ∧ s2.memAsleep = false ∧ s2.wrp.weaving = none ∧ s2.liveJobs 5 + 1 ≤ ringSize (s2.hank 5).cplLog2 ∧ (s2.ply 0).state = 1
         ∧ d.1 = .ok ∧ u = (3, 0xFFFF)
       ∧ d.2.2.2.unitOk 2 0 3 = true ∧ 100 ≤ d.2.2.2.capSpindle 0)
    ∧ (let s := after (.submitDoorbell .pf 1) wJob
       s.jobs.map (fun j => (j.tag, j.unit, j.cls)) = [(77, 3, 1)] ∧ s.bytesAt 0x100000078 4 = [0, 0, 0, 0x80]) := by decide +kernel

def selected (n cls sel : Nat) : Job := { id := n, hank := 5, kind := 2, cls := cls, phase := .selected, selSeq := sel, unit := 3, desc := 0x100001000 }

theorem wit_slots : (let s := { w with tck := { w.tck with jobs := [selected 1 1 4, selected 2 1 3, selected 3 2 1] } }
      s.nextWaiting = some (selected 2 1 3) ∧ (after .jobSlotAcquire s).peak = 1 ∧ (after .jobSlotAcquire s).inFlight = 1) := by decide +kernel

def wTask : State :=
  ({ wJob with tck := { wJob.tck with jobs := [{ selected 2 1 3 with phase := .admitted }] } }.setCore 3
    { hank := 9, x := only 0x10 5#8 })

theorem wit_task_start : (let s := wTask
      let j := { selected 2 1 3 with phase := .admitted }
      let s0 := ((fresh s).updJob 2 (fun j => { j with phase := .running, unit := 3 })).setCore 3
        { state := 3, hank := 5, job := some 2, pm := (s.core 3).pm }
      (s.core 3).free = true ∧ s.coreJob 3 = some j ∧ s.counts 51 = true ∧ (s.unitSt 51).latch = false
      ∧ (s0.coreImage 3 j.desc 64).1 = some taskDesc ∧ spdDescOk taskDesc = true
      ∧ ((s0.coreImage 3 j.desc 64).2.coreImage 3 0x100002000 16).1 = some (List.replicate 16 0)
      ∧ (s0.coreImage 3 0 0).1 = some []
      ∧ (let k := (after (.spindleTaskStart 3) s).core 3
         k.state = 3 ∧ k.hank = 5 ∧ k.x = [] ∧ k.getS 1 = 41 ∧ k.getS 30 = 0x20000 ∧ k.pc = 0)) := by decide +kernel

theorem wit_task_end : Issues (sc (kA (fmtC 8 0 0 0 0))) 0 (fmtC 8 0 0 0 0) ∧ Issues (sc { kB 0 with tend := true }) 0 0
    ∧ Issues (sc { kB 0 with tend := true, active := 2 }) 0 0 ∧ (k1 (.nop 0) { kB 0 with tend := true }).ended = true
    ∧ (let j := { selected 2 1 3 with phase := .running }
       let s := ({ wJob with tck := { wJob.tck with jobs := [j] } }.setCore 3 { state := 3, hank := 5, job := some 2, ended := true })
       s.job? 2 = some j ∧ (s.ply 0).tick ≤ j.target ∧ leAt ((after (.spindleTaskComplete 3 500) s).bytesAt 0x100003000 64) 24 1 = 1
       ∧ leAt ((after (.spindleTaskComplete 3 500) s).bytesAt 0x100003000 64) 36 4 = 1)
    ∧ ((selected 2 1 3).tag < 2 ^ 64 ∧ (selected 2 1 3).hank < 2 ^ 16 ∧ (selected 2 1 3).ply < 256) := by
  unfold Issues; decide +kernel

/-! ### Memory, fabric, Warp -/

theorem wit_calm : Calm w ∧ HasRoom w := by
  refine ⟨⟨rfl, fun n => ?_⟩, rfl, by decide⟩
  rfl

/-- Hank 7 reads and hank 5 reads and writes the granule at 0x100000000, which is written, and its next one, which is not. -/
def wm : State := { w with mem := memPuts [] 0x100000010 [9], written := [0x100000000], hnkHsel := 5 }

theorem wit_memory : (wm.target 0x100000000 = .dram 0 ∧ wm.inTagTable 0x100000000 = false ∧ wm.logged 0x100000000 = false)
    ∧ wm.target 0x10000000 = .skein 0 ∧ Memory.wf wm.mem = true
    ∧ wm.accessKind 7 0x100000010 false = some 1 ∧ wm.accessKind 5 0x100000010 false = none ∧ wm.isWritten 0x100000010 = true
    ∧ Calm wm ∧ Quiet wm ∧ wm.isWritten 0x100001000 = false ∧ wm.faultMode 5 = false
    ∧ (wm.setHank 5 { unwrittenMode := 2 }).faultMode 5 = true
    ∧ wm.accessKind 7 0x100000010 true = some 1 ∧ wm.accessKind 5 0x100000010 true = none
    ∧ wm.reqHank (.app 0 5) = 5 ∧ wm.reqHank (.app 0 5) ≠ noHank := by
  refine ⟨?_, ?_, ?_, ?_, ?_, ?_, ⟨rfl, fun n => rfl⟩, ?_⟩ <;> (try unfold Quiet) <;> decide +kernel

/-- Channels 4 and 6 issue for jobs of hanks 5 and 7. -/
theorem test_memory : (let s : State := { wm with chans := [(4, { hank := 5, job := some 1 }), (6, { hank := 7, job := some 1 })]
                                                  tck := { wm.tck with jobs := [{ id := 1, cls := 1 }] } }
      let rd := fun n a => after (.memoryRequest { who := .bobbin n, addr := a, len := 2, data := none, ecc := 0 }) s
      (rd 4 0x100000010).out = [.answer 0 [9, 0]] ∧ (rd 6 0x100000010).out = [.answer 1 [0, 0]]
      ∧ ((rd 4 0x100001004).hank 5).unwrittenReads = 1
      ∧ (after (.memoryRequest { who := .bobbin 4, addr := 0x100001004, len := 1, data := some [6], ecc := 0 }) s).mem
          = [(0x100000010, 9), (0x100001004, 6)]) := by decide +kernel

theorem wit_decode : wm.target 0x50000 = .none ∧ 0x50000 % 64 + 4 ≤ 64
    ∧ (after (.memoryRequest { who := .pf, addr := 0x50000, len := 4, data := none, ecc := 0 }) wm).fab.decodeErrors = 1
    ∧ ({ wm with slots := only 64 { state := 2, owner := 5, base := 0x100000000, len := 4 } } : State).destroyed 0x100000000 = true := by
  decide +kernel

def wl : State := { wm with pci := { up := true, numVfs := 1 } }

/-- Log 183: a request of an unbound virtual function is turned away whichever port takes it. -/
theorem wit_turned_away : (let r : MemReq := { who := .vf 3, addr := 0x100000000, len := 4, data := none, ecc := 0 }
      w.reqHank (.vf 3) = noHank ∧ memReqOk r = true ∧ w.reqHank .pf ≠ noHank ∧ w.reqHank (.carding 5) = 5
      ∧ (((fresh w).turnAway (.vf 3)).fab.decodeErrors ≠ w.fab.decodeErrors ∨ ((fresh w).turnAway (.vf 3)).out ≠ [])
      ∧ (∀ c ∈ [Instr.memoryRequest r, .registerWrite (.vf 3) 3 0x404 9, .submitDoorbell (.vf 3) 1, .regionCreate (.vf 3) 64, .regionDestroy (.vf 3) 64
              , .grant (.vf 3) 5, .revoke (.vf 3) 3, .poolFree (.vf 3) 0 0 1, .cvtGo (.vf 3) 0, .augDoorbell (.vf 3) 1, .bqCfgWrite (.vf 3) 0 1#32
              , .start (.vf 3) 0, .abort (.vf 3) 4, .resume (.vf 3) 4, .evtPulse (.vf 3) 1#32, .phaseAdjWrite (.vf 3) 1#32, .voiceQueue (.vf 3) 1 1#32
              , .voiceStop (.vf 3) 1 1#32], gives c w ((fresh w).turnAway (.vf 3)) = true)) := by decide +kernel

theorem wit_bar : wl.pci.up = true ∧ wl.fnUp 1 = true ∧ wl.fnBound 1 = false ∧ 0 + 4 ≤ barSize 1 0 ∧ wl.memAsleep = false ∧ 0 + 4 ≤ barSize 1 4
    ∧ wl.fnUp 0 = true ∧ 0x100000010 + 4 ≤ barSize 0 0
    ∧ (after (.barAccess 0 0 0x100000010 4 none) wl).out = [.answer 0 [0, 0, 0, 0]]
    ∧ (after (.barAccess 1 0 0 4 none) wl).pci.unbound = 1 := by decide +kernel

theorem wit_fabric : (let s := (w.setCore 1 { state := 3, hank := 5 }).setRoute 1 { woven := true, ply := 0, formed := true, src := 0x2001, dst := 0x2010, credits := 32 }
      let f : Flit := { hank := 5, route := 1, first := true, last := true, poison := false, bytesM1 := 0, data := [7] }
      s.portHanks 0x2010 = some [5] ∧ (s.route 1).credits = 32 ∧ (s.route 1).wire = [] ∧ mget (after (.flitArrival f) s).streams 0x2010 [] = [f]
      ∧ ((after (.creditReturn 1 1) (after (.flitArrival f) s)).route 1).credits = 32
      ∧ ((after (.flitArrival { f with hank := 9 }) s).hank 9).accessErrors = 1
      ∧ (let s : State := { s with cores := [] }
         s.portHanks 0x2010 = none ∧ ((after (.flitArrival f) s).route 1).buf = [f]
         ∧ (let s := s.setRoute 1 { s.route 1 with wire := [{ f with data := [8] }], credits := 3 }
            ((after (.flitArrival f) s).route 1).buf = [{ f with data := [8] }] ∧ ((after (.flitArrival f) s).route 1).credits = 3)))
    ∧ (let s := w.setRoute 2 { woven := true, formed := true, src := 0x9001, dst := 0x9000, credits := 30 }
       (s.route 2).woven = true ∧ 32 < (s.route 2).credits + 3 ∧ ((after (.creditReturn 2 3) s).route 2).credits = 32
         ∧ (after (.creditReturn 2 3) s).fab.linkFaults = 1)
    ∧ (let s := { w with written := [0x10000000] }
       s.isWritten 0x10000000 = true ∧ Quiet s ∧ (after (.patrolScrub 0x10000000 1 ⟨false, false⟩) s).fab.sknCe = 1
       ∧ (after (.patrolScrub 0x10000000 0 ⟨true, false⟩) s).fab.sknPasses = 1
       ∧ (after (.patrolScrub 0x10000000 2 ⟨false, false⟩) s).fab.sknUe = 1 ∧ s.isWritten 0x10000100 = false) := by
  unfold Quiet; decide +kernel

/-- R130: at bank 0 a scrub read, then tag-table and RTP writes and reads of channels 4 and 5 wait; the one before served last is channel 4.
R135: three routes with a flit ready, one passed over 64 times. -/
theorem wit_ranks : (let rd := fun n => MemWork.request { who := .bobbin n, addr := 0x10000040, len := 4, data := none, ecc := 0 } 5 1
      let s : State := { wm with fab := { wm.fab with waits := [{ work := .scrub 0x10000000 false }, { work := rd 4 }, { work := rd 5 }]
                                                      arbs := only (wm.memUnit 0x10000000) { last := [(2, (rd 4).req), (3, (rd 4).req)] } } }
      let u := wm.memUnit 0x10000000
      ((s.pick u).map (·.2.work)) = some (rd 5) ∧ s.waitsAt u ≠ []
      ∧ (let s : State := { s with fab := { s.fab with waits := [{ work := rd 4 }, { work := .scrub 0x10000000 false, waited := 64 }] } }
         (s.pick u).map (·.1) = some 1)
      ∧ (let r : MemReq := { who := .pf, addr := 0x10000080, len := 4, data := none, ecc := 0 }
         memReqOk r = true ∧ s.reqHank r.who ≠ noHank ∧ s.target r.addr = .skein 0 ∧ s.memUnit r.addr = u
         ∧ (after (.memoryRequest r) s).out = []
         ∧ (after (.memoryRequest r) s).fab.waits.getLast?.map (·.work) = some (.request r 0 0)
         ∧ (after (.memoryRequest { r with held := true }) wm).fab.waits.length = 1))
    ∧ (let f : Flit := { hank := 5, route := 1, first := true, last := true, poison := false, bytesM1 := 0, data := [7] }
       let rt : Route := { woven := true, formed := true, credits := 5, ready := [f] }
       let s : State := { wm with routes := [(1, { rt with priority := 2 }), (2, { rt with priority := 1, passed := 64 }), (3, { rt with priority := 2 })] }
       (s.pickRoute.map (fun x => (x.1, x.2.2))) = some (2, true)
       ∧ (({ s with fab := { s.fab with sinceForced := 2, lastRoute := 1 } } : State).pickRoute.map (fun x => (x.1, x.2.2))) = some (3, false)
       ∧ (({ s with fab := { s.fab with sinceForced := 2, lastRoute := 3 } } : State).pickRoute.map (fun x => (x.1, x.2.2))) = some (1, false)) := by
  decide +kernel

/-- The image 9 stands in hank 0's memory, and its signer's key is enrolled. -/
def wo (b : List Byte) : State :=
  { State.reset with
    nv := { otp := { owners := [{ key := ownerKey, enrolled := true }, {}, {}, {}] } }
    pins := { porN := true }, boot := { state := 6 }, dram := [(0, { state := 2, density := 1 })]
    slots := [(16, { state := 1, owner := 0, base := 0x100000000, len := 4 })]
    mem := ((List.range b.length).zip b).filterMap (fun x => if x.2 = 0 then none else some (0x100000000 + x.1, x.2)), written := [0x100000000], wrp := { imgAddr := 0x100000000, imgLen := 832 } }

/-- R45: a LOAD of image 9, and the weaving of an image. -/
theorem wit_load : (let s := wo (signed body9 sig9)
      s.wrpBusy = false ∧ ((fresh s).wrpSeq.imageSource).1 = some (signed body9 sig9) ∧ s.imageCode (signed body9 sig9) 832 none = 0
      ∧ (fresh s).wrpSeq.imageSource.2.lockedOut .host = none ∧ HasRoom s)
    ∧ (let s : State := { wo [] with wrp := { device := 1, weaving := some (wImg, 0), result := { busy := true } } }
       5 < s.nv.otp.arb.length ∧ (after (.weaveComplete []) s).wrp.device = 2 ∧ ((after (.weaveComplete []) s).ply 0).ticksPerS = 10
       ∧ (after (.weaveComplete []) s).wrp.result = { done := true }) := by unfold HasRoom; decide +kernel

/-- R46, R47, R52: on the device that runs image 9 a REWEAVE with image 10 passes every check; CANCEL of a pending one; commands in the
wrong state. -/
theorem wit_warp : (let old := { wImg with ownerKey := 0xeb82b571b14d9da1, tiles := [], routes := [], pools := [] }
      let s := { wo (signed body10 sig10) with wrp := { device := 2, serial := 9, image := some old, imgAddr := 0x100000000, imgLen := 832 } }
      ((fresh s).wrpSeq.imageSource).1 = some (signed body10 sig10) ∧ s.imageCode (signed body10 sig10) 832 (some 0) = 0
      ∧ (fresh s).wrpSeq.imageSource.2.lockedOut .host = none ∧ HasRoom s)
    ∧ (let s := { w with wrp := { w.wrp with pending := some { ply := 0, image := wImg } } }
       s.wrpBusy = false ∧ (fresh s).wrpSeq.lockedOut .host = none ∧ HasRoom s ∧ (after (.cancel .host 0) s).wrp.pending = none
       ∧ (after (.cancel .host 0) s).wrp.result.code = 0x42)
    ∧ (let s := { w with wrp := { w.wrp with pending := some { ply := 3, image := wImg } } }
       (s.ply 3).state = 0 ∧ plyRec? wImg 3 = none ∧ s.wrpBusy = false)
    ∧ ({ w with wrp := { w.wrp with result := { busy := true } } } : State).wrpBusy = true ∧ w.wrpBusy = false ∧ State.reset.wrp.device ≠ 2
    ∧ (after (.load .host) w).wrp.result.code = 2 ∧ (after (.cancel .host 0) w).wrp.result.code = 5
    ∧ (after (.reweave .host 0) State.reset).wrp.result.code = 3 := by unfold HasRoom; decide +kernel

/-! ### Engines -/

/-- A one by one product of Q8 operands in memory that was never written, to 0x100003000. -/
def whlDesc : List Byte :=
  leBytes 8 0x0002020200010001 ++ leBytes 4 1 ++ leBytes 4 1 ++ leBytes 4 1 ++ leBytes 20 (0xFFFF * 2 ^ 48) ++ leBytes 4 64 ++ leBytes 4 64
  ++ leBytes 4 64 ++ leBytes 4 0 ++ leBytes 8 0x100000000 ++ leBytes 8 0x100001000 ++ leBytes 8 0x100003000 ++ leBytes 24 0
  ++ leBytes 8 0x100003040 ++ leBytes 16 0

def wWhl (j : Job) (desc : List Byte) (x : WArray) : State :=
  { (wh { cplBase := 0x100003000, cplLog2 := 4 }) with
    mem := memPuts [] 0x100002000 desc, tck := { time := 1000000000, jobs := [j] }, arrays := [(0, x)], written := [0x100002000] }

def arr0 : WArray := { formed := true, ply := 0, shape := 1, first := 0 }
def jobW (p : Phase) (cls slot : Nat) : Job := { id := 7 + slot, hank := 5, kind := 1, cls := cls, phase := p, slotSeq := slot, desc := 0x100002000 }

theorem wit_whorl : whlDesc.length = 128 ∧ (parseWhl whlDesc).ctx = 0xFFFF ∧ (parseWhl whlDesc).fo = 2
    ∧ (let s := { wWhl (jobW .admitted 1 3) whlDesc arr0 with tck := { jobs := [jobW .admitted 1 3, jobW .admitted 2 1] } }
       (s.arr 0).formed = true ∧ (s.arr 0).staged.length < (s.arr 0).depth ∧ ((after (.whorlJobStage 0) s).arr 0).staged = [10])
    ∧ (let s := wWhl (jobW .staged 1 3) whlDesc { arr0 with staged := [10] }
       s.job? 10 = some (jobW .staged 1 3) ∧ (∀ t ∈ arrayTiles 1 0, s.counts (14 + t) = true ∧ (s.unitSt (14 + t)).latch = false)
       ∧ ((after (.whorlJobStart 0 [] []) s).arr 0).run.map (fun r => (r.cause, r.ctx, r.desc)) = some (0, none, whlDesc)
       ∧ ((after (.whorlJobStart 0 [(1, 3)] [0]) s).arr 0).run.map (·.ue) = some true)
    ∧ (let s := wWhl (jobW .staged 1 3) (whlDesc.set 26 0 |>.set 27 0) { arr0 with staged := [10] }
       (((after (.whorlJobStart 0 [] []) s).arr 0).run.map (fun r => (r.cause, r.ctx))) = some (0, some 0))
    ∧ (let s := wWhl (jobW .staged 1 3) (whlDesc.set 1 5) { arr0 with staged := [10] }
       (parseWhl (whlDesc.set 1 5)).fo = 2 ∧ ((after (.whorlJobStart 0 [] []) s).arr 0).run = none
       ∧ ((after (.whorlJobStart 0 [] []) s).job? 10).map (fun j => (j.phase, j.excused)) = some (.halted, true))
    ∧ (let s := wWhl { jobW .staged 1 3 with desc := 0x100008000 } whlDesc { arr0 with staged := [10] }
       ((after (.whorlJobStart 0 [] []) s).arr 0).run = none
       ∧ ((after (.whorlJobStart 0 [] []) s).job? 10).map (·.phase) = some .halted) := by decide +kernel

theorem wit_whorl_end : (let r : WhlRun := { job := 10, hank := 5, desc := whlDesc }
      let s := wWhl (jobW .running 1 3) whlDesc { arr0 with run := some r }
      let q := ((fresh s).whlPackets 0 r).2.whlRun 0 r ((fresh s).whlPackets 0 r).1 false
      q.1.cause = 0 ∧ (after (.whorlJobEnd 0 99) s).job? 10 = none ∧ ((after (.whorlJobEnd 0 99) s).arr 0).run = none)
    ∧ (let r : WhlRun := { job := 10, hank := 5, desc := whlDesc.set 3 0x20, streaming := true }
       let s := wWhl (jobW .running 1 3) whlDesc { arr0 with run := some r }
       ((fresh s).whlPackets 0 r).1.length < (parseWhl r.desc).aRows * (parseWhl r.desc).heads
       ∧ ((fresh s).whlPackets 0 r).1.any (·.poison) = false
       ∧ (((after (.whorlJobEnd 0 99) s).arr 0).run.map (·.streaming)) = some true)
    ∧ (let s := wWhl (jobW .running 1 3) whlDesc { arr0 with run := some { job := 10, hank := 5, desc := whlDesc, cause := 4 } }
       ((after (.whorlJobEnd 0 99) s).job? 10).map (fun j => (j.phase, j.excused)) = some (.halted, true))
    ∧ (let r : WhlRun := { job := 10, hank := 5, desc := whlDesc.set 64 64 |>.set 68 2 }
       let s := wWhl (jobW .running 1 3) whlDesc { arr0 with run := some r }
       (((fresh s).whlPackets 0 r).2.whlRun 0 r ((fresh s).whlPackets 0 r).1 false).1.cause ≠ 0) := by decide +kernel

theorem wit_scales : (let s := { w with arrays := [(0, { arr0 with swapDue := true, swapArmed := true, resident := some {} })] }
      (s.arr 0).swapArmed = true ∧ (s.arr 0).run = none ∧ ((after (.outputTableSwap 0) s).arr 0).resident = none)
    ∧ (let s := fun (x : Ctx) => w.setCtx 0 3 x
       let l := w.qloop 0
       (mget? w.plies 0).isSome = true ∧ (w.ply 0).tick % l.window = 0
       ∧ ((after (.headroomLoop 0 3) (s { winNarrowed := 10, winClipped := 9 })).ctx 0 3).winNarrowed = 0
       ∧ (let x : Ctx := { h := l.hmax, winNarrowed := 4096, winClipped := 5 }
          x.target * 4096 < x.winClipped * 1000000 ∧ ((after (.headroomLoop 0 3) (s { x with streak := 2 })).ctx 0 3).streak = 0)
       ∧ ((after (.headroomLoop 0 3) (s { h := 0, winNarrowed := 4096, winClipped := 5 })).ctx 0 3).h = 1
       ∧ ((after (.headroomLoop 0 3) (s { h := 0, winNarrowed := 4096, winClipped := 1, streak := 2 })).ctx 0 3).streak = 3
       ∧ ((after (.headroomLoop 0 3) (s { h := 0, winNarrowed := 4096, winClipped := 1, streak := 3 })).ctx 0 3).h = -1)
    ∧ (let s := { w with qnt := { hsel := 5 } }
       s.reqHank .pf = 0 ∧ (s.qloop 0).hmin ≤ (s.qloop 0).hmax ∧ ((after (.ctxHWrite .pf 0 3 0x2F000#32) s).ctx 0 3).h = -1)
    ∧ ((after (.cvtGo .pf 0) { (wh { cvt := { run := some {} } }) with qnt := { hsel := 5 } }).hank 5).cvt.code = 1
    ∧ (let k : Cvt := { src := 0x100000000, dst := 0x100001000, cfg := 2 * 2 ^ 20 + 127, srcStride := 64, dstStride := 64 }
       let s := { (wh { cvt := k }) with qnt := { hsel := 5 } }
       ((fresh s).cvtRows 5 k (.const 0) k.cfg 1 0 {}).1 = 0 ∧ (((after (.cvtGo .pf 0) s).hank 5).cvt.run.map (·.ctx)) = some none
       ∧ (let s := { (wh { cvt := { k with cfg := k.cfg + 2 ^ 16 } }) with qnt := { hsel := 5 } }
          (hankRec? s.img 5 0).isSome = true ∧ (s.ctx 0 0).usable 5 = true
          ∧ (((after (.cvtGo .pf 0) s).hank 5).cvt.run.map (·.ctx)) = some (some 0)
          ∧ ((after (.cvtGo .pf 0) (s.setCtx 0 0 { claimed := true, owner := 9 })).hank 5).cvt.code = 3))
    ∧ (let s := wh { cvt := { run := some { code := 4, clips := 2 }, event := 0x101 } }
       (after (.conversionDone 5) s).tallyOf 0x101 = 1 ∧ ((after (.conversionDone 5) s).hank 5).cvt.clips = 2)
    ∧ (let s := wh { cvt := { run := some { ctx := some 3, jobMax := 80 }, event := 0xFFFF } }
       ((after (.conversionDone 5) s).ctx 0 3).rmax = 80) := by decide +kernel

def cam1 : CamRec :=
  { cam := 1, ply := 0, codec := 1, subs := [5, 0, 0, 0], maxW := 64, maxH := 64, maxFps := 30, port := 5004, pt := 96, roiEntries := 4 }

/-- The woven device with camera 1 of hank 5 in ply 0, whose flow is `f`. -/
def wc (f : Machine.Flow) : State :=
  { w with wrp := { w.wrp with image := some { wImg with cams := [cam1], plies := wImg.plies.map (fun p => { p with decodeMask := 3 })
                                                         hanks := wImg.hanks.map (fun h => { h with resMb := 1000 }) } }
           crd := { flows := [(1, f)] } }

/-- H.264 High profile, level 4, 8 bits, 4:2:0. -/
def auI : AuInfo :=
  { width := 64, height := 64, paramSet := 2, rap := true, profile := 100, level := 40, constrained := false, bitDepth := 8, chroma := 1
    fields := false, mbaff := false, aso := false, refFrames := 1, baseline := true, isRef := true }

theorem wit_aus : (let s := wc { next := some 10, held := [{ seq := 12, payload := [0x67, 1] }] }
      s.cam? 1 = some cam1 ∧ (s.flow 1).nearest 10 = some 2 ∧ ((after (.gapWaitExpiry 1) s).flow 1).next = some 13
      ∧ gives (.gapWaitExpiry 1) (wc {}) (wc {}) = true)
    ∧ (let s := fun (f : Machine.Flow) => wc { f with queue := [{ ts := 3 }] }
       let r := fun (f : Machine.Flow) (i : AuInfo) => (after (.auAdmit 1 i) (s f)).flow 1
       (r { discard := true } { auI with rap := false }).reasons = [(9, 1)]
       ∧ (r {} { auI with width := 80 }).reasons = [(4, 1)] ∧ (r {} { auI with width := 80 }).badParams = [2]
       ∧ auSupported 1 auI { ts := 3 } = true ∧ auSupported 1 { auI with bitDepth := 10 } { ts := 3 } = false
       ∧ (r {} { auI with bitDepth := 10 }).reasons = [(5, 1)] ∧ (r {} { auI with chroma := 2 }).reasons = [(5, 1)]
       ∧ (r { st := 1 } { auI with rap := false }).reasons = [(8, 1)]
       ∧ (after (.auAdmit 1 auI) (wc { queue := [{ ts := 3, frags := [[0x09, 1]] }] })).crd.flows
          = [(1, {})]
       ∧ (r { st := 1 } auI).st = 2 ∧ (r { st := 1 } auI).queue.map (·.info) = [some auI]) := by decide +kernel

def decI : Decoded :=
  { width := 1, height := 1, luma := [9], cb := [8], cr := [7], c422 := false, syntaxError := false, missing := [], isRef := true
    uses := [], unref := [], busReason := 0 }

theorem wit_pictures : (let s := wc { st := 2, queue := [{ info := some auI, arrival := 4 }] }
      0 < nDecode s.variant ∧ s.counts 24 = true ∧ s.counts 23 = true ∧ s.startable 0 = [(cam1, { info := some auI, arrival := 4 }, 16, true)])
    ∧ (let s := wc { st := 2, dec := [{ au := { info := some auI }, engine := 1, buf := 3 }], bufs := [3] }
       let s := { s with crd := { s.crd with engines := [(1, { busy := 1, mb := 5 })] } }
       let t := after (.pictureDecoded 1 decI) s
       (t.flow 1).dec = [] ∧ (t.flow 1).frames = 1 ∧ mget t.crd.engines 1 {} = { busy := 0, mb := 21 } ∧ (t.flow 1).refs = [3]
       ∧ ((after (.pictureDecoded 1 { decI with syntaxError := true }) s).flow 1).reasons = [(6, 1)]
       ∧ ((after (.pictureDecoded 1 { decI with syntaxError := true }) s).flow 1).st = 1)
    ∧ (let s := wc { st := 2, dec := [{ au := { info := some { auI with rap := false } }, engine := 1, buf := 3 }], bufs := [2, 3], refs := [2], tainted := [2] }
       ((after (.pictureDecoded 1 { decI with uses := [2], unref := [2] }) s).flow 1).concealed = 1
       ∧ ((after (.pictureDecoded 1 { decI with uses := [2], unref := [2] }) s).flow 1).bufs = [3]) := by decide +kernel

theorem wit_samples : (let s := fun (f : Machine.Flow) => wc f
      let r := fun (f : Machine.Flow) => after (.samplingRateLoop 1 0) (s f)
      cam1.subs[0]? = some 5 ∧ (s {}).rateOn 0 = true ∧ HasRoom (s {}) ∧ mget? (∅ : NMap Nat) 0 ≠ some 0
      ∧ mget ((r { div := [(0, 3)], roi := [(0, { entries := [(0, 0, 1, 1, 0)] })] }).flow 1).div 0 1 = 2
      ∧ mget ((r { quiet := [(0, 7)] }).flow 1).quiet 0 0 = 8
      ∧ mget ((r { quiet := [(0, 29)] }).flow 1).div 0 1 = 2)
    ∧ (let s := { wc {} with plies := [(0, { state := 1, ticksPerS := 10, training := true })], crd := { hsel := 5 } }
       let s := { s with wrp := { s.wrp with image := some { s.img with hanks := s.img.hanks.map (fun h => { h with flags := 2 }) } } }
       (s.ply 0).training = true ∧ ((hankRec? s.img 5 0).map (fun r => bit r.flags 1)) = some true
       ∧ ((after (.augDoorbell .pf 3) s).hank 5).card.augPending = 3
       ∧ ((after (.augDoorbell .pf 3) { w with crd := { hsel := 5 } }).hank 5).card.augRefused = true)
    ∧ (let s := (wh { card := { augPending := 2, augBase := 0x100000000, augLog2 := 4 } }).setPly 0 { w.ply 0 with training := true }
       let s := { s with wrp := { s.wrp with image := some { s.img with hanks := s.img.hanks.map (fun h => { h with flags := 2 }) } } }
       (s.ply 0).training = true ∧ ringSize 4 = 16 ∧ s.counts 26 = true
       ∧ ((fresh (s.setHank 5 { (s.hank 5) with card := { (s.hank 5).card with augPending := 1, augTaken := 1 } })).engRead 5 cardReq 0x100000000 64).1 = .ok
       ∧ ((after (.augRecord 5) s).hank 5).card.augTaken = 1
       ∧ ((after (.augRecord 5) (s.setPly 0 { s.ply 0 with training := false })).hank 5).card.augTaken ≤ 1)
    ∧ (let s := { w with crd := { hsel := 5 } }
       ((after (.bqCfgWrite .pf 2 0x01010301#32) s).queue 5 2) = { event := 0x101, size := 4, ply := 0, enable := true }
       ∧ (let s := s.setQueue 5 2 { enable := true, log2 := 4, ring := 0x100000000, closed := [[1, 2]], event := 0x101 }
          ((after (.bqCfgWrite .pf 2 0x9#32) s).queue 5 2) = s.queue 5 2 ∧ ((after (.bqCfgWrite .pf 2 0#32) s).queue 5 2).enable = false
          ∧ (s.queue 5 2).room = true ∧ ((after (.batchRecordWrite 5 2) s).queue 5 2).head = 1
              ∧ (after (.batchRecordWrite 5 2) s).tallyOf 0x101 = 1)) := by
  unfold HasRoom; decide +kernel

/-- A tokenizer job of one empty string at 0x100000000, with a dictionary of one node in a Skein buffer of hank 5. -/
def tokDesc : List Byte :=
  leBytes 4 0 ++ leBytes 4 1 ++ leBytes 8 0x10000000 ++ leBytes 8 0x100000000 ++ leBytes 8 0x100001000 ++ leBytes 4 64 ++ leBytes 4 0
  ++ leBytes 8 0xFFFF ++ leBytes 16 0
def dict1 : List Byte := leBytes 4 0x444B4F54 ++ leBytes 4 0x10001 ++ leBytes 4 1 ++ leBytes 8 0 ++ leBytes 4 128

def jobT : Job := { id := 4, hank := 5, kind := 4, cls := 1, phase := .admitted, desc := 0x100002000 }

def wTok (desc : List Byte) (p : Phase) (t : Tok) : State :=
  { (wh { cplBase := 0x100003000, cplLog2 := 4 }) with
    mem := memPuts (memPuts [] 0x10000000 dict1) 0x100002000 desc, written := [0x10000000, 0x100002000]
    pools := [(1, { woven := true, base := 0x10000000, skein := true, size := 4096, count := 1, bufs := [(0, { held := true, hank := 5 })] })]
    tck := { time := 1000000000, jobs := [{ jobT with phase := p }] }, tok := t }

theorem wit_tokenizer : (let s := wTok tokDesc .admitted {}
      let t := after .tokenizerJobStart s
      s.nextTok = some jobT ∧ s.counts 27 = true ∧ (s.unitSt 27).latch = false ∧ tokDescOk jobT.desc tokDesc = true
      ∧ t.tok.run.map (fun r => (r.desc, r.cause, r.dict)) = some (tokDesc, 0, { base := 0x10000000, maxLen := 1, nodes := 1 })
      ∧ (let halts := fun (s : State) => ((after .tokenizerJobStart s).tok.run.isNone
            && ((after .tokenizerJobStart s).job? 4).map (fun j => (j.phase, j.excused)) == some (.halted, true))
         tokDescOk jobT.desc (tokDesc.set 3 1) = false ∧ halts (wTok (tokDesc.set 3 1) .admitted {}) = true
         ∧ halts { s with slots := [] } = true ∧ halts { s with mem := memPuts [] 0x100002000 tokDesc } = true)
      ∧ (after .tokenizerJobStart (wTok ((tokDesc.set 2 1).set 20 0) .admitted {})).tok.run.map (·.streaming) = some true)
    ∧ (let r : TokRun := { job := 4, hank := 5, desc := tokDesc, dict := { base := 0x10000000, maxLen := 1, nodes := 1 } }
       let s := wTok tokDesc .running { run := some r, state := 1, hank := 5 }
       (((fresh s).tokPackets r).2.runTok r ((fresh s).tokPackets r).1 false).1.cause = 0 ∧ (after .tokenizerJobEnd s).job? 4 = none
       ∧ (let r := { r with cause := 5 }
          let s := wTok tokDesc .running { run := some r, state := 1, hank := 5 }
          ((after .tokenizerJobEnd s).job? 4).map (·.phase) = some .halted)
       ∧ (let r := { r with streaming := true }
          let s := wTok tokDesc .running { run := some r, state := 1, hank := 5 }
          ((fresh s).tokPackets r).1.length < leAt r.desc 4 4 ∧ (after .tokenizerJobEnd s).tok.run = some r)
       ∧ (let s := { wTok tokDesc .running { run := some r, state := 1, hank := 5 } with slots := [], pools := [] }
          (((fresh s).tokPackets r).2.runTok r ((fresh s).tokPackets r).1 false).1.cause ≠ 0)) := by decide +kernel

/-- Channel 4 of hank 5 with one instruction of its program, W0 and W1 of R281, at 0x100000000. -/
def wCh (w0 w1 : Nat) (c : Chan) : State :=
  { w with mem := memPuts (memPuts [] 0x100000000 (leBytes 8 w0 ++ leBytes 8 w1)) 0x100001000 [7, 7], written := [0x100000000, 0x100001000]
           chans := [(4, { c with hank := 5, state := 1, prog := 0x100000000, progLen := 1, job := some 3 })]
           tck := { time := 1000000000, jobs := [{ id := 3, hank := 5, kind := 3, phase := .running, unit := 4 }] } }

def fetched (s : State) : Option BobIns × Nat := ((fresh s).bobFetch 4).1

theorem wit_channel : fetched (wCh 0 0 {}) = (some .bad, 0) ∧ ((after (.move 4) (wCh 0 0 {})).chan 4).cause = 4
    ∧ (let s := wCh (1 * 2 ^ 60 + 64 * 2 ^ 32 + 0x00001000) (1 * 2 ^ 48 + 0x100003000) {}
       (s.chan 4).ready = true ∧ fetched s = (some (.move false false false 64 0x100001000 0x100003000), 0)
       ∧ (after (.move 4) s).bytesAt 0x100003000 3 = [7, 7, 0] ∧ ((after (.move 4) s).chan 4).dcur = 0x100003040
       ∧ ((after (.move 4) s).chan 4).pc = 1)
    ∧ ((after (.move 4) (wCh (1 * 2 ^ 60 + 64 * 2 ^ 32 + 1) 0 {})).chan 4).cause = 1
    ∧ ((after (.move 4) (wCh (1 * 2 ^ 60 + 64 * 2 ^ 32) 1 {})).chan 4).dir = true
    ∧ (let s := wCh (2 * 2 ^ 60 + 2 * 2 ^ 32) (1 * 2 ^ 32) {}
       fetched s = (some (.loop 0 3 0 1 0), 0) ∧ ((after (.loop 4) s).chan 4).lc0 = 2 ∧ ((after (.loop 4) s).chan 4).scur = 64)
    ∧ (let s := wCh (3 * 2 ^ 60 + 0x101) 0 {}
       fetched s = (some (.wait 0x101), 0) ∧ s.ownsEvent 5 0x101 = true ∧ ((after (.wait 4) s).chan 4).state = 2
       ∧ ((after (.wait 4) (wCh (3 * 2 ^ 60 + 0x10) 0 {})).chan 4).cause = 6)
    ∧ (let s := wCh (4 * 2 ^ 60 + 0x101) (8 * 2 ^ 32 + 1 * 2 ^ 16 + 2) {}
       fetched s = (some (.pace 0x101 8 1 2), 0) ∧ ((after (.pace 4) s).chan 4).state = 3
       ∧ (let s := { wCh (4 * 2 ^ 60 + 0x101) (8 * 2 ^ 32 + 1 * 2 ^ 16 + 2) { paceOn := true, paceIdx := some 0 } with evt := { tally := [(0x101, 3)] } }
          ((after (.pace 4) s).chan 4).pc = 1 ∧ (after (.pace 4) s).tallyOf 0x101 = 1))
    ∧ (let s := wCh (5 * 2 ^ 60 + 0x102) 0 {}
       fetched s = (some (.signal 0x102), 0) ∧ (after (.signal 4) s).tallyOf 0x102 = 1)
    ∧ (let s := wCh (6 * 2 ^ 60) 0 {}
       fetched s = (some .finish, 0) ∧ (after (.end_ 4) s).jobs = [])
    ∧ (let s := (wCh (6 * 2 ^ 60) 0 {}).setChan 4 { (wCh 0 0 { doneEvent := 0x103 }).chan 4 with job := none }
       (after (.end_ 4) s).tallyOf 0x103 = 1) := by decide +kernel

def bobDesc : List Byte := leBytes 8 0x100001000 ++ leBytes 4 1 ++ leBytes 4 0xFF ++ leBytes 4 0xFFFFFFFF ++ leBytes 44 0

theorem wit_channels : (let j : Job := { id := 3, hank := 5, kind := 3, phase := .admitted, unit := 4, desc := 0x100002000 }
      let s := { w with tck := { jobs := [j] }, mem := memPuts [] 0x100002000 bobDesc, written := [0x100002000] }
      (s.chan 4).free = true ∧ s.chanJob 4 = some j ∧ s.counts 132 = true ∧ (s.unitSt 132).latch = false
      ∧ bobDescOk 0x100002000 bobDesc = true ∧ ((after (.bobbinProgramStart 4) s).chan 4).prog = 0x100001000)
    ∧ (let s := { w.setChan 4 { state := 2, waitEvent := 0x101 } with evt := { tally := [(0x101, 3)] } }
       ((after (.channelWaitSatisfied 0x101) s).chan 4).state = 1 ∧ (after (.channelWaitSatisfied 0x101) s).tallyOf 0x101 = 2
       ∧ (∀ m, m < 64 → m ≠ 4 → (s.chan m).state ∈ [2, 3] → (s.chan m).waitEvent ≠ 0x101))
    ∧ ((after (.moveDrainDone 4) (w.setChan 4 { state := 4 })).chan 4).state = 1
    ∧ (let b : BadAccess := { src := 0x100001000, dst := 0x100002000, cause := 2, tries := 1 }
       ((after (.bobbinBusError 4) (w.setChan 4 { state := 1, bad := some b })).chan 4).halting = true
       ∧ ((after (.bobbinBusError 4) (w.setChan 4 { hank := 5, state := 1, bad := some b, errMode := 2, errRetries := 2 })).chan 4).retried = 1)
    ∧ (let s := { w.setChan 4 { hank := 5, state := 1, halting := true, job := some 3, haltEvent := 0x104 } with
                  tck := { jobs := [{ id := 3, hank := 5, kind := 3, phase := .running, unit := 4 }] } }
       ((after (.channelHalt 4) s).chan 4).state = 6 ∧ (after (.channelHalt 4) s).tallyOf 0x104 = 1)
    ∧ (let s := { (wh { cplBase := 0x100003000, cplLog2 := 4 }).setChan 4 { hank := 5, state := 5, job := some 3 } with
                  tck := { jobs := [{ id := 3, hank := 5, kind := 3, phase := .stopping, unit := 4 }] } }
       (after (.channelStopDone 4) s).jobs = [])
    ∧ (let s := { w.setChan 4 { hank := 5, state := 6, job := some 3 } with
                  tck := { jobs := [{ id := 3, hank := 5, kind := 3, phase := .halted, unit := 4 }] } }
       ((after (.resume .pf 4) s).chan 4).state = 1 ∧ ((after (.abort .pf 4) s).chan 4).state = 0
       ∧ ((after (.resume (.app 0 7) 4) s).hank 7).accessErrors = 1 ∧ (s.reqHank (.app 0 5)) = (s.chan 4).hank)
    ∧ (w.counts 129 = true ∧ (w.chan 1).free = true ∧ (w.unitSt 129).latch = false ∧ w.reqHank .pf = 0)
    ∧ ((after (.evtPulse .pf 0x20005#32) w).tallyOf 5 = 2 ∧ w.ownsEvent 0 0x101 = false
        ∧ (after (.evtPulse .pf 0x101#32) w).tallyOf 0x101 = 0) := by
  decide +kernel

/-! ### Links, time, journal -/

/-- A frame of 60 bytes of an Ethernet type on port 0. -/
def eframe (etype : Nat) (p : List Byte) : EthFrame :=
  { port := 0, bytes := List.replicate 12 0 ++ beBytes 2 etype ++ p ++ List.replicate (46 - p.length) 0, fcsOk := true, rxFull := false }

/-- An IPv4 UDP datagram of 4 bytes from 10.0.0.1 to a port. -/
def udp4 (port : Nat) : List Byte :=
  beBytes 4 0x45000020 ++ beBytes 4 0 ++ beBytes 4 0x40110000 ++ beBytes 4 0x0A000001 ++ beBytes 4 0 ++ beBytes 4 port ++ beBytes 4 0x000C0000
  ++ beBytes 4 0x01020304

/-- A Sync of the clock whose port identity is 0, with its origin at 1 s and 7 ns; an Announce of clock class 6 with priority 1. -/
def syncMsg : List Byte := [0, 2, 0, 44] ++ List.replicate 30 0 ++ beBytes 6 1 ++ beBytes 4 7
def announceMsg : List Byte := [11, 2, 0, 64] ++ List.replicate 44 0 ++ [6] ++ List.replicate 15 0

def we : State := { wc {} with wrp := { w.wrp with image := some { wImg with cams := [{ cam1 with srcAddr := 0xFFFF * 2 ^ 32 + 0x0A000001 }] } } }

theorem wit_frames : we.ethUp 0 = true ∧ untag (eframe 0x0800 (udp4 5004)).bytes = some (0, 0x0800, udp4 5004 ++ List.replicate 14 0)
    ∧ we.acceptsVlan 0 0 = true ∧ we.acceptsVlan 0 7 = false ∧ we.ethUp 2 = true ∧ 0 < nEth10 we.variant
    ∧ udpOf 0x0800 (udp4 5004 ++ List.replicate 14 0) = some (0xFFFF * 2 ^ 32 + 0x0A000001, 5004, beBytes 4 0x01020304)
    ∧ ((after (.ethFrameReceive { eframe 0x0800 [] with fcsOk := false }) we).ethPort 0).fcsErrors = 1
    ∧ ((after (.ethFrameReceive (eframe 0x8100 (beBytes 4 0x00070800))) we).ethPort 0).vlanDrop = 1
    ∧ (after (.ethFrameReceive (eframe 0x88F7 [])) we).out = [.toPtp 0 (eframe 0x88F7 []).bytes 1000000000]
    ∧ ((after (.ethFrameReceive (eframe 0x8808 [0, 1])) we).ethPort 0).rxFrames = 1
        ∧ (after (.ethFrameReceive (eframe 0x8808 [0, 1])) we).out = []
    ∧ (after (.ethFrameReceive (eframe 0x8808 [0, 2])) we).out = [.toServices 0 (eframe 0x8808 [0, 2]).bytes 1000000000]
    ∧ (after (.ethFrameReceive (eframe 0x0806 [])) we).out = [.toServices 0 (eframe 0x0806 []).bytes 1000000000]
    ∧ (after (.ethFrameReceive (eframe 0x0800 (udp4 5004))) we).out = []
    ∧ (after (.ethFrameReceive (eframe 0x0800 (udp4 5005))) we).out = []
    ∧ (after (.ethFrameReceive (eframe 0x0800 (udp4 9))) we).crd.unmatched = 1 := by decide +kernel

/-- R312: the clock hears the Sync of the clock it follows and of no other. -/
theorem wit_sync : (let s : State := { we with tck := { we.tck with ptp := { best := some (0, 0) } } }
      ptpStart 0x88F7 syncMsg = some 0 ∧ syncMsg.length = 44 ∧ announceMsg.length = 64 ∧ s.tck.port = 0
      ∧ (after (.ethFrameReceive (eframe 0x88F7 syncMsg)) s).tck.offset = 7
          ∧ (after (.ethFrameReceive (eframe 0x88F7 syncMsg)) we).tck.offset = 0
      ∧ s.maySync 0 syncMsg = false ∧ we.maySync 0 syncMsg = true ∧ s.maySync 1 syncMsg = true
      ∧ (after (.frameTransmit 0 (eframe 0x88F7 syncMsg).bytes true true) s).out = []
      ∧ ((after (.frameTransmit 0 (eframe 0x88F7 ([1] ++ syncMsg.drop 1)).bytes true false) we).tck.ptp.req) = some (0, 1000000000)) := by
  decide +kernel

theorem wit_oversize (b : Byte) : let f : EthFrame := { eframe 0 [] with bytes := List.replicate 9300 b }
    f.fcsOk = true ∧ 9216 < f.bytes.length + 4 := by
  refine ⟨rfl, ?_⟩
  show 9216 < (List.replicate 9300 b).length + 4
  rw [List.length_replicate]; decide

theorem wit_stamps : (let s := w.setEth 0 { txts := [0x100000002] }
      (after (.txtsPop .pf 0) s).out = [.answer 0 [1, 0, 0, 0x80]] ∧ ((after (.txtsPop .pf 0) s).ethPort 0).txts = []
      ∧ (after (.txtsPop .pf 0) w).out = [.answer 0 [0, 0, 0, 0]])
    ∧ w.servicesUp = true ∧ ((after (.frameTransmit 0 [1] true false) w).ethPort 0).txts = [1000000000]
    ∧ (after (.frameTransmit 0 [1] true true) w).out = [.ethFrame 0 (stamped [1] 1000000000) (some 1000000000)]
    ∧ (let b := (eframe 0x88F7 syncMsg).bytes
       slice (stamped b 1000000000) 48 10 = beBytes 6 1 ++ beBytes 4 0 ∧ (stamped b 1000000000).take 48 = b.take 48)
    ∧ (after (.frameTransmit 0 [1] false true) w).out = [.ethFrame 0 [1] none]
    ∧ (let s : State := { w with boot := { state := 4 } }
       s.servicesUp = false ∧ s.ethUp 0 = true ∧ (after (.frameTransmit 0 [1] false true) s).out = [])
    ∧ ((after (.ethLinkChange 2 true 3) w).ethPort 2).speed = 3 := by decide +kernel

def wt (k : Tck) : State := { w with tck := k }

theorem wit_time : w.pins.porN = true ∧ w.pins.pwrEn = true ∧ w.pending = [] ∧ w.woven = true
    ∧ (match step w with | .next t => t.tck.time | _ => 0) = 1000000001 ∧ 0 < nsUnit
    ∧ w.reqHank .pf = 0 ∧ w.reqHank (.app 0 5) = 5 ∧ ((after (.phaseAdjWrite (.app 0 5) 3#32) w).hank 5).accessErrors = 1
    ∧ (after (.phaseAdjWrite .pf 3#32) w).tck = w.tck
    ∧ (after (.phaseAdjWrite .pf 3#32) (wt { time := 500, software := true })).tck.slew = 3 * nsUnit
    ∧ (after (.phaseAdjWrite .pf 1000000#32) (wt { time := 500, software := true })).tck.time = 1000500
    ∧ (after .ptpSyncLoss (wt { sync := 1, goodSyncs := 16 })).tck.sync = 2
    ∧ (after .holdoverExpired (wt { sync := 2 })).tck.expired = true := by decide +kernel

def entry (n : Nat) : JEntry := { seq := n, kind := 1, object := n }
def wj (l : Lea) : State := { w with lea := l, stw := { session := true } }

theorem wit_journal : (let s := wj { ring := [entry 4, entry 5], ringSlot := 4, head := 6, ack := 3 }
      s.lea.head / 2 ^ 32 = s.lea.epoch ∧ s.lea.ring.length + 2 ≤ 4096 ∧ ((s.change [entry 0, entry 1]).2.lea.ring.map (·.seq)) = [4, 5, 6, 7]
      ∧ (fresh s).lea.head < ((fresh s).fact (entry 0)).lea.head
      ∧ s.lea.ack ≤ 4 ∧ 0 < s.lea.head ∧ authBit .console = some 0 ∧ bit s.lea.sources 0 = true
      ∧ ((after (.journalAck .console 4) s).lea.ring.map (·.seq)) = [5] ∧ (after (.journalAck .console 4) s).lea.ack = 4
      ∧ (after (.journalRead .console 5 9) s).out = [.entries [entry 5], .mgmt 3 0 0 []]
      ∧ (after (.journalAck .console 2) s).lea = s.lea
      ∧ (after (.journalAck .console 4) { s with lea := { s.lea with sources := 0 } }).lea.badAcks = 1
      ∧ (after (.leaAckWrite .pf 0#32) { s with lea := { s.lea with sources := 0 } }).lea.badAcks = 1)
    ∧ (after (.journalRead .console 0 1) w).out = [.mgmt 3 3 0 []] := by decide +kernel

theorem wit_journal_full : let s := wj { ring := List.replicate 4096 {} }
    s.lea.head / 2 ^ 32 = s.lea.epoch ∧ 4096 < s.lea.ring.length + 1 ∧ 4096 ≤ s.lea.ring.length := by
  have h : (wj { ring := List.replicate 4096 {} }).lea.ring.length = 4096 := List.length_replicate
  exact ⟨rfl, by rw [h]; decide, by rw [h]⟩

theorem wit_flush : (w.lea.flushing = false ∧ w.nv.flash.idle.erased = true ∧ (after (.flush .pf) w).lea.flushing = true)
    ∧ (let s := wj { ring := [entry 4], ringSlot := 4, head := 5, flushing := true }
       s.pwr.state ≠ 4 ∧ (after .flushDone s).nv.flash.current = true ∧ (after .flushDone s).nv.flash.cur.entries = [entry 4]
       ∧ (after .flushTimeout s).lea.flushFailed = true)
    ∧ (let s := wj { epoch := 3, epochUnsaved := true }
       s.nv.flash.cur.epochs.length < 512 ∧ (after (.epochProgramRetry true) s).nv.flash.cur.epochs = [3]) := by decide +kernel

theorem wit_pcie : (let s := { w with pci := { up := true, numVfs := 2, fns := [(0, { pba := 5, reqTail := 3, replies := [[1]], msix := [(15, 0)] }), (1, {})] } }
      s.fnUp 1 = true ∧ (after (.functionLevelReset 1) s).pci.fns.length = 1
      ∧ s.pci.fns.Pairwise (fun a b => a.1 < b.1) ∧ (after (.functionLevelReset 0) s).pci.numVfs = 0
      ∧ ((after .pcieLinkDown s).fnPage 0).lost = 3 ∧ (after .pcieLinkDown s).pci.downEvents = 1
      ∧ (after .perst s).pci.fns = [] ∧ s.pins.refPcie = true ∧ (after (.pcieLinkUp 8 4) s).pci.width = 8
      ∧ (after (.pcieLinkUp 8 4) s).out = [.present 0x1F3A (deviceId s.variant)] ∧ gives (.pcieLinkUp 8 5) s s = true
          ∧ gives (.pcieLinkUp 3 4) s s = true
      ∧ gives (.pcieLinkUp 8 4) { s with pins := { s.pins with refPcie := false } } { s with pins := { s.pins with refPcie := false } } = true
      ∧ (after (.vfEnable 1) s).pci.numVfs = 1)
    ∧ (let s := { w with pci := { up := true, fns := [(0, { pba := 5, msix := [(44, 0)] })] } }
       (s.fnPage 0).pba.testBit 2 = true ∧ (s.fnPage 0).masked 2 = false ∧ (after (.msixMessage 0 2 (some true)) s).out = [.msix 0 2]
       ∧ ((after (.msixMessage 0 2 (some true)) s).fnPage 0).pba = 1 ∧ (after (.msixMessage 0 2 none) s).out = []
       ∧ ((after (.msixMessage 0 2 (some true)) s).fnPage 0).enabled = true) := by decide +kernel

theorem wit_registers : (blockPresent w.variant 200 = false ∧ (after (.registerWrite .pf 200 4 9) w).out = [.answer 0 []])
    ∧ ((after (.registerWrite (.app 0 5) 43 0x0 9) w).hank 5).accessErrors = 1 ∧ blockPresent w.variant 43 = true
    ∧ ((after (.registerWrite (.app 0 5) 3 0x404 9) w).hank 5).baseLo = 9
    ∧ (let t := after (.registerWrite .pf 2 0x038 7) w
       t.tck.stepUs = 7 ∧ t.lea.ring.map (fun e => (e.object, e.old, e.new)) = [(regObj 2 0x038, 1000, 7)])
    ∧ (let s : State := { w with pwr := { w.pwr with tdp := 40 } }
       s.pwr.tdp < clampN (tdpRange s.variant).1 (tdpRange s.variant).2.1 (bits 127 6 0) ∧ s.stw.remoteDanger = false
       ∧ (after (.registerWrite .pf 43 0x014 127#32) s).out = [.answer 1 []]
       ∧ (let t := after (.registerWrite .pf 43 0x014 127#32) { s with stw := { s.stw with remoteDanger := true } }
          40 < t.pwr.tdp ∧ t.stw.dangers.length = 1)) := by decide +kernel

theorem wit_single : ((after (.peakWrite .pf 0#32) { w with peak := 9 }).peak = 0)
    ∧ (after (.jobReserveWrite .pf 500#32) w).jobReserve = 256
    ∧ ((mget? w.plies 0).isSome = true ∧ ((after (.drainTicksWrite .pf 0 0#32) w).ply 0).drainTicks = 1)
    ∧ (after (.latchingLowRead .pf 2 0) (wt { time := 0x300000002 })).out = [.answer 0 [2, 0, 0, 0]]
    ∧ ((after (.errLatchRearmRead .pf 5 4) { w with fab := { decodeLatch := { held := true, addr := 9 } } }).fab.decodeLatch.held) = false
    ∧ (let s := wj { ring := [entry 4], ringSlot := 4, head := 5, ackLo := 4 }
       ackBit .pf = some 1 ∧ bit s.lea.sources 1 = true ∧ s.lea.ack ≤ 4 ∧ (after (.leaAckWrite .pf 0#32) s).lea.ring = []) := by
  decide +kernel

/-! ### Pins, boot, mailbox, audio -/

/-- Balls named in 19 R437's tables and counted there: F3 is PERST_N, AE37 FAN_TACH[3], E6 of region 0 is its ZQ, E7 is VSS. -/
theorem test_balls : ball 5 3 = .signal "PERST_N" ∧ ball 25 37 = .signal "FAN_TACH[3]" ∧ ball 14 34 = .signal "REFCLK_SYS"
    ∧ ball 4 6 = .dram 0 .zq ∧ ball 4 7 = .vss ∧ ball 32 21 = .dram 3 (.ca 0 0) ∧ ball 7 2 = .pcieLane 1 "TX_N"
    ∧ (ballsOf (.island 4)).length = 117 ∧ (ballsOf .ddrQ).length = 30 ∧ (ballsOf .ddrPhy).length = 34
    ∧ (ballsOf .io18).length = 12 := by decide +kernel

/-- The worked examples of 19 R435: 77.0 degrees at 18 W in airflow, 105.8 in still air. -/
theorem test_junction : junction 45000 18000 false / 100 = 770 ∧ (junction 45000 18000 true + 50) / 100 = 1058 := by decide

/-- 19 R432: the fan outputs before the steward drives them, and a driven one; PWR_EN and the rest in Dormant. -/
theorem test_pins : State.reset.pinDrive (.fanPwm 0) = .highImpedance ∧ State.reset.pinDrive .conTxd = .high
    ∧ ({ State.reset with pins := { pwrEn := false } } : State).pinDrive .thermAlert = .unpowered
    ∧ ({ State.reset with pins := { pwrEn := false } } : State).pinDrive .pwrEn = .low
    ∧ ({ State.reset with pins := { porN := true, fanHiZ := false }, stw := { curve2 := 70 } } : State).pinDrive (.fanPwm 1) = .pwm 35 := by
  decide +kernel

def env0 : BootEnv :=
  { master := false, addr := 3, refSys := true, refPcie := true, refEth := true, dram := [], confirmed := [], epochSaved := true, sites := [] }

/-- The device before its boot, powered, with POR_N low. -/
def off0 : State := State.reset

theorem wit_pins : ((after (.porNAssert 10000) w).boot.state = 0 ∧ (after (.porNAssert 10000) w).wrp.image = none)
    ∧ gives (.porNAssert 999) w w = true
    ∧ (off0.pins.pwrEn = true ∧ off0.pins.porN = false ∧ (after (.porNRelease { env0 with refSys := false }) off0).pins.refSys = false)
    ∧ ((after (.porNRelease env0) off0).pins.strapAddr = 3 ∧ (after (.porNRelease env0) off0).boot.state = 7)
    ∧ (let s := { w with boot := { state := 5, awaiting := true } }; (after .servicesReady s).boot.state = 5)
    ∧ (let s := { w with boot := { state := 7 } }; s.fwCode 1 [1] = 0x15 ∧ (after (.recoveryImage [1]) s).out = [.mgmt 3 0x15 0 []])
    ∧ (let s := { w with pins := { vddWake := false, pwrEn := false } }; (after .vddWakeRise s).pins.pwrEn = true)
    ∧ (after .vddWakeFall w).pins.pwrEn = false
    ∧ ((after (.wakeNQualified 10000) { w with pins := { pwrEn := false } }).pins.pwrEn = true)
    ∧ ((after (.wakeNQualified 10000) { w with pins := { pwrEn := false, offTimeDone := false } }).pins.wakeLatched = true)
    ∧ ((after (.wakeNQualified 10000) { w with pwr := { state := 2 } }).pwr.state = 3)
    ∧ gives (.wakeNQualified 4999) w w = true
    ∧ ((after .pwrEnOffTime { w with pins := { pwrEn := false, offTimeDone := false, wakeLatched := true } }).pins.pwrEn = true) := by decide +kernel

theorem wit_reset : (let s := wj {}
      s.noSession .console = false ∧ s.dangerOk .console = true ∧ s.boot.state = 6 ∧ HasRoom s ∧ (after (.reset .console []) s).wrp.image = none
      ∧ (after (.reset .console []) s).tck.time = 1000000000 ∧ (after (.reset .console []) s).boot.state = 4)
    ∧ (after (.reset .host []) w).out = [.mgmt (authCode .host) 3 0 []] ∧ (after (.reset .console []) w).out = [.mgmt 3 3 0 []]
    ∧ (after (.reset .console []) { wj {} with boot := { state := 4, warm := true } }).out = [.mgmt 3 4 0 []] := by
  unfold HasRoom; decide +kernel

/-- Function 1 is bound to hank 5 and its request at REQ_HEAD is `req`. -/
def wf (fn : Nat) (req : List Byte) : State :=
  { w with grants := [(0, { state := 1, grantor := 5, grantee := 0, base := 0x100000000, len := 0x4000 })]
           pci := { up := true, numVfs := 2, binds := [(1, { bound := true, hank := 5 })], fns := [(fn, { reqTail := 1, reqSlots := memPuts [] 0 req })] } }

def req (op : Nat) (body : List Byte) : List Byte := leBytes 2 op ++ leBytes 2 0 ++ leBytes 1 body.length ++ leBytes 3 0 ++ body

def replied (cmd : Instr) (fn : Nat) (r : List Byte) : Option (List Byte) :=
  ((after cmd (wf fn r)).fnPage fn).replies.head?.map (·.take 12)

theorem wit_mailbox : (let s := wf 1 (req 1 [9, 8])
      s.fnUp 1 = true ∧ s.fnBound 1 = true ∧ s.servicesUp = true ∧ (s.fnPage 1).waiting = none ∧ leAt (((s.fnPage 1).request).getD []) 4 1 = 2
      ∧ ((after (.mailboxRequestPost 1 16) s).fnPage 1).reqTail = 16 ∧ ((after (.mailboxRequestPost 1 17) s).fnPage 1).reqTail = 1
      ∧ (replied (.ping 1) 1 (req 1 [9, 8])).map (fun r => slice r 8 2) = some [9, 8]
      ∧ (replied (.ping 1) 1 (req 0x50 [])).map (fun r => leAt r 5 1) = some 1)
    ∧ (wf 2 (req 1 [])).fnBound 2 = false
    ∧ (let r := req 2 (leBytes 2 0x105 ++ [1, 3])
       let s := wf 1 r
       s.ownsEvent (s.fnHank 1) 0x105 = true ∧ bits (mget (after (.routeEvent 1 2) s).evt.route 0x105 0#32).toNat 15 13 = 6
       ∧ s.ownsEvent (s.fnHank 1) 0x5 = false)
    ∧ (let body := leBytes 8 0x100000000 ++ leBytes 4 24 ++ leBytes 4 0xFFFF0001 ++ leBytes 16 0
       let s := wf 1 (req 3 body)
       hasAud s.variant = true ∧ (parseVoice 5 body).isSome = true ∧ s.servable 1 0x100000000 96 = true
       ∧ (((after (.playPrompt 1 2) s).voice 2).cur.map (·.frames)) = some 24)
    ∧ (let body := leBytes 8 0x100000000 ++ leBytes 4 64 ++ leBytes 2 0
       let s := wf 1 (req 4 body)
       body.length = 14 ∧ s.servable 1 0x100000000 64 = true ∧ ((fresh s).engRead 0 80 0x100000000 64).1 = .ok
       ∧ (replied (.publish 1 true) 1 (req 4 body)).map (fun r => leAt r 5 1) = some 7)
    ∧ (let s := { w with pci := { up := true, fns := [(0, { replies := [List.replicate 64 7] })] } }
       ((after (.mailboxReply 0) s).fnPage 0).rplHead = 1 ∧ ((after (.mailboxReply 0) s).fnPage 0).pba = 1) := by decide +kernel

def wa (x : Voice) : State := { w with aud := { voices := [(1, x)] } }

theorem wit_voices : (let d : Voice1 := { clip := 0x100000000, frames := 24, slotMask := 1, hank := 5, doneEvent := 0x101 }
      hasAud w.variant = true
      ∧ ((after (.voiceQueue .pf 1 1#32) (wa { queue := List.replicate 8 d })).voice 1).refused = 1
      ∧ (let s : State := { wa { cmdLo := 0x8000 } with
             slots := [(16, { state := 1, owner := 0, base := 0x100008000, len := 1 })], written := [0x100008000]
             mem := memPuts [] 0x100008000 (leBytes 8 0x100009000 ++ leBytes 4 24 ++ leBytes 4 0xFFFF0001) }
         let r := (fresh s).engRead 0 158 0x100008000 32
         r.1 = .ok ∧ (parseVoice 0 r.2.2.1).isSome = true ∧ r.2.2.2.aud = s.aud
         ∧ ((after (.voiceQueue .pf 1 1#32) s).voice 1).cur.map (·.clip) = some 0x100009000)
      ∧ ((after (.voiceStop .pf 1 1#32) (wa { queue := [d], cur := some d })).voice 1).stop = true
      ∧ ((after (.voiceStop (.app 0 5) 1 1#32) (wa {})).hank 5).accessErrors = 1
      ∧ (after (.clipEnd 1) (wa { cur := some d, pos := 24 })).tallyOf 0x101 = 1
      ∧ ((after (.clipEnd 1) (wa { cur := some d, pos := 24, queue := [d] })).voice 1).queue = []
      ∧ ((after (.audioFrame []) { w with aud := { enable := true } }).out = [.audio (audWire false (List.replicate 8 0))])) := by decide +kernel

/-- R315: in TDM8 the word of slot 1, 24 bits 0x800001 and eight zeros, stands a clock after slot 1 begins, most significant bit first. -/
theorem test_wire : (let b := audWire false [0, -8388607, 0, 0, 0, 0, 0, 0]
      b.length = 256 ∧ ((b.zipIdx.filter (fun x => x.1.2)).map (·.2)) = [33, 56] ∧ ((b.zipIdx.filter (fun x => x.1.1)).map (·.2)) = [0])
    ∧ ((audWire true [0, 0]).map (·.1)) = List.replicate 32 false ++ List.replicate 32 true := by decide +kernel

/-- R317: the gains 65,536 × 10^(-g / 40) of g = 0, 6, 20 and 127 half decibels, by hand. -/
theorem test_gain : (List.map gainOf [0, 6, 20, 127]) = [65536, 46396, 20724, 44] := by decide +kernel

theorem wit_amps : (let s := fun (x : Amp) => { wj {} with aud := { amps := [(2, x)] } }
      HasRoom (s {}) ∧ ((after (.ampFault 2) (s {})).amp 2).st = 1 ∧ ((after (.ampFault 2) (s { st := 2, retries := 3 })).amp 2).st = 3
      ∧ ((after (.ampFault 2) (s { st := 3 })).amp 2).faults = 1 ∧ ((after (.ampFault 2) (s { st := 1, retries := 3 })).amp 2).st = 3
      ∧ ((after (.ampFault 2) (s { st := 1, retries := 2 })).amp 2).st = 1
      ∧ ((after (.ampRetry 2 true) (s { st := 1 })).amp 2).goal = 16462
      ∧ ((after (.ampRetryClean 2) (s { st := 2, retries := 2 })).amp 2).retries = 0
      ∧ ((after (.clear .console 2 false) (s { st := 3 })).amp 2).st = 0) := by unfold HasRoom; decide +kernel

/-! ### Power, thermal, steward -/

/-- The device with island `i` in the state `x`. -/
def wi (i : Nat) (x : Island) : State := { w with pwr := { islands := [(i, x)] } }

theorem wit_regulators : (0 ∈ w.islands ∧ w.stw.reports = []
      ∧ ((after (.regulatorConfirm 0 560 530 true) (wi 0 { st := 2, volt := 550, target := 1 })).isl 0).cur = 1
      ∧ ((after (.regulatorConfirm 0 560 530 true) (wi 0 { st := 1, volt := 550, cur := 2 })).isl 0).st = 0
      ∧ ((after (.regulatorConfirm 0 561 550 true) (wi 0 { st := 2, volt := 550, target := 1 })).isl 0).st = 2)
    ∧ (((after (.linkLost 0) (wi 0 { st := 2, cur := 1, target := 3 })).isl 0).target = 1
        ∧ ((after (.confirmTimeout 0) (wi 0 { st := 1 })).isl 0).losses = 1)
    ∧ ((after (.monitorCheck 0 600) (wi 0 {})).stw.reports = [] ∧ (after (.monitorCheck 0 600) (wi 0 {})).lea.head = 0
       ∧ ((after (.monitorCheck 0 601) { wi 0 {} with stw := { units := [(43, { state := 1 })] } }).unitSt 43).faults = 1)
    ∧ (((after (.monitorCheck 0 524) (wi 0 { st := 3, cur := 2 })).isl 0).lowVolt = true
       ∧ ((after (.monitorCheck 0 525) (wi 0 { st := 3, cur := 2 })).isl 0).lowVolt = false
       ∧ (let x := (after (.monitorCheck 0 525) (wi 0 { st := 3, cur := 2, lowVolt := true })).isl 0
          x.lowVolt = false ∧ x.cur = 0))
    ∧ (after (.pmbusRetry 0 true) (wi 0 { st := 3, cur := 2 })).out = [.vout 0 650]
    ∧ ((after (.pmbusAlert 0 [9]) (wi 0 {})).isl 0).status = 9 := by decide +kernel

def sites (t : Nat) : List Nat := t :: List.replicate 15 40

def wp (p : Pwr) : State := { w with pwr := p, stw := { sites := sites 80, session := true } }

theorem wit_thermal : ((sites 100).length = 16 ∧ w.pwr.level = 0 ∧ (after (.thermalSample (sites 100)) w).pwr.level = 2
      ∧ (after (.thermalSample (sites 94)) (wp { level := 1 })).pwr.level = 1
          ∧ (after (.thermalSample (sites 95)) (wp { level := 2 })).pwr.level = 1
      ∧ (after (.thermalSample (sites 97)) (wp { level := 2 })).pwr.level = 2)
    ∧ ((after .throttleStep (wp { level := 2 })).pwr.thermCap = 6)
    ∧ ((hottest (sites 80) 0 (0, 0)).2 < 97 ∧ (after .throttleStep (wp { thermCap := 3 })).pwr.thermCap = 4)
    ∧ (let t := after (.thermalTrip 2 110) (wp { islands := [(0, { cur := 3, volt := 700 })] })
       0 ∈ w.islands ∧ t.pwr.level = 3 ∧ (t.isl 0).cur = 0 ∧ t.pins.thermAlert = true)
    ∧ (let s : State := { wp { level := 3 } with stw := { sites := sites 110 } }
       (after .forcedHold s).pwr.forced = true ∧ (after .forcedHold s).pwr.state = 1)
    ∧ ((after (.powerSample ⟨1500, [551, 0, 0, 0, 601]⟩) w).pwr.powers = [1500]
        ∧ ((after (.powerSample ⟨1500, [551, 0, 0, 0, 601]⟩) w).isl 4).readback = 601
       ∧ 4 ∈ w.islands)
    ∧ (let s := wp { powers := List.replicate 100 1801 }
       s.tdpNow * 5000 < s.pwr.powers.sum ∧ (after .tdpCapStep s).pwr.tdpCap = 6)
    ∧ (let s := wp { powers := List.replicate 100 1000, below := 100, tdpCap := 5 }
       s.pwr.powers.sum ≤ s.tdpNow * 5000 ∧ (after .tdpCapStep s).pwr.tdpCap = 6) := by decide +kernel

theorem wit_power : (let s := wp {}
      s.holder 0x0103 0 = none ∧ HasRoom s ∧ (after (.hold .host) s).pwr.state = 1 ∧ s.dangerOk .console = true
      ∧ (after (.dormant .console) s).pins.wakeArmed = true)
    ∧ (let s := wp { state := 2 }
       s.holder 0x0103 0 = none ∧ HasRoom s ∧ (after (.run .host) s).pwr.state = 3 ∧ ((after (.run .host) s).isl 4).volt = 550 ∧ 4 ∈ s.islands)
    ∧ ((after (.hold .host) (wp { state := 1 })).pwr.result.code = 1 ∧ (after (.run .host) (wp { state := 4 })).pwr.result.code = 1)
    ∧ (HasRoom (wp { level := 3 }) ∧ (after (.run .host) (wp { level := 3 })).pwr.result.code = 0x51)
    ∧ (let s : State := { wp { state := 1, islands := [(0, { cur := 2 })] } with plies := [(0, { state := 3 })], cores := [(2, { x := [(1, 1)] })] }
       s.holdReady = true ∧ (after .holdEntryComplete s).pwr.state = 2 ∧ ((after .holdEntryComplete s).isl 0).st = 4
       ∧ ((after .holdEntryComplete s).core 2).x = [])
    ∧ (let s := wp { state := 3, islands := [(0, { st := 2 }), (1, { st := 2 }), (2, { st := 2 }), (3, { st := 2 }), (4, { st := 2 })] }
       (∀ i, i ∈ s.islands → i < 5 → (s.isl i).st = 2) ∧ (after (.holdExitComplete s.islands) s).pwr.state = 0)
    ∧ (let s : State := { wp {} with stw := {} }
       s.noSession .console = true ∧ s.noSession .host = false ∧ (after (.hold .console) s).out = [.mgmt 3 3 0 []]
         ∧ (after (.hold .console) s).pwr = s.pwr)
    ∧ (let s : State := { wp { state := 4 } with lea := { flushing := true } }
       (after .flushDone s).pins.pwrEn = false ∧ (after .flushTimeout s).pwr.state = 2 ∧ (after .flushTimeout s).pwr.result.code = 3) := by
  unfold HasRoom; decide +kernel

/-- A ring with no room left. -/
theorem wit_power_full : let s : State := { wp {} with lea := { ring := List.replicate 4096 {} } }
    s.pwr.state = 0 ∧ s.pwr.level ≠ 3 ∧ s.pwr.forced = false ∧ s.holder 0x0103 0 = none ∧ s.lea.head / 2 ^ 32 = s.lea.epoch
      ∧ 4096 ≤ s.lea.ring.length := by
  have h : ({ ring := List.replicate 4096 {} } : Lea).ring.length = 4096 := List.length_replicate
  exact ⟨rfl, by decide, rfl, rfl, rfl, by simp only [h, Nat.le_refl]⟩

theorem wit_guards : ((mget? w.dram 0).map (·.state) = some 2 ∧ (after (.mr4Poll [(5, true)]) w).pwr.hotCap = true
      ∧ (after .dramHotRelease (wp { hotCap := true })).pwr.hotCap = false ∧ (wp { hotCap := true }).anyHot = false)
    ∧ ((after (.fanCurveUpdate [900]) (wp {})).stw.curve2 = 158 ∧ ((after (.fanCurveUpdate [900]) (wp {})).fan 0).rpm = 900
       ∧ (after (.fanCurveUpdate []) { w with stw := { curve2 := 200, sites := sites 20 } }).stw.curve2 = 199)
    ∧ (let s : State := { wp {} with stw := { (wp {}).stw with curve2 := 70 } }
       bit s.stw.fanMask 1 = true ∧ (s.fan 1).fault = false ∧ 0 < s.fanDuty 1 ∧ HasRoom s ∧ ((after (.fanFault 1) s).fan 1).fault = true
       ∧ (after (.fanFault 1) s).fanDuty 1 = 100)
    ∧ ((after (.fanFaultClear 1) { w with stw := { fans := [(1, { fault := true })] } }).fan 1).fault = false
    ∧ (w.stw.kick5a = false ∧ (after (.watchdogKick .steward 0xA5A5#32) w).stw.kick5a = true
       ∧ (after (.watchdogKick .steward 0x5A5A#32) w).stw.badKicks = 1 ∧ (after (.watchdogKick .pf 0xA5A5#32) w).stw.badKicks = 1)
    ∧ ((after .watchdogExpiry w).stw.wdForced = true ∧ (after .watchdogExpiry (wp {})).stw.session = false
       ∧ ((after .watchdogExpiry (wp { islands := [(0, { cur := 3 })] })).isl 0).cur = 0)
    ∧ (let s : State := { w with stw := { wdForced := true }, pwr := { islands := [(0, { st := 3 })] } }
       (∀ k, k < 16 → (sites 80).getD k 0 < 110) ∧ (∀ j, j ∈ s.islands → j ∈ [0, 1, 2, 3, 4, 5])
       ∧ (after (.wdogRelease .steward (sites 80) [0, 1, 2, 3, 4, 5]) s).stw.wdForced = false
       ∧ ((after (.wdogRelease .steward (sites 80) [0, 1, 2, 3, 4, 5]) s).isl 0).volt = 550)
    ∧ ((after (.wdogRelease (.app 0 5) [] []) w).hank 5).accessErrors = 1 := by unfold HasRoom; decide +kernel

/-! ### Management, tray, firmware, units -/

/-- A device with a console session and the overrides `o`. -/
def wov (o : NMap Override) : State := { w with stw := { session := true, overrides := o, sites := sites 40 } }

def marg (object value : Nat) : MgmtArgs := ⟨.console, object, value, 60⟩

theorem wit_overrides : (wov []).mayManage .console = true
    ∧ (HasRoom (wov []) ∧ (wov []).holder 0x0109 0 = none
       ∧ ((after (.warplock (marg 0 0)) (wov [])).holder 0x0109 0) = some { auth := 3, value := 0, untilNs := 61000000000 })
    ∧ (let s := wov (only (0x0109 * 256) { auth := 2 })
       s.holder 0x0109 0 = some { auth := 2 } ∧ HasRoom s ∧ (after (.warplock (marg 0 0)) s).out = [.mgmt 3 0x51 2 []])
    ∧ (let s : State := { wov [] with pwr := { islands := [(0, { cur := 2, volt := 650 })] } }
       0 ∈ s.islands ∧ bits 0x0107FF 7 0 = 0xFF ∧ bits 0x0107FF 23 16 ≤ (s.isl 0).cur ∧ HasRoom s
       ∧ ((after (.pin (marg 0 0x0107FF)) s).holder 0x0104 0).map (·.value) = some 0x0107FF)
    ∧ (tdpRange w.variant = (24, 64, 36) ∧ (wov []).tdpNow = 36 ∧ ((after (.tdp (marg 0 14)) (wov [])).holder 0x0105 0).map (·.value) = some 28
       ∧ (wov []).dangerOk .console = true ∧ ((after (.tdp (marg 0 32)) (wov [])).holder 0x0105 0).map (·.value) = some 64
       ∧ (wov []).dangerOk .host = false ∧ (wov []).mayManage .host = true
           ∧ (after (.tdp ⟨.host, 0, 32, 60⟩) (wov [])).out = [.mgmt 5 0x03 0 []])
    ∧ ((wov []).fanHolder 1 = none ∧ ((after (.fan (marg 1 90)) (wov [])).holder 0x0106 1).map (·.value) = some 90)
    ∧ (let s := wov (only (0x0109 * 256) { auth := 3 })
       s.holder 0x0109 0 = some { auth := 3 } ∧ HasRoom s ∧ (after (.release (marg 0x0109 0)) s).stw.overrides = []
       ∧ (after (.overrideExpiry 0x0109 0) s).stw.overrides = [])
    ∧ (let s : State := { wov [] with stw := { dangers := [entry 1] } }
       (after .dangerAfterReading s).stw.dangers = [])
    ∧ ((wov []).holder 0x0103 0 = none ∧ (after (.power (marg 0 2)) (wov [])).pwr.state = 1) := by unfold HasRoom; decide +kernel

/-- STATUS holds the tier, the states and 192 units; a console without a session is refused. -/
theorem wit_sessions : w.boot.state ≠ 7 ∧ (after .logout (wov [])).stw.session = false ∧ (after .sessionTimeout (wov [])).stw.session = false
    ∧ w.stw.session = false ∧ (after (.pin (marg 0 0)) w).out = [.mgmt 3 0x03 0 []]
    ∧ (after (.status .console) { w with boot := { state := 7 } }).out = [.mgmt 3 0x03 0 []]
    ∧ (after (.unit (marg 0 0)) w).out = [.mgmt 3 0x03 0 []] := by decide +kernel

/-- A peer at address 3, and the master of a tray that knows peer 3 as `p`. -/
def wpeer : State := { w with stw := { trayAddr := 3 } }
def wmast (p : Peer) : State := { w with stw := { role := 1, peers := only 3 p } }
def hdr3 : Ebvar := ⟨0, 3, 7, 0, true⟩
def hdrM : Ebvar := ⟨3, 0, 7, 0, true⟩
def rly : RelayFrame := { hdr := hdr3, epoch := 0, hank := 9, job := 4, cls := 1, fate := 0, remotePly := 0, put := true, addr := 64, len := 2,
                          data := [1, 2], commit := false, event := 0 }
def peerId : PeerId := { deviceId := 5, woven := true, serial := 9, ownerKey := 0 }

theorem wit_peer : (let s := wpeer
      s.stw.role = 0 ∧ s.boot.state ≠ 7 ∧ (after (.poll { hdr3 with crcOk := false } 1) s).stw.crc = 1 ∧ (after (.poll { hdr3 with src := 3 } 1) s).stw.role = 2
      ∧ (s.link 0).rxSeq ≠ some hdr3.seq ∧ (after (.poll hdr3 5) s).stw.peers = [(0, { epoch := 5 })]
      ∧ (after (.discover hdr3) s).out = [.ebvar 0 3 4 0 7 [deviceId s.variant, 1, 9, 0]] ∧ (after .masterLost s).stw.masterLost = true)
    ∧ (let s : State := { w with stw := { trayAddr := 3, links := [(0, { rxSeq := some 7, txSeq := 4 })] } }
       (s.link 0).rxSeq = some hdr3.seq ∧ (after (.poll hdr3 5) s).out = [.ebvar 0 3 2 3 7 []])
    ∧ (let l : Link := { rxSeq := some 7, txSeq := 4, unacked := some { type := 6, seq := 3, payload := [1] } }
       let s : State := { w with stw := { trayAddr := 3, links := [(0, l)] } }
       (after (.poll hdr3 5) s).out = [.ebvar 0 3 6 3 7 [1]])
    ∧ (let s : State := { w with stw := { trayAddr := 3, peers := [(0, { epoch := 2 })] } }
       rly.epoch < (s.peer 0).epoch ∧ (after (.relay rly) s).stw.staleRelay = 1)
    ∧ (wpeer.slotFree 1 = true ∧ hankRec? wpeer.img 9 0 = none ∧ (after (.relay rly) wpeer).out = [.ebvar 0 3 8 0 7 [0, 4, 5, 4, 0]])
    ∧ (let x : RelayStage := { hank := 5, job := 4, ply := 0 }
       let s : State := { w with stw := { trayAddr := 3, stages := [x] } }
       s.stw.stages.find? (fun x => x.job == rly.job && x.epoch == rly.epoch) = some x
       ∧ (after (.relay rly) s).stw.stages = [{ x with base := 64, data := [1, 2] }]) := by decide +kernel

def wrel (run : RelayRun) : State :=
  { w with stw := { role := 1, peers := only 3 { state := 2, epoch := 1 }, relays := [run] }
           tck := { jobs := [{ id := 4, kind := 5, hank := 5, unit := 3, epoch := 1, phase := .running }] } }

theorem wit_master : (wmast { state := 2, epoch := 6 }).stw.role = 1
    ∧ (after .pollCycle (wmast { state := 2, epoch := 6 })).out = [.ebvar 3 0 1 0 0 [6]]
    ∧ (let w3 : Sent := { type := 7, seq := 9, payload := [1] }
       let s := wmast { state := 2, epoch := 6 }
       let s : State := { s with stw := { s.stw with links := only 3 { unacked := some w3 } } }
       (after .pollCycle s).out = [.ebvar 3 0 7 9 0 [1]] ∧ ((after .pollCycle s).link 3).unacked = some { w3 with left := 2 })
    ∧ (let s : State := { wmast {} with wrp := {} }
       s.woven = false ∧ Out.ebvar 3 0 3 0 0 [] ∈ (after .discoverRound s).out)
    ∧ (let s := wmast { state := 2, misses := 1 }
       min 15 ((s.peer 3).misses + 1) < s.stw.miss ∧ ((after (.pollMissed 3) s).peer 3).misses = 2)
    ∧ (let s := wmast { state := 1, misses := 2 }
       s.stw.miss ≤ min 15 ((s.peer 3).misses + 1) ∧ s.jobs = [] ∧ ((after (.pollMissed 3) s).peer 3).state = 4)
    ∧ (let s : State := { wmast { epoch := 8 } with wrp := {} }
       s.woven = false ∧ (s.link 3).rxSeq ≠ some hdrM.seq ∧ ((after (.reply hdrM peerId) s).peer 3).epoch = 9
       ∧ ((after (.announce hdrM peerId) s).peer 3).state = 2)
    ∧ (after (.mgmtRpl hdrM 0x0102 3 [7]) (wmast { state := 2 })).out = [.mgmt 4 3 0 [3, 0x0102, 7]]
    ∧ (let run : RelayRun := { job := 4, peer := 3, committed := true }
       let s := wrel run
       let r : RelayAckFrame := { hdr := hdrM, epoch := 1, job := 4, data := [], status := 0, detail := 0, delivered := true }
       (s.job? 4).map (·.id) = some 4 ∧ s.stw.relays.find? (fun x => x.job == r.job && x.peer == 3) = some run
       ∧ (after (.relayAck r) s).stw.relays = [] ∧ (s.peer 3).epoch ≤ r.epoch)
    ∧ (let j : Job := { id := 4, kind := 5, hank := 5, unit := 3, phase := .admitted }
       let s : State := { w with tck := { jobs := [j] } }
       s.job? j.id = some j ∧ s.relayUsable j.ply j.unit = false ∧ (after (.relayJobStart 4) s).jobs = [])
    ∧ (let j : Job := { id := 4, kind := 5, hank := 5, unit := 3, phase := .admitted, desc := 0x100000000 }
       let s : State := { w with tck := { jobs := [j] }, written := [0x100000000], stw := { role := 1, peers := only 3 { state := 2 } }
                                 wrp := { w.wrp with image := some { wImg with tray := [{ addr := 3, relayPlies := 1 }] } } }
       s.job? j.id = some j ∧ s.relayUsable j.ply j.unit = true ∧ ((fresh s).engRead 5 159 0x100000000 64).1 = .ok
       ∧ relayDescOk ((fresh s).engRead 5 159 0x100000000 64).2.2.1 = true
       ∧ (after (.relayJobStart 4) s).stw.relays.length = 1) := by decide +kernel

/-! ### Firmware, owners, units, the queue -/

/-- A part 2 image by 17 R387: header, version 7, no body, signed outside the model with the key whose private half is 1. -/
def fwImg : List Byte :=
  leBytes 4 0x49574643 ++ leBytes 2 1 ++ [2, 0] ++ leBytes 4 512 ++ leBytes 4 7 ++ leBytes 240 0xFF ++ leBytes 16 1 ++ beBytes 48 sigR
  ++ beBytes 48 0x2635950db5954375703ca2ea6c138877cd4eaf2fc6c14bf071f436c2a6169d119f73e40be1aca22fed43fca6760703eb ++ leBytes 144 0

/-- A device whose part 2 has the directory entry `d`, with the root key of the images and a console session. -/
def wfw (d : DirEntry) : State :=
  { wo fwImg with nv := { otp := { rootKey := ownerKey } }, boot := { state := 6, dir := only 2 d, src := 0x100000000, len := 512 }
                  stw := { session := true } }

theorem wit_stage : (let s := wfw { stA := .active }
      s.noSession .console = false ∧ s.bootBusy = false ∧ HasRoom s ∧ s.boot.len ≤ slotSize 2 ∧ s.onTrial 2 = false
      ∧ (let q := fresh s
         let r := q.bootSeq.engRead 0 158 s.boot.src s.boot.len
         r.1 = .ok ∧ r.2.1 = 0 ∧ r.2.2.1 = fwImg ∧ r.2.2.2.boot = q.bootSeq.boot ∧ r.2.2.2.lea = s.lea ∧ r.2.2.2.nv = s.nv)
      ∧ s.nv.otp.arb.length = 6) := by unfold HasRoom; decide +kernel

theorem wit_stage_code : (wfw { stA := .active }).partCode 2 fwImg = 0 := by decide +kernel

theorem wit_slots_of_parts : (let s : State := { wfw { stA := .active } with boot := { (wfw { stA := .active }).boot with stage := some (2, fwImg) } }
       s.bootBusy = true ∧ (after (.activate .console 2) s).boot.result.code = 1 ∧ ((after (.stageComplete true) s).dirEntry 2).stB = .valid
       ∧ ((after (.stageComplete false) s).dirEntry 2).stB = .bad)
    ∧ (let s := wfw { stA := .active, stB := .valid }
       s.onTrial 2 = false ∧ s.compatible 2 (s.slotImage 2 true) = true ∧ ((after (.activate .console 2) s).dirEntry 2).stB = .trial
       ∧ ((after (.revert .console 2) s).dirEntry 2).stB = .active ∧ (after (.commit .console 2) s).boot.result.code = 0x36)
    ∧ (let s := wfw { active := true, stA := .valid, stB := .trial, tries := 1 }
       s.onTrial 2 = true ∧ ((after (.commit .console 2) s).dirEntry 2).stB = .active
         ∧ ((after (.trialCommitTest 2 true) s).dirEntry 2).stB = .active
       ∧ ((after (.trialCommitTest 2 false) s).dirEntry 2).stB = .bad)
    ∧ (let s := wfw { active := true, stA := .valid, stB := .trial, tries := 2 }
       ((after (.trialCommitTest 2 false) s).dirEntry 2).tries = 1) := by decide +kernel

theorem wit_owners : (let s := wfw {}
      s.stw.session = true ∧ s.bootBusy = false ∧ HasRoom s ∧ s.nv.otp.owners.length = 4 ∧ s.nv.otp.serial = 0
      ∧ Crypto.verify s.nv.otp.rootKey (Crypto.sha384 (beBytes 96 (ownerKey + 1) ++ beBytes 8 0)) sigR
          0xe62eed0602fd7caaa9a1f553aa9d9bb9c0a7420c1787d1c14f234cebf33639061d4dc31cdc9e2383c72948e90d0b0b45 = true
      ∧ (s.nv.otp.owners.getD 0 {}).enrolled = false
      ∧ Crypto.verify s.nv.otp.rootKey (Crypto.sha384 (beBytes 96 (ownerKey + 1) ++ beBytes 8 0)) sigR 1 = false)
    ∧ (let s : State := { wfw {} with nv := { otp := { rootKey := ownerKey, owners := [{ key := ownerKey + 1, enrolled := true }, { key := 5, enrolled := true }, {}, {}] } } }
       Crypto.keyId (ownerKey + 1) = 0xcf2629c7df14c3f0 ∧ s.mayRevoke 0 ownerKey = true
       ∧ Crypto.verify ownerKey (Crypto.sha384 (leBytes 8 0xcf2629c7df14c3f0 ++ beBytes 8 0)) sigR
           0x14a9161a653b5b8d85fae9793e7d11defd370af43f31cf6a1ee71caf2425530e03dc8a90ce7585c6e8bc8c09ac5e434d = true
       ∧ (s.nv.otp.owners.getD 1 {}).enrolled = true) := by unfold HasRoom; decide +kernel

/-- Unit 14, a tile, in the state `u`. -/
def wu (u : UnitSt) : State := { w with stw := { session := true, units := only 14 u } }

theorem wit_units : (unitPresent w.variant 14 = true ∧ fixedUnit 14 = false
      ∧ ((after (.faultReport 14 2) (wu { state := 1 })).unitSt 14).state = 2
          ∧ ((after (.unitNoResponse 14) (wu { state := 2 })).unitSt 14).state = 3
      ∧ ((after (.suspectClear 14) (wu { state := 2 })).unitSt 14).state = 1)
    ∧ ((wu { state := 3, target := 5 }).unitIdle 14 = true ∧ ((after (.unitDrained 14) (wu { state := 3, target := 5 })).unitSt 14).state = 5)
    ∧ (let s : State := { wu { state := 3 } with tck := { jobs := [{ id := 1, kind := 1, phase := .running }] } }
       s.unitIdle 14 = false ∧ (wu { state := 3 }).jobsOn 14 true = []
         ∧ ((after (.drainLimitExpiry 14) (wu { state := 3 })).unitSt 14).state = 4)
    ∧ (HasRoom (wu { state := 1 }) ∧ (wu { state := 1 }).mayManage .console = true ∧ (wu { state := 1 }).holder 0x0102 14 = none
       ∧ ((after (.unit (marg 14 2)) (wu { state := 1 })).unitSt 14).target = 5)
    ∧ (((after (.selftestDone 14 true) (wu { state := 5, testing := some 3 })).unitSt 14).state = 1
       ∧ ((after (.selftestDone 14 false) (wu { state := 5, testing := some 3 })).unitSt 14).state = 4)
    ∧ (let s : State := { w with stw := { units := [(7, { state := 5, testing := some 3 })] } }
       s.leftOut 7 = true ∧ ((after (.selftestDone 7 true) s).unitSt 7).state = 5) := by unfold HasRoom; decide +kernel

/-- The state after one step. -/
def stepped (s : State) : State := match step s with | .next t => t | _ => s

/-- A command at the front of the queue runs with the queue's rest, and memory keeps its form. -/
theorem wit_step : (let t := stepped { w with pending := [.pcieLinkDown, .vddWakeFall] }
      t.pending = [.vddWakeFall] ∧ t.pins.pwrEn = true ∧ Memory.wf t.mem = true)
    ∧ Memory.wf w.mem = true ∧ (stepped w).tck.time = 1000000001 := by decide +kernel

theorem wit_memory_form : Memory.wf State.reset.mem = true ∧ Memory.wf (wo fwImg).mem = true := by decide +kernel

end Sys2Proof.Tests
end

section
/-! SUPPORT. What pulses and journal entries may change, as equations between views of the state that leave those parts out: every command
that records something goes through these. -/

namespace Sys2Proof.Machine

open Safety

/-- Whether something sent out is a management reply. -/
def Out.isReply : Out → Bool
  | .mgmt .. => true
  | _ => false

/-- The state without what pulses of events write: of what is sent out it keeps the management replies. -/
def State.sansPulses (s : State) : State := { s with evt := {}, cores := [], pci := {}, out := s.out.filter Out.isReply }

/-- The state without what journal entries and their pulses write. -/
def State.sansRecords (s : State) : State :=
  { s.sansPulses with nv := { s.nv with flash := { s.nv.flash with area0 := {}, area1 := {}, current := false } }, lea := {} }

theorem sansRecords_of_sansPulses {s t : State} (h : t.sansPulses = s.sansPulses) : t.sansRecords = s.sansRecords :=
  congrArg (fun u : State => { u with
    nv := { u.nv with flash := { u.nv.flash with area0 := {}, area1 := {}, current := false } }, lea := {} }) h

/-! ### Pulses -/

@[simp] theorem sansPulses_evt (s : State) (x : Evt) : ({ s with evt := x } : State).sansPulses = s.sansPulses := rfl

@[simp] theorem sansRecords_lea (s : State) (x : Lea) : ({ s with lea := x } : State).sansRecords = s.sansRecords := rfl

theorem sansPulses_emit (s : State) (o : Out) (h : o.isReply = false) : (s.emit o).sansPulses = s.sansPulses := by
  simp [State.sansPulses, State.emit, h]

/-- A delivery pends an input, sends an application core its interrupt and sets a vector's pending bit, each or not. -/
theorem sansPulses_deliver (s : State) (e : Nat) : (s.deliver e).sansPulses = s.sansPulses := by
  unfold State.deliver
  extract_lets w owner c k s₁ s₂ m f
  have h₁ : s₁.sansPulses = s.sansPulses := by unfold s₁; split <;> rfl
  have h₂ : s₂.sansPulses = s₁.sansPulses := by
    unfold s₂
    split
    · exact sansPulses_emit _ _ rfl
    · rfl
  rw [← h₁, ← h₂]
  split <;> rfl

@[simp] theorem sansPulses_pulse (s : State) (e : Nat) : (s.pulse e).sansPulses = s.sansPulses := by
  unfold State.pulse State.pulseN
  split
  · rfl
  · exact (sansPulses_deliver _ e).trans (sansPulses_evt s _)

@[simp] theorem sansRecords_pulse (s : State) (e : Nat) : (s.pulse e).sansRecords = s.sansRecords :=
  sansRecords_of_sansPulses (sansPulses_pulse s e)

/-! ### Entries -/

/-- An entry into the ring: its stamped copy comes last and HEAD steps; the rest is what its pulses write. -/
theorem sansPulses_jRing (s : State) (e : JEntry) : (s.jRing e).sansPulses =
    ({ s with lea := { s.lea with ring := s.lea.ring ++ [s.jStamp e false], head := s.lea.head + 1 } } : State).sansPulses := by
  unfold State.jRing
  extract_lets n l s₁ s₂
  have h₂ : s₂.sansPulses = s₁.sansPulses := by unfold s₂; split <;> simp
  rw [← h₂]
  split <;> simp

@[simp] theorem sansRecords_jRing (s : State) (e : JEntry) : (s.jRing e).sansRecords = s.sansRecords :=
  (sansRecords_of_sansPulses (sansPulses_jRing s e)).trans (sansRecords_lea s _)

@[simp] theorem sansRecords_jFact (s : State) (e : JEntry) : (s.jFact e).sansRecords = s.sansRecords := by
  unfold State.jFact
  split
  · simp
  · split
    · rfl
    · cases h : s.lea.overflow <;> simp only [h] <;> rfl

@[simp] theorem sansRecords_programArea (s : State) (e : Nat) : (s.programArea e).sansRecords = s.sansRecords := by
  unfold State.programArea Flash.setIdle
  split <;> rfl

@[simp] theorem sansRecords_programEpoch (s : State) (e : Nat) (ok : Bool) : (s.programEpoch e ok).sansRecords = s.sansRecords := by
  unfold State.programEpoch
  dsimp only
  split
  · rfl
  split
  · unfold Flash.setCur; split <;> rfl
  split
  · exact (sansRecords_lea _ _).trans (sansRecords_programArea s e)
  · rfl

@[simp] theorem sansRecords_beginEpoch (s : State) (e : Nat) (ok : Bool) (old count : Nat) :
    (s.beginEpoch e ok old count).sansRecords = s.sansRecords :=
  (sansRecords_jFact _ _).trans (sansRecords_programEpoch s e ok)

@[simp] theorem sansRecords_jRoll (s : State) : s.jRoll.sansRecords = s.sansRecords := by
  unfold State.jRoll
  split <;> simp

@[simp] theorem sansRecords_fact (s : State) (e : JEntry) : (s.fact e).sansRecords = s.sansRecords :=
  (sansRecords_jFact _ e).trans (sansRecords_jRoll s)

@[simp] theorem sansRecords_foldl_jRing (es : List JEntry) (s : State) : (es.foldl State.jRing s).sansRecords = s.sansRecords := by
  induction es generalizing s with
  | nil => rfl
  | cons e es ih => simp [ih]

@[simp] theorem sansRecords_change (s : State) (es : List JEntry) : (s.change es).2.sansRecords = s.sansRecords := by
  unfold State.change
  dsimp only
  split
  · simp
  · exact sansRecords_jRoll s

@[simp] theorem sansRecords_refusal (s : State) (e : JEntry) : (s.refusal e).sansRecords = s.sansRecords := by
  unfold State.refusal
  dsimp only
  split
  · simp
  · exact sansRecords_jRoll s

/-- While the epoch's count lasts, an entry opens no new epoch. -/
theorem jRoll_of_epoch {s : State} (h : s.lea.head / 2 ^ 32 = s.lea.epoch) : s.jRoll = s := if_pos h

/-- A change of one entry that the ring has room for is the entry. -/
theorem change_of_hasRoom {s : State} (h : HasRoom s) (e : JEntry) : s.change [e] = (true, s.jRing e) := by
  have hroom : s.jRoom 1 = true := by simp [State.jRoom]; exact h.2
  simp [State.change, jRoll_of_epoch h.1, hroom]

/-- A change of one entry that finds the ring full is refused and counted. -/
theorem change_of_full {s : State} (h : s.lea.head / 2 ^ 32 = s.lea.epoch) (hf : 4096 ≤ s.lea.ring.length) (e : JEntry) :
    s.change [e] = (false, { s with lea := { s.lea with refused := satAdd 32 s.lea.refused 1 } }) := by
  have hroom : s.jRoom 1 = false := by simp [State.jRoom]; omega
  simp [State.change, jRoll_of_epoch h, hroom]

/-- Views without pulses that agree but for LEA make one state the other but for its journal. -/
theorem butJournal_of_sansPulses {s t : State} {l : Lea} (h : t.sansPulses = ({ s with lea := l } : State).sansPulses) :
    ButJournal s t := by
  have hl : t.lea = l := congrArg State.lea h
  calc t = { t.sansPulses with evt := t.evt, cores := t.cores, pci := t.pci, out := t.out } := rfl
    _ = _ := by rw [h, hl]; rfl

/-- The answers of the command before do not count. -/
theorem butJournal_of_fresh {s t : State} (h : ButJournal (fresh s) t) : ButJournal s t := h

/-- An entry into the ring is the one entry between the states. -/
theorem oneEntry_jRing (s : State) (e : JEntry) : OneEntry s (s.jRing e) e.object e.old e.new := by
  have h : (s.jRing e).lea = { s.lea with ring := s.lea.ring ++ [s.jStamp e false], head := s.lea.head + 1 } :=
    congrArg State.lea (sansPulses_jRing s e)
  rw [OneEntry, h]
  exact ⟨rfl, by simp, s.jStamp e false, by simp, rfl, rfl, rfl, rfl, rfl⟩

end Sys2Proof.Machine
end

section
/-! SUPPORT. A register write, from the command to the register: what settles at its end, who may write, and what a refusal does. -/

namespace Sys2Proof.Machine

open Safety

/-! ### The end of a command -/

/-- What Calm asks for speaks of the steward's reports and of the channels alone. -/
theorem calm_congr {s t : State} (h : Calm s) (hr : t.stw.reports = s.stw.reports) (hc : t.chans = s.chans) : Calm t :=
  ⟨hr.trans h.1, fun n => by simpa [State.chan, hc] using h.2 n⟩

/-- No channel is resumed and no report waits: the end of the command changes nothing. -/
theorem settle_of_calm {s : State} (h : Calm s) : s.settle = s := by
  have hmove : ∀ n, s.resumeMove n = s := fun n => by simp [State.resumeMove, h.2 n]
  have hstw : ({ s.stw with reports := [] } : Stw) = s.stw := by rw [← h.1]
  simp only [State.settle, List.foldl_fixed' hmove, State.takeReports, h.1, List.foldl_nil, hstw]

/-- REGISTER_WRITE is the write of the word that holds its offset, when nothing is left for the end of the command. -/
theorem exec_registerWrite {s t : State} {who : Requester} {b off : Nat} {v : Word} (hb : b < 256)
    (hw : (fresh s).regWrite who b (off % mib / 4 * 4) v.toNat = t) (ht : Calm t) : exec (.registerWrite who b off v) s = .next t := by
  change Host.Outcome.next (((fresh s).regWrite who (b % 256) (off % mib / 4 * 4) v.toNat).settle) = _
  rw [Nat.mod_eq_of_lt hb, hw, settle_of_calm ht]

/-- The same for a word-aligned offset. -/
theorem exec_registerWrite_aligned {s t : State} {who : Requester} {b off : Nat} {v : Word} (hb : b < 256) (ho : off < mib)
    (ha : off % 4 = 0) (hw : (fresh s).regWrite who b off v.toNat = t) (ht : Calm t) :
    exec (.registerWrite who b off v) s = .next t := by
  have hoff : off % mib / 4 * 4 = off := by rw [Nat.mod_eq_of_lt ho]; omega
  exact exec_registerWrite hb (hoff.symm ▸ hw) ht

/-! ### Permission -/

theorem regWrite_ignored {s : State} {who : Requester} {b off : Nat} (v : Nat) (hh : s.reqHank who ≠ noHank)
    (hp : s.regPerm who b off true = .ignored) : s.regWrite who b off v = s.served := by
  simp [State.regWrite, State.asHank, hh, hp]

theorem regWrite_denied {s : State} {who : Requester} {b off : Nat} (v : Nat) (hh : s.reqHank who ≠ noHank)
    (hp : s.regPerm who b off true = .denied) (h32 : b ≠ 32) (h44 : b ≠ 44) : s.regWrite who b off v = s.denyReg who b off 0 := by
  simp [State.regWrite, State.asHank, hh, hp, h32, h44]

theorem regWrite_danger {s : State} {who : Requester} {b off : Nat} {v : Nat} (hh : s.reqHank who ≠ noHank)
    (hp : s.regPerm who b off true = .ok) (hd : s.dangerWrite b off v = true) (ha : s.dangerOk (reqAuth who) = false) :
    s.regWrite who b off v = s.denyReg who b off 0 := by
  simp [State.regWrite, State.asHank, hh, hp, hd, ha]

theorem regWrite_ok {s : State} {who : Requester} {b off : Nat} (v : Nat) (hh : s.reqHank who ≠ noHank)
    (hp : s.regPerm who b off true = .ok) (hb : b ≠ 43) : s.regWrite who b off v = s.writeWord who b off v := by
  simp [State.regWrite, State.asHank, hh, hp, State.dangerWrite, hb]

theorem regPerm_absent {s : State} {b : Nat} (who : Requester) (off : Nat) (h : blockPresent s.variant b = false) :
    s.regPerm who b off true = .ignored := by simp [State.regPerm, h]

/-- Hank 0 may write every present register but the steward's 44/0x010. -/
theorem regPerm_hank0 {s : State} {who : Requester} {b : Nat} (off : Nat) (hp : blockPresent s.variant b = true)
    (h : s.reqHank who = 0) (hb : b ≠ 44) : s.regPerm who b off true = .ok := by simp [State.regPerm, hp, h, hb]

/-- A tenant writes a register that is its own. -/
theorem regPerm_tenant {s : State} {who : Requester} {b off : Nat} (hp : blockPresent s.variant b = true)
    (hw : s.tenantWrites (s.reqHank who) b off = true) (hb : b ≠ 44) : s.regPerm who b off true = .ok := by
  simp [State.regPerm, hp, hw, hb]

/-- The blocks of the device as a whole hold no register that is a tenant's (log 41). -/
theorem regPerm_deviceBlock {s : State} {who : Requester} {b off : Nat} (hp : blockPresent s.variant b = true) (h : s.reqHank who ≠ 0)
    (hb : b ∈ [0, 1, 4, 5, 27, 33, 43, 45, 46]) : s.regPerm who b off true = .denied := by
  have hw : s.tenantWrites (s.reqHank who) b off = false := by
    fin_cases hb <;> simp [State.tenantWrites, banked]
  have h44 : b ≠ 44 := by rintro rfl; simp at hb
  have h3 : b ≠ 3 := by rintro rfl; simp at hb
  have hwhl : ¬(14 ≤ b ∧ b < 22) := by fin_cases hb <;> decide
  simp [State.regPerm, hp, h, hw, h44, h3, hwhl]

/-! ### Registers -/

theorem writeWord_hnkBase {s : State} {who : Requester} (v : Nat) (h : s.reqHank who ≠ 0) :
    s.writeWord who 3 0x404 v = (s.setHank (s.reqHank who) { s.hank (s.reqHank who) with baseLo := v % 2 ^ 32 }).served := by
  simp [State.writeWord, State.plainWrite, State.hnkWrite, State.hnkBankWrite, State.hnkBank, h]

theorem writeWord_tckStep (s : State) (who : Requester) (v : Nat) : s.writeWord who 2 0x038 v =
    (s.jSet who 2 0x038 0 s.tck.stepUs (bits v 19 0) (fun s => { s with tck := { s.tck with stepUs := bits v 19 0 } })).served := by
  simp [State.writeWord, State.plainWrite, State.tckWrite, State.servoWrite]

/-- A write that raises TDP is a danger action (R359). -/
theorem dangerWrite_tdp (s : State) (v : Nat) : s.dangerWrite 43 0x014 v =
    decide (s.pwr.tdp < clampN (tdpRange s.variant).1 (tdpRange s.variant).2.1 (bits v 6 0)) := by
  simp [State.dangerWrite]

/-! ### Journalled fields -/

/-- The entry that a write of a journalled field makes. -/
def State.fieldEntry (s : State) (who : Requester) (b off hank old new : Nat) : JEntry :=
  { origin := s.reqOrigin who, kind := 1, hank := if s.reqHank who ≠ 0 then s.reqHank who else hank, object := regObj b off
    old := old, new := new }

/-- With room the entry comes first and then the effect. -/
theorem jSet_hasRoom {s : State} (h : HasRoom s) (who : Requester) (b off hank old new : Nat) (f : State → State) :
    s.jSet who b off hank old new f = f (s.jRing (s.fieldEntry who b off hank old new)) := by
  simp only [State.jSet, State.jWrite, change_of_hasRoom h, State.fieldEntry]

/-- Without room there is no effect but the count of refusals. -/
theorem jSet_full {s : State} (h : s.lea.head / 2 ^ 32 = s.lea.epoch) (hf : 4096 ≤ s.lea.ring.length) (who : Requester)
    (b off hank old new : Nat) (f : State → State) :
    s.jSet who b off hank old new f = { s with lea := { s.lea with refused := satAdd 32 s.lea.refused 1 } } := by
  simp only [State.jSet, State.jWrite, change_of_full h hf]

/-- What an entry and then the new STEP leave. -/
theorem sansPulses_tckStep (s : State) (e : JEntry) (x : Nat) :
    ({ s.jRing e with tck := { (s.jRing e).tck with stepUs := x } } : State).served.sansPulses = ({ s with
      tck := { s.tck with stepUs := x }
      lea := { s.lea with ring := s.lea.ring ++ [s.jStamp e false], head := s.lea.head + 1 } } : State).sansPulses :=
  (sansPulses_emit _ _ rfl).trans
    (congrArg (fun u : State => { u with tck := { u.tck with stepUs := x } }) (sansPulses_jRing s e))

/-! ### The outcomes of a register write -/

section
variable {s : State} {who : Requester} (v : Word)

/-- R2: an absent block takes a write and ignores it. -/
theorem registerWrite_absent {b : Nat} (off : Nat) (hc : Calm s) (hh : s.reqHank who ≠ noHank) (hb : b < 256)
    (hp : blockPresent s.variant b = false) : exec (.registerWrite who b off v) s = .next { s with out := [.answer 0 []] } :=
  exec_registerWrite hb (regWrite_ignored (s := fresh s) _ hh (regPerm_absent who _ hp)) (calm_congr hc rfl rfl)

/-- A tenant's write to a block of the device as a whole is an access error. -/
theorem registerWrite_deviceBlock {b off : Nat} (hc : Calm s) (hh : s.reqHank who ≠ noHank) (h0 : s.reqHank who ≠ 0)
    (hb : b ∈ [0, 1, 4, 5, 27, 33, 43, 45, 46]) (ho : off < 0x1000) (ha : off % 4 = 0) (hp : blockPresent s.variant b = true) :
    exec (.registerWrite who b off v) s = .next ((fresh s).denyReg who b off 0) := by
  obtain ⟨hlt, h32, h44⟩ : b < 256 ∧ b ≠ 32 ∧ b ≠ 44 := by fin_cases hb <;> decide
  have hdenied : (fresh s).regPerm who b off true = .denied := regPerm_deviceBlock (s := fresh s) hp h0 hb
  exact exec_registerWrite_aligned hlt (ho.trans (by decide)) ha (regWrite_denied _ hh hdenied h32 h44) (calm_congr hc rfl rfl)

/-- A tenant's write of a register of its bank is taken. -/
theorem registerWrite_hnkBase (hc : Calm s) (hh : s.reqHank who ≠ noHank) (h0 : s.reqHank who ≠ 0) :
    exec (.registerWrite who 3 0x404 v) s = .next { (fresh s).setHank (s.reqHank who) { s.hank (s.reqHank who) with baseLo := v.toNat } with
      out := [.answer 0 []] } := by
  have hok : (fresh s).regPerm who 3 0x404 true = .ok :=
    regPerm_tenant rfl (by simp [State.tenantWrites, banked]) (by decide)
  have hw := (regWrite_ok (s := fresh s) v.toNat hh hok (by decide)).trans (writeWord_hnkBase (s := fresh s) _ h0)
  rw [Nat.mod_eq_of_lt v.isLt] at hw
  exact exec_registerWrite_aligned (by decide) (by decide) (by decide) hw (calm_congr hc rfl rfl)

/-- Hank 0's write of STEP is the journalled field's. -/
theorem regWrite_tckStep (hh : s.reqHank who ≠ noHank) (h0 : s.reqHank who = 0) : s.regWrite who 2 0x038 v.toNat =
    (s.jSet who 2 0x038 0 s.tck.stepUs (bits v.toNat 19 0)
      (fun s => { s with tck := { s.tck with stepUs := bits v.toNat 19 0 } })).served := by
  rw [regWrite_ok _ hh (regPerm_hank0 _ rfl h0 (by decide)) (by decide), writeWord_tckStep]

/-- R6: with room in the journal the field changes with one entry. -/
theorem registerWrite_tckStep_hasRoom (hc : Calm s) (hh : s.reqHank who ≠ noHank) (h0 : s.reqHank who = 0) (hr : HasRoom s) :
    ∃ t, exec (.registerWrite who 2 0x038 v) s = .next t
      ∧ ButJournal { s with tck := { s.tck with stepUs := bits v.toNat 19 0 } } t
      ∧ OneEntry s t (regObj 2 0x038) s.tck.stepUs (bits v.toNat 19 0) := by
  have hw := regWrite_tckStep (s := fresh s) v hh h0
  rw [jSet_hasRoom (s := fresh s) hr] at hw
  have hview := sansPulses_tckStep (fresh s) ((fresh s).fieldEntry who 2 0x038 0 s.tck.stepUs (bits v.toNat 19 0)) (bits v.toNat 19 0)
  have hcalm := calm_congr hc (congrArg (fun u : State => u.stw.reports) hview :) (congrArg State.chans hview :)
  exact ⟨_, exec_registerWrite_aligned (by decide) (by decide) (by decide) hw hcalm,
    butJournal_of_fresh (butJournal_of_sansPulses hview), oneEntry_jRing (fresh s) _⟩

/-- R6: without room nothing changes, and the refusal is counted. -/
theorem registerWrite_tckStep_full (hc : Calm s) (hh : s.reqHank who ≠ noHank) (h0 : s.reqHank who = 0)
    (he : s.lea.head / 2 ^ 32 = s.lea.epoch) (hf : 4096 ≤ s.lea.ring.length) : exec (.registerWrite who 2 0x038 v) s = .next
      { s with lea := { s.lea with refused := min (s.lea.refused + 1) (2 ^ 32 - 1) }, out := [.answer 0 []] } := by
  have hw := regWrite_tckStep (s := fresh s) v hh h0
  rw [jSet_full (s := fresh s) he hf] at hw
  exact exec_registerWrite_aligned (by decide) (by decide) (by decide) hw (calm_congr hc rfl rfl)

/-- R359 (log 81): without REMOTE_DANGER the host does not raise TDP. -/
theorem registerWrite_tdp_refused (hc : Calm s) (hd : s.stw.remoteDanger = false)
    (ht : s.pwr.tdp < clampN (tdpRange s.variant).1 (tdpRange s.variant).2.1 (bits v.toNat 6 0)) :
    exec (.registerWrite .pf 43 0x014 v) s = .next ((fresh s).denyReg .pf 43 0x014 0) :=
  exec_registerWrite_aligned (by decide) (by decide) (by decide)
    (regWrite_danger (s := fresh s) (by simp [State.reqHank, noHank]) (regPerm_hank0 _ rfl rfl (by decide))
      ((dangerWrite_tdp _ _).trans (decide_eq_true ht)) hd)
    (calm_congr hc rfl rfl)

end

end Sys2Proof.Machine
end

section
namespace Sys2Proof.Proofs

open Machine Safety

/-- Settles O43: each clause is one outcome of a register write. -/
theorem registerWritesAreServedOrRefused : Obligations.RegisterWritesAreServedOrRefused := by
  intro s who v hc hh
  refine ⟨?_, ?_, ?_, ?_, ?_, ?_⟩
  · exact fun b off hb hp => registerWrite_absent v off hc hh hb hp
  · exact fun h0 b off hb ho ha hp => registerWrite_deviceBlock v hc hh h0 hb ho ha hp
  · exact fun h0 => registerWrite_hnkBase v hc hh h0
  · exact fun h0 hr => registerWrite_tckStep_hasRoom v hc hh h0 hr
  · exact fun h0 he hf => registerWrite_tckStep_full v hc hh h0 he hf
  · rintro rfl hd ht
    exact registerWrite_tdp_refused v hc hd ht

end Sys2Proof.Proofs
end

section
namespace Sys2Proof.Proofs

open Machine

/-- Settles O47: the device that no command has reached. Every table is empty, so every channel and core is as the spec resets it. -/
theorem resetLeavesTheStatedValues : Obligations.ResetLeavesTheStatedValues := by
  have htally : ∀ e, State.reset.tallyOf e = 0 := fun _ => rfl
  have hidle : ∀ n, (State.reset.chan n).state = 0 ∧ (State.reset.core n).state = 0 := fun _ => ⟨rfl, rfl⟩
  exact ⟨rfl, rfl, rfl, rfl, rfl, rfl, rfl, rfl, rfl, rfl, rfl, rfl, htally, hidle, rfl, rfl⟩

end Sys2Proof.Proofs
end

section
/-! SUPPORT. What a change of an island's point may write: its own record, the journal, and commands to the regulators (14 R327 to R331). -/

namespace Sys2Proof.Machine

/-- The state without the islands' records and without what journal entries write. -/
def State.sansIslands (s : State) : State := { s.sansRecords with pwr := { s.pwr with islands := [] } }

theorem sansIslands_of_sansRecords {s t : State} (h : t.sansRecords = s.sansRecords) : t.sansIslands = s.sansIslands :=
  congrArg (fun u : State => { u with pwr := { u.pwr with islands := [] } }) h

section
variable (s : State)

@[simp] theorem sansIslands_setIsl (i : Nat) (x : Island) : (s.setIsl i x).sansIslands = s.sansIslands := rfl

@[simp] theorem sansIslands_fact (e : JEntry) : (s.fact e).sansIslands = s.sansIslands := sansIslands_of_sansRecords (sansRecords_fact s e)

theorem sansIslands_of_change {s t : State} {es : List JEntry} {b : Bool} (h : s.change es = (b, t)) : t.sansIslands = s.sansIslands := by
  have hs := sansRecords_change s es
  rw [h] at hs
  exact sansIslands_of_sansRecords hs

@[simp] theorem sansIslands_command (i mv : Nat) : (s.command i mv).sansIslands = s.sansIslands :=
  (sansIslands_of_sansRecords (sansRecords_of_sansPulses (sansPulses_emit _ _ rfl))).trans (sansIslands_setIsl s i _)

@[simp] theorem sansIslands_lower (i op : Nat) : (s.lower i op).sansIslands = s.sansIslands := by simp [State.lower]

@[simp] theorem sansIslands_raise (i op ply load rho : Nat) : (s.raise i op ply load rho).sansIslands = s.sansIslands := by
  simp [State.raise]

@[simp] theorem sansIslands_lowerAsked (i op ply load rho : Nat) : (s.lowerAsked i op ply load rho).sansIslands = s.sansIslands := by
  unfold State.lowerAsked
  dsimp only
  split <;> rename_i hc
  · rw [sansIslands_lower, sansIslands_of_change hc]
  · exact sansIslands_of_change hc

@[simp] theorem sansIslands_decideIsland (i op ply load rho : Nat) : (s.decideIsland i op ply load rho).sansIslands = s.sansIslands := by
  unfold State.decideIsland
  dsimp only
  repeat' split
  all_goals simp

@[simp] theorem sansIslands_appDecide : s.appDecide.sansIslands = s.sansIslands := by
  unfold State.appDecide
  split <;> simp

@[simp] theorem sansIslands_loseLink (i : Nat) : (s.loseLink i).sansIslands = s.sansIslands := by
  unfold State.loseLink
  dsimp only
  repeat' split
  all_goals simp

theorem sansIslands_foldl {f : State → Nat → State} (h : ∀ s i, (f s i).sansIslands = s.sansIslands) (l : List Nat) (s : State) :
    (l.foldl f s).sansIslands = s.sansIslands := by
  induction l generalizing s with
  | nil => rfl
  | cons i l ih => exact (ih _).trans (h s i)

@[simp] theorem sansIslands_islandsUp (confirmed : List Nat) : (s.islandsUp confirmed).sansIslands = s.sansIslands := by
  refine sansIslands_foldl (fun s i => ?_) _ s
  dsimp only
  repeat' split
  all_goals simp

end

end Sys2Proof.Machine
end

section
/-! SUPPORT. What a boot keeps: the pins, OTP, the images in flash, the boot's own progress and the replies given, under the work that the
boot and the load of a Warp do (17 R389, R392; 02 R45). -/

namespace Sys2Proof.Machine

/-- What only the steps of the boot themselves change. -/
structure BootView where
  pins : Pins
  otp : Otp
  images : NMap (List Byte)
  state : Nat
  awaiting : Bool
  warm : Bool
  replies : List Out

def State.bootView (s : State) : BootView :=
  { pins := s.pins, otp := s.nv.otp, images := s.nv.flash.images, state := s.boot.state, awaiting := s.boot.awaiting, warm := s.boot.warm
    replies := s.out.filter Out.isReply }

/-- A loop that carries a state keeps its boot view when every round does. -/
theorem bootView_foldl_of {α β : Type} (st : β → State) {f : β → α → β} (h : ∀ b x, (st (f b x)).bootView = (st b).bootView)
    (l : List α) (b : β) : (st (l.foldl f b)).bootView = (st b).bootView := by
  induction l generalizing b with
  | nil => rfl
  | cons x l ih => exact (ih _).trans (h b x)

theorem bootView_foldl {α : Type} {f : State → α → State} (h : ∀ s x, (f s x).bootView = s.bootView) (l : List α) (s : State) :
    (l.foldl f s).bootView = s.bootView := bootView_foldl_of id h l s

/-! ### Fields that a boot view does not hold -/

section
variable (s : State)

@[simp] theorem bootView_wrp (x : Wrp) : ({ s with wrp := x } : State).bootView = s.bootView := rfl
@[simp] theorem bootView_fab (x : Fab) : ({ s with fab := x } : State).bootView = s.bootView := rfl
@[simp] theorem bootView_stw (x : Stw) : ({ s with stw := x } : State).bootView = s.bootView := rfl
@[simp] theorem bootView_crd (x : Crd) : ({ s with crd := x } : State).bootView = s.bootView := rfl
@[simp] theorem bootView_mem (x : List Host.Cell) : ({ s with mem := x } : State).bootView = s.bootView := rfl
@[simp] theorem bootView_written (x : List Nat) : ({ s with written := x } : State).bootView = s.bootView := rfl
@[simp] theorem bootView_lostOwner (x : List Nat) : ({ s with lostOwner := x } : State).bootView = s.bootView := rfl
theorem bootView_ownersLogged (x : List Nat) (y : Fab) : ({ s with lostOwner := x, fab := y } : State).bootView = s.bootView := rfl
@[simp] theorem bootView_pools (x : NMap Pool) : ({ s with pools := x } : State).bootView = s.bootView := rfl
@[simp] theorem bootView_grants (x : NMap Grant) : ({ s with grants := x } : State).bootView = s.bootView := rfl
@[simp] theorem bootView_setIsl (i : Nat) (x : Island) : (s.setIsl i x).bootView = s.bootView := rfl
@[simp] theorem bootView_setUnit (i : Nat) (x : UnitSt) : (s.setUnit i x).bootView = s.bootView := rfl
@[simp] theorem bootView_setDram (i : Nat) (x : Dram) : (s.setDram i x).bootView = s.bootView := rfl
@[simp] theorem bootView_setHank (i : Nat) (x : Hank) : (s.setHank i x).bootView = s.bootView := rfl
@[simp] theorem bootView_setArr (i : Nat) (x : WArray) : (s.setArr i x).bootView = s.bootView := rfl
@[simp] theorem bootView_setTile (i : Nat) (x : Tile) : (s.setTile i x).bootView = s.bootView := rfl
@[simp] theorem bootView_setFan (i : Nat) (x : Fan) : (s.setFan i x).bootView = s.bootView := rfl
@[simp] theorem bootView_draw : s.draw.2.bootView = s.bootView := rfl

end

/-! ### Pulses, entries, unit states and the tier -/

/-- The view as a state without records gives it: what is sent out is the replies already. -/
def BootView.ofSans (u : State) : BootView :=
  { pins := u.pins, otp := u.nv.otp, images := u.nv.flash.images, state := u.boot.state, awaiting := u.boot.awaiting, warm := u.boot.warm
    replies := u.out }

theorem bootView_of_sansRecords {s t : State} (h : t.sansRecords = s.sansRecords) : t.bootView = s.bootView :=
  congrArg BootView.ofSans h

/-- Neither the islands nor what is sent to their regulators is in the view. -/
theorem bootView_of_sansIslands {s t : State} (h : t.sansIslands = s.sansIslands) : t.bootView = s.bootView :=
  congrArg BootView.ofSans h

section
variable (s : State)

@[simp] theorem bootView_pulse (e : Nat) : (s.pulse e).bootView = s.bootView := bootView_of_sansRecords (sansRecords_pulse s e)
@[simp] theorem bootView_fact (e : JEntry) : (s.fact e).bootView = s.bootView := bootView_of_sansRecords (sansRecords_fact s e)
@[simp] theorem bootView_change (es : List JEntry) : (s.change es).2.bootView = s.bootView :=
  bootView_of_sansRecords (sansRecords_change s es)

theorem bootView_of_change {t : State} {es : List JEntry} {b : Bool} (h : s.change es = (b, t)) : t.bootView = s.bootView := by
  rw [← bootView_change s es, h]

@[simp] theorem bootView_refusal (e : JEntry) : (s.refusal e).bootView = s.bootView := bootView_of_sansRecords (sansRecords_refusal s e)
@[simp] theorem bootView_beginEpoch (e : Nat) (ok : Bool) (old count : Nat) : (s.beginEpoch e ok old count).bootView = s.bootView :=
  bootView_of_sansRecords (sansRecords_beginEpoch s e ok old count)

@[simp] theorem bootView_retier : s.retier.bootView = s.bootView := by
  unfold State.retier
  dsimp only
  split
  · rfl
  · simp only [bootView_pulse, bootView_fact]
    rfl

@[simp] theorem bootView_writeUnit (i st auth : Nat) : (s.writeUnit i st auth).bootView = s.bootView := by
  simp [State.writeUnit]

@[simp] theorem bootView_partFact (part code old new : Nat) : (s.partFact part code old new).bootView = s.bootView := bootView_fact s _

/-! ### Islands -/

@[simp] theorem bootView_appDecide : s.appDecide.bootView = s.bootView := bootView_of_sansIslands (sansIslands_appDecide s)

@[simp] theorem bootView_islandsUp (confirmed : List Nat) : (s.islandsUp confirmed).bootView = s.bootView :=
  bootView_of_sansIslands (sansIslands_islandsUp s confirmed)

/-! ### Memory -/

@[simp] theorem bootView_accessError (h a kind : Nat) : (s.accessError h a kind).bootView = s.bootView := rfl
@[simp] theorem bootView_report (i cause : Nat) : (s.report i cause).bootView = s.bootView := rfl
@[simp] theorem bootView_unlog (lo hi : Nat) : (s.unlog lo hi).bootView = s.bootView := rfl
@[simp] theorem bootView_mend (lo hi : Nat) : (s.mend lo hi).bootView = s.bootView := rfl

@[simp] theorem bootView_countError (a kind req : Nat) : (s.countError a kind req).bootView = s.bootView := by
  unfold State.countError
  dsimp only
  split <;> simp

@[simp] theorem bootView_correctedError (a req : Nat) : (s.correctedError a req).bootView = s.bootView := by
  unfold State.correctedError
  dsimp only
  repeat' split
  all_goals simp

@[simp] theorem bootView_corrected (a u req : Nat) : (s.corrected a u req).bootView = s.bootView := by simp [State.corrected]

@[simp] theorem bootView_correctAll (a req : Nat) (us : List Nat) : (s.correctAll a req us).bootView = s.bootView :=
  bootView_foldl (fun s u => bootView_corrected s a u req) _ s

@[simp] theorem bootView_tagTouch (line : Nat) (dirty : Bool) : (s.tagTouch line dirty).bootView = s.bootView := by
  unfold State.tagTouch
  dsimp only
  repeat' split
  all_goals simp

@[simp] theorem bootView_tagUpdate (lo hi : Nat) : (s.tagUpdate lo hi).bootView = s.bootView := by
  unfold State.tagUpdate
  dsimp only
  split
  · rfl
  · exact bootView_foldl (fun s i => bootView_tagTouch s _ _) _ s

@[simp] theorem bootView_tagRebuild (a req : Nat) : (s.tagRebuild a req).bootView = s.bootView := by
  unfold State.tagRebuild
  extract_lets base gs line u s₁ s₂ fab s₃ st s₄
  clear_value base gs line u
  have h₂ : s₂.bootView = s.bootView := (bootView_written s₁ _).trans (bootView_countError s line 3 req)
  have h₃ : s₃.bootView = s₂.bootView := by
    unfold s₃
    split
    · exact (bootView_report _ _ _).trans ((bootView_pulse _ _).trans (bootView_lostOwner s₂ _))
    · exact bootView_ownersLogged s₂ _ _
  have h₄ : s₄.bootView = s₃.bootView := (bootView_pulse _ _).trans (bootView_fact s₃ _)
  rw [bootView_tagTouch, bootView_mend, bootView_unlog, h₄, h₃, h₂]

@[simp] theorem bootView_tagFetch (a req : Nat) : (s.tagFetch a req).bootView = s.bootView := by
  unfold State.tagFetch
  dsimp only
  repeat' split
  all_goals simp

@[simp] theorem bootView_uncorrectable (a req : Nat) : (s.uncorrectable a req).bootView = s.bootView := by
  unfold State.uncorrectable
  dsimp only
  split <;> simp

@[simp] theorem bootView_scrub (lo hi : Nat) : (s.scrub lo hi).bootView = s.bootView := by
  simp only [State.scrub, bootView_tagUpdate, bootView_mend, bootView_unlog]
  rfl

@[simp] theorem bootView_putBytes (a : Nat) (bs : List Byte) : (s.putBytes a bs).bootView = s.bootView := by
  unfold State.putBytes
  simp only [bootView_mend, bootView_unlog, bootView_mem]
  split
  · rfl
  · simp only [bootView_tagUpdate, bootView_mend]
    rfl

@[simp] theorem bootView_heldBytes (a n : Nat) : (s.heldBytes a n).2.bootView = s.bootView := by
  unfold State.heldBytes
  dsimp only
  repeat' split
  all_goals simp

@[simp] theorem bootView_memRead (h req a n : Nat) : (s.memRead h req a n).2.2.bootView = s.bootView := by
  unfold State.memRead State.poisoned
  dsimp only
  repeat' split
  all_goals simp

@[simp] theorem bootView_memWrite (h req a : Nat) (bs : List Byte) : (s.memWrite h req a bs).2.bootView = s.bootView := by
  unfold State.memWrite
  dsimp only
  repeat' split
  all_goals simp

/-! ### Grants, pools and units out of service -/

@[simp] theorem bootView_voidGrant (g : Nat) : (s.voidGrant g).bootView = s.bootView := by
  unfold State.voidGrant
  dsimp only
  split <;> simp

@[simp] theorem bootView_voidRange (lo hi : Nat) : (s.voidRange lo hi).bootView = s.bootView :=
  bootView_foldl (f := fun s (e : Nat × Grant) => s.voidGrant e.1) (fun s e => bootView_voidGrant s e.1) _ s

@[simp] theorem bootView_poolRelease (p q : Nat) : (s.poolRelease p q).bootView = s.bootView := by
  unfold State.poolRelease
  dsimp only
  split <;> simp

@[simp] theorem bootView_loseBank (b : Nat) : (s.loseBank b).bootView = s.bootView :=
  (bootView_foldl (fun s e => bootView_poolRelease s _ _) _ _).trans (by simp)

@[simp] theorem bootView_loseTile (t : Nat) : (s.loseTile t).bootView = s.bootView :=
  bootView_foldl (fun s _ => (bootView_foldl (fun s u => bootView_setTile s u _) _ _).trans (bootView_setArr s _ _)) _ s

@[simp] theorem bootView_leaveService (i st auth : Nat) : (s.leaveService i st auth).bootView = s.bootView := by
  unfold State.leaveService
  extract_lets s₁ u s₂
  have h₂ : s₂.bootView = s.bootView := by unfold s₂ s₁; split <;> simp
  rw [← h₂]
  split
  · simp
  split
  · exact bootView_foldl bootView_loseBank _ s₂
  split <;> simp

/-! ### Engines' accesses -/

theorem bootView_of_memRead {t : State} {h req a n : Nat} {st : Status} {d : List Byte} (hr : s.memRead h req a n = (st, d, t)) :
    t.bootView = s.bootView := by rw [← bootView_memRead s h req a n, hr]

theorem bootView_of_memWrite {t : State} {h req a : Nat} {bs : List Byte} {st : Status} (hw : s.memWrite h req a bs = (st, t)) :
    t.bootView = s.bootView := by rw [← bootView_memWrite s h req a bs, hw]

@[simp] theorem bootView_engRead (h req a n : Nat) : (s.engRead h req a n).2.2.2.bootView = s.bootView := by
  refine bootView_foldl_of (fun acc : Status × Nat × List Byte × State => acc.2.2.2) (fun acc p => ?_) _ _
  obtain ⟨st, x, bs, u⟩ := acc
  cases st
  case ok =>
    dsimp only
    split
    · split <;> exact bootView_of_memRead u ‹_›
    · split <;> exact bootView_of_memRead u ‹_›
    · split <;> rfl
    all_goals rfl
  all_goals rfl

@[simp] theorem bootView_engWrite (h req a : Nat) (bs : List Byte) : (s.engWrite h req a bs).2.2.bootView = s.bootView := by
  refine bootView_foldl_of (fun acc : Status × Nat × State => acc.2.2) (fun acc p => ?_) _ _
  obtain ⟨st, x, u⟩ := acc
  cases st
  case ok =>
    dsimp only
    split
    · split <;> exact bootView_of_memWrite u ‹_›
    · split <;> exact bootView_of_memWrite u ‹_›
    · split <;> rfl
    all_goals rfl
  all_goals rfl

/-! ### The load of a Warp -/

@[simp] theorem bootView_wrpSeq : s.wrpSeq.bootView = s.bootView := rfl

@[simp] theorem bootView_wrpEnd (code auth : Nat) : (s.wrpEnd code auth).bootView = s.bootView :=
  (bootView_pulse _ _).trans (bootView_wrp s _)

@[simp] theorem bootView_wrpRefuse (a : Authority) (ply code new : Nat) : (s.wrpRefuse a ply code new).bootView = s.bootView := by
  unfold State.wrpRefuse
  dsimp only
  split <;> simp

@[simp] theorem bootView_wrpOverridden (a : Authority) (ply new auth : Nat) : (s.wrpOverridden a ply new auth).bootView = s.bootView := by
  simp [State.wrpOverridden]

@[simp] theorem bootView_imageSource : s.imageSource.2.bootView = s.bootView := by
  unfold State.imageSource
  dsimp only
  repeat' split
  all_goals simp

theorem bootView_of_imageSource {t : State} {b : Option (List Byte)} (h : s.imageSource = (b, t)) : t.bootView = s.bootView := by
  rw [← bootView_imageSource s, h]

@[simp] theorem bootView_quarantineNamed (m : Image) : (s.quarantineNamed m).bootView = s.bootView := by
  refine bootView_foldl (fun s b => ?_) _ s
  dsimp only
  split <;> simp

/-- LOAD changes the Warp's registers, journals, and takes the named units out of service: no step of the boot is among it. -/
@[simp] theorem bootView_loadWarp (a : Authority) : (s.loadWarp a).bootView = s.bootView := by
  unfold State.loadWarp
  dsimp only
  split
  · simp
  split
  · simp
  split
  · rename_i hsrc
    rw [bootView_wrpRefuse, bootView_of_imageSource _ hsrc, bootView_wrpSeq]
  · rename_i t hsrc
    have ht : t.bootView = s.bootView := bootView_of_imageSource s.wrpSeq hsrc
    split
    · rw [bootView_wrpRefuse, ht]
    split
    · rw [bootView_wrpOverridden, ht]
    · split <;> rename_i hc
      · rw [bootView_wrpRefuse, bootView_of_change t hc, ht]
      · rw [bootView_quarantineNamed, bootView_wrp, bootView_of_change t hc, ht]

/-! ### The directory and the parts -/

@[simp] theorem bootView_setDir (part : Nat) (d : DirEntry) : (s.setDir part d).bootView = s.bootView := by
  unfold State.setDir State.writeDir
  dsimp only
  split <;> rfl

@[simp] theorem bootView_orderSwap (part : Nat) : (s.orderSwap part).bootView = s.bootView := by
  unfold State.orderSwap
  split
  · exact bootView_foldl (fun s e => bootView_crd s _) _ s
  all_goals rfl

@[simp] theorem bootView_revertPart (part : Nat) (left : SlotState) : (s.revertPart part left).bootView = s.bootView := by
  simp only [State.revertPart, bootView_orderSwap, bootView_setDir]
  rfl

@[simp] theorem bootView_failTrial (part : Nat) : (s.failTrial part).bootView = s.bootView := by
  unfold State.failTrial
  dsimp only
  split
  · split
    · exact bootView_setDir _ _ _
    · simp
  · rfl

@[simp] theorem bootView_runSlot (part : Nat) (b : Bool) : (s.runSlot part b).bootView = s.bootView := rfl

@[simp] theorem bootView_startTrial (part : Nat) : (s.startTrial part).bootView = s.bootView := by
  unfold State.startTrial
  dsimp only
  split <;> rfl

/-- A part's load changes the versions, the trials and the fallbacks, and the states of units that need it. -/
@[simp] theorem bootView_loadPart (part : Nat) : (s.loadPart part).bootView = s.bootView := by
  unfold State.loadPart
  extract_lets d boot s₁ code old
  have h₁ : s₁.bootView = s.bootView := rfl
  rw [← h₁]
  split
  · simp
  split
  · simp
  · refine (bootView_foldl (fun s i => ?_) _ _).trans (bootView_partFact s₁ _ _ _ _)
    split <;> simp

end

end Sys2Proof.Machine
end

section
/-! SUPPORT. The steps of the boot, as what each writes into the boot view (17 R389 to R392). -/

namespace Sys2Proof.Machine

open Safety

/-- The view with the parts loaded, and whether the services are awaited. -/
def BootView.partsLoaded (v : BootView) (w : Bool) : BootView := { v with state := 4, awaiting := w }

/-- The view with the fans driven. -/
def BootView.fansOn (v : BootView) : BootView := { v with pins := { v.pins with fanHiZ := false } }

/-- The view in RECOVERY. -/
def BootView.recovering (v : BootView) : BootView := { v.fansOn with state := 7, awaiting := false }

section
variable (s : State)

/-! ### Services and the Warp -/

/-- The copy of a Warp's slot into memory and its LOAD are no steps of the boot. -/
@[simp] theorem bootView_loadSlot (b : Bool) : (s.loadSlot b).2.bootView = s.bootView := by
  unfold State.loadSlot
  dsimp only
  refine (bootView_loadWarp _ _).trans ((bootView_wrp _ _).trans ?_)
  split <;> simp

theorem bootView_of_loadSlot {t : State} {b ok : Bool} (h : s.loadSlot b = (ok, t)) : t.bootView = s.bootView := by
  rw [← bootView_loadSlot s b, h]

@[simp] theorem bootView_bootWarp : s.bootWarp.bootView = s.bootView := by
  unfold State.bootWarp
  dsimp only
  split <;> rename_i hl
  · exact bootView_of_loadSlot s hl
  have ht := bootView_of_loadSlot s hl
  split
  · rw [bootView_loadSlot, bootView_failTrial, ht]
  split
  · split <;> rename_i hl' <;> rw [bootView_partFact, bootView_of_loadSlot _ hl', ht]
  · rw [bootView_partFact, ht]

/-! ### The steward's start -/

@[simp] theorem bootView_fanUpdate (rpm : List Nat) : (s.fanUpdate rpm).bootView = s.bootView := by
  refine (bootView_stw _ _).trans (bootView_foldl (fun s f => ?_) _ s)
  split <;> simp

@[simp] theorem bootView_setRole : s.setRole.bootView = s.bootView := by
  unfold State.setRole
  dsimp only
  split <;> simp

@[simp] theorem bootView_trainDram (env : BootEnv) : (s.trainDram env).bootView = s.bootView := by
  unfold State.trainDram
  rcases s.dramConfig env with ⟨d, r, e⟩
  refine bootView_foldl (fun s i => ?_) _ s
  rw [apply_ite State.bootView, bootView_setDram, bootView_writeUnit, bootView_setDram, ite_self]

/-- The parts are loaded, and application core 0 awaits its services where part 2 was (17 R389 t6, t7). -/
theorem bootView_loadParts : ∃ w, s.loadParts.bootView = s.bootView.partsLoaded w := by
  unfold State.loadParts
  extract_lets s₁ s₂ boot
  have h₁ : s₁.bootView = s.bootView := by simp [s₁]
  have h₂ : s₂.bootView = s.bootView := by unfold s₂; split <;> simp [h₁]
  clear_value s₂
  exact ⟨s₂.loaded 2, congrArg (BootView.partsLoaded · (s₂.loaded 2)) h₂⟩

theorem bootView_opKeys (x : List Nat) : ({ s with boot := { s.boot with opKeys := x } } : State).bootView = s.bootView := rfl

/-- The steward's boot ends with the parts loaded; the fans run (17 R389 t4 to t7). -/
theorem bootView_bootSteward (env : BootEnv) : ∃ w, (s.bootSteward env).bootView = s.bootView.fansOn.partsLoaded w := by
  unfold State.bootSteward
  extract_lets pins stw boot s₁ s₂ s₃ boot₃ s₄
  have h₃ : s₃.bootView = s₁.bootView := by simp [s₃, s₂]
  have h₄ : s₄.bootView = s₃.bootView := by
    unfold s₄
    split
    · exact bootView_opKeys s₃ _
    · rfl
  obtain ⟨w, hw⟩ := bootView_loadParts s₄
  have h₁ : s₁.bootView = { s.bootView.fansOn with state := 1 } := rfl
  exact ⟨w, by rw [bootView_retier, hw, h₄, h₃, h₁]; rfl⟩

/-- RECOVERY drives the fans and awaits nothing (17 R390). -/
theorem bootView_recovery (env : Option BootEnv) : (s.recovery env).bootView = s.bootView.recovering := by
  unfold State.recovery
  extract_lets s₁ boot s₂
  have h₁ : s₁.bootView = s.bootView := bootView_foldl (fun s i => bootView_setIsl s i _) _ s
  rw [bootView_retier, bootView_partFact]
  exact congrArg BootView.recovering h₁

/-! ### The release of POR_N -/

@[simp] theorem bootView_chooseDir : s.chooseDir.2.bootView = s.bootView := by
  unfold State.chooseDir
  dsimp only
  split
  · rfl
  · split <;> rfl

@[simp] theorem bootView_startJournal (ok : Bool) : (s.startJournal ok).bootView = s.bootView := by
  unfold State.startJournal
  dsimp only
  rw [bootView_beginEpoch]
  rfl

/-- The pins once POR_N is released: straps and clocks are sampled. -/
def Pins.released (p : Pins) (env : BootEnv) : Pins :=
  { p with porN := true, strapMaster := env.master, strapAddr := env.addr % 16, refSys := true
           refPcie := env.refPcie, refEth := env.refEth }

/-- The release boots the steward or waits in RECOVERY. -/
theorem bootView_bootCold {env : BootEnv} (hon : s.pins.pwrEn = true) (hlow : s.pins.porN = false) (hclk : env.refSys = true) :
    (∃ w, (s.bootCold env).bootView = ({ s.bootView with pins := s.pins.released env } : BootView).fansOn.partsLoaded w)
    ∨ (s.bootCold env).bootView = ({ s.bootView with pins := s.pins.released env } : BootView).recovering := by
  unfold State.bootCold
  rw [if_neg (by simp [hon, hlow]), if_neg (by simp [hclk])]
  extract_lets pins s₁
  rcases hd : s₁.chooseDir with ⟨ok, s₂⟩
  have h₁ : s₁.bootView = { s.bootView with pins := s.pins.released env } := rfl
  have h₂ : s₂.bootView = s₁.bootView := by rw [← bootView_chooseDir s₁, hd]
  clear_value s₁
  rw [← h₁, ← h₂]
  dsimp only
  generalize hu : State.loadPart _ 1 = u
  have h₃ : u.bootView = s₂.bootView := by
    rw [← hu, bootView_loadPart]
    split <;> simp
  rw [← h₃]
  split
  · exact .inl (bootView_bootSteward u env)
  · exact .inr (bootView_recovery u _)

/-! ### An image for RECOVERY -/

theorem bootView_restartSteward : s.restartSteward.bootView = s.bootView ∨ s.restartSteward.bootView = s.bootView.recovering := by
  unfold State.restartSteward
  extract_lets stw s₁
  have h₁ : s₁.bootView = s.bootView := bootView_loadPart _ 1
  rw [← h₁]
  split
  · exact .inl rfl
  · exact .inr (bootView_recovery s₁ none)

end

end Sys2Proof.Machine
end

section
/-! SUPPORT. What the commands of the pins and the boot do, each in one lemma (00 R7; 14 R342; 17 R389 to R392; 19 R423 to R430). -/

namespace Sys2Proof.Machine

open Safety

section
variable (s : State)

/-! ### POR_N -/

/-- A COLD reset keeps OTP: of flash it touches at most the idle area that a flush was filling. -/
theorem cold_otp : s.cold.nv.otp = s.nv.otp := by
  unfold State.cold
  dsimp only
  split <;> rfl

theorem cold_nv (h : s.lea.flushing = false) : s.cold.nv = s.nv := by simp [State.cold, h]

theorem cold_jobReserve : s.cold.jobReserve = reserveDefault s.variant := by
  rw [State.variant, ← cold_otp s]
  rfl

theorem exec_porNAssert {ns : Nat} (h : 10000 ≤ ns) : exec (.porNAssert ns) s = .next (fresh s).cold := if_pos (.inl h)

theorem exec_porNAssert_short {ns : Nat} (h : ns < 1000) : exec (.porNAssert ns) s = .next (fresh s) :=
  if_neg (by omega)

theorem exec_porNRelease_noClock {env : BootEnv} (hon : s.pins.pwrEn = true) (hlow : s.pins.porN = false) (hclk : env.refSys = false) :
    exec (.porNRelease env) s = .next { fresh s with pins := { s.pins with refSys := false } } := by
  change Host.Outcome.next ((fresh s).bootCold env) = _
  rw [State.bootCold, if_neg (by simp [fresh, hon, hlow]), if_pos (by simp [hclk])]
  rfl

/-! ### The services' report -/

@[simp] theorem appDecide_boot : s.appDecide.boot = s.boot := (congrArg State.boot (sansIslands_appDecide s) :)

@[simp] theorem appDecide_wrp : s.appDecide.wrp = s.wrp := (congrArg State.wrp (sansIslands_appDecide s) :)

/-- The report ends the wait; after the load of the Warp the boot's state is judged, and APP's point is decided. -/
theorem servicesReady_eq (h : s.boot.awaiting = true) : ∃ u : State,
    u.bootView = { s.bootView with state := 5, awaiting := false, warm := false } ∧ s.servicesReady =
      ({ u with boot := { u.boot with state := if u.wrp.device = 0 then 6 else u.boot.state } } : State).appDecide := by
  unfold State.servicesReady
  rw [if_neg (by simp [h])]
  refine ⟨_, ?_, rfl⟩
  rw [apply_ite State.bootView, bootView_bootWarp, ite_self, bootView_retier]
  rfl

/-- The boot is done when no Warp is being woven. -/
theorem servicesReady_boot (h : s.boot.awaiting = true) : s.servicesReady.boot.awaiting = false ∧ s.servicesReady.boot.warm = false
    ∧ s.servicesReady.boot.state = if s.servicesReady.wrp.device = 0 then 6 else 5 := by
  obtain ⟨u, hu, heq⟩ := servicesReady_eq s h
  have hstate : u.boot.state = 5 := congrArg BootView.state hu
  rw [heq, appDecide_boot, appDecide_wrp, ← hstate]
  exact ⟨congrArg BootView.awaiting hu, congrArg BootView.warm hu, rfl⟩

/-! ### RECOVERY -/

theorem bootView_answer (a : Authority) (status holder : Nat) (data : List Nat) : (s.answer a status holder data).bootView =
    { s.bootView with replies := s.bootView.replies ++ [.mgmt (authCode a) status holder data] } := by
  simp [State.answer, State.emit, State.bootView, Out.isReply]

/-- The view of a device that a new image of part 1 was written into. -/
def BootView.imageTaken (v : BootView) (b : List Byte) : BootView :=
  { v with images := mset v.images 2 b, replies := v.replies ++ [.mgmt 3 0 0 []] }

/-- An image that passes is written into slot A and answered, whatever the boot that follows comes to. -/
theorem recoveryImage_taken {b : List Byte} (h7 : s.boot.state = 7) (hcode : s.fwCode 1 b = 0) :
    (s.recoveryImage b).bootView.images = mset s.nv.flash.images 2 b
    ∧ (s.recoveryImage b).bootView.replies = s.bootView.replies ++ [.mgmt 3 0 0 []] := by
  unfold State.recoveryImage
  rw [if_neg (by simp [h7])]
  extract_lets code d bad nv flash s₁ s₂ s₃ boot s₄ s₅
  rw [if_neg (by simp [code, hcode])]
  have h₃ : s₃.bootView = s.bootView.imageTaken b := by
    rw [bootView_answer, bootView_setDir]
    rfl
  have h₅ : s₅.bootView = { s.bootView.imageTaken b with state := 6 } := by
    rw [← h₃]
    exact bootView_foldl (fun s i => bootView_setIsl s i _) _ s₄
  cases s₃.boot.env with
  | some env =>
    obtain ⟨w, hw⟩ := bootView_bootSteward (s₃.loadPart 1) env
    dsimp only
    rw [hw, bootView_loadPart, h₃]
    exact ⟨rfl, rfl⟩
  | none =>
    dsimp only
    rw [bootView_retier]
    rcases bootView_restartSteward s₅ with hr | hr <;> rw [hr, h₅] <;> exact ⟨rfl, rfl⟩

theorem exec_recoveryImage_refused {b : List Byte} (h7 : s.boot.state = 7) (hcode : s.fwCode 1 b ≠ 0) :
    exec (.recoveryImage b) s = .next { s with out := [.mgmt 3 (s.fwCode 1 b) 0 []] } := by
  have hanswer : (fresh s).recoveryImage b = (fresh s).answer .console (s.fwCode 1 b) 0 [] :=
    (if_neg (not_not.mpr h7)).trans (if_pos hcode)
  exact congrArg Host.Outcome.next hanswer

/-! ### The wake domain -/

theorem exec_vddWakeRise (h : s.pins.vddWake = false) : exec .vddWakeRise s =
    .next { fresh s with pins := { s.pins with vddWake := true, pwrEn := true, offTimeDone := true } } := if_neg (by simp [h])

/-- A WAKE_N of 10 us is long enough (R342). -/
theorem wake_long {ns : Nat} (h : 10000 ≤ ns) :
    (!(decide (10000 ≤ ns) || (decide (5000 ≤ ns) && Config.wakeShortPulse ns))) = false := by simp [h]

theorem exec_wakeNQualified_short {ns : Nat} (h : ns < 5000) : exec (.wakeNQualified ns) s = .next (fresh s) := by
  have h1 : ¬ 10000 ≤ ns := by omega
  have h2 : ¬ 5000 ≤ ns := by omega
  exact if_pos (by simp [h1, h2])

theorem exec_wakeNQualified_off {ns : Nat} (h : 10000 ≤ ns) (hoff : s.pins.pwrEn = false) : exec (.wakeNQualified ns) s =
    if s.pins.offTimeDone then .next { fresh s with pins := { s.pins with pwrEn := true, wakeArmed := false, wakeLatched := false } }
    else .next { fresh s with pins := { s.pins with wakeLatched := true } } :=
  (if_neg (by simp [wake_long h])).trans (if_pos (by simp [hoff]))

theorem exec_wakeNQualified_hold {ns : Nat} (h : 10000 ≤ ns) (hon : s.pins.pwrEn = true) (harm : s.pins.wakeArmed = false)
    (hst : s.pwr.state = 2) (hforced : s.pwr.forced = false) (hlevel : s.pwr.level ≠ 3) : ∃ e : JEntry,
    exec (.wakeNQualified ns) s = .next ({ (fresh s).fact e with
      pwr := { ((fresh s).fact e).pwr with result := { ((fresh s).fact e).pwr.result with busy := true } } } : State).leaveHold :=
  ⟨_, (if_neg (by simp [wake_long h])).trans ((if_neg (by simp [hon])).trans ((if_neg (by simp [harm])).trans
    (if_pos ⟨hst, by simp [hforced], hlevel⟩)))⟩

theorem exec_pwrEnOffTime (hoff : s.pins.pwrEn = false) : exec .pwrEnOffTime s = .next { fresh s with pins := if s.pins.wakeLatched
    then { s.pins with offTimeDone := true, pwrEn := true, wakeArmed := false, wakeLatched := false }
    else { s.pins with offTimeDone := true } } := by
  refine (if_neg (by simp [hoff])).trans ?_
  split <;> simp_all [fresh]

/-! ### Leaving Hold -/

/-- An island is raised from Hold to OP0 (R340 u0, u1). -/
def State.raiseToOp0 (s : State) (i : Nat) : State :=
  (s.setIsl i { s.isl i with st := 2, target := 0, cur := 0, lowVolt := false }).command i (opVolt 0)

theorem leaveHold_eq : s.leaveHold = (s.islands.filter (fun i => decide (i < 5))).foldl State.raiseToOp0
    { s with pwr := { s.pwr with state := 3, forced := false } } := rfl

/-- An island that a raise to OP0 is under way for. -/
def State.Raising (s : State) (i : Nat) : Prop := (s.isl i).st = 2 ∧ (s.isl i).volt = 550

theorem isl_command (i mv : Nat) : (s.command i mv).isl i = { s.isl i with volt := mv } := State.isl_setIsl s i _

theorem isl_command_ne {i j : Nat} (mv : Nat) (h : j ≠ i) : (s.command i mv).isl j = s.isl j := State.isl_setIsl_ne s i j _ h

theorem raising_raiseToOp0 (i : Nat) : (s.raiseToOp0 i).Raising i := by
  simp [State.raiseToOp0, State.Raising, isl_command, opVolt]

theorem State.Raising.raiseToOp0 {s : State} {i : Nat} (h : s.Raising i) (j : Nat) : (s.raiseToOp0 j).Raising i := by
  rcases eq_or_ne i j with rfl | hne
  · exact raising_raiseToOp0 s i
  · have hk : (s.raiseToOp0 j).isl i = s.isl i := (isl_command_ne _ _ hne).trans (State.isl_setIsl_ne s j i _ hne)
    rwa [State.Raising, hk]

theorem raising_foldl {s : State} {i : Nat} {l : List Nat} (h : i ∈ l ∨ s.Raising i) : (l.foldl State.raiseToOp0 s).Raising i := by
  induction l generalizing s with
  | nil => simpa using h
  | cons j l ih =>
    refine ih ?_
    rcases h with h | h
    · rcases List.mem_cons.mp h with rfl | h
      · exact .inr (raising_raiseToOp0 s i)
      · exact .inl h
    · exact .inr (h.raiseToOp0 j)

theorem raising_leaveHold {i : Nat} (hi : i ∈ s.islands) (h5 : i < 5) : s.leaveHold.Raising i := by
  rw [leaveHold_eq]
  exact raising_foldl (.inl (List.mem_filter.mpr ⟨hi, decide_eq_true h5⟩))

/-- Leaving Hold is a state of power; what the last command came to stays. -/
theorem leaveHold_pwr : s.leaveHold.pwr.state = 3 ∧ s.leaveHold.pwr.result = s.pwr.result := by
  have h : s.leaveHold.sansIslands = ({ s with pwr := { s.pwr with state := 3, forced := false } } : State).sansIslands :=
    sansIslands_foldl (fun s i => (sansIslands_command _ _ _).trans (sansIslands_setIsl s _ _)) _ _
  exact ⟨(congrArg (fun u : State => u.pwr.state) h :), (congrArg (fun u : State => u.pwr.result) h :)⟩

theorem islands_fact (e : JEntry) : (s.fact e).islands = s.islands := (congrArg State.islands (sansRecords_fact s e) :)

end

end Sys2Proof.Machine
end

section
namespace Sys2Proof.Proofs

open Machine Safety

/-- Settles O45: each clause is what one command of the pins or the boot does. -/
theorem pinsAndBootMoveTheDevice : Obligations.PinsAndBootMoveTheDevice := by
  intro s env ns b
  refine ⟨?_, ?_, ?_, ?_, ?_, ?_, ?_, ?_, ?_, ?_, ?_, ?_, ?_, ?_⟩
  · intro hns
    exact ⟨_, exec_porNAssert s hns, cold_otp (fresh s), rfl, rfl, rfl, rfl, rfl, rfl, rfl, rfl, rfl, rfl, rfl, rfl, rfl, rfl, rfl,
      cold_jobReserve (fresh s), cold_nv (fresh s)⟩
  · exact exec_porNAssert_short s
  · exact exec_porNRelease_noClock s
  · intro hon hlow hclk
    refine ⟨_, rfl, ?_⟩
    rcases bootView_bootCold (fresh s) hon hlow hclk with ⟨w, hv⟩ | hv
    · exact ⟨congrArg BootView.pins hv, .inl (congrArg BootView.state hv)⟩
    · exact ⟨congrArg BootView.pins hv, .inr (congrArg BootView.state hv)⟩
  · exact fun h => ⟨_, rfl, servicesReady_boot (fresh s) h⟩
  · exact exec_recoveryImage_refused s
  · intro h7 hcode
    obtain ⟨himages, hreplies⟩ := recoveryImage_taken (fresh s) h7 hcode
    refine ⟨_, rfl, ?_, ?_⟩
    · exact (congrArg (mget · 2 []) himages).trans (mget_mset _ 2 b [])
    · exact List.mem_of_mem_filter (hreplies ▸ List.mem_append_right _ (List.mem_singleton_self _))
  · exact exec_vddWakeRise s
  · exact ⟨_, rfl, rfl, rfl, rfl, rfl, rfl, rfl, rfl⟩
  · exact fun hns hoff hdone => (exec_wakeNQualified_off s hns hoff).trans (if_pos hdone)
  · exact fun hns hoff hdone => (exec_wakeNQualified_off s hns hoff).trans (if_neg (by simp [hdone]))
  · intro hns hon harm hst hforced hlevel
    obtain ⟨e, he⟩ := exec_wakeNQualified_hold s hns hon harm hst hforced hlevel
    obtain ⟨hstate, hresult⟩ := leaveHold_pwr _
    refine ⟨_, he, hstate, congrArg CmdResult.busy hresult, fun i hi h5 => raising_leaveHold _ ?_ h5⟩
    exact islands_fact (fresh s) e ▸ hi
  · exact exec_wakeNQualified_short s
  · exact exec_pwrEnOffTime s

end Sys2Proof.Proofs
end

section
/-! SUPPORT. What an engine's read of memory may change: hanks' error counts, the fabric's counts and logs, tags, the journal and what its
pulses write, reports and draws (04 R91 to R94; 05 R126, R138 to R145). -/

namespace Sys2Proof.Machine

/-- A projection that every round of a loop keeps, the loop keeps. -/
theorem foldl_keeps {α β γ : Type} (view : β → γ) {f : β → α → β} (h : ∀ b x, view (f b x) = view b) (l : List α) (b : β) :
    view (l.foldl f b) = view b := by
  induction l generalizing b with
  | nil => rfl
  | cons x l ih => exact (ih _).trans (h b x)

/-- The state without what reads of memory write. -/
def State.sansReads (s : State) : State := { s.sansRecords with
  hanks := [], written := [], lostOwner := [], fab := {}, dram := [], freeCount := 0, stw := { s.stw with reports := [] } }

theorem sansReads_of_sansRecords {s t : State} (h : t.sansRecords = s.sansRecords) : t.sansReads = s.sansReads :=
  congrArg (fun u : State => { u with
    hanks := [], written := [], lostOwner := [], fab := {}, dram := [], freeCount := 0, stw := { u.stw with reports := [] } }) h

section
variable (s : State)

/-! ### Fields that the view leaves out -/

@[simp] theorem sansReads_fab (x : Fab) : ({ s with fab := x } : State).sansReads = s.sansReads := rfl
@[simp] theorem sansReads_written (x : List Nat) : ({ s with written := x } : State).sansReads = s.sansReads := rfl
@[simp] theorem sansReads_lostOwner (x : List Nat) : ({ s with lostOwner := x } : State).sansReads = s.sansReads := rfl
theorem sansReads_ownersLogged (x : List Nat) (y : Fab) : ({ s with lostOwner := x, fab := y } : State).sansReads = s.sansReads := rfl
@[simp] theorem sansReads_setHank (h : Nat) (x : Hank) : (s.setHank h x).sansReads = s.sansReads := rfl
@[simp] theorem sansReads_setDram (i : Nat) (x : Dram) : (s.setDram i x).sansReads = s.sansReads := rfl
@[simp] theorem sansReads_draw : s.draw.2.sansReads = s.sansReads := rfl
@[simp] theorem sansReads_report (i cause : Nat) : (s.report i cause).sansReads = s.sansReads := rfl
@[simp] theorem sansReads_pulse (e : Nat) : (s.pulse e).sansReads = s.sansReads := sansReads_of_sansRecords (sansRecords_pulse s e)
@[simp] theorem sansReads_fact (e : JEntry) : (s.fact e).sansReads = s.sansReads := sansReads_of_sansRecords (sansRecords_fact s e)

/-! ### Errors and tags -/

@[simp] theorem sansReads_accessError (h a kind : Nat) : (s.accessError h a kind).sansReads = s.sansReads := rfl
@[simp] theorem sansReads_decodeError (req a : Nat) : (s.decodeError req a).sansReads = s.sansReads := rfl
@[simp] theorem sansReads_unlog (lo hi : Nat) : (s.unlog lo hi).sansReads = s.sansReads := rfl
@[simp] theorem sansReads_mend (lo hi : Nat) : (s.mend lo hi).sansReads = s.sansReads := rfl

@[simp] theorem sansReads_countError (a kind req : Nat) : (s.countError a kind req).sansReads = s.sansReads := by
  unfold State.countError
  dsimp only
  split <;> simp

@[simp] theorem sansReads_correctedError (a req : Nat) : (s.correctedError a req).sansReads = s.sansReads := by
  unfold State.correctedError
  dsimp only
  repeat' split
  all_goals simp

@[simp] theorem sansReads_correctAll (a req : Nat) (us : List Nat) : (s.correctAll a req us).sansReads = s.sansReads :=
  foldl_keeps State.sansReads (fun s u => by simp [State.corrected]) _ s

@[simp] theorem sansReads_uncorrectable (a req : Nat) : (s.uncorrectable a req).sansReads = s.sansReads := by
  unfold State.uncorrectable
  dsimp only
  split <;> simp

@[simp] theorem sansReads_tagTouch (line : Nat) (dirty : Bool) : (s.tagTouch line dirty).sansReads = s.sansReads := by
  unfold State.tagTouch
  dsimp only
  repeat' split
  all_goals simp

/-- A rebuilt line writes OWNER and WRITTEN of its granules, the log and one journal entry. -/
@[simp] theorem sansReads_tagRebuild (a req : Nat) : (s.tagRebuild a req).sansReads = s.sansReads := by
  unfold State.tagRebuild
  extract_lets base gs line u s₁ s₂ fab s₃ st s₄
  clear_value base gs line u
  have h₂ : s₂.sansReads = s.sansReads := (sansReads_written s₁ _).trans (sansReads_countError s line 3 req)
  have h₃ : s₃.sansReads = s₂.sansReads := by
    unfold s₃
    split
    · exact (sansReads_report _ _ _).trans ((sansReads_pulse _ _).trans (sansReads_lostOwner s₂ _))
    · exact sansReads_ownersLogged s₂ _ _
  have h₄ : s₄.sansReads = s₃.sansReads := (sansReads_pulse _ _).trans (sansReads_fact s₃ _)
  rw [sansReads_tagTouch, sansReads_mend, sansReads_unlog, h₄, h₃, h₂]

@[simp] theorem sansReads_tagFetch (a req : Nat) : (s.tagFetch a req).sansReads = s.sansReads := by
  unfold State.tagFetch
  dsimp only
  repeat' split
  all_goals simp

/-! ### Reads -/

@[simp] theorem sansReads_heldBytes (a n : Nat) : (s.heldBytes a n).2.sansReads = s.sansReads := by
  unfold State.heldBytes
  dsimp only
  repeat' split
  all_goals simp

@[simp] theorem sansReads_memRead (h req a n : Nat) : (s.memRead h req a n).2.2.sansReads = s.sansReads := by
  unfold State.memRead State.poisoned
  dsimp only
  repeat' split
  all_goals simp

theorem sansReads_of_memRead {t : State} {h req a n : Nat} {st : Status} {d : List Byte} (hr : s.memRead h req a n = (st, d, t)) :
    t.sansReads = s.sansReads := by rw [← sansReads_memRead s h req a n, hr]

/-- Block by block, an engine's read is a read of memory, an error of its address, or changes nothing. -/
@[simp] theorem sansReads_engRead (h req a n : Nat) : (s.engRead h req a n).2.2.2.sansReads = s.sansReads := by
  refine foldl_keeps (fun acc : Status × Nat × List Byte × State => acc.2.2.2.sansReads) (fun acc p => ?_) _ _
  obtain ⟨st, x, bs, u⟩ := acc
  cases st
  case ok =>
    dsimp only
    split
    case h_1 | h_2 => split <;> exact sansReads_of_memRead u ‹_›
    case h_3 => split <;> rfl
    all_goals rfl
  all_goals rfl

/-- An engine's read leaves the Warp's registers and records as they are. -/
theorem wrp_engRead (h req a n : Nat) : (s.engRead h req a n).2.2.2.wrp = s.wrp :=
  (congrArg State.wrp (sansReads_engRead s h req a n) :)

end

end Sys2Proof.Machine
end

section
/-! SUPPORT. Job slots and submission, each rule once (01 R24 to R29; 03 R73 to R79; 04 R107). -/

namespace Sys2Proof.Machine

open Safety

/-! ### Slots -/

/-- R27: a class other than Reserved leaves the reserve. -/
theorem slotFree_iff (s : State) (cls : Nat) : s.slotFree cls = true ↔
    if cls = 0 then s.inFlight < jobsMax s.variant else s.inFlight + s.jobReserve < jobsMax s.variant := by
  unfold State.slotFree
  split
  · simp
  · rw [decide_eq_true_iff]
    omega

/-- `x` takes no slot before `j`: its class is lower, or it was not selected earlier. -/
def Job.NotBefore (x j : Job) : Prop := j.cls < x.cls ∨ (j.cls = x.cls ∧ j.selSeq ≤ x.selSeq)

theorem Job.NotBefore.trans {x y z : Job} (h : x.NotBefore y) (h' : y.NotBefore z) : x.NotBefore z := by
  unfold Job.NotBefore at *
  omega

/-- The better of the best so far and one job more: one step of the choice of R25. -/
def Job.better (b : Option Job) (j : Job) : Option Job :=
  match b with
  | none => some j
  | some x => if j.cls < x.cls ∨ (j.cls = x.cls ∧ j.selSeq < x.selSeq) then some j else b

/-- The better of two jobs is one of them, and neither goes before it. -/
theorem better_some (x y : Job) : ∃ b, Job.better (some x) y = some b ∧ (b = x ∨ b = y) ∧ x.NotBefore b ∧ y.NotBefore b := by
  unfold Job.better Job.NotBefore
  dsimp only
  split
  · exact ⟨y, rfl, .inr rfl, by omega, by omega⟩
  · exact ⟨x, rfl, .inl rfl, by omega, by omega⟩

/-- The choice among a list and the best so far is one of them, and none of them goes before it. -/
theorem foldl_better_some {l : List Job} {b j : Job} (h : l.foldl Job.better (some b) = some j) :
    j ∈ b :: l ∧ ∀ x ∈ b :: l, x.NotBefore j := by
  induction l generalizing b with
  | nil =>
    obtain rfl : b = j := Option.some.inj h
    simp [Job.NotBefore]
  | cons y l ih =>
    obtain ⟨c, hc, hmem, hb, hy⟩ := better_some b y
    rw [List.foldl_cons, hc] at h
    obtain ⟨hj, hle⟩ := ih h
    have hcj := hle c List.mem_cons_self
    refine ⟨?_, fun x hx => ?_⟩
    · rcases List.mem_cons.mp hj with rfl | hj
      · rcases hmem with rfl | rfl <;> simp
      · simp [hj]
    · rcases List.mem_cons.mp hx with rfl | hx
      · exact hb.trans hcj
      rcases List.mem_cons.mp hx with rfl | hx
      · exact hy.trans hcj
      · exact hle x (List.mem_cons_of_mem c hx)

/-- The jobs that could take a slot now. -/
def State.waiting (s : State) : List Job := s.jobs.filter (fun j => j.phase == .selected && s.slotFree j.cls)

theorem mem_waiting {s : State} {j : Job} : j ∈ s.waiting ↔ j ∈ s.jobs ∧ j.phase = .selected ∧ s.slotFree j.cls = true := by
  simp [State.waiting]

theorem nextWaiting_eq (s : State) : s.nextWaiting = s.waiting.foldl Job.better none := rfl

/-- R25: the slot goes to a job that may take it, and no other goes before it. -/
theorem nextWaiting_some {s : State} {j : Job} (h : s.nextWaiting = some j) : j ∈ s.waiting ∧ ∀ x ∈ s.waiting, x.NotBefore j := by
  rw [nextWaiting_eq] at h
  cases hw : s.waiting with
  | nil => simp [hw] at h
  | cons b l =>
    rw [hw] at h
    exact foldl_better_some h

/-! ### Admission -/

theorem exec_jobSlotAcquire {s : State} {j : Job} (h : s.nextWaiting = some j) :
    exec .jobSlotAcquire s = .next ((fresh s).admitJob j.id) := by
  have hn : (fresh s).nextWaiting = some j := h
  change (match (fresh s).nextWaiting with | some j => _ | none => _) = _
  rw [hn]
  rfl

/-- What admission makes of one job. -/
theorem jobs_admitJob (s : State) (id : Nat) : ∃ f : Job → Job, (s.admitJob id).jobs = s.jobs.map (fun j => if j.id = id then f j else j)
    ∧ ∀ j, (f j).id = j.id ∧ (f j).phase = .admitted ∧ (f j).slotSeq = s.tck.nextSel := ⟨_, rfl, fun _ => ⟨rfl, rfl, rfl⟩⟩

/-- Admission keeps the jobs in their order. -/
theorem ids_admitJob (s : State) (id : Nat) : (s.admitJob id).jobs.map (·.id) = s.jobs.map (·.id) := by
  obtain ⟨f, hjobs, hf⟩ := jobs_admitJob s id
  rw [hjobs, List.map_map]
  refine List.map_congr_left fun j _ => ?_
  dsimp only [Function.comp]
  split
  · exact (hf j).1
  · rfl

/-- R24: the job that took the slot is admitted, and has its place in the order of the slots. -/
theorem admitted_of_mem_admitJob {s : State} {id : Nat} {x : Job} (hx : x ∈ (s.admitJob id).jobs) (hid : x.id = id) :
    x.phase = .admitted ∧ x.slotSeq = s.tck.nextSel := by
  obtain ⟨f, hjobs, hf⟩ := jobs_admitJob s id
  rw [hjobs, List.mem_map] at hx
  obtain ⟨j, -, rfl⟩ := hx
  split at hid
  · rw [if_pos ‹_›]
    exact (hf j).2
  · exact absurd hid ‹_›

/-- R29: the peak follows the jobs in flight. -/
theorem peak_admitJob (s : State) (id : Nat) : (s.admitJob id).peak = max s.peak (s.admitJob id).inFlight := rfl

/-- Admission writes the job table, the count of selections and the peak. -/
theorem admitJob_frame (s : State) (id : Nat) :
    s.admitJob id = { s with tck := (s.admitJob id).tck, peak := (s.admitJob id).peak }
    ∧ (s.admitJob id).tck = { s.tck with jobs := (s.admitJob id).tck.jobs, nextSel := s.tck.nextSel + 1 } := ⟨rfl, rfl⟩

/-! ### Submission -/

/-- What a hank is served by its port is not turned away. -/
theorem asHank_of_hank {s : State} {who : Requester} (h : s.reqHank who ≠ noHank) (f : State → State) : s.asHank who f = f s := if_neg h

/-- One ring of the doorbell takes the entry at the ring's next place, and the place moves on (R73, R75). -/
theorem exec_submitDoorbell_one {s : State} {who : Requester} (h : s.reqHank who ≠ noHank)
    (hs : ringSize (s.hank (s.tckBank who)).subLog2 ≠ 0) : exec (.submitDoorbell who 1) s =
      let k := s.hank (s.tckBank who)
      .next (((fresh s).setHank (s.tckBank who) { k with subNext := (k.subNext + 1) % ringSize k.subLog2 }).submitEntry (s.tckBank who)
        (k.subBase + 64 * (k.subNext % ringSize k.subLog2))) := by
  change Host.Outcome.next ((fresh s).asHank who _) = _
  rw [asHank_of_hank (s := fresh s) h]
  exact congrArg Host.Outcome.next (if_neg hs)

/-- The job that an entry `e` of hank `h` describes, with its descriptor's unit and event. -/
def State.entryJob (s : State) (h : Nat) (e : List Byte) (u : Nat × Nat) : Job :=
  { id := s.tck.nextJob, hank := h, tag := leAt e 0 8, desc := leAt e 8 8, kind := leAt e 16 1, cls := leAt e 17 1
    fate := leAt e 18 1, ply := leAt e 19 1, costTile := leAt e 20 4, costSpindle := leAt e 24 4, costDram := leAt e 28 4
    gate := leAt e 32 2, target := nextTickOf s.tck.time (s.ply (leAt e 19 1)), unit := u.1, doneEvent := u.2 }

/-- The checks of R75 that an entry's job meets before its descriptor is read. -/
structure State.EntryOk (s : State) (e : List Byte) (j : Job) (rec : HankRec) : Prop where
  reserved : leAt e 34 22 = 0
  reservedHi : leAt e 60 4 = 0
  kindLo : 1 ≤ j.kind
  kindHi : j.kind ≤ 5
  cls : j.cls ≤ 2
  fate : j.fate ≤ 1
  awake : s.memAsleep = false
  settled : s.wrp.weaving = none
  record : hankRec? s.img j.hank j.ply = some rec
  space : s.liveJobs j.hank + 1 ≤ ringSize (s.hank j.hank).cplLog2
  depth : (s.jobs.filter (fun x => x.hank == j.hank && x.ply == j.ply && x.phase == .queued)).length < rec.depth
  woven : (s.ply j.ply).state ≠ 0
  live : (s.ply j.ply).state ≠ 3

/-- The checks of R75 that it meets afterwards: its unit, its quota, its booking. -/
structure State.Affordable (s : State) (j : Job) (rec : HankRec) : Prop where
  unit : s.unitOk j.kind j.ply j.unit = true
  caps : j.cls ≠ 0 → j.costTile ≤ s.capTile j.ply ∧ j.costSpindle ≤ s.capSpindle j.ply
  books : j.cls = 0 → s.canBook rec j.target j.costTile j.costSpindle j.costDram = true

/-- R75: an entry that passes every check is accepted. -/
theorem submitEntry_accepted {s s₂ s₃ : State} {h entry x : Nat} {e d : List Byte} {rec : HankRec} {j : Job}
    (he : s.engBytes h tickReq entry 64 = (e, s₂)) (hd : s₂.engRead h tickReq (leAt e 8 8) 64 = (.ok, x, d, s₃))
    (hj : s₂.entryJob h e (descUnit (leAt e 16 1) (slice d 0 64)) = j) (hok : s₂.EntryOk e j rec) (hfit : s₃.Affordable j rec) :
    s.submitEntry h entry = s₃.accept entry j := by
  have hweaving : s₃.wrp.weaving = none := by
    have hw := wrp_engRead s₂ h tickReq (leAt e 8 8) 64
    rw [hd] at hw
    rw [hw, hok.settled]
  have hrec : s₂.records = s₂.img := by simp [State.records, hok.settled]
  subst hj
  obtain ⟨hr, hr', hk, hk', hc, hf, ha, hw, hrecord, hspace, hdepth, hp, hp'⟩ := hok
  obtain ⟨hunit, hcaps, hbooks⟩ := hfit
  dsimp only [State.entryJob] at *
  unfold State.submitEntry
  rw [he]
  dsimp only
  rw [if_neg (by simp [ha]), if_neg (by omega), hrec, hrecord]
  dsimp only
  rw [if_neg (by omega), if_neg (by omega), if_neg (by simp [hp, hp']), hd]
  dsimp only
  rw [if_pos (beq_self_eq_true Status.ok), if_neg (by simp [hweaving]), if_neg (by simp [hunit]), if_neg (by dsimp only; omega), if_neg (by simpa using hbooks)]

end Sys2Proof.Machine
end

section
namespace Sys2Proof.Proofs

open Machine Safety

/-- Settles O20: a passing entry is accepted; a freed slot goes to the next waiting job; what a class may take. -/
theorem jobsAreQueuedAndGivenSlots : Obligations.JobsAreQueuedAndGivenSlots := by
  refine ⟨?_, ?_, slotFree_iff⟩
  · intro s who rec h k size entry s₁ e s₂ p d s₃ u j hwho hsize hr hr' hk hk' hc hf hawake hsettled hrec hspace hdepth hp hp' hread hunit
      hcaps hbooks
    have he : s₁.engBytes h tickReq entry 64 = (e, s₂) := Prod.mk.eta.symm
    have hd : s₂.engRead h tickReq (leAt e 8 8) 64 = (.ok, d.2.1, d.2.2.1, s₃) := by rw [← hread]
    clear_value e s₂ s₃
    have hacc := submitEntry_accepted (s := s₁) (entry := entry) (j := j) (rec := rec) he hd rfl
      ⟨hr, hr', hk, hk', hc, hf, hawake, hsettled, hrec, hspace, hdepth, hp, hp'⟩ ⟨hunit, hcaps, hbooks⟩
    refine ⟨_, (exec_submitDoorbell_one hwho hsize).trans (congrArg Host.Outcome.next hacc), ?_⟩
    simp [State.accept, j]
  · intro s j hj
    obtain ⟨hmem, hfirst⟩ := nextWaiting_some hj
    obtain ⟨hjobs, hphase, hfree⟩ := mem_waiting.mp hmem
    obtain ⟨hframe, htck⟩ := admitJob_frame (fresh s) j.id
    exact ⟨⟨hjobs, hphase, hfree, fun x hx hp hs => hfirst x (mem_waiting.mpr ⟨hx, hp, hs⟩)⟩,
      _, exec_jobSlotAcquire hj, hframe, htck, ids_admitJob (fresh s) j.id, fun x hx hid => admitted_of_mem_admitJob hx hid,
      peak_admitJob (fresh s) j.id⟩

end Sys2Proof.Proofs
end

section
/-! SUPPORT. Whom the tags let in, and requests that nothing decodes or that no hank makes (01 R18, R19; 04 R88 to R91; 05 R140, R145). -/

namespace Sys2Proof.Machine

open Safety

/-! ### Tags -/

section
variable (s : State) (h a : Nat)

/-- R101: a range being scrubbed admits nobody. -/
theorem accessKind_destroyed (w : Bool) (hd : s.destroyed a = true) : s.accessKind h a w = some 4 := if_pos hd

/-- R90: only the owner writes a granule. -/
theorem accessKind_write_none : s.accessKind h a true = none ↔ s.destroyed a = false ∧ s.owner a = h := by
  unfold State.accessKind
  split
  case isTrue hd => simp [hd]
  split
  case isTrue ho => simp_all
  case isFalse ho =>
    split
    · simp [ho]
    · split <;> simp [ho]

/-- R90, R103, R140: the owner reads it, and a grantee while its tag is known. -/
theorem accessKind_read_none : s.accessKind h a false = none ↔
    s.destroyed a = false ∧ (s.owner a = h ∨ (s.granted h a = true ∧ khas s.lostOwner (granule a) = false)) := by
  unfold State.accessKind
  split
  case isTrue hd => simp [hd]
  split
  case isTrue ho => simp_all
  split
  case isTrue hl => simp_all
  case isFalse hl => split <;> simp_all

end

/-! ### Requests -/

theorem exec_memoryRequest {s : State} {r : MemReq} (h : memReqOk r = true) :
    exec (.memoryRequest r) s = .next ((fresh s).request r).settle :=
  congrArg Host.Outcome.next (if_pos h)

/-- A port without a hank has its requests turned away (log 183). -/
theorem asHank_of_noHank {s : State} {who : Requester} (h : s.reqHank who = noHank) (f : State → State) :
    s.asHank who f = s.turnAway who := if_pos h

/-- What is turned away leaves nothing for the end of the command. -/
theorem calm_turnAway {s : State} (h : Calm s) (who : Requester) : Calm (s.turnAway who) := by
  unfold State.turnAway
  split <;> exact calm_congr h rfl rfl

section
variable {s : State} {who : Requester} {a : Nat}

/-- R18, R19: a read that nothing decodes gives zeros. -/
theorem request_read_undecoded (n : Nat) (hh : s.reqHank who ≠ noHank) (ht : s.target a = .none) :
    s.request { who := who, addr := a, len := n, data := none, ecc := 0 } =
      (s.decodeError (reqId who) a).emit (.answer 2 (List.replicate n 0)) := by
  simp [State.request, asHank_of_hank hh, State.read1, ht, Status.code]

/-- R18, R19: a write that nothing decodes is discarded. -/
theorem request_write_undecoded (n : Nat) (bs : List Byte) (hh : s.reqHank who ≠ noHank) (ht : s.target a = .none) :
    s.request { who := who, addr := a, len := n, data := some bs, ecc := 0 } = (s.decodeError (reqId who) a).emit (.answer 2 []) := by
  simp [State.request, asHank_of_hank hh, State.write1, ht, Status.code]

/-- The end of the command that met a decode error changes nothing more. -/
theorem settle_decodeError {s : State} (h : Calm s) (req a : Nat) (o : Out) :
    ((s.decodeError req a).emit o).settle = (s.decodeError req a).emit o := settle_of_calm (calm_congr h rfl rfl)

end

end Sys2Proof.Machine
end

section
namespace Sys2Proof.Proofs

open Machine Safety

/-- Settles O24: the tags, case by case; a decode error; and ports that carry no hank. -/
theorem tagsAndDecodeAdmitAccesses : Obligations.TagsAndDecodeAdmitAccesses := by
  refine ⟨?_, ?_, ?_⟩
  · intro s h a
    exact ⟨accessKind_write_none s h a, accessKind_read_none s h a,
      fun hd => ⟨accessKind_destroyed s h a false hd, accessKind_destroyed s h a true hd⟩⟩
  · intro s who a n bs hc hh ht hn hfit hlen
    have hread : memReqOk { who := who, addr := a, len := n, data := none, ecc := 0 } = true := by simp [memReqOk, hn, hfit]
    have hwrite : memReqOk { who := who, addr := a, len := n, data := some bs, ecc := 0 } = true := by simp [memReqOk, hn, hfit, hlen]
    refine ⟨(fresh s).decodeError (reqId who) a, rfl, rfl, ?_, ?_⟩
    · rw [exec_memoryRequest hread, request_read_undecoded (s := fresh s) n hh ht, settle_decodeError (s := fresh s) hc]
      rfl
    · rw [exec_memoryRequest hwrite, request_write_undecoded (s := fresh s) n bs hh ht, settle_decodeError (s := fresh s) hc]
      rfl
  · intro s r a n v hc hok hh
    have away : ∀ f, Host.Outcome.next ((fresh s).asHank r.who f) = (.next ((fresh s).turnAway r.who) : Host.Outcome State Fault Refusal) :=
      fun f => congrArg _ (asHank_of_noHank (s := fresh s) hh f)
    have settled : ∀ f, Host.Outcome.next ((fresh s).asHank r.who f).settle =
        (.next ((fresh s).turnAway r.who) : Host.Outcome State Fault Refusal) := fun f => by
      rw [asHank_of_noHank (s := fresh s) hh, settle_of_calm (calm_turnAway (s := fresh s) hc r.who)]
    have hmem := (exec_memoryRequest (s := s) hok).trans (settled _)
    simp only [List.forall_mem_cons, List.not_mem_nil, false_implies, implies_true, and_true]
    exact ⟨hmem, settled _, away _, away _, away _, away _, away _, away _, away _, away _, away _, settled _, settled _, settled _,
      away _, away _, away _, away _⟩

end Sys2Proof.Proofs
end

section
/-! SUPPORT. Commands that are one register access: journalled fields, latching reads, and reads that rearm an error latch (00 R6; 01 R28,
R29; 02 R55, R56; 03 R60; 05 R145). -/

namespace Sys2Proof.Machine

open Safety

/-! ### Journalled fields -/

/-- A write to state that pulses and entries do not touch. -/
structure FieldWrite (f : State → State) : Prop where
  pulses : ∀ u, (f u).sansPulses = f u.sansPulses
  journal : ∀ u x, f { u with lea := x } = { f u with lea := x }

/-- R6: with room in the journal a journalled field changes with one entry, and nothing else does. -/
theorem jSet_served_hasRoom {s : State} {f : State → State} (hr : HasRoom s) (hf : FieldWrite f) (who : Requester)
    (b off hank old new : Nat) : ButJournal (f s) (s.jSet who b off hank old new f).served
      ∧ OneEntry s (s.jSet who b off hank old new f).served (regObj b off) old new := by
  have hone : OneEntry s (s.jRing (s.fieldEntry who b off hank old new)) (regObj b off) old new := oneEntry_jRing s _
  rw [jSet_hasRoom hr]
  generalize s.fieldEntry who b off hank old new = e at hone ⊢
  have hview : (f (s.jRing e)).served.sansPulses =
      ({ f s with lea := { s.lea with ring := s.lea.ring ++ [s.jStamp e false], head := s.lea.head + 1 } } : State).sansPulses := by
    rw [State.served, sansPulses_emit _ _ rfl, hf.pulses, sansPulses_jRing, ← hf.pulses, hf.journal]
  have hlea : (f (s.jRing e)).served.lea = (s.jRing e).lea :=
    (congrArg State.lea hview).trans (congrArg State.lea (sansPulses_jRing s e)).symm
  refine ⟨butJournal_of_sansPulses hview, ?_⟩
  rwa [OneEntry, hlea]

/-- A served write by hank 0. -/
theorem regWrite_hank0 {s : State} {who : Requester} {b : Nat} (off v : Nat) (hh : s.reqHank who ≠ noHank) (h0 : s.reqHank who = 0)
    (hp : blockPresent s.variant b = true) (h43 : b ≠ 43) (h44 : b ≠ 44) : s.regWrite who b off v = s.writeWord who b off v :=
  regWrite_ok v hh (regPerm_hank0 off hp h0 h44) h43

theorem writeWord_pinJobs (s : State) (who : Requester) (v : Nat) : s.writeWord who 0 0x048 v = (s.peakWrite v).served := by
  simp [State.writeWord, State.plainWrite, State.pinWrite]

theorem writeWord_pinReserve (s : State) (who : Requester) (v : Nat) : s.writeWord who 0 0x04C v = (s.reserveWrite who v).served := by
  simp [State.writeWord, State.plainWrite, State.pinWrite]

theorem writeWord_drain (s : State) (who : Requester) {p : Nat} (v : Nat) (h : p < 16) :
    s.writeWord who 1 (0x108 + 0x20 * p) v = (s.drainWrite who p v).served := by
  have hp : (0x108 + 0x20 * p - 0x100) / 0x20 = p := by omega
  have hlo : 0x100 ≤ 0x108 + 0x20 * p := by omega
  have hhi : 0x108 + 0x20 * p < 0x300 := by omega
  have hoff : (0x108 + 0x20 * p) % 0x20 = 8 := by omega
  have hne : ∀ k, k < 0x100 → 0x108 + 0x20 * p ≠ k := by omega
  simp [State.writeWord, State.plainWrite, State.wrpWrite, hp, hlo, hhi, hoff, hne]

/-- R28: the write of the reserve of slots. -/
def State.setReserve (r : Nat) (s : State) : State := { s with jobReserve := r }

/-- R55, R56: the write of a drain limit, counted as an override. -/
def State.setDrain (p d : Nat) (s : State) : State :=
  s.setPly p { s.ply p with drainTicks := d, overrides := min ((s.ply p).overrides + 1) (2 ^ 32 - 1) }

theorem overrode_setPly (s : State) (p : Nat) (x : Ply) :
    (s.setPly p x).overrode p = s.setPly p { x with overrides := satAdd 32 x.overrides 1 } := by
  simp [State.overrode, State.setPly, State.ply]

theorem drainWrite_eq (s : State) (who : Requester) (p v : Nat) : s.drainWrite who p v =
    s.jSet who 1 (0x108 + 0x20 * p) 0 (s.ply p).drainTicks (max 1 (bits v 7 0)) (State.setDrain p (max 1 (bits v 7 0))) := by
  simp [State.drainWrite, State.jProj, overrode_setPly]
  rfl

theorem reserveWrite_eq (s : State) (who : Requester) (v : Nat) : s.reserveWrite who v =
    s.jSet who 0 0x04C 0 s.jobReserve (min (bits v 8 0) (jobsMax s.variant)) (State.setReserve (min (bits v 8 0) (jobsMax s.variant))) := rfl

section
variable {s : State} {who : Requester} (v : Word) (hh : s.reqHank who ≠ noHank) (h0 : s.reqHank who = 0)
include hh h0

/-- R29: PEAK takes the value written, and never less than the jobs in flight. -/
theorem exec_peakWrite : exec (.peakWrite who v) s =
    .next { s with peak := max (bits v.toNat 24 16) s.inFlight, out := [.answer 0 []] } :=
  congrArg Host.Outcome.next ((regWrite_hank0 (s := fresh s) 0x048 v.toNat hh h0 rfl (by decide) (by decide)).trans
    (writeWord_pinJobs (fresh s) who v.toNat))

/-- R28: the reserve is journalled, and never above JOBS_MAX. -/
theorem exec_jobReserveWrite (hr : HasRoom s) : ∃ t, exec (.jobReserveWrite who v) s = .next t
    ∧ ButJournal (State.setReserve (min (bits v.toNat 8 0) (jobsMax s.variant)) s) t
    ∧ OneEntry s t (regObj 0 0x04C) s.jobReserve (min (bits v.toNat 8 0) (jobsMax s.variant)) := by
  have hw := (regWrite_hank0 (s := fresh s) 0x04C v.toNat hh h0 rfl (by decide) (by decide)).trans
    (writeWord_pinReserve (fresh s) who v.toNat)
  rw [reserveWrite_eq] at hw
  obtain ⟨hbut, hone⟩ := jSet_served_hasRoom (s := fresh s) hr ⟨fun _ => rfl, fun _ _ => rfl⟩ who 0 0x04C 0 s.jobReserve
    (min (bits v.toNat 8 0) (jobsMax s.variant)) (f := State.setReserve (min (bits v.toNat 8 0) (jobsMax s.variant)))
  exact ⟨_, congrArg Host.Outcome.next hw, hbut, hone⟩

/-- R55, R56: the drain limit is journalled, at least 1, and the direct write is counted. -/
theorem exec_drainTicksWrite {p : Nat} (hp : p < 16) (hr : HasRoom s) : ∃ t, exec (.drainTicksWrite who p v) s = .next t
    ∧ ButJournal (State.setDrain p (max 1 (bits v.toNat 7 0)) s) t
    ∧ OneEntry s t (regObj 1 (0x108 + 0x20 * p)) (s.ply p).drainTicks (max 1 (bits v.toNat 7 0)) := by
  have hw := (regWrite_hank0 (s := fresh s) (0x108 + 0x20 * p) v.toNat hh h0 rfl (by decide) (by decide)).trans
    (writeWord_drain (fresh s) who v.toNat hp)
  rw [drainWrite_eq] at hw
  obtain ⟨hbut, hone⟩ := jSet_served_hasRoom (s := fresh s) hr ⟨fun _ => rfl, fun _ _ => rfl⟩ who 1 (0x108 + 0x20 * p) 0
    (s.ply p).drainTicks (max 1 (bits v.toNat 7 0)) (f := State.setDrain p (max 1 (bits v.toNat 7 0)))
  refine ⟨_, ?_, hbut, hone⟩
  change Host.Outcome.next ((fresh s).regWrite who 1 (0x108 + 0x20 * (p % 16)) v.toNat) = _
  rw [Nat.mod_eq_of_lt hp, hw]
  rfl

end

/-! ### Reads -/

/-- A register that every hank reads. -/
theorem regPerm_read {s : State} {b : Nat} (who : Requester) (off : Nat) (hp : blockPresent s.variant b = true)
    (hr : s.tenantReads (s.reqHank who) b off = true) : s.regPerm who b off false = .ok := by simp [State.regPerm, hp, hr]

theorem regRead_ok {s : State} {who : Requester} {b off : Nat} (hh : s.reqHank who ≠ noHank) (hp : s.regPerm who b off false = .ok) :
    s.regRead who b off = s.readWord who b off := by
  simp [State.regRead, asHank_of_hank hh, hp]

theorem readWord_latching {s : State} {who : Requester} {b off : Nat} (h : latching b off = true) :
    s.readWord who b off = (s.latch who b off).servedWord (s.regWord who b off) := if_pos h

theorem readWord_rearming {s : State} {who : Requester} {b off : Nat} (h : latching b off = false) (h' : rearming b off = true) :
    s.readWord who b off = (s.rearm who b).servedWord (s.regWord who b off) := by simp [State.readWord, h, h']

/-- R60: the latch holds the high half as it stood at the read of the low word. -/
theorem find_latch (s : State) (who : Requester) (b off : Nat) :
    (s.latch who b off).latches.find? (fun e => e.1 == latchKey who b (off + 4)) =
      some (latchKey who b (off + 4), s.regWord who b (off + 4)) := by
  have hnone : (s.latches.filter (fun e => e.1 != latchKey who b (off + 4))).find? (fun e => e.1 == latchKey who b (off + 4)) = none := by
    simp [List.find?_eq_none]
  simp only [State.latch, List.find?_append, hnone]
  simp

theorem regWord_time (s : State) (who : Requester) :
    s.regWord who 2 0 = s.tck.time % 2 ^ 32 ∧ s.regWord who 2 4 = s.tck.time / 2 ^ 32 % 2 ^ 32 := by
  simp [State.regWord, State.tckWord]

theorem regWord_fabric (s : State) (who : Requester) (off : Nat) : s.regWord who 5 off = s.fabWord off := by simp [State.regWord]

section
variable {s : State} {who : Requester} (hh : s.reqHank who ≠ noHank)
include hh

/-- R60: the read of the low word of TIME_NS latches the high word for its requester. -/
theorem exec_latchingLowRead_time : exec (.latchingLowRead who 2 0) s =
    .next (((fresh s).latch who 2 0).servedWord (s.tck.time % 2 ^ 32)) := by
  have hp : (fresh s).regPerm who 2 0 false = .ok := regPerm_read who 0 rfl (by simp [State.tenantReads])
  change Host.Outcome.next ((fresh s).regRead who 2 0) = _
  rw [regRead_ok (s := fresh s) hh hp, readWord_latching rfl, (regWord_time (fresh s) who).1]
  rfl

/-- R145: the read of the low word of the decode error's address lets its latch take the next error. -/
theorem exec_errLatchRearmRead_decode : exec (.errLatchRearmRead who 5 4) s =
    .next (((fresh s).rearm who 5).servedWord (s.regWord who 5 4)) := by
  have hp : (fresh s).regPerm who 5 4 false = .ok := regPerm_read who 4 rfl (by simp [State.tenantReads])
  change Host.Outcome.next ((fresh s).regRead who 5 4) = _
  rw [regRead_ok (s := fresh s) hh hp, readWord_rearming rfl rfl, regWord_fabric, regWord_fabric]
  rfl

end

end Sys2Proof.Machine
end

section
namespace Sys2Proof.Proofs

open Machine Safety

/-- Settles O44: each clause is what one register access does. -/
theorem singleRegisterCommands : Obligations.SingleRegisterCommands := by
  intro s who v hh
  refine ⟨?_, ?_, ?_, ?_, ?_, ?_⟩
  · exact fun h0 => exec_peakWrite v hh h0
  · exact fun j hj => ⟨_, exec_jobSlotAcquire hj, peak_admitJob (fresh s) j.id⟩
  · exact fun h0 hr => exec_jobReserveWrite v hh h0 hr
  · exact fun p hp h0 hr _ => exec_drainTicksWrite v hh h0 hp hr
  · refine ⟨_, exec_latchingLowRead_time hh, rfl, ?_, rfl⟩
    have hhi : (fresh s).regWord who 2 4 = s.tck.time / 2 ^ 32 % 2 ^ 32 := (regWord_time (fresh s) who).2
    exact hhi ▸ find_latch (fresh s) who 2 0
  · exact exec_errLatchRearmRead_decode hh

end Sys2Proof.Proofs
end

section
/-! SUPPORT. What the records of an image write when they are applied: neither the Warp's registers nor OTP (02 R45, R54). -/

namespace Sys2Proof.Machine

/-- The Warp's registers and OTP. -/
def State.warpView (s : State) : Wrp × Otp := (s.wrp, s.nv.otp)

theorem warpView_of_sansIslands {s t : State} (h : t.sansIslands = s.sansIslands) : t.warpView = s.warpView :=
  (congrArg State.warpView h :)

theorem warpView_of_sansRecords {s t : State} (h : t.sansRecords = s.sansRecords) : t.warpView = s.warpView :=
  warpView_of_sansIslands (sansIslands_of_sansRecords h)

theorem warpView_of_change {s t : State} {es : List JEntry} {b : Bool} (h : s.change es = (b, t)) : t.warpView = s.warpView :=
  warpView_of_sansIslands (sansIslands_of_change h)

theorem warpView_foldl {α : Type} {f : State → α → State} (h : ∀ s x, (f s x).warpView = s.warpView) (l : List α) (s : State) :
    (l.foldl f s).warpView = s.warpView := foldl_keeps State.warpView h l s

section
variable (s : State) (m : Image)

/-! ### The state's own updates -/

@[simp] theorem warpView_pulse (e : Nat) : (s.pulse e).warpView = s.warpView := warpView_of_sansRecords (sansRecords_pulse s e)
@[simp] theorem warpView_fact (e : JEntry) : (s.fact e).warpView = s.warpView := warpView_of_sansRecords (sansRecords_fact s e)
@[simp] theorem warpView_appDecide : s.appDecide.warpView = s.warpView := warpView_of_sansIslands (sansIslands_appDecide s)
@[simp] theorem warpView_setPly (p : Nat) (x : Ply) : (s.setPly p x).warpView = s.warpView := rfl
@[simp] theorem warpView_setArr (a : Nat) (x : WArray) : (s.setArr a x).warpView = s.warpView := rfl
@[simp] theorem warpView_setTile (t : Nat) (x : Tile) : (s.setTile t x).warpView = s.warpView := rfl
@[simp] theorem warpView_setRoute (n : Nat) (x : Route) : (s.setRoute n x).warpView = s.warpView := rfl
@[simp] theorem warpView_setDram (i : Nat) (x : Dram) : (s.setDram i x).warpView = s.warpView := rfl
@[simp] theorem warpView_setEth (p : Nat) (x : Eth) : (s.setEth p x).warpView = s.warpView := rfl
@[simp] theorem warpView_setIsl (i : Nat) (x : Island) : (s.setIsl i x).warpView = s.warpView := rfl
@[simp] theorem warpView_arrays (x : NMap WArray) : ({ s with arrays := x } : State).warpView = s.warpView := rfl
@[simp] theorem warpView_routes (x : NMap Route) : ({ s with routes := x } : State).warpView = s.warpView := rfl
@[simp] theorem warpView_crd (x : Crd) : ({ s with crd := x } : State).warpView = s.warpView := rfl

@[simp] theorem warpView_retier : s.retier.warpView = s.warpView := by
  unfold State.retier
  dsimp only
  split
  · rfl
  · simp only [warpView_pulse, warpView_fact]
    rfl

/-! ### Hanks, pools and plies -/

@[simp] theorem warpView_applyHank (new : Bool) (r : HankRec) : (s.applyHank new r).warpView = s.warpView := by
  cases new <;> rfl

@[simp] theorem warpView_placePool (r : PoolRec) (places : List Placement) : (s.placePool m r places).warpView = s.warpView := by
  unfold State.placePool
  split
  · dsimp only
    split <;> rfl
  · rfl

@[simp] theorem warpView_projectChan (n scope : Nat) : (s.projectChan m n scope).warpView = s.warpView := rfl

@[simp] theorem warpView_plyReset (r : PlyRec) (same : Bool) : (s.plyReset m r same).warpView = s.warpView :=
  warpView_foldl (fun s n => warpView_projectChan s m n r.id) _ _

/-! ### Arrays and routes -/

@[simp] theorem warpView_setTiles (f : State → Nat → Tile) (l : List Nat) :
    (l.foldl (fun s t => s.setTile t (f s t)) s).warpView = s.warpView := warpView_foldl (fun s t => warpView_setTile s t _) l s

@[simp] theorem warpView_formArray (a : Nat) : (s.formArray a).warpView = s.warpView := by
  unfold State.formArray
  dsimp only
  split
  · rfl
  · split <;> simp

@[simp] theorem warpView_formRoute (n : Nat) : (s.formRoute n).warpView = s.warpView := by
  unfold State.formRoute
  dsimp only
  split
  · rfl
  · split <;> rfl

@[simp] theorem warpView_chainArrays (p : Nat) : (s.chainArrays m p).warpView = s.warpView :=
  (warpView_foldl (fun s r => by simp) _ _).trans (warpView_foldl (fun s e => by simp) _ s)

@[simp] theorem warpView_programRoutes (p : Nat) : (s.programRoutes m p).warpView = s.warpView :=
  (warpView_foldl (fun s r => by simp) _ _).trans (warpView_foldl (fun s e => by simp) _ s)

/-! ### The device's registers -/

@[simp] theorem warpView_projectCore : (s.projectCore m).warpView = s.warpView :=
  (warpView_foldl (fun s n => warpView_projectChan s m n 0xFF) _ _).trans (warpView_foldl (fun s i => warpView_setDram s i _) _ _)

@[simp] theorem warpView_projectLinks : (s.projectLinks m).warpView = s.warpView :=
  warpView_foldl (fun s p => warpView_setEth s p _) _ _

@[simp] theorem warpView_projectPower : (s.projectPower m).warpView = s.warpView :=
  warpView_foldl (fun s i => warpView_setIsl s i _) _ _

@[simp] theorem warpView_projectDevice : (s.projectDevice m).warpView = s.warpView :=
  (warpView_projectPower _ m).trans ((warpView_projectLinks _ m).trans (warpView_projectCore s m))

/-! ### The end of weaving -/

/-- The registers of the Warp with a command ended. -/
def Wrp.ended (w : Wrp) (code auth : Nat) : Wrp := { w with result := { w.result with done := true, authority := auth, code := code } }

/-- The registers of a device woven with an image: its serial and digest are shown, and no command is busy. -/
def Wrp.woven (w : Wrp) (m : Image) : Wrp := { w with
  image := some m, weaving := none, device := 2, serial := m.serial, digest := m.digest, result := { w.result with busy := false } }

/-- OTP with the anti-rollback counter of Warp images raised to an image's index. -/
def Otp.raised (o : Otp) (m : Image) : Otp := { o with arb := o.arb.set 5 (max (o.arb.getD 5 0) m.rollback) }

theorem arb_raised {o : Otp} (h : 5 < o.arb.length) : (o.raised m).arb.getD 5 0 = max (o.arb.getD 5 0) m.rollback := by
  simp [Otp.raised, List.getD, h]

@[simp] theorem warpView_wrpEnd (code auth : Nat) : (s.wrpEnd code auth).warpView = (s.wrp.ended code auth, s.nv.otp) :=
  warpView_pulse _ _

/-- R45 t4, R41: of the Warp's registers and OTP, the end of weaving writes the image that was weaving, the answer and the counter. -/
theorem warpView_weaveDone (places : List Placement) {o : Nat} (h : s.wrp.weaving = some (m, o)) :
    (s.weaveDone places).warpView = ((s.wrp.woven m).ended 0 0, s.nv.otp.raised m) := by
  unfold State.weaveDone
  rw [h]
  dsimp -zeta only
  extract_lets w result boot s₁ s₂ s₃ s₄ s₅ s₆ s₇ s₈ s₉
  have h₁ : s₁.warpView = (s.wrp.woven m, s.nv.otp) := rfl
  have h₂ : s₂.warpView = s₁.warpView := warpView_foldl (fun s r => warpView_applyHank s true r) _ s₁
  have h₃ : s₃.warpView = s₂.warpView := warpView_foldl (fun s r => warpView_placePool s m r places) _ s₂
  have h₄ : s₄.warpView = s₃.warpView := warpView_foldl (fun s r => warpView_plyReset s m r false) _ s₃
  have h₅ : s₅.warpView = s₄.warpView := warpView_foldl (fun s _ => warpView_crd s _) _ s₄
  have h₆ : s₆.warpView = s₅.warpView := warpView_foldl (fun s r => by simp) _ s₅
  have h₇ : s₇.warpView = s₆.warpView := warpView_programRoutes s₆ m 0xFF
  have h₈ : s₈.warpView = s₇.warpView := warpView_foldl (fun s r => warpView_setPly s _ _) _ s₇
  have h₉ : s₉.warpView = s₈.warpView := (warpView_appDecide _).trans (warpView_projectDevice s₈ m)
  have hend : s₉.warpView = (s.wrp.woven m, s.nv.otp) := by rw [h₉, h₈, h₇, h₆, h₅, h₄, h₃, h₂, h₁]
  rw [warpView_retier, warpView_wrpEnd]
  exact congrArg (fun v : Wrp × Otp => (v.1.ended 0 0, v.2.raised m)) hend

end

end Sys2Proof.Machine
end

section
/-! SUPPORT. LOAD, REWEAVE, CANCEL and the granule boundary, each outcome once (02 R40, R44 to R47, R52; 15 R369). -/

namespace Sys2Proof.Machine

open Safety

/-! ### The commands -/

section
variable {s : State} {from_ : Authority}

theorem exec_load (h : s.noSession from_ = false) : exec (.load from_) s = .next ((fresh s).loadWarp from_) :=
  congrArg _ (if_neg (ne_true_of_eq_false h))

theorem exec_reweave (h : s.noSession from_ = false) (p : Nat) : exec (.reweave from_ p) s = .next ((fresh s).reweaveCmd from_ p) :=
  congrArg _ (if_neg (ne_true_of_eq_false h))

theorem exec_cancel (h : s.noSession from_ = false) (p : Nat) : exec (.cancel from_ p) s = .next ((fresh s).cancelCmd from_ p) :=
  congrArg _ (if_neg (ne_true_of_eq_false h))

/-- R369: a console without a session is answered so, whatever it asks of the Warp. -/
theorem exec_warp_noSession (h : s.noSession from_ = true) (p : Nat) :
    ∀ cmd ∈ [Instr.load from_, .reweave from_ p, .cancel from_ p], exec cmd s = .next ((fresh s).answer from_ 0x03 0 []) := by
  simp only [List.forall_mem_cons, List.not_mem_nil, false_implies, implies_true, and_true]
  exact ⟨congrArg _ (if_pos h), congrArg _ (if_pos h), congrArg _ (if_pos h)⟩

end

/-! ### Refusals (R40, R44, R46, R52) -/

section
variable (s : State) (from_ : Authority) (p : Nat)

/-- R40: a code below 0x10 is not journalled. -/
theorem wrpRefuse_unrecorded {code : Nat} (new : Nat) (h : code < 0x10) : s.wrpRefuse from_ p code new = s.wrpEnd code 0 := if_pos h

@[simp] theorem wrpSeq_wrpBusy : s.wrpSeq.wrpBusy = s.wrpBusy := rfl
@[simp] theorem wrpSeq_pending : s.wrpSeq.wrp.pending = s.wrp.pending := rfl
@[simp] theorem wrpSeq_device : s.wrpSeq.wrp.device = s.wrp.device := rfl

variable {s from_ p}

theorem loadWarp_busy (h : s.wrpBusy = true) : s.loadWarp from_ = s.wrpSeq.wrpEnd 0x01 0 := by
  simp [State.loadWarp, wrpRefuse_unrecorded, h]

theorem reweaveCmd_busy (h : s.wrpBusy = true) : s.reweaveCmd from_ p = s.wrpSeq.wrpEnd 0x01 0 := by
  simp [State.reweaveCmd, wrpRefuse_unrecorded, h]

theorem cancelCmd_busy (h : s.wrpBusy = true) : s.cancelCmd from_ p = s.wrpSeq.wrpEnd 0x01 0 := by
  simp [State.cancelCmd, wrpRefuse_unrecorded, h]

section
variable (hbusy : s.wrpBusy = false)
include hbusy

theorem cancelCmd_unwoven (hdev : s.wrp.device ≠ 2) : s.cancelCmd from_ p = s.wrpSeq.wrpEnd 0x03 0 := by
  simp [State.cancelCmd, wrpRefuse_unrecorded, hbusy, hdev]

variable (hpend : s.wrp.pending = none)
include hpend

theorem loadWarp_woven (hdev : s.wrp.device ≠ 0) : s.loadWarp from_ = s.wrpSeq.wrpEnd 0x02 0 := by
  simp [State.loadWarp, wrpRefuse_unrecorded, hbusy, hpend, hdev]

theorem reweaveCmd_unwoven (hdev : s.wrp.device ≠ 2) : s.reweaveCmd from_ p = s.wrpSeq.wrpEnd 0x03 0 := by
  simp [State.reweaveCmd, wrpRefuse_unrecorded, hbusy, hpend, hdev]

theorem cancelCmd_nothingPending (hdev : s.wrp.device = 2) : s.cancelCmd from_ p = s.wrpSeq.wrpEnd 0x05 0 := by
  simp [State.cancelCmd, wrpRefuse_unrecorded, hbusy, hpend, hdev]

/-! ### Acceptance -/

/-- R45: with an image that passes the checks, no lock above and room in the journal, LOAD starts weaving. -/
theorem loadWarp_accepted {b : List Byte} {s1 s2 : State} (hdev : s.wrp.device = 0) (hsrc : s.wrpSeq.imageSource = (some b, s1))
    (hcode : s1.imageCode b s1.wrp.imgLen none = 0) (hlock : s1.lockedOut from_ = none)
    (hchange : s1.change [{ origin := authOrigin from_, kind := 1, object := jObj 2 0xFF, new := (parseImage b).serial
                            data := digestData (parseImage b).digest }] = (true, s2)) :
    s.loadWarp from_ = ({ s2 with wrp := { s2.wrp with
      device := 1, weaving := some (parseImage b, authOrigin from_), result := { s2.wrp.result with busy := true } } } :
        State).quarantineNamed (parseImage b) := by
  simp [State.loadWarp, hbusy, hpend, hdev, hsrc, hcode, hlock, hchange]

/-- R46: under the same conditions REWEAVE of a woven device makes the image pending for its ply. -/
theorem reweaveCmd_accepted {b : List Byte} {s1 s2 : State} (hdev : s.wrp.device = 2) (hsrc : s.wrpSeq.imageSource = (some b, s1))
    (hcode : s1.imageCode b s1.wrp.imgLen (some p) = 0) (hlock : s1.lockedOut from_ = none)
    (hchange : s1.change [{ origin := authOrigin from_, kind := 1, aux := p, object := jObj 2 p, old := s1.wrp.serial
                            new := (parseImage b).serial, data := digestData (parseImage b).digest }] = (true, s2)) :
    s.reweaveCmd from_ p = ({ s2 with wrp := { s2.wrp with
      pending := some { ply := p, image := parseImage b, origin := authOrigin from_ } } } : State).wrpEnd 0 0 := by
  simp [State.reweaveCmd, hbusy, hpend, hdev, hsrc, hcode, hlock, hchange]

end

/-- R52: CANCEL takes the pending reweave of its ply back. -/
theorem cancelCmd_accepted {d : Pending} {s2 : State} (hbusy : s.wrpBusy = false) (hdev : s.wrp.device = 2)
    (hpend : s.wrp.pending = some d) (hply : d.ply = p) (hlock : s.wrpSeq.lockedOut from_ = none)
    (hchange : s.wrpSeq.change [{ origin := authOrigin from_, kind := 1, code := 0x42, aux := p, object := jObj 2 p
                                  old := d.image.serial, new := s.wrpSeq.wrp.serial }] = (true, s2)) :
    s.cancelCmd from_ p = s2.clearPending.wrpEnd 0x42 0 := by
  simp [State.cancelCmd, hbusy, hdev, hpend, hply, hlock, hchange]

end

/-! ### The granule boundary (R47, R51) -/

section
variable {s : State} {d : Pending} (places : List Placement)

/-- No job of the ply holds a slot: the ply has none in flight. -/
theorem plyInFlight_false {p : Nat} (h : ∀ j ∈ s.jobs, j.ply = p → j.holds = false) : s.plyInFlight p = false := by
  simpa [State.plyInFlight] using h

/-- R47: the step of a ply that is EMPTY, or HELD with nothing in flight, is reached. -/
theorem granuleStep_reached (hpend : s.wrp.pending = some d)
    (hst : (s.ply d.ply).state = 0 ∨ ((s.ply d.ply).state = 3 ∧ ∀ j ∈ s.jobs, j.ply = d.ply → j.holds = false)) :
    s.granuleStep places = s.reweaveStep d places (s.ply d.ply).tick := by
  have hcond : (s.ply d.ply).state = 0 ∨ ((s.ply d.ply).state = 3 ∧ !s.plyInFlight d.ply) :=
    hst.imp_right (And.imp_right fun h => by simp [plyInFlight_false h])
  unfold State.granuleStep
  rw [hpend]
  exact if_pos hcond

/-- R51: new records that can weave are applied. -/
theorem reweaveStep_weavable (tick : Nat) (h : ∀ r, plyRec? d.image d.ply = some r → s.plyEval d.image r ≠ 3) :
    s.reweaveStep d places tick = s.applyReweave d places tick := by
  unfold State.reweaveStep
  cases hr : plyRec? d.image d.ply with
  | none => rfl
  | some r => exact if_neg (by simpa using h r hr)

end

end Sys2Proof.Machine
end

section
namespace Sys2Proof.Proofs

open Machine Safety

/-- Settles O28: LOAD's acceptance, and what the end of weaving leaves in the Warp's registers and OTP. -/
theorem loadWeavesTheImage : Obligations.LoadWeavesTheImage := by
  refine ⟨?_, ?_⟩
  · intro s from_ b s1 s2 hses hbusy hpend hdev hsrc hcode hlock hchange
    rw [exec_load hses, loadWarp_accepted (s := fresh s) hbusy hpend hdev hsrc hcode hlock hchange]
  · intro s places m o hw harb
    have hview := warpView_weaveDone (fresh s) m places hw
    have hwrp : ((fresh s).weaveDone places).wrp = (s.wrp.woven m).ended 0 0 := congrArg Prod.fst hview
    have hotp : ((fresh s).weaveDone places).nv.otp = s.nv.otp.raised m := congrArg Prod.snd hview
    refine ⟨(fresh s).weaveDone places, rfl, ?_⟩
    rw [hwrp, hotp, arb_raised m harb]
    exact ⟨rfl, rfl, rfl, rfl, rfl, rfl, rfl, rfl, le_max_right _ _, le_max_left _ _⟩

end Sys2Proof.Proofs
end

section
namespace Sys2Proof.Proofs

open Machine Safety

/-- Settles O29: each command of the Warp, accepted and refused, and the boundary that runs the step. -/
theorem warpChangesArePendingOrRefused : Obligations.WarpChangesArePendingOrRefused := by
  refine ⟨?_, ?_⟩
  · intro s from_ p hses hbusy hdev
    refine ⟨?_, ?_, ?_⟩
    · intro b s1 s2 hpend hsrc hcode hlock hchange
      rw [exec_reweave hses, reweaveCmd_accepted (s := fresh s) hbusy hpend hdev hsrc hcode hlock hchange]
    · intro d s2 hpend hply hlock hchange
      have hwrp : (s2.clearPending.wrpEnd 0x42 0).wrp = s2.clearPending.wrp.ended 0x42 0 :=
        congrArg Prod.fst (warpView_wrpEnd s2.clearPending 0x42 0)
      have himage : s2.wrp.image = s.wrp.image := congrArg (fun v => v.1.image) (warpView_of_change hchange)
      refine ⟨_, (exec_cancel hses p).trans (congrArg _ (cancelCmd_accepted (s := fresh s) hbusy hdev hpend hply hlock hchange)), ?_⟩
      rw [hwrp]
      exact ⟨rfl, himage, rfl, rfl⟩
    · intro d places hpend hst hweave
      have hstep := granuleStep_reached (s := fresh s) places hpend hst
      rw [reweaveStep_weavable (s := fresh s) places _ hweave] at hstep
      exact congrArg _ hstep
  · intro s from_ p
    refine ⟨fun h => exec_warp_noSession h p, fun hses hbusy => ?_, fun hses hbusy hpend => ?_⟩
    · exact ⟨(exec_load hses).trans (congrArg _ (loadWarp_busy (s := fresh s) hbusy)),
        (exec_reweave hses p).trans (congrArg _ (reweaveCmd_busy (s := fresh s) hbusy)),
        (exec_cancel hses p).trans (congrArg _ (cancelCmd_busy (s := fresh s) hbusy))⟩
    · refine ⟨fun hdev => ?_, fun hdev => ⟨?_, ?_⟩, fun hdev => ?_⟩
      · exact (exec_load hses).trans (congrArg _ (loadWarp_woven (s := fresh s) hbusy hpend hdev))
      · exact (exec_reweave hses p).trans (congrArg _ (reweaveCmd_unwoven (s := fresh s) hbusy hpend hdev))
      · exact (exec_cancel hses p).trans (congrArg _ (cancelCmd_unwoven (s := fresh s) hbusy hdev))
      · exact (exec_cancel hses p).trans (congrArg _ (cancelCmd_nothingPending (s := fresh s) hbusy hpend hdev))

end Sys2Proof.Proofs
end

section
/-! SUPPORT. The nanosecond of an idle block when an access waits at a Skein bank (05 R130; log 3, log 189). -/

namespace Sys2Proof.Machine

open Safety

/-- A read by the PCIe function of a byte of Skein, whose bank is taken when it arrives. -/
def heldRead : MemReq := { who := .pf, addr := skeinBase, len := 1, data := none, ecc := 0, held := true }

/-- The block after reset, out of POR. -/
def released : State := { State.reset with pins := { State.reset.pins with porN := true } }

/-- The same with the read waiting at its bank. -/
def readWaits : State := { released with fab := { released.fab with waits := [{ work := .request heldRead 0 0, accepted := true }] } }

/-- The block comes to the refuting state by a command. -/
theorem exec_heldRead : exec (.memoryRequest heldRead) released = .next readWaits :=
  (exec_memoryRequest (by decide)).trans (congrArg Host.Outcome.next (by decide +kernel))

theorem step_readWaits : step readWaits = .next readWaits.idle := rfl

/-- Within the nanosecond the bank serves the read. -/
theorem waits_idle_readWaits : readWaits.idle.fab.waits = [] := by decide +kernel

end Sys2Proof.Machine
end

section
namespace Sys2Proof.Proofs

open Machine Safety

/-- Refutes O39: without corrections a nanosecond of the idle block is said to change TCK alone. A read that waits at a Skein bank is served
and answered in it (R130); the first clause has no premise (`Quiet`) that nothing waits. -/
theorem not_timeIsSteppedOrSlewed : ¬ Obligations.TimeIsSteppedOrSlewed := by
  unfold Obligations.TimeIsSteppedOrSlewed
  intro h
  obtain ⟨t, hstep, hframe, -⟩ := (h readWaits .pf 0).1 rfl rfl rfl rfl (by decide) rfl
  obtain rfl : readWaits.idle = t := Host.Outcome.next.inj (step_readWaits.symm.trans hstep)
  have hwaits : readWaits.idle.fab.waits = readWaits.fab.waits := (congrArg (fun u : State => u.fab.waits) hframe :)
  rw [waits_idle_readWaits] at hwaits
  exact List.cons_ne_nil _ _ hwaits.symm

end Sys2Proof.Proofs
end

section
/-! SUPPORT. Which tasks the cores run, which no write of memory, no entry of the journal and no pulse changes (04 R91, R95; 06 R149). -/

namespace Sys2Proof.Machine

/-- The state of each core and the job of its task. -/
def State.tasks (s : State) (c : Nat) : Nat × Option Nat := ((s.core c).state, (s.core c).job)

/-- A core that keeps its state and its job. -/
theorem tasks_setCore {s : State} {c : Nat} {k : Core} (hstate : k.state = (s.core c).state) (hjob : k.job = (s.core c).job) :
    (s.setCore c k).tasks = s.tasks := by
  funext d
  rcases eq_or_ne d c with rfl | hne
  · simp [State.tasks, hstate, hjob]
  · simp [State.tasks, State.core_setCore_ne _ _ _ _ hne]

section
variable (s : State)

/-! ### Fields that hold no core -/

@[simp] theorem tasks_evt (x : Evt) : ({ s with evt := x } : State).tasks = s.tasks := rfl
@[simp] theorem tasks_lea (x : Lea) : ({ s with lea := x } : State).tasks = s.tasks := rfl
@[simp] theorem tasks_fab (x : Fab) : ({ s with fab := x } : State).tasks = s.tasks := rfl
@[simp] theorem tasks_written (x : List Nat) : ({ s with written := x } : State).tasks = s.tasks := rfl
@[simp] theorem tasks_lostOwner (x : List Nat) : ({ s with lostOwner := x } : State).tasks = s.tasks := rfl
theorem tasks_ownersLogged (x : List Nat) (y : Fab) : ({ s with lostOwner := x, fab := y } : State).tasks = s.tasks := rfl
@[simp] theorem tasks_mem (x : List Host.Cell) : ({ s with mem := x } : State).tasks = s.tasks := rfl
theorem tasks_granule (x : List Host.Cell) (y : List Nat) : ({ s with mem := x, written := y } : State).tasks = s.tasks := rfl
@[simp] theorem tasks_setHank (h : Nat) (x : Hank) : (s.setHank h x).tasks = s.tasks := rfl
@[simp] theorem tasks_report (i cause : Nat) : (s.report i cause).tasks = s.tasks := rfl
@[simp] theorem tasks_accessError (h a kind : Nat) : (s.accessError h a kind).tasks = s.tasks := rfl
@[simp] theorem tasks_unlog (lo hi : Nat) : (s.unlog lo hi).tasks = s.tasks := rfl
@[simp] theorem tasks_mend (lo hi : Nat) : (s.mend lo hi).tasks = s.tasks := rfl

/-! ### Pulses and entries -/

/-- A delivery pends an input of a core, and its task runs on. -/
@[simp] theorem tasks_deliver (e : Nat) : (s.deliver e).tasks = s.tasks := by
  unfold State.deliver
  extract_lets w owner c k s₁ s₂ m f
  have h₁ : s₁.tasks = s.tasks := by
    unfold s₁
    split
    · exact tasks_setCore rfl rfl
    · rfl
  have h₂ : s₂.tasks = s₁.tasks := by unfold s₂; split <;> rfl
  rw [← h₁, ← h₂]
  split <;> rfl

@[simp] theorem tasks_pulse (e : Nat) : (s.pulse e).tasks = s.tasks := by
  unfold State.pulse State.pulseN
  split
  · rfl
  · exact (tasks_deliver _ e).trans (tasks_evt s _)

@[simp] theorem tasks_jRing (e : JEntry) : (s.jRing e).tasks = s.tasks := by
  unfold State.jRing
  dsimp only
  repeat' split
  all_goals simp

@[simp] theorem tasks_jFact (e : JEntry) : (s.jFact e).tasks = s.tasks := by
  unfold State.jFact
  dsimp only
  repeat' split
  all_goals simp

@[simp] theorem tasks_programEpoch (e : Nat) (ok : Bool) : (s.programEpoch e ok).tasks = s.tasks := by
  unfold State.programEpoch State.programArea
  dsimp only
  repeat' split
  all_goals rfl

@[simp] theorem tasks_fact (e : JEntry) : (s.fact e).tasks = s.tasks := by
  unfold State.fact State.jRoll State.beginEpoch
  split <;> simp

/-! ### Memory -/

@[simp] theorem tasks_countError (a kind req : Nat) : (s.countError a kind req).tasks = s.tasks := by
  unfold State.countError
  dsimp only
  split <;> rfl

@[simp] theorem tasks_correctedError (a req : Nat) : (s.correctedError a req).tasks = s.tasks := by
  unfold State.correctedError
  dsimp only
  repeat' split
  all_goals simp

@[simp] theorem tasks_correctAll (a req : Nat) (us : List Nat) : (s.correctAll a req us).tasks = s.tasks :=
  foldl_keeps State.tasks (fun s u => by simp [State.corrected]) _ s

@[simp] theorem tasks_uncorrectable (a req : Nat) : (s.uncorrectable a req).tasks = s.tasks := by
  unfold State.uncorrectable
  dsimp only
  split <;> simp

@[simp] theorem tasks_tagTouch (line : Nat) (dirty : Bool) : (s.tagTouch line dirty).tasks = s.tasks := by
  unfold State.tagTouch
  dsimp only
  repeat' split
  all_goals simp

@[simp] theorem tasks_tagUpdate (lo hi : Nat) : (s.tagUpdate lo hi).tasks = s.tasks := by
  unfold State.tagUpdate
  dsimp only
  split
  · rfl
  · exact foldl_keeps State.tasks (fun s i => tasks_tagTouch s _ _) _ s

/-- A rebuilt line counts its error, drops its granules' tags, and is journalled. -/
@[simp] theorem tasks_tagRebuild (a req : Nat) : (s.tagRebuild a req).tasks = s.tasks := by
  unfold State.tagRebuild
  extract_lets base gs line u s₁ s₂ fab s₃ st s₄
  clear_value base gs line u
  have h₂ : s₂.tasks = s.tasks := (tasks_written s₁ _).trans (tasks_countError s line 3 req)
  have h₃ : s₃.tasks = s₂.tasks := by
    unfold s₃
    split
    · rw [tasks_report, tasks_pulse, tasks_lostOwner]
    · exact tasks_ownersLogged s₂ _ _
  have h₄ : s₄.tasks = s₃.tasks := (tasks_pulse _ _).trans (tasks_fact s₃ _)
  rw [tasks_tagTouch, tasks_mend, tasks_unlog, h₄, h₃, h₂]

@[simp] theorem tasks_tagFetch (a req : Nat) : (s.tagFetch a req).tasks = s.tasks := by
  unfold State.tagFetch
  dsimp only
  repeat' split
  all_goals simp

@[simp] theorem tasks_putBytes (a : Nat) (bs : List Byte) : (s.putBytes a bs).tasks = s.tasks := by
  unfold State.putBytes
  simp only [tasks_mend, tasks_unlog, tasks_mem]
  split
  · rfl
  · simp only [tasks_tagUpdate, tasks_mend, tasks_granule]

@[simp] theorem tasks_memWrite (h req a : Nat) (bs : List Byte) : (s.memWrite h req a bs).2.tasks = s.tasks := by
  unfold State.memWrite
  dsimp only
  repeat' split
  all_goals simp

theorem tasks_of_memWrite {t : State} {h req a : Nat} {bs : List Byte} {st : Status} (hw : s.memWrite h req a bs = (st, t)) :
    t.tasks = s.tasks := by rw [← tasks_memWrite s h req a bs, hw]

/-! ### Local memories -/

/-- Bytes put into X and Y leave the task as it is. -/
theorem task_lput (k : Core) (a : Nat) (bs : List Byte) : (k.lput a bs).state = k.state ∧ (k.lput a bs).job = k.job := by
  induction bs generalizing k a with
  | nil => exact ⟨rfl, rfl⟩
  | cons b bs ih =>
    have hput : (k.lput1 a b).state = k.state ∧ (k.lput1 a b).job = k.job := by
      unfold Core.lput1
      split <;> exact ⟨rfl, rfl⟩
    obtain ⟨hstate, hjob⟩ := ih (k.lput1 a b) (a + 1)
    exact ⟨hstate.trans hput.1, hjob.trans hput.2⟩

theorem task_wput (k : Core) (off : Nat) (bs : List Byte) : (k.wput off bs).state = k.state ∧ (k.wput off bs).job = k.job := by
  unfold Core.wput
  split
  · exact task_lput k off bs
  · exact ⟨rfl, rfl⟩

/-! ### Engines' writes and completion records -/

/-- Block by block, an engine's write goes to memory or to a core's window, or is an error of its address. -/
@[simp] theorem tasks_engWrite (h req a : Nat) (bs : List Byte) : (s.engWrite h req a bs).2.2.tasks = s.tasks := by
  refine foldl_keeps (fun acc : Status × Nat × State => acc.2.2.tasks) (fun acc p => ?_) _ _
  obtain ⟨st, x, u⟩ := acc
  cases st
  case ok =>
    dsimp only
    split
    case h_1 | h_2 => split <;> exact tasks_of_memWrite u ‹_›
    case h_3 c off _ =>
      split
      · obtain ⟨hstate, hjob⟩ := task_wput (u.core c) off ((bs.drop (p.1 - a)).take p.2)
        exact tasks_setCore hstate hjob
      · rfl
    all_goals rfl
  all_goals rfl

@[simp] theorem tasks_hankPulse (h e : Nat) : (s.hankPulse h e).tasks = s.tasks := by
  unfold State.hankPulse
  repeat' split
  all_goals simp

@[simp] theorem tasks_countEnd (j : Job) (st : JobStatus) : (s.countEnd j st).tasks = s.tasks := by
  unfold State.countEnd
  dsimp only
  split <;> rfl

/-- R85: a completion record is a write of memory and a pulse. -/
@[simp] theorem tasks_writeRecord (j : Job) (st : JobStatus) (detail : Nat) : (s.writeRecord j st detail).tasks = s.tasks := by
  unfold State.writeRecord
  dsimp only
  split <;> simp

end

end Sys2Proof.Machine
end

section
/-! SUPPORT. Numbers in little-endian bytes, and the fields of a completion record (03 R85, R86). -/

namespace Sys2Proof

@[simp] theorem length_leBytes (n v : Nat) : (leBytes n v).length = n := by
  induction n generalizing v with
  | zero => rfl
  | succ n ih => simp [leBytes, ih]

theorem leNat_leBytes (n v : Nat) : leNat (leBytes n v) = v % 2 ^ (8 * n) := by
  induction n generalizing v with
  | zero => simp [leBytes, leNat, Nat.mod_one]
  | succ n ih => simp [leBytes, leNat, ih, Nat.mul_succ, pow_add, Nat.mul_comm (2 ^ (8 * n)), Nat.mod_mul]

theorem leAt_leBytes (n v : Nat) : leAt (leBytes n v) 0 n = v % 2 ^ (8 * n) := by
  rw [leAt, List.drop_zero, List.take_of_length_le (by simp), leNat_leBytes]

/-- A number that ends within the first bytes. -/
theorem leAt_append_left {a : List Byte} {off n : Nat} (b : List Byte) (h : off + n ≤ a.length) : leAt (a ++ b) off n = leAt a off n := by
  unfold leAt
  rw [List.drop_append_of_le_length (by omega), List.take_append_of_le_length (by simp; omega)]

/-- A number that starts after them. -/
theorem leAt_append_right {a : List Byte} {off : Nat} (b : List Byte) (n : Nat) (h : a.length ≤ off) :
    leAt (a ++ b) off n = leAt b (off - a.length) n := by
  unfold leAt
  rw [List.drop_append, List.drop_eq_nil_of_le h, List.nil_append]

namespace Machine

/-- R85, R86: the 64 bytes, field by field: TAG, TICK, TIME, status, DETAIL, the ticks carried, FLAGS, hank, ply and the reserved bytes. -/
theorem recordBytes_fields {j : Job} {tick time detail : Nat} {st : JobStatus} {overran : Bool} {r : List Byte}
    (hr : recordBytes j tick time st detail overran = r) : r.length = 64
    ∧ leAt r 0 8 = j.tag % 2 ^ 64 ∧ leAt r 8 8 = tick % 2 ^ 64 ∧ leAt r 16 8 = time % 2 ^ 64
    ∧ leAt r 24 1 = st.code % 256 ∧ leAt r 25 1 = detail % 256
    ∧ leAt r 26 1 = (if st = .servedLate then min 255 (tick - j.target) else 0) % 256
    ∧ leAt r 27 1 = (j.cls % 4 + 4 * (j.fate % 2) + 8 * b2n overran + 16 * b2n j.overDeclared) % 256
    ∧ leAt r 28 2 = j.hank % 2 ^ 16 ∧ leAt r 30 1 = j.ply % 256 ∧ leAt r 31 1 = 0 ∧ leAt r 48 16 = 0 := by
  subst hr
  refine ⟨by simp [recordBytes], ?_⟩
  unfold recordBytes
  simp (disch := simp) only [List.append_assoc, leAt_append_right, leAt_append_left, length_leBytes, List.length_cons, List.length_nil,
    Nat.reduceAdd, Nat.reduceSub, Nat.reduceMul, leAt_leBytes]
  simp [leAt, leNat]

end Machine
end Sys2Proof
end

section
/-! SUPPORT. The end of a Spindle task, from TEND to its job (06 R149, R150; 07 R180; 03 R85, R86). -/

namespace Sys2Proof.Machine

open Safety

/-! ### TEND and the end of its bundle -/

/-- A control instruction is legal in slot A alone (R171). -/
theorem slotB_of_legal_control {k : Core} {w : Nat} (hlegal : zLegal k w = true) (hopc : zOpc w = 0x06) : k.slotB = false := by
  simp only [zLegal, hopc, Bool.and_eq_true, Bool.not_eq_true'] at hlegal
  exact hlegal.1

/-- R180: TEND is noted in slot A, and slot B of its bundle is next. -/
theorem exec_tend {s : State} {c w : Nat} (hi : Issues s c w) (hop : isOp 0x06 0x08 w = true) :
    exec (.tend c) s = .next (slotA s c { taken (s.core c) with tend := true }) := by
  have ⟨_, _, hlegal, _⟩ := hi
  have hopc : zOpc w = 0x06 := by simp only [isOp, Bool.and_eq_true, beq_iff_eq] at hop; exact hop.1
  exact congrArg Host.Outcome.next (zagil_slotA s c w _ Core.tendOp _ hi hop rfl (slotB_of_legal_control hlegal hopc))

/-- A NOP in slot B ends its bundle. -/
theorem exec_nop_slotB {s : State} {c w : Nat} (hi : Issues s c w) (hop : isOp 0x00 0x00 w = true) (hb : (s.core c).slotB = true) :
    exec (.nop c) s = .next (slotB s c (taken (s.core c))) :=
  congrArg Host.Outcome.next (zagil_slotB s c w _ Core.nopOp _ hi hop rfl hb)

/-- R149: with TEND in slot A the bundle's end at base level ends the task. -/
theorem slotB_tend_base {s : State} {c : Nat} {k : Core} (ht : k.tend = true) (ha : k.active = 0) :
    slotB s c k = (fresh s).setCore c { k with ended := true, tend := false, slotB := false } := by
  simp [slotB, State.closeBundle, ht, ha]

@[simp] theorem core_updJob (s : State) (id c : Nat) (f : Job → Job) : (s.updJob id f).core c = s.core c := rfl

/-- R150: above base level the bundle's end halts it. -/
theorem slotB_tend_above {s : State} {c : Nat} {k : Core} (ht : k.tend = true) (ha : k.active ≠ 0) :
    ((slotB s c k).core c).state = 4 ∧ ((slotB s c k).core c).faultHalt = true := by
  have hcore : (slotB s c k).core c = { k with tend := false, slotB := false, state := 4, faultHalt := true } := by
    simp only [slotB, State.closeBundle, State.core_setCore, ht, if_true, if_neg ha, State.haltCore, State.setCore_setCore]
    split <;> simp
  rw [hcore]
  exact ⟨rfl, rfl⟩

/-! ### The job of a task that has ended -/

/-- A job's update is found under its ID. -/
theorem job?_updJob {s : State} {id : Nat} {f : Job → Job} {j : Job} (h : s.job? id = some j) (hf : ∀ x, (f x).id = x.id) :
    (s.updJob id f).job? id = some (f j) := by
  have hid : j.id = id := by simpa using List.find?_some h
  have hpred : (fun x : Job => x.id == id) ∘ (fun x => if x.id = id then f x else x) = fun x => x.id == id := by
    funext x
    dsimp only [Function.comp]
    split
    · rw [hf]
    · rfl
  change (s.jobs.map _).find? _ = _
  rw [List.find?_map, hpred, show s.jobs.find? _ = some j from h, Option.map_some, if_pos hid]

/-- A job that has ended is in the table no more. -/
theorem job?_dropJob (s : State) (id : Nat) : (s.dropJob id).job? id = none := by
  simp [State.job?, State.dropJob, State.setJobs, State.jobs]

/-- The status of a job that has done its work: served up to its target tick, and late after it (R86). -/
def State.servedStatus (s : State) (j : Job) : JobStatus := if (s.ply j.ply).tick ≤ j.target then .served else .servedLate

/-- A job's end: the master of a relay whose own job it was learns the status, the record is written and the slot is free
(R85, R86, R414). -/
theorem complete_eq {s : State} {id detail : Nat} {j : Job} (h : s.job? id = some j) (st : JobStatus) : s.complete id st detail =
    (({ s with stw := { s.stw with stages := s.stw.stages.map (fun (x : RelayStage) =>
      if x.own = id ∧ x.ended = 0 then { x with data := [], ended := st.code } else x) } } : State).writeRecord j st detail).dropJob id := by
  unfold State.complete
  rw [h]

theorem serve_eq {s : State} {id : Nat} {j : Job} (h : s.job? id = some j) :
    s.serve id = (s.rhoNote j).complete id (s.servedStatus j) 0 := by
  unfold State.serve
  rw [h]
  rfl

/-- R149: the core of a task that has ended is free, and its job is served with the cycles metered for it. -/
theorem exec_spindleTaskComplete {s : State} {c cycles : Nat} {j : Job} (hstate : (s.core c).state = 3) (hended : (s.core c).ended = true)
    (hjob : (s.core c).job = some j.id) :
    exec (.spindleTaskComplete c cycles) s = .next ((((fresh s).setCore c
      { s.core c with state := 0, job := none, ended := false }).updJob j.id (fun x => { x with usedSpindle := cycles })).serve j.id) := by
  change Host.Outcome.next ((fresh s).taskDone c cycles) = _
  simp only [State.taskDone, fresh_core, hjob, hstate, hended, and_self, if_true]

end Sys2Proof.Machine
end

section
namespace Sys2Proof.Proofs

open Machine Safety

/-- Settles O22: TEND and the end of its bundle; the job of a task that has ended is served; its record's fields. -/
theorem spindleTasksEndTheirJobs : Obligations.SpindleTasksEndTheirJobs := by
  refine ⟨?_, ?_, ?_⟩
  · intro s c w hi
    refine ⟨exec_tend hi, fun hop hb ht ha => ?_, fun hop hb ht ha => ?_⟩
    · rw [exec_nop_slotB hi hop hb, slotB_tend_base (k := taken (s.core c)) ht ha]
    · exact ⟨_, exec_nop_slotB hi hop hb, slotB_tend_above (k := taken (s.core c)) ht ha⟩
  · intro s c cycles j hstate hended hjob hj st s₁ s₂
    have hmetered := job?_updJob (s := (fresh s).setCore c { s.core c with state := 0, job := none, ended := false })
      (f := fun x => { x with usedSpindle := cycles }) hj (fun _ => rfl)
    have hexec : exec (.spindleTaskComplete c cycles) s =
        .next ((s₂.writeRecord { j with usedSpindle := cycles } st 0).dropJob j.id) := by
      rw [exec_spindleTaskComplete hstate hended hjob, serve_eq hmetered, complete_eq (s := s₁) hmetered]
      rfl
    refine ⟨hexec, fun t hnext => ?_⟩
    obtain rfl := Host.Outcome.next.inj (hexec.symm.trans hnext)
    have htask : ((s₂.writeRecord { j with usedSpindle := cycles } st 0).dropJob j.id).tasks c = (0, none) := by
      refine (congrFun (tasks_writeRecord s₂ { j with usedSpindle := cycles } st 0) c).trans ?_
      simp [State.tasks, s₂, s₁, State.rhoNote, State.core, State.updJob, State.setJobs, State.setCore]
    exact ⟨congrArg Prod.fst htask, congrArg Prod.snd htask, job?_dropJob _ _⟩
  · intro j tick time detail st overran htag htick htime hdetail hhank hply r
    obtain ⟨hlen, h0, h8, h16, h24, h25, h26, h27, h28, h30, h31, h48⟩ := recordBytes_fields (r := r) rfl
    have hcode : st.code < 256 := by cases st <;> decide
    have hcarried : (if st = .servedLate then min 255 (tick - j.target) else 0) < 256 := by split <;> omega
    have hflags : j.cls % 4 + 4 * (j.fate % 2) + 8 * b2n overran + 16 * b2n j.overDeclared < 256 := by
      unfold b2n; split <;> split <;> omega
    exact ⟨hlen, h0.trans (Nat.mod_eq_of_lt htag), h8.trans (Nat.mod_eq_of_lt htick), h16.trans (Nat.mod_eq_of_lt htime),
      h24.trans (Nat.mod_eq_of_lt hcode), h25.trans (Nat.mod_eq_of_lt hdetail), h26.trans (Nat.mod_eq_of_lt hcarried),
      (h27.trans (Nat.mod_eq_of_lt hflags)).trans (by simp [b2n]), h28.trans (Nat.mod_eq_of_lt hhank), h30.trans (Nat.mod_eq_of_lt hply),
      h31, h48⟩

end Sys2Proof.Proofs
end

section
/-! SUPPORT. The boundaries of a ply in time (03 R61, R62). -/

namespace Sys2Proof.Machine

section
variable {n phase : Nat}

/-- R61: boundary `k` of a second, up to the first of the next. -/
theorem boundaryTime_place (sec : Nat) {k : Nat} (hn : 0 < n) (hk : k ≤ n) :
    boundaryTime n phase (sec * n + k) = sec * 1000000000 + (phase + k * 4000 / n) * 250000 := by
  unfold boundaryTime nsPerS granuleNs
  rcases hk.lt_or_eq with hlt | rfl
  · rw [Nat.mul_comm sec n, Nat.mul_add_div hn, Nat.div_eq_of_lt hlt, Nat.mul_add_mod, Nat.mod_eq_of_lt hlt, Nat.add_zero]
  · rw [← Nat.succ_mul, Nat.mul_div_cancel _ hn, Nat.mul_mod_left, Nat.zero_mul, Nat.zero_div, Nat.mul_div_cancel_left _ hn]
    omega

/-- R62: a tick lasts the pattern's shorter period, or one granule more. -/
theorem boundaryTime_succ (hn : 0 < n) (t : Nat) :
    ∃ e, e ≤ 1 ∧ boundaryTime n phase (t + 1) = boundaryTime n phase t + (4000 / n + e) * 250000 := by
  have hk : t % n < n := Nat.mod_lt t hn
  have ht : t = t / n * n + t % n := (Nat.div_add_mod' t n).symm
  have hstep := Nat.add_div (a := t % n * 4000) (b := 4000) hn
  rw [← Nat.succ_mul] at hstep
  refine ⟨if n ≤ t % n * 4000 % n + 4000 % n then 1 else 0, by split <;> omega, ?_⟩
  rw [ht, Nat.add_assoc, boundaryTime_place _ hn hk, boundaryTime_place _ hn hk.le, ← ht, hstep]
  omega

theorem boundaryTime_strictMono (hn : 0 < n) (hphase : phase < 4000 / n) : StrictMono (boundaryTime n phase) :=
  strictMono_nat_of_lt_succ fun t => by
    obtain ⟨e, -, he⟩ := boundaryTime_succ (phase := phase) hn t
    omega

/-- The place in its second of the first boundary at or after granule `g`. -/
theorem firstTick_place (hn : 0 < n) (x : Nat) : ∃ k ≤ n, firstTick n phase x = x / 1000000000 * n + k
    ∧ ceilDiv (x % 1000000000) 250000 ≤ phase + k * 4000 / n
    ∧ (0 < k → phase + (k - 1) * 4000 / n < ceilDiv (x % 1000000000) 250000) := by
  unfold firstTick nsPerS granuleNs
  have hg : ceilDiv (x % 1000000000) 250000 ≤ 4000 := by unfold ceilDiv; omega
  generalize ceilDiv (x % 1000000000) 250000 = g at *
  generalize x / 1000000000 = sec
  dsimp only
  split
  · exact ⟨0, by omega, rfl, by rw [Nat.zero_mul, Nat.zero_div]; omega, by omega⟩
  · have hlo : (g - phase) * n ≤ ceilDiv ((g - phase) * n) 4000 * 4000 := by unfold ceilDiv; omega
    have hhi : (ceilDiv ((g - phase) * n) 4000 - 1) * 4000 < (g - phase) * n := by
      have : 0 < (g - phase) * n := Nat.mul_pos (by omega) hn
      unfold ceilDiv; omega
    generalize ceilDiv ((g - phase) * n) 4000 = c at *
    have hbefore : ∀ k, k ≤ c → phase + (k - 1) * 4000 / n < g := fun k hk => by
      have : (k - 1) * 4000 / n < g - phase := (Nat.div_lt_iff_lt_mul hn).mpr
        ((Nat.mul_le_mul_right 4000 (Nat.sub_le_sub_right hk 1)).trans_lt hhi)
      omega
    split
    · refine ⟨n, le_rfl, Nat.succ_mul _ _, ?_, fun _ => hbefore n ‹_›⟩
      rw [Nat.mul_div_cancel_left _ hn]
      omega
    · have : g - phase ≤ c * 4000 / n := (Nat.le_div_iff_mul_le hn).mpr hlo
      exact ⟨c, by omega, rfl, by omega, fun _ => hbefore c le_rfl⟩

/-- The first boundary is at or after the time. -/
theorem le_boundaryTime_firstTick (hn : 0 < n) (x : Nat) : x ≤ boundaryTime n phase (firstTick n phase x) := by
  obtain ⟨k, hk, htick, hafter, -⟩ := firstTick_place (phase := phase) hn x
  rw [htick, boundaryTime_place _ hn hk]
  unfold ceilDiv at hafter
  omega

/-- Every earlier one is before it. -/
theorem boundaryTime_lt_of_lt_firstTick (hn : 0 < n) (hphase : phase < 4000 / n) {x u : Nat} (hu : u < firstTick n phase x) :
    boundaryTime n phase u < x := by
  obtain ⟨k, hk, htick, -, hbefore⟩ := firstTick_place (phase := phase) hn x
  have hle : boundaryTime n phase u ≤ boundaryTime n phase (firstTick n phase x - 1) :=
    (boundaryTime_strictMono hn hphase).monotone (by omega)
  refine hle.trans_lt ?_
  rcases Nat.eq_zero_or_pos k with rfl | hpos
  · obtain ⟨e, -, he⟩ := boundaryTime_succ (phase := phase) hn (firstTick n phase x - 1)
    rw [Nat.sub_add_cancel (by omega), htick, boundaryTime_place _ hn (Nat.zero_le n), Nat.zero_mul, Nat.zero_div] at he
    rw [htick]
    omega
  · have hg := hbefore hpos
    rw [htick, Nat.add_sub_assoc (Nat.one_le_of_lt hpos), boundaryTime_place _ hn (by omega)]
    unfold ceilDiv at hg
    omega

end

end Sys2Proof.Machine
end

section
/-! SUPPORT. The boundary sequence of a ply (03 R63, R64, R67). -/

namespace Sys2Proof.Machine

open Safety

/-- What the units have metered is counted in the job table and the ply's statistics. -/
theorem pwr_meter (s : State) (p : Nat) (ms : List Meter) : (s.meter p ms).pwr = s.pwr := by
  refine foldl_keeps State.pwr (fun u j => ?_) _ s
  rfl

/-- The state with other plies noted as run before their time (log 166). -/
def State.withEarly (s : State) (early : List Nat) : State := { s with tck := { s.tck with early := early } }

theorem dueAt_withEarly (s : State) (early : List Nat) (q b : Nat) : (s.withEarly early).dueAt q b = s.dueAt q b := rfl

/-- A boundary that a higher ply's has run leaves nothing to do. -/
theorem plyBoundary_early {s : State} {p : Nat} (places : List Placement) (meters : List Meter) (h : s.tck.early.contains p = true) :
    s.plyBoundary p places meters = s.withEarly (s.tck.early.filter (· != p)) := if_pos h

/-- The boundaries of a woven ply run while the device's do. -/
theorem not_boundaryStopped {s : State} {p : Nat} (hticking : s.ticking = true) (hrec : (plyRec? s.img p).isSome = true) :
    ¬(!s.ticking || (plyRec? s.img p).isNone) = true := by
  obtain ⟨r, hr⟩ := Option.isSome_iff_exists.mp hrec
  simp [hticking, hr]

/-- R67: where no lower ply has a boundary in its granule, a boundary runs alone; plies that ran before their time in earlier granules are
forgotten. -/
theorem plyBoundary_alone {s : State} {p b : Nat} {early : List Nat} (places : List Placement) (meters : List Meter)
    (hticking : s.ticking = true) (hrec : (plyRec? s.img p).isSome = true) (hnot : s.tck.early.contains p = false)
    (hb : s.nextBoundary p = b) (hearly : (if s.tck.time < b then [] else s.tck.early) = early)
    (hlow : ∀ q, q < p → s.dueAt q b = false) :
    s.plyBoundary p places meters = (s.withEarly early).boundary p places meters := by
  have hstart : (if s.tck.time < b then s.withEarly [] else s) = s.withEarly early := by
    rw [← hearly]
    split <;> rfl
  have hnone : (List.range p).filter ((s.withEarly early).dueAt · b) = [] :=
    List.filter_eq_nil_iff.mpr fun q hq => by simp [dueAt_withEarly, hlow q (List.mem_range.mp hq)]
  have hrun : s.plyBoundary p places meters =
      (let low := (List.range p).filter ((if s.tck.time < b then s.withEarly [] else s).dueAt · b)
       let t := (low.foldl (fun s q => s.boundary q places meters) (if s.tck.time < b then s.withEarly [] else s)).boundary p places meters
       t.withEarly (t.tck.early ++ low)) := by
    unfold State.plyBoundary
    rw [if_neg (ne_true_of_eq_false hnot), if_neg (not_boundaryStopped hticking hrec), hb]
    rfl
  rw [hrun, hstart, hnone]
  simp only [List.foldl_nil, List.append_nil]
  rfl

/-- Step 1 of R64: the summary, the tick that opens, an overrun's entry, then latches, loops and swaps. -/
def State.snapshot (s₀ : State) (p t b skipped closing : Nat) (pl : Ply) (late : List Job) : State :=
  let s₁ := s₀.writeSummary p closing b skipped (!late.isEmpty)
  let s₂ := s₁.setPly p { (s₁.ply p).noteSlack s₁.tck.time with
    tick := t, openAt := b + 1, admitting := true, overranNow := false, skipped := min (pl.skipped + skipped) 255, stats := {} }
  let s₃ := { s₂ with crd := { s₂.crd with charged := s₂.crd.charged.filter (fun e => e.1 / 4096 != p) } }
  let s₄ := if late.isEmpty then s₃ else s₃.overrunNow p closing late
  (((((s₄.latchPly p).ratePly p t).headroomPly p t).engineSwaps).backSwap).armTables p

/-- Step 2: the fate of the unfinished jobs, and the shedding. -/
def State.judgeJobs (s₅ : State) (p t : Nat) (hold dropAll : Bool) : State :=
  let s₆ := if hold then s₅.endQueued p else s₅
  let s₇ := (s₆.unfinished p).foldl (State.jobFate · dropAll) s₆
  s₇.shed p t (s₇.jobs.length + 1)

/-- Step 3: a reweave that is due. -/
def State.reweaveDue (s₈ : State) (p closing : Nat) (places : List Placement) : State :=
  match s₈.wrp.pending with
  | some d => if d.ply = p ∧ s₈.plyInFlight p = false then s₈.reweaveStep d places closing else s₈
  | none => s₈

/-- Whether a reweave of the ply is pending. -/
def State.reweaving (s : State) (p : Nat) : Bool := s.wrp.pending.any (fun d => d.ply == p)

/-- Whether the ply's jobs are dropped whatever their fate: at Hold entry, and when its drain has taken its limit (R82). -/
def State.dropsAll (s₀ : State) (p : Nat) (pl : Ply) (hold : Bool) : Bool :=
  hold || s₀.wrp.pending.any (fun d => d.ply == p && decide (pl.drainTicks ≤ d.drained))

/-- R64: steps 1 to 3, and then the tick opens. -/
def State.sequence (s₀ : State) (p : Nat) (pl : Ply) (t b skipped closing : Nat) (hold : Bool) (places : List Placement) : State :=
  let late := if s₀.dropsAll p pl hold then [] else s₀.overdue p closing t
  let s₉ := ((s₀.snapshot p t b skipped closing pl late).judgeJobs p t hold (s₀.dropsAll p pl hold)).reweaveDue p closing places
  s₉.openTick p closing t (!late.isEmpty) hold (s₀.reweaving p && s₉.reweaving p)

/-- The next boundary of ply `p` runs: it opens tick `t` at TIME_NS `b`, passes over `skipped` others and ends tick `closing` (R63). -/
structure State.NextBoundary (s : State) (p : Nat) (pl : Ply) (t b skipped closing : Nat) (hold : Bool) : Prop where
  ticking : s.ticking = true
  woven : (plyRec? s.img p).isSome = true
  ply : s.ply p = pl
  tick : s.nextTick p = t
  time : boundaryTime pl.ticksPerS pl.phase t = b
  skips : t - firstTick pl.ticksPerS pl.phase pl.openAt = skipped
  closes : (if pl.admitting then pl.tick else t - 1) = closing
  holds : decide (s.pwr.state = 1) = hold

section
variable {s : State} {p t b skipped closing : Nat} {pl : Ply} {hold : Bool} (places : List Placement) (meters : List Meter)

theorem boundary_eq (h : s.NextBoundary p pl t b skipped closing hold) : s.boundary p places meters =
    (((({ s with tck := s.tck.passTo b } : State).meter p meters).aim p closing t (!pl.admitting)).countDrain p).sequence
      p pl t b skipped closing hold places := by
  obtain ⟨hticking, hwoven, hpl, ht, hb, hskipped, hclosing, hhold⟩ := h
  unfold State.boundary
  extract_lets pl' t' b' skipped' closing' v start hold' s₀ drain dropAll late overran u₁ src u₂ crd u₃ u₄ u₅ u₆ u₇ u₈ u₉ u₁₀
    drain'
  rw [if_neg (not_boundaryStopped hticking hwoven)]
  obtain rfl : pl' = pl := hpl
  obtain rfl : t' = t := ht
  obtain rfl : b' = b := hb
  obtain rfl : skipped' = skipped := hskipped
  obtain rfl : closing' = closing := hclosing
  obtain rfl : hold' = hold := (congrArg (fun x : Pwr => x.state == 1) (pwr_meter v p meters)).trans hhold
  change _ = s₀.sequence p pl' t' b' skipped' closing' hold' places
  clear_value b' t' skipped' closing' pl' hold' s₀
  unfold State.sequence
  extract_lets late' s₉
  have hdrop : dropAll = s₀.dropsAll p pl' hold' := by
    unfold dropAll State.dropsAll
    cases s₀.wrp.pending <;> rfl
  clear_value dropAll
  subst hdrop
  have h₄ : u₄ = if late.isEmpty then u₃ else u₃.overrunNow p closing' late := by
    unfold u₄ overran
    cases late.isEmpty <;> rfl
  have h₆ : u₆ = s₀.snapshot p t' b' skipped' closing' pl' late := by
    unfold u₆ u₅
    rw [h₄]
    rfl
  have h₉ : u₉ = (s₀.snapshot p t' b' skipped' closing' pl' late).judgeJobs p t' hold' (s₀.dropsAll p pl' hold') := by
    rw [← h₆]
    rfl
  have h₁₀ : u₁₀ = s₉ := by
    unfold u₁₀ s₉ State.reweaveDue
    rw [h₉]
    generalize State.judgeJobs _ _ _ _ _ = x
    cases x.wrp.pending with
    | none => rfl
    | some d => exact if_congr (by rw [Bool.not_eq_true']) rfl rfl
  have hdrain : drain' = (s₀.reweaving p && s₉.reweaving p) := by
    unfold drain' drain State.reweaving
    rw [h₁₀]
    cases s₀.wrp.pending <;> cases s₉.wrp.pending <;> rfl
  rw [h₁₀, hdrain]

/-- R64, R67: the boundary sequence of a ply before which no lower ply's boundary of the granule is left. -/
theorem exec_plyBoundary_alone {early : List Nat} (h : s.NextBoundary p pl t b skipped closing hold)
    (hnot : s.tck.early.contains p = false) (hlow : ∀ q, q < p → s.dueAt q b = false)
    (hearly : (if s.tck.time < b then [] else s.tck.early) = early) : exec (.plyBoundary p ⟨places, meters⟩) s =
      .next ((((({ fresh s with tck := { s.tck with early := early }.passTo b } : State).meter p meters).aim p closing t
        (!pl.admitting)).countDrain p).sequence p pl t b skipped closing hold places) := by
  obtain ⟨hticking, hwoven, hpl, ht, hb, hskipped, hclosing, hhold⟩ := h
  have hnext : s.nextBoundary p = b := by rw [State.nextBoundary, hpl, ht, hb]
  have halone := plyBoundary_alone (s := fresh s) places meters hticking hwoven hnot hnext hearly hlow
  have hsequence := boundary_eq (s := (fresh s).withEarly early) places meters
    ⟨hticking, hwoven, hpl, ht, hb, hskipped, hclosing, hhold⟩
  exact congrArg Host.Outcome.next (halone.trans hsequence)

end

end Sys2Proof.Machine
end

section
namespace Sys2Proof.Proofs

open Machine Safety

/-- Settles O19: the boundaries in time, the boundary sequence step by step, and a boundary that has been run. -/
theorem ticksRunTheBoundarySequence : Obligations.TicksRunTheBoundarySequence := by
  refine ⟨fun n phase hn hphase => ⟨fun sec k hk => boundaryTime_place sec hn hk.le, boundaryTime_succ hn, fun x =>
    ⟨le_boundaryTime_firstTick hn x, fun u => boundaryTime_lt_of_lt_firstTick hn hphase⟩⟩, ?_,
    fun s p places meters h => congrArg Host.Outcome.next (plyBoundary_early (s := fresh s) places meters h)⟩
  intro s p places meters hticking hwoven hearly hlow pl t b skipped closing hold
  have h : s.NextBoundary p pl t b skipped closing hold := ⟨hticking, hwoven, rfl, rfl, rfl, rfl, rfl, rfl⟩
  have hlow' : ∀ q, q < p → s.dueAt q b = false := hlow
  -- Kept abstract, times and ticks are not computed when the states below are compared.
  clear_value hold closing skipped b t pl
  intro early s₀ mine dropAll late s₁ s₂ s₃ s₄ s₅ s₆ s₇ s₈ s₉
  refine (exec_plyBoundary_alone (early := early) places meters h hearly hlow' rfl).trans (congrArg Host.Outcome.next ?_)
  change s₀.sequence p pl t b skipped closing hold places = _
  clear_value s₀
  rfl

end Sys2Proof.Proofs
end

section
/-! SUPPORT. The control registers of a core: what a read gives after a write (06 section Architectural state; 07 R182). -/

namespace Sys2Proof.Machine

section
variable (k : Core) (i v : Nat)

/-! ### The registers that the shadow bank doubles -/

@[simp] theorem getLs_setLs (x : BitVec 16) : (k.setLs i x).getLs i = x := by
  unfold Core.setLs
  split <;> simp [Core.getLs, *]

@[simp] theorem getLe_setLe (x : BitVec 16) : (k.setLe i x).getLe i = x := by
  unfold Core.setLe
  split <;> simp [Core.getLe, *]

@[simp] theorem getLc_setLc (x : BitVec 32) : (k.setLc i x).getLc i = x := by
  unfold Core.setLc
  split <;> simp [Core.getLc, *]

@[simp] theorem getA_setA (x : BitVec 32) : (k.setA i x).getA i = x := by
  unfold Core.setA
  split <;> simp_all [Core.getA]

/-! ### SR, BX, AS, IEN and ILVL, and the read-only registers -/

theorem getLd_setSr : (k.setSr v).getLd = min (bits v 22 20) 4 := by
  unfold Core.setSr Core.setLd
  split <;> simp_all [Core.getLd]

theorem active_setSr : (k.setSr v).active = bits v 3 0 := by
  unfold Core.setSr Core.setLd
  split <;> rfl

/-- The LD field of a status is the depth, while ACTIVE keeps its four bits. -/
theorem bits_sr_ld (hactive : k.active < 16) (hld : k.getLd < 8) : bits k.sr 22 20 = k.getLd := by
  unfold bits Core.sr b2n
  rw [Nat.shiftRight_eq_div_pow]
  split <;> split <;> split <;> omega

theorem ld_setCr_sr : bits ((k.setCr 0 v).getCr 0) 22 20 = min (bits v 22 20) 4 := by
  refine (bits_sr_ld _ ?_ ?_).trans (getLd_setSr k v)
  · exact (active_setSr k v).trans_lt (Nat.mod_lt _ (by decide))
  · exact (getLd_setSr k v).trans_lt (by omega)

theorem getCr_setCr_bx : (k.setCr 1 v).getCr 1 = min v 47 := rfl

theorem setCr_readOnly : k.setCr 9 v = k ∧ k.setCr 10 v = k := ⟨rfl, rfl⟩

theorem getCr_setCr_ien : (k.setCr 7 v).getCr 7 = v % 2 ^ 32 := rfl

theorem getCr_setCr_ilvl : (k.setCr 8 v).getCr 8 = v % 2 ^ 64 := rfl

variable {i}

theorem as_setCr (h : i < 4) : mget (k.setCr (2 + i) v).as_ i 0 = BitVec.ofNat 6 v := by
  simp (disch := omega) only [Core.setCr, if_neg, if_pos, Nat.add_sub_cancel_left, mget_mset]

/-! ### The register files -/

theorem getCr_setCr_ipc (h : i < 4) : (k.setCr (12 + i) v).getCr (12 + i) = v % 2 ^ 16 := by
  simp (disch := omega) only [Core.setCr, Core.getCr, if_neg, if_pos, Nat.add_sub_cancel_left, mget_mset, BitVec.toNat_ofNat]

theorem getCr_setCr_isr (h : i < 4) : (k.setCr (16 + i) v).getCr (16 + i) = v % 2 ^ 32 := by
  simp (disch := omega) only [Core.setCr, Core.getCr, if_neg, if_pos, Nat.add_sub_cancel_left, mget_mset, BitVec.toNat_ofNat]

theorem getCr_setCr_ls (h : i < 4) : (k.setCr (20 + i) v).getCr (20 + i) = v % 2 ^ 16 := by
  simp (disch := omega) only [Core.setCr, Core.getCr, if_neg, if_pos, Nat.add_sub_cancel_left, getLs_setLs, BitVec.toNat_ofNat]

theorem getCr_setCr_le (h : i < 4) : (k.setCr (24 + i) v).getCr (24 + i) = v % 2 ^ 16 := by
  simp (disch := omega) only [Core.setCr, Core.getCr, if_neg, if_pos, Nat.add_sub_cancel_left, getLe_setLe, BitVec.toNat_ofNat]

theorem getCr_setCr_lc (h : i < 4) : (k.setCr (28 + i) v).getCr (28 + i) = v % 2 ^ 32 := by
  simp (disch := omega) only [Core.setCr, Core.getCr, if_neg, if_pos, Nat.add_sub_cancel_left, getLc_setLc, BitVec.toNat_ofNat]

theorem getCr_setCr_a (h : i < 8) : (k.setCr (32 + i) v).getCr (32 + i) = v % 2 ^ 32 := by
  simp (disch := omega) only [Core.setCr, Core.getCr, if_neg, if_pos, Nat.add_sub_cancel_left, getA_setA, BitVec.toNat_ofNat]

theorem getCr_setCr_b (h : i < 8) : (k.setCr (40 + i) v).getCr (40 + i) = v % 2 ^ 32 := by
  simp (disch := omega) only [Core.setCr, Core.getCr, if_neg, if_pos, Nat.add_sub_cancel_left, mget_mset, BitVec.toNat_ofNat]

theorem getCr_setCr_m : (k.setCr (56 + i) v).getCr (56 + i) = v % 2 ^ 32 := by
  simp (disch := omega) only [Core.setCr, Core.getCr, if_neg, Nat.add_sub_cancel_left, mget_mset, BitVec.toNat_ofNat]

variable (i)

/-! ### The slot -/

@[simp] theorem slotB_setS (x : BitVec 64) : (k.setS i x).slotB = k.slotB := by
  unfold Core.setS
  repeat' split
  all_goals rfl

/-- No control register holds which slot is next. -/
@[simp] theorem slotB_setCr : (k.setCr i v).slotB = k.slotB := by
  simp only [Core.setCr, Core.setSr, Core.setLd, Core.setLs, Core.setLe, Core.setLc, Core.setA, apply_ite Core.slotB, ite_self]

end

end Sys2Proof.Machine
end

section
/-! SUPPORT. What a fault records of itself, which nothing in the end of its bundle and its entry writes (06 R155, R156, R168). -/

namespace Sys2Proof.Machine

/-- The record of a core's last fault. -/
def Core.faultRecord (k : Core) : Nat × Bool × Nat × Nat := (k.faultActive, k.faultSlot, k.faultCause, k.faultPc)

section
variable (k : Core)

/-! ### Registers, repeats and frames -/

@[simp] theorem faultRecord_setS (i : Nat) (v : BitVec 64) : (k.setS i v).faultRecord = k.faultRecord := by
  unfold Core.setS
  repeat' split
  all_goals rfl

@[simp] theorem faultRecord_setLc (i : Nat) (v : BitVec 32) : (k.setLc i v).faultRecord = k.faultRecord := by
  unfold Core.setLc
  split <;> rfl

@[simp] theorem faultRecord_setLd (d : Nat) : (k.setLd d).faultRecord = k.faultRecord := by
  unfold Core.setLd
  split <;> rfl

@[simp] theorem faultRecord_setSr (v : Nat) : (k.setSr v).faultRecord = k.faultRecord := faultRecord_setLd _ _

@[simp] theorem faultRecord_iterated (ended : Bool) : (k.iterated ended).faultRecord = k.faultRecord := rfl

@[simp] theorem faultRecord_popTo (t : BitVec 16) (n : Nat) : (Core.popTo t n k).faultRecord = k.faultRecord := by
  induction n generalizing k with
  | zero => rfl
  | succ n ih =>
    unfold Core.popTo
    split
    · rfl
    · rw [ih, faultRecord_setLd]

/-- An iteration more, or the end of the innermost repeat. -/
theorem faultRecord_tightIterated (ended : Bool) : (if k.tight then k.iterated ended else k).faultRecord = k.faultRecord := by
  split <;> rfl

@[simp] theorem faultRecord_repEnd (a : BitVec 16) (n : Nat) : (Core.repEnd a n k).faultRecord = k.faultRecord := by
  induction n generalizing k with
  | zero => rfl
  | succ n ih =>
    unfold Core.repEnd
    dsimp only
    split
    · rfl
    split
    · rw [faultRecord_setLc]
      exact faultRecord_tightIterated k false
    · rw [ih, faultRecord_setLd, faultRecord_tightIterated]

@[simp] theorem faultRecord_lput (a : Nat) (bs : List Byte) : (k.lput a bs).faultRecord = k.faultRecord := by
  induction bs generalizing k a with
  | nil => rfl
  | cons b bs ih =>
    refine (ih _ _).trans ?_
    unfold Core.lput1
    split <;> rfl

@[simp] theorem faultRecord_framed : k.framed.faultRecord = k.faultRecord := by
  unfold Core.framed
  split
  · rfl
  · simp [Core.pushFrame]
  · exact (faultRecord_setS _ _ _).trans (foldl_keeps Core.faultRecord (fun x e => faultRecord_setS x _ _) _ k)

@[simp] theorem faultRecord_returned : k.returned.faultRecord = k.faultRecord := by
  unfold Core.returned
  split
  · rfl
  · exact faultRecord_setSr _ _

/-! ### The end of a bundle and the entry -/

@[simp] theorem faultRecord_endBundle : k.endBundle.faultRecord = k.faultRecord := by
  unfold Core.endBundle
  extract_lets a k₁ k₂ k₃
  have h₂ : k₂.faultRecord = k.faultRecord := faultRecord_framed k
  have h₃ : k₃.faultRecord = k₂.faultRecord := by
    clear_value k₂
    unfold k₃
    split
    · exact faultRecord_returned k₂
    split
    · dsimp only
      change Core.faultRecord (if _ then _ else _) = _
      split <;> split <;> simp
    · exact faultRecord_repEnd _ _ _
  exact h₃.trans h₂

end

/-! ### The fault -/

section
variable (s : State) (c : Nat)

@[simp] theorem faultRecord_haltCore : ((s.haltCore c).core c).faultRecord = (s.core c).faultRecord := by
  unfold State.haltCore
  dsimp only
  split
  · rw [core_updJob, State.core_setCore]
    rfl
  · rw [State.core_setCore]
    rfl

@[simp] theorem faultRecord_closeBundle : ((s.closeBundle c).core c).faultRecord = (s.core c).faultRecord := by
  unfold State.closeBundle
  dsimp only
  split
  · split
    · rw [State.core_setCore]
      rfl
    · rw [faultRecord_haltCore, State.core_setCore]
      rfl
  · rw [State.core_setCore, faultRecord_endBundle]

/-- R156, R168: a fault records its cause, its slot and its bundle, and the levels in service. -/
theorem faultRecord_spdFault (cause : Nat) : ((s.spdFault c cause).core c).faultRecord =
    ((s.core c).active, (s.core c).slotB, cause, (s.core c).pc.toNat) := by
  unfold State.spdFault
  extract_lets k s₁ s₂ k₂
  have h₁ : (s₁.core c).faultRecord = (k.active, k.slotB, cause, k.pc.toNat) := by rw [State.core_setCore]; rfl
  have h₂ : (s₂.core c).faultRecord = (s₁.core c).faultRecord := faultRecord_closeBundle s₁ c
  rw [← h₁]
  split
  · exact faultRecord_haltCore s₁ c
  rw [← h₂]
  split
  · rw [State.core_setCore]
    rfl
  · rfl

/-! ### Events -/

@[simp] theorem evt_haltCore : (s.haltCore c).evt = s.evt := by
  unfold State.haltCore
  dsimp only
  split <;> rfl

@[simp] theorem evt_closeBundle : (s.closeBundle c).evt = s.evt := by
  unfold State.closeBundle
  dsimp only
  repeat' split
  all_goals simp

/-- A fault pulses nothing. -/
@[simp] theorem evt_spdFault (cause : Nat) : (s.spdFault c cause).evt = s.evt := by
  unfold State.spdFault
  dsimp only
  repeat' split
  all_goals simp

end

end Sys2Proof.Machine
end

section
/-! SUPPORT. MOVC and EVP as they issue (07 R179, R181, R182). -/

namespace Sys2Proof.Machine

open Safety

/-! ### Issue with an effect beyond the core -/

section
variable {s s' : State} {c w : Nat} {op : Nat → Bool} {eff : State → Nat → Nat → Option Nat × State}

/-- A legal instruction, commanded by its name, has its effect and ends its slot. -/
theorem issue_done (hi : Issues s c w) (hop : op w = true) (he : eff ((fresh s).setCore c (taken (s.core c))) c w = (none, s')) :
    (fresh s).issue c zLegal op eff = s'.slotDone c := by
  obtain ⟨hissues, hword, hlegal, hskip⟩ := hi
  simp only [taken] at he
  simp [State.issue, hissues, hword, hlegal, hop, hskip, he]

/-- One that faults raises its cause. -/
theorem issue_fault {cause : Nat} (hi : Issues s c w) (hop : op w = true)
    (he : eff ((fresh s).setCore c (taken (s.core c))) c w = (some cause, s')) :
    (fresh s).issue c zLegal op eff = s'.spdFault c cause := by
  obtain ⟨hissues, hword, hlegal, hskip⟩ := hi
  simp only [taken] at he
  simp [State.issue, hissues, hword, hlegal, hop, hskip, he]

end

theorem zOpc_of_isOp {opc fn w : Nat} (h : isOp opc fn w = true) : zOpc w = opc := by
  simp only [isOp, Bool.and_eq_true, beq_iff_eq] at h
  exact h.1

/-! ### MOVC -/

section
variable {s : State} {c w : Nat}

/-- A control-register move is legal in slot A alone (R171). -/
theorem slotB_of_legal_movc {k : Core} (hlegal : zLegal k w = true) (hopc : zOpc w = 0x07) : k.slotB = false := by
  simp only [zLegal, hopc, Bool.and_eq_true, Bool.not_eq_true'] at hlegal
  exact hlegal.1.1.1

theorem exec_movcRead (hi : Issues s c w) (hop : isOp 0x07 0x00 w = true) : exec (.movcRead c) s = .next (slotA s c
    ((taken (s.core c)).setS (zRd w) (BitVec.ofNat 64 ((taken (s.core c)).getCr (zCr w))))) := by
  have ⟨_, _, hlegal, _⟩ := hi
  exact congrArg Host.Outcome.next (zagil_slotA s c w _ Core.movcGet _ hi hop rfl
    ((slotB_setS _ _ _).trans (slotB_of_legal_movc hlegal (zOpc_of_isOp hop))))

theorem exec_movcWrite (hi : Issues s c w) (hop : isOp 0x07 0x01 w = true) : exec (.movcWrite c) s = .next (slotA s c
    ((taken (s.core c)).setCr (zCr w) (if zI w then zImm w else ((s.core c).getS (zRa w)).toNat))) := by
  have ⟨_, _, hlegal, _⟩ := hi
  exact congrArg Host.Outcome.next (zagil_slotA s c w _ Core.movcSet _ hi hop rfl
    ((slotB_setCr _ _ _).trans (slotB_of_legal_movc hlegal (zOpc_of_isOp hop))))

/-! ### EVP -/

theorem core_evt (s : State) (x : Evt) : ({ s with evt := x } : State).core c = s.core c := rfl

/-- A pulse may pend an input of a core; which slot is next stays. -/
theorem slotB_pend (s : State) (d i : Nat) : ((s.pend d i).core c).slotB = (s.core c).slotB := by
  rcases eq_or_ne c d with rfl | hne
  · simp [State.pend]
  · rw [State.pend, State.core_setCore_ne _ _ _ _ hne]

@[simp] theorem slotB_deliver (s : State) (e : Nat) : ((s.deliver e).core c).slotB = (s.core c).slotB := by
  unfold State.deliver
  extract_lets v owner d k s₁ s₂ m f
  have h₁ : (s₁.core c).slotB = (s.core c).slotB := by
    unfold s₁
    split
    · exact slotB_pend s _ _
    · rfl
  have h₂ : s₂.core c = s₁.core c := by unfold s₂; split <;> rfl
  rw [← h₁, ← h₂]
  split <;> rfl

@[simp] theorem slotB_pulse (s : State) (e : Nat) : ((s.pulse e).core c).slotB = (s.core c).slotB := by
  unfold State.pulse State.pulseN
  split
  · rfl
  · rw [slotB_deliver, core_evt]

variable (hi : Issues s c w) (hop : isOp 0x06 0x09 w = true)
include hi hop

/-- R179, R107: EVP pulses an event of its task's hank. -/
theorem exec_evp_owned (ho : s.ownsEvent (s.core c).hank (zImm w % 65536) = true) : exec (.evp c) s =
    .next ((((fresh s).setCore c (taken (s.core c))).pulse (zImm w % 65536)).setCore c
      { (((fresh s).setCore c (taken (s.core c))).pulse (zImm w % 65536)).core c with slotB := true }) := by
  have ⟨_, _, hlegal, _⟩ := hi
  have hslot : ((((fresh s).setCore c (taken (s.core c))).pulse (zImm w % 65536)).core c).slotB = false := by
    rw [slotB_pulse, State.core_setCore]
    exact slotB_of_legal_control hlegal (zOpc_of_isOp hop)
  have heff : evpOp ((fresh s).setCore c (taken (s.core c))) c w =
      (none, ((fresh s).setCore c (taken (s.core c))).pulse (zImm w % 65536)) := by
    unfold evpOp
    rw [State.core_setCore]
    exact if_pos ho
  refine congrArg Host.Outcome.next ((issue_done hi hop heff).trans ?_)
  unfold State.slotDone
  exact if_neg (ne_true_of_eq_false hslot)

/-- R181: outside its hank's range it raises ACCESS. -/
theorem exec_evp_foreign (ho : s.ownsEvent (s.core c).hank (zImm w % 65536) = false) : exec (.evp c) s =
    .next ((((fresh s).setCore c (taken (s.core c))).accessError (s.core c).hank (zImm w % 65536) 5).spdFault c 4) := by
  have heff : evpOp ((fresh s).setCore c (taken (s.core c))) c w =
      (some 4, ((fresh s).setCore c (taken (s.core c))).accessError (s.core c).hank (zImm w % 65536) 5) := by
    unfold evpOp
    rw [State.core_setCore]
    exact if_neg (ne_true_of_eq_false ho)
  exact congrArg Host.Outcome.next (issue_fault hi hop heff)

end

end Sys2Proof.Machine
end

section
namespace Sys2Proof.Proofs

open Machine Safety

/-- Settles O9: MOVC as it issues, what each control register holds after a write, and EVP inside and outside its hank's range. -/
theorem movcAndEvpReachTheirRegisters : Obligations.MovcAndEvpReachTheirRegisters := by
  refine ⟨⟨fun s c w hi => ⟨exec_movcRead hi, exec_movcWrite hi⟩, fun k v => ?_⟩,
    fun s c w hi hop => ⟨exec_evp_owned hi hop, fun ho => ?_⟩⟩
  · obtain ⟨hipend, hpc⟩ := setCr_readOnly k v
    exact ⟨getCr_setCr_bx k v, hipend, hpc, ld_setCr_sr k v, fun i => as_setCr k v, getCr_setCr_ien k v, getCr_setCr_ilvl k v,
      fun i hi => ⟨getCr_setCr_ipc k v hi, getCr_setCr_isr k v hi, getCr_setCr_ls k v hi, getCr_setCr_le k v hi, getCr_setCr_lc k v hi⟩,
      fun i hi => ⟨getCr_setCr_a k v hi, getCr_setCr_b k v hi, getCr_setCr_m k v⟩⟩
  · have hrecord := faultRecord_spdFault (((fresh s).setCore c (taken (s.core c))).accessError (s.core c).hank (zImm w % 65536) 5) c 4
    exact ⟨_, exec_evp_foreign hi hop ho, congrArg (fun r : Nat × Bool × Nat × Nat => r.2.2.1) hrecord, evt_spdFault _ _ _⟩

end Sys2Proof.Proofs
end

section
/-! SUPPORT. What scrubbing and tag updates change: the tag cache and the logs of the fabric, and of a scrubbed range its contents and tags
(04 R101, R116; 05 R126). -/

namespace Sys2Proof.Machine

/-- The state without the fabric's own: its counts, logs, caches and what waits there. -/
def State.sansFab (s : State) : State := { s with fab := {} }

/-- Views that agree make one state the other but for the fabric's own. -/
theorem eq_of_sansFab {s t : State} (h : t.sansFab = s.sansFab) : t = { s with fab := t.fab } :=
  calc t = { t.sansFab with fab := t.fab } := rfl
    _ = _ := by rw [h]; rfl

section
variable (s : State)

@[simp] theorem sansFab_fab (x : Fab) : ({ s with fab := x } : State).sansFab = s.sansFab := rfl
@[simp] theorem sansFab_unlog (lo hi : Nat) : (s.unlog lo hi).sansFab = s.sansFab := rfl
@[simp] theorem sansFab_mend (lo hi : Nat) : (s.mend lo hi).sansFab = s.sansFab := rfl

@[simp] theorem sansFab_tagTouch (line : Nat) (dirty : Bool) : (s.tagTouch line dirty).sansFab = s.sansFab := by
  unfold State.tagTouch
  dsimp only
  repeat' split
  all_goals rfl

@[simp] theorem sansFab_tagUpdate (lo hi : Nat) : (s.tagUpdate lo hi).sansFab = s.sansFab := by
  unfold State.tagUpdate
  dsimp only
  split
  · rfl
  · exact foldl_keeps State.sansFab (fun s i => sansFab_tagTouch s _ _) _ s

/-- The state with the granules of a range unwritten, their tags known and their contents zero. -/
def State.wiped (s : State) (lo hi : Nat) : State := { s with
  written := s.written.filter (fun g => !(decide (lo ≤ g) && decide (g < hi)))
  lostOwner := s.lostOwner.filter (fun g => !(decide (lo ≤ g) && decide (g < hi)))
  mem := memClear s.mem lo hi }

/-- R101, R116: a scrub wipes its range; the rest is the fabric's own. -/
theorem sansFab_scrub (lo hi : Nat) : (s.scrub lo hi).sansFab = (s.wiped lo hi).sansFab := by
  simp only [State.scrub, sansFab_tagUpdate, sansFab_mend, sansFab_unlog]
  rfl

theorem mem_scrub (lo hi : Nat) : (s.scrub lo hi).mem = memClear s.mem lo hi := (congrArg State.mem (sansFab_scrub s lo hi) :)

theorem slots_scrub (lo hi : Nat) : (s.scrub lo hi).slots = s.slots := (congrArg State.slots (sansFab_scrub s lo hi) :)

theorem pools_scrub (lo hi : Nat) : (s.scrub lo hi).pools = s.pools := (congrArg State.pools (sansFab_scrub s lo hi) :)

theorem out_scrub (lo hi : Nat) : (s.scrub lo hi).out = s.out := (congrArg State.out (sansFab_scrub s lo hi) :)

/-- R101: of the written granules a scrub leaves those outside its range. -/
theorem mem_written_scrub (lo hi g : Nat) : g ∈ (s.scrub lo hi).written ↔ g ∈ s.written ∧ ¬(lo ≤ g ∧ g < hi) := by
  have hw : (s.scrub lo hi).written = (s.wiped lo hi).written := (congrArg State.written (sansFab_scrub s lo hi) :)
  simp only [hw, State.wiped, List.mem_filter, Bool.not_eq_true', Bool.and_eq_false_iff, decide_eq_false_iff_not]
  exact and_congr_right fun _ => by omega

end

/-! ### Bytes of a cleared range -/

theorem memGet_memClear_from {m : List Host.Cell} (lo hi x : Nat) : ∀ l, memWfFrom l m = true →
    memGet (memClear m lo hi) x = if lo ≤ x ∧ x < hi then 0 else memGet m x := by
  induction m with
  | nil => intro l _; simp [memClear, memGet]
  | cons c m ih =>
    obtain ⟨j, y⟩ := c
    intro l h
    simp only [memWfFrom, Bool.and_eq_true] at h
    have ih' := ih (some j) h.2
    have hbelow := memGet_below m j x h.2
    by_cases hj : lo ≤ j ∧ j < hi
    · have hclear : memClear ((j, y) :: m) lo hi = memClear m lo hi :=
        List.filter_cons_of_neg (by simp [hj])
      rw [hclear, ih', memGet]
      grind
    · have hclear : memClear ((j, y) :: m) lo hi = (j, y) :: memClear m lo hi :=
        List.filter_cons_of_pos (by simp; omega)
      rw [hclear, memGet, memGet, ih']
      grind

/-- A read after a clear. -/
theorem memGet_memClear {m : List Host.Cell} (lo hi x : Nat) (h : Memory.wf m = true) :
    memGet (memClear m lo hi) x = if lo ≤ x ∧ x < hi then 0 else memGet m x := memGet_memClear_from lo hi x none h

section
variable {s : State} {lo hi a : Nat} (hwf : Memory.wf s.mem = true)
include hwf

/-- R101, R116: a scrubbed range reads zero. -/
theorem memGet_scrub_inside (hlo : lo ≤ a) (hhi : a < hi) : memGet (s.scrub lo hi).mem a = 0 := by
  rw [mem_scrub, memGet_memClear lo hi a hwf, if_pos ⟨hlo, hhi⟩]

/-- Every other byte keeps its value. -/
theorem memGet_scrub_outside (h : a < lo ∨ hi ≤ a) : memGet (s.scrub lo hi).mem a = memGet s.mem a := by
  rw [mem_scrub, memGet_memClear lo hi a hwf, if_neg (by omega)]

end

end Sys2Proof.Machine
end

section
/-! SUPPORT. Region commands, each outcome once (04 R98, R100 to R104). -/

namespace Sys2Proof.Machine

open Safety

/-! ### From the command to the hank controller -/

section
variable {s : State} {who : Requester}

theorem exec_regionCreate (h : s.reqHank who ≠ noHank) (slot : Nat) :
    exec (.regionCreate who slot) s = .next ((fresh s).regionCreate who slot) :=
  congrArg Host.Outcome.next (asHank_of_hank (s := fresh s) h _)

theorem exec_regionDestroy (h : s.reqHank who ≠ noHank) (slot : Nat) :
    exec (.regionDestroy who slot) s = .next ((fresh s).regionDestroy who slot) :=
  congrArg Host.Outcome.next (asHank_of_hank (s := fresh s) h _)

theorem exec_grant (h : s.reqHank who ≠ noHank) (peer : Nat) :
    exec (.grant who peer) s = .next ((fresh s).grant who peer) :=
  congrArg Host.Outcome.next (asHank_of_hank (s := fresh s) h _)

theorem exec_revoke (h : s.reqHank who ≠ noHank) (g : Nat) :
    exec (.revoke who g) s = .next ((fresh s).revoke who g) :=
  congrArg Host.Outcome.next (asHank_of_hank (s := fresh s) h _)

/-- Hank 0's port carries a hank. -/
theorem carries_of_hank0 (h : s.reqHank who = 0) : s.reqHank who ≠ noHank := by
  rw [h]
  decide

/-- ORIGIN of an entry that hank 0 causes. -/
theorem reqOrigin_hank0 (h : s.reqHank who = 0) : s.reqOrigin who = authOrigin (reqAuth who) := if_neg (not_not.mpr h)

end

/-! ### Refusals -/

section
variable {s : State} {who : Requester}

theorem regionCreate_busy (slot : Nat) (h : (s.hank (s.hnkBank who)).result.busy = true) :
    s.regionCreate who slot = s.hnkEnd (s.hnkBank who) 1 := if_pos h

theorem regionDestroy_busy (slot : Nat) (h : (s.hank (s.hnkBank who)).result.busy = true) :
    s.regionDestroy who slot = s.hnkEnd (s.hnkBank who) 1 := if_pos h

theorem grant_busy (peer : Nat) (h : (s.hank (s.hnkBank who)).result.busy = true) :
    s.grant who peer = s.hnkEnd (s.hnkBank who) 1 := if_pos h

theorem revoke_busy (g : Nat) (h : (s.hank (s.hnkBank who)).result.busy = true) :
    s.revoke who g = s.hnkEnd (s.hnkBank who) 1 := if_pos h

theorem regionCreate_tenant (slot : Nat) (h : (s.hank (s.hnkBank who)).result.busy = false) (h0 : s.reqHank who ≠ 0) :
    s.regionCreate who slot = s.hnkEnd (s.hnkBank who) 2 := (if_neg (ne_true_of_eq_false h)).trans (if_pos h0)

theorem regionDestroy_tenant (slot : Nat) (h : (s.hank (s.hnkBank who)).result.busy = false) (h0 : s.reqHank who ≠ 0) :
    s.regionDestroy who slot = s.hnkEnd (s.hnkBank who) 2 := (if_neg (ne_true_of_eq_false h)).trans (if_pos h0)

end

/-! ### Create -/

/-- What R100 and R102 ask of a region of `len` granules from `base` in slot `slot` for hank `h`. -/
structure State.RegionFits (s : State) (h base len slot : Nat) : Prop where
  hank : s.hankExists h = true
  aligned : base % 4096 = 0
  some : 0 < len
  low : dramBase ≤ base
  high : base + len * 4096 ≤ s.tagBase
  range : s.slotInRange h slot = true
  free : (s.slotOf slot).state = 0
  alone : s.overlaps base (base + len * 4096) = false
  limit : s.underLimit h len false = true

/-- The window that the command registers of a bank name. -/
def Hank.windowBase (k : Hank) : Nat := k.baseLo + k.baseHi % 2 ^ 16 * 2 ^ 32

/-- A region made over a cleared range, under a new key pair. -/
def State.newRegion (s : State) (h base len slot : Nat) : State :=
  let d := (s.scrub base (base + len * 4096)).draw
  { d.2 with slots := mset d.2.slots slot { state := 1, owner := h, base := base, len := len, key := d.1 % 2 ^ 512 } }

/-- The other slots are as they were. -/
theorem newRegion_eq (s : State) (h base len slot : Nat) : s.newRegion h base len slot =
    (let d := (s.scrub base (base + len * 4096)).draw
     { d.2 with slots := mset s.slots slot { state := 1, owner := h, base := base, len := len, key := d.1 % 2 ^ 512 } }) := by
  have hslots : (s.scrub base (base + len * 4096)).draw.2.slots = s.slots := slots_scrub s _ _
  unfold State.newRegion
  dsimp only
  rw [hslots]

theorem regionCreate_created {s s₁ : State} {who : Requester} {slot h base : Nat} {k : Hank} (hh : s.hnkBank who = h) (hk : s.hank h = k)
    (hbase : k.windowBase = base) (h0 : s.reqHank who = 0) (hbusy : k.result.busy = false) (hfits : s.RegionFits h base k.len slot)
    (hchange : s.change [{ origin := authOrigin (reqAuth who), kind := 1, hank := h, object := jObj 4 slot, new := base
                           data := k.len }] = (true, s₁)) :
    s.regionCreate who slot = (s₁.newRegion h base k.len slot).hnkEnd h 0 := by
  obtain ⟨hhank, haligned, hsome, hlow, hhigh, hrange, hfree, halone, hlimit⟩ := hfits
  rw [← reqOrigin_hank0 h0] at hchange
  unfold State.regionCreate
  extract_lets h' k' base'
  have eh : h' = h := hh
  have ek : k' = k := (congrArg s.hank hh).trans hk
  have eb : base' = base := (congrArg Hank.windowBase ek).trans hbase
  clear_value base' k' h'
  subst eh ek eb
  rw [if_neg (ne_true_of_eq_false hbusy), if_neg (not_not.mpr h0), if_neg (by simp [hhank]), if_neg (by omega),
    if_neg (by simp [hrange]), if_neg (not_not.mpr hfree), if_neg (ne_true_of_eq_false halone), if_neg (by simp [hlimit]), hchange]
  unfold State.newRegion
  dsimp only

/-! ### Grants made void, and the end of a region -/

/-- The state without what voiding grants writes. -/
def State.sansGrants (s : State) : State := { s.sansRecords with fab := {}, grants := [] }

theorem sansGrants_of_sansFab {s t : State} (h : t.sansFab = s.sansFab) : t.sansGrants = s.sansGrants :=
  (congrArg State.sansGrants h :)

theorem sansGrants_of_sansRecords {s t : State} (h : t.sansRecords = s.sansRecords) : t.sansGrants = s.sansGrants :=
  congrArg (fun u : State => { u with fab := {}, grants := [] }) h

@[simp] theorem sansGrants_grants (s : State) (x : NMap Grant) : ({ s with grants := x } : State).sansGrants = s.sansGrants := rfl

@[simp] theorem sansGrants_voidGrant (s : State) (g : Nat) : (s.voidGrant g).sansGrants = s.sansGrants := by
  unfold State.voidGrant
  dsimp only
  split
  · rfl
  · rw [sansGrants_of_sansRecords (sansRecords_fact _ _), sansGrants_of_sansFab (sansFab_tagUpdate _ _ _), sansGrants_grants]

/-- R105: voiding the grants of a range touches no slot, no hank and no byte. -/
@[simp] theorem sansGrants_voidRange (s : State) (lo hi : Nat) : (s.voidRange lo hi).sansGrants = s.sansGrants :=
  foldl_keeps State.sansGrants (f := fun s (e : Nat × Grant) => s.voidGrant e.1) (fun s e => sansGrants_voidGrant s e.1) _ s

/-- R101: the key is erased, and the range is being scrubbed for the bank that waits. -/
theorem sansGrants_startScrub (s : State) (slot : Nat) (waiter : Option Nat) : (s.startScrub slot waiter).sansGrants =
    ({ s with slots := mset s.slots slot { s.slotOf slot with state := 2, key := 0, waiter := waiter } } : State).sansGrants :=
  sansGrants_voidRange _ _ _

theorem regionDestroy_started {s s₁ : State} {who : Requester} {slot h : Nat} {x : KeySlot} (hh : s.hnkBank who = h)
    (hx : s.slotOf slot = x) (h0 : s.reqHank who = 0) (hbusy : (s.hank h).result.busy = false) (hactive : x.state = 1)
    (howner : x.owner = h) (hchange : s.change [{ origin := authOrigin (reqAuth who), kind := 1, hank := h, object := jObj 4 slot
                                                  old := x.base, data := x.len }] = (true, s₁)) :
    s.regionDestroy who slot = (s₁.hnkBusy h).startScrub slot (some h) := by
  subst hh hx
  rw [← reqOrigin_hank0 h0] at hchange
  unfold State.regionDestroy
  dsimp only
  rw [if_neg (by simp [hbusy]), if_neg (by simp [h0]), if_neg (by simp [hactive, howner]), hchange]

/-- What a destroy that has started leaves: the slot, memory, and the bank that waits. -/
theorem startScrub_hnkBusy {s s₁ : State} (h : s₁.sansRecords = s.sansRecords) (b slot : Nat) :
    ((s₁.hnkBusy b).startScrub slot (some b)).slotOf slot = { s.slotOf slot with state := 2, key := 0, waiter := some b }
    ∧ ((s₁.hnkBusy b).startScrub slot (some b)).mem = s.mem
    ∧ ((s₁.hnkBusy b).startScrub slot (some b)).hank b = { s.hank b with
        result := { (s.hank b).result with busy := true, seq := ((s.hank b).result.seq + 1) % 256 } } := by
  have hslot : (s₁.hnkBusy b).slotOf slot = s.slotOf slot := (congrArg (fun u : State => u.slotOf slot) h :)
  have hmem : s₁.mem = s.mem := (congrArg State.mem h :)
  have hhank : s₁.hank b = s.hank b := (congrArg (fun u : State => u.hank b) h :)
  have hview := sansGrants_startScrub (s₁.hnkBusy b) slot (some b)
  refine ⟨?_, (congrArg State.mem hview :).trans hmem, (congrArg (fun u : State => u.hank b) hview :).trans ?_⟩
  · refine (congrArg (fun u : State => u.slotOf slot) hview :).trans ((mget_mset _ _ _ _).trans ?_)
    rw [hslot]
  · rw [← hhank]
    exact State.hank_setHank _ _ _

/-- R101: the end of the scrub frees the slot, and the bank that waits is answered. -/
theorem regionScrubDone_freed {s : State} {slot : Nat} {x : KeySlot} (hx : s.slotOf slot = x) (hstate : x.state = 2) :
    s.regionScrubDone slot =
      (let t : State := { s.scrub x.base (x.base + x.len * 4096) with slots := mdel s.slots slot }
       match x.waiter with | some b => t.hnkDone b | none => t) := by
  subst hx
  rw [← slots_scrub s]
  exact if_neg (not_not.mpr hstate)

end Sys2Proof.Machine
end

section
namespace Sys2Proof.Proofs

open Machine Safety

/-- Settles O16: create, destroy and the end of the scrub; what a scrub leaves; and the refusals. -/
theorem regionsAreCreatedAndDestroyed : Obligations.RegionsAreCreatedAndDestroyed := by
  refine ⟨fun s who slot => ?_, fun s lo hi hwf => ⟨?_, ?_, ?_⟩, fun s who slot => ⟨?_, ?_⟩⟩
  · intro h k base x
    have hh : s.hnkBank who = h := rfl
    have hk : s.hank h = k := rfl
    have hbase : k.windowBase = base := rfl
    have hx : s.slotOf slot = x := rfl
    clear_value x base k h
    refine ⟨?_, ?_, ?_⟩
    · intro h0 hbusy hhank haligned hsome hlow hhigh hrange hfree halone hlimit s₁ hchange
      subst hx
      rw [exec_regionCreate (carries_of_hank0 h0), regionCreate_created (s := fresh s) hh hk hbase h0 hbusy
        ⟨hhank, haligned, hsome, hlow, hhigh, hrange, hfree, halone, hlimit⟩ hchange, newRegion_eq]
    · intro h0 hbusy hactive howner s₁ hchange
      have hstart := regionDestroy_started (s := fresh s) hh hx h0 (hk ▸ hbusy) hactive howner hchange
      have hrec := sansRecords_change (fresh s) [{ origin := authOrigin (reqAuth who), kind := 1, hank := h
                                                   object := jObj 4 slot, old := x.base, data := x.len }]
      rw [hchange] at hrec
      obtain ⟨hslot, hmem, hhank⟩ := startScrub_hnkBusy hrec h slot
      subst hk hx
      exact ⟨_, (exec_regionDestroy (carries_of_hank0 h0) slot).trans (congrArg _ hstart), hslot, hmem,
        congrArg (fun k : Hank => k.result.busy) hhank, congrArg (fun k : Hank => k.result.seq) hhank⟩
    · exact fun hstate => congrArg Host.Outcome.next (regionScrubDone_freed (s := fresh s) hx hstate)
  · exact fun a hlo hhi => memGet_scrub_inside hwf hlo hhi
  · exact fun a h => memGet_scrub_outside hwf h
  · exact mem_written_scrub s lo hi
  · intro hbusy hwho
    exact ⟨(exec_regionCreate hwho slot).trans (congrArg _ (regionCreate_busy (s := fresh s) slot hbusy)),
      (exec_regionDestroy hwho slot).trans (congrArg _ (regionDestroy_busy (s := fresh s) slot hbusy)),
      (exec_grant hwho slot).trans (congrArg _ (grant_busy (s := fresh s) slot hbusy)),
      (exec_revoke hwho slot).trans (congrArg _ (revoke_busy (s := fresh s) slot hbusy))⟩
  · intro hbusy h0 hwho
    exact ⟨(exec_regionCreate hwho slot).trans (congrArg _ (regionCreate_tenant (s := fresh s) slot hbusy h0)),
      (exec_regionDestroy hwho slot).trans (congrArg _ (regionDestroy_tenant (s := fresh s) slot hbusy h0))⟩

end Sys2Proof.Proofs
end

section
/-! SUPPORT. Share grants, from the command to the answer (04 R103 to R105). -/

namespace Sys2Proof.Machine

open Safety

/-! ### Grant -/

/-- What R103 asks of a window of `len` bytes from `base` that hank `h` shares with hank `peer`. -/
structure State.WindowFits (s : State) (h peer base len : Nat) : Prop where
  peer : s.hankExists peer = true
  aligned : granule base = base
  mem : if base < dramBase then skeinBase ≤ base ∧ base + len ≤ skeinBase + nBanks s.variant * mib else base + len ≤ s.tagBase
  owned : s.windowOwned h base len = true
  quota : (s.grants.filter (fun e => e.2.state != 0 && e.2.grantor == h)).length < policyN s.img 0x0302 0xFF 32
  free : ∃ n, n < 1024 ∧ (s.grantOf n).state = 0

/-- The grant `x` under number `n`, as its grantor's registers show it. -/
def State.newGrant (s : State) (n : Nat) (x : Grant) : State :=
  let s := { s with grants := mset s.grants n x }
  ((s.tagUpdate x.base (x.base + x.len)).setHank x.grantor { s.hank x.grantor with resultGrant := n }).hnkEnd x.grantor 0

/-- The grant numbers that are free. -/
def State.freeGrants (s : State) : List Nat := (List.range 1024).filter (fun g => (s.grantOf g).state == 0)

/-- The number that the device chooses for a grant: a free value among them (log 164). -/
def State.grantNumber (s : State) : Nat := s.freeGrants.getD (s.draw.1 % s.freeGrants.length) 0

theorem freeGrants_ne_nil {s : State} (h : ∃ n, n < 1024 ∧ (s.grantOf n).state = 0) : s.freeGrants ≠ [] := by
  obtain ⟨n, hn, hfree⟩ := h
  exact List.ne_nil_of_mem (a := n) (by simp [State.freeGrants, hn, hfree])

/-- Whatever the device draws, the number was free. -/
theorem grantNumber_free {s : State} (h : ∃ n, n < 1024 ∧ (s.grantOf n).state = 0) :
    s.grantNumber < 1024 ∧ (s.grantOf s.grantNumber).state = 0 := by
  have hlt : s.draw.1 % s.freeGrants.length < s.freeGrants.length := Nat.mod_lt _ (List.length_pos_iff.mpr (freeGrants_ne_nil h))
  have hmem : s.grantNumber ∈ s.freeGrants := by
    rw [State.grantNumber, List.getD_eq_getElem _ _ hlt]
    exact List.getElem_mem hlt
  simpa [State.freeGrants] using hmem

/-- R103: a window that fits is shared under that number, after the journal's entry. -/
theorem grant_made {s : State} {who : Requester} {peer h base len : Nat} {k : Hank} (hh : s.hnkBank who = h) (hk : s.hank h = k)
    (hbase : k.windowBase = base) (hlen : k.len * granuleSize base = len) (hbusy : k.result.busy = false) (hsome : 0 < k.len)
    (hfits : s.WindowFits h peer base len) (hroom : HasRoom s) : s.grant who peer =
      (s.draw.2.jRing { origin := s.reqOrigin who, kind := 1, hank := h, object := jObj 5 s.grantNumber, new := peer
                        data := base + len * 2 ^ 64 }).newGrant s.grantNumber
        { state := 1, grantor := h, grantee := peer, base := base, len := len } := by
  obtain ⟨hpeer, haligned, hmem, howned, hquota, hfree⟩ := hfits
  unfold State.grant
  extract_lets h' k' base' len' inMem free mine
  have eh : h' = h := hh
  have ek : k' = k := (congrArg s.hank hh).trans hk
  have eb : base' = base := (congrArg Hank.windowBase ek).trans hbase
  have el : len' = len := by rw [← hlen, ← ek, ← eb]
  have em : inMem = true := by unfold inMem; rw [eb, el]; split <;> simp_all
  have ef : free = s.freeGrants := rfl
  have emine : mine < policyN s.img 0x0302 0xFF 32 := by unfold mine; rwa [eh]
  clear_value mine free inMem len' base' k' h'
  subst eh ek eb el
  rw [if_neg (ne_true_of_eq_false hbusy), if_neg (by simp [hpeer]), if_neg (by simp [haligned, em]; omega), if_neg (by simp [howned]),
    if_neg (by simp [ef, freeGrants_ne_nil hfree]; omega)]
  unfold State.grantNumber
  rw [← ef]
  dsimp only
  rw [change_of_hasRoom (s := s.draw.2) hroom]
  rfl

/-- What a new grant leaves: the table, its grantor's registers, and memory. -/
theorem newGrant_frame (s : State) (n : Nat) (x : Grant) : (s.newGrant n x).grants = mset s.grants n x
    ∧ ((s.newGrant n x).hank x.grantor).resultGrant = n ∧ ((s.newGrant n x).hank x.grantor).result.code = 0
    ∧ ((s.newGrant n x).hank x.grantor).result.done = true ∧ (s.newGrant n x).mem = s.mem := by
  have htag := sansFab_tagUpdate { s with grants := mset s.grants n x } x.base (x.base + x.len)
  refine ⟨(congrArg State.grants htag :), ?_, ?_, ?_, (congrArg State.mem htag :)⟩ <;>
    simp [State.newGrant, State.hnkEnd]

/-! ### Revoke -/

theorem revoke_started {s s₁ : State} {who : Requester} {g h : Nat} {x : Grant} (hh : s.hnkBank who = h) (hx : s.grantOf g = x)
    (hbusy : (s.hank h).result.busy = false) (hlive : x.state = 1) (howner : x.grantor = h)
    (hchange : s.change [{ origin := s.reqOrigin who, kind := 1, hank := h, object := jObj 5 g, old := x.grantee
                           data := x.base + x.len * 2 ^ 64 }] = (true, s₁)) :
    s.revoke who g = (({ s₁ with grants := mset s₁.grants g { x with state := 2, waits := true } } : State).tagUpdate
      x.base (x.base + x.len)).hnkBusy h := by
  subst hh hx
  unfold State.revoke
  dsimp only
  rw [if_neg (ne_true_of_eq_false hbusy), if_neg (by simp [hlive, howner]), hchange]

theorem revokeComplete_gone {s : State} {g : Nat} {x : Grant} (hx : s.grantOf g = x) (hrevoked : x.state = 2) :
    s.revokeComplete g =
      (let t : State := { s with grants := mdel s.grants g }
       if x.waits then t.hnkDone x.grantor else t) := by
  subst hx
  exact if_neg (not_not.mpr hrevoked)

end Sys2Proof.Machine
end

section
namespace Sys2Proof.Proofs

open Machine Safety

/-- Settles O17: a grant that its conditions allow, a revoke, and the end of a revoke. -/
theorem grantsAreMadeAndRevoked : Obligations.GrantsAreMadeAndRevoked := by
  intro s who g hwho h k base len x
  have hh : s.hnkBank who = h := rfl
  have hk : s.hank h = k := rfl
  have hbase : k.windowBase = base := rfl
  have hlen : k.len * granuleSize base = len := rfl
  have hx : s.grantOf g = x := rfl
  clear_value x len base k h
  refine ⟨?_, ?_, ?_⟩
  · intro peer hbusy hpeer haligned hsome hmem howned hquota hfree hepoch hring
    obtain ⟨hn, hstate⟩ := grantNumber_free (s := fresh s) hfree
    have hgrant := grant_made (s := fresh s) hh hk hbase hlen hbusy hsome ⟨hpeer, haligned, hmem, howned, hquota, hfree⟩ ⟨hepoch, hring⟩
    generalize (fresh s).grantNumber = n at hn hstate hgrant
    generalize ({ origin := _, kind := _, hank := _, object := _, new := _, data := _ } : JEntry) = e at hgrant
    obtain ⟨hgrants, hnumber, hcode, hdone, hbytes⟩ := newGrant_frame ((fresh s).draw.2.jRing e) n
      { state := 1, grantor := h, grantee := peer, base := base, len := len }
    have hrec := sansRecords_jRing (fresh s).draw.2 e
    have hsame : ((fresh s).draw.2.jRing e).grants = s.grants := (congrArg State.grants hrec :)
    exact ⟨_, n, (exec_grant hwho peer).trans (congrArg _ hgrant), hn, hstate, hsame ▸ hgrants, hnumber, hcode, hdone,
      hbytes.trans (congrArg State.mem hrec :)⟩
  · intro hbusy hlive howner s₁ hchange
    rw [exec_revoke hwho, revoke_started (s := fresh s) hh hx (hk ▸ hbusy) hlive howner hchange]
  · exact fun hrevoked => congrArg Host.Outcome.next (revokeComplete_gone (s := fresh s) hx hrevoked)

end Sys2Proof.Proofs
end

section
/-! SUPPORT. Buffer pools: the free buffers, an allocation in each outcome, a free, and the end of a buffer's scrub (04 R113 to R117). -/

namespace Sys2Proof.Machine

open Safety

/-! ### Free indices -/

theorem le_nthFree {α : Type} (m : NMap α) (n : Nat) : n ≤ nthFree m n := by
  induction m generalizing n with
  | nil => exact le_rfl
  | cons e m ih =>
    unfold nthFree
    split
    · exact (Nat.le_succ n).trans (ih (n + 1))
    · exact le_rfl

/-- The index is one that the table does not list. -/
theorem mget?_nthFree {α : Type} (m : NMap α) (n : Nat) : mget? m (nthFree m n) = none := by
  induction m generalizing n with
  | nil => rfl
  | cons e m ih =>
    unfold nthFree
    split
    case isTrue hle =>
      have hlt := le_nthFree m (n + 1)
      rw [mget?, if_neg (by omega), if_neg (by omega), ih]
    case isFalse hlt => rw [mget?, if_neg (by omega), if_pos (by omega)]

/-- Each listed index moves it up by one at most. -/
theorem nthFree_le {α : Type} (m : NMap α) (n : Nat) : nthFree m n ≤ n + m.length := by
  induction m generalizing n with
  | nil => exact le_rfl
  | cons e m ih =>
    unfold nthFree
    split
    · exact (ih (n + 1)).trans_eq (by simp; omega)
    · exact Nat.le_add_right _ _

/-- R113: a class may take a buffer only while one is free. -/
theorem free_pos_of_classMay {x : Pool} {cls : Nat} (h : x.classMay cls x.free = true) : 0 < x.free := by
  unfold Pool.classMay at h
  split at h
  · exact of_decide_eq_true h
  split at h <;> exact Nat.zero_lt_of_lt (of_decide_eq_true h)

/-- A chosen free buffer is one of the pool's. -/
theorem nthFree_lt_count {x : Pool} (h : 0 < x.free) (d : Nat) : nthFree x.bufs (d % x.free) < x.count := by
  have hle := nthFree_le x.bufs (d % x.free)
  have hlt := Nat.mod_lt d h
  unfold Pool.free at *
  omega

/-! ### The command -/

/-- The one request of a cycle. -/
def oneReq (who : Requester) (p q cls : Nat) : PoolReq := { pos := 0, who := who, p := p, q := q, cls := cls }

/-- R114: a request alone in its cycle is judged against the buffers free then. -/
theorem poolCycle_one (s : State) (r : PoolReq) : s.poolCycle [r] =
    ([(r.pos, (s.poolServe (s.poolOf r.p r.q).free r).1)], (s.poolServe (s.poolOf r.p r.q).free r).2) := by
  have hkey : [8 * r.p + r.q].eraseDups = [8 * r.p + r.q] := rfl
  simp [State.poolCycle, hkey, insertReq, mset, State.poolOf]

/-- It is answered with its word. -/
theorem exec_poolAllocate_one {s t : State} {who : Requester} {p q cls v : Nat} {x : Pool} (hx : s.poolOf p q = x)
    (h : (fresh s).poolServe x.free (oneReq who p q cls) = (v, t)) :
    exec (.poolAllocate [(who, p, q, cls)]) s = .next (t.emit (.answer 0 (leBytes 4 v))) := by
  have hcycle : (fresh s).poolCycle [oneReq who p q cls] = ([(0, v)], t) :=
    (poolCycle_one _ _).trans (hx ▸ congrArg (fun e : Nat × State => (([(0, e.1)], e.2) : NMap Nat × State)) h)
  change Host.Outcome.next (((fresh s).poolCycle [oneReq who p q cls]).2.emit (.answer 0 (leBytes 4 (mget
    ((fresh s).poolCycle [oneReq who p q cls]).1 0 0)))) = _
  rw [hcycle]
  rfl

/-! ### An allocation (R113, R115, R117) -/

section
variable {s : State} {r : PoolReq} {x : Pool} {h : Nat} (hx : s.poolOf r.p r.q = x) (hh : s.reqHank r.who = h)
include hx hh

/-- R115: hank 0, a hank without a record in the ply, and a pool that is not woven. -/
theorem poolServe_noPool (f0 : Nat) (hno : x.woven = false ∨ h = 0 ∨ (hankRec? s.img h r.p).isNone = true) :
    s.poolServe f0 r = (3 * 2 ^ 26, s) := by
  subst hx hh
  exact if_pos (hno.imp_left fun hw => by simp [hw])

variable (hwoven : x.woven = true) (h0 : h ≠ 0) (hrec : (hankRec? s.img h r.p).isSome = true)
include hwoven h0 hrec

theorem poolServe_served (f0 : Nat) : s.poolServe f0 r =
    if !x.classMay (s.poolClass r) x.free then
      (allocWord 1 0 (x.classMay (s.poolClass r) f0 && s.underLimit h (x.stride / (if x.skein then 256 else 4096)) x.skein),
        s.poolWaitAdd h r.p r.q (s.poolClass r))
    else if !s.underLimit h (x.stride / (if x.skein then 256 else 4096)) x.skein then (allocWord 2 0 false, s)
    else
      let i := nthFree x.bufs (s.draw.1 % x.free)
      (allocWord 0 i false, (s.draw.2.scrub (x.base + i * x.stride) (x.base + (i + 1) * x.stride)).setPool r.p r.q
        { x with bufs := mset x.bufs i { held := true, hank := h }, lastWinner := reqId r.who }) := by
  subst hx hh
  obtain ⟨k, hk⟩ := Option.isSome_iff_exists.mp hrec
  exact if_neg (by simp [hwoven, h0, hk])

/-- R113, R117: a class that may take none gets POOL_EMPTY, and a wait may be registered. -/
theorem poolServe_empty (hmay : x.classMay (s.poolClass r) x.free = false) :
    s.poolServe x.free r = (2 ^ 26, s.poolWaitAdd h r.p r.q (s.poolClass r)) := by
  rw [poolServe_served hx hh hwoven h0 hrec, if_pos (by simp [hmay]), hmay, Bool.false_and]
  rfl

variable (hmay : x.classMay (s.poolClass r) x.free = true)
include hmay

/-- R113, R115: a hank at its limit gets OVER_LIMIT. -/
theorem poolServe_overLimit (hlimit : s.underLimit h (x.stride / (if x.skein then 256 else 4096)) x.skein = false) :
    s.poolServe x.free r = (2 * 2 ^ 26, s) := by
  rw [poolServe_served hx hh hwoven h0 hrec, if_neg (by simp [hmay]), if_pos (by simp [hlimit])]
  rfl

/-- R113, R116: another is given a buffer that none holds, over cleared memory. -/
theorem poolServe_given (hlimit : s.underLimit h (x.stride / (if x.skein then 256 else 4096)) x.skein = true) :
    ∃ i, i < x.count ∧ mget? x.bufs i = none ∧ s.poolServe x.free r = (2 ^ 31 + i,
      (s.draw.2.scrub (x.base + i * x.stride) (x.base + (i + 1) * x.stride)).setPool r.p r.q
        { x with bufs := mset x.bufs i { held := true, hank := h }, lastWinner := reqId r.who }) := by
  refine ⟨_, nthFree_lt_count (free_pos_of_classMay hmay) s.draw.1, mget?_nthFree _ _, ?_⟩
  rw [poolServe_served hx hh hwoven h0 hrec, if_neg (by simp [hmay]), if_neg (by simp [hlimit])]
  exact congrArg (·, _) (by simp [allocWord, b2n])

end

/-- R117: a registered wait changes no buffer and no byte. -/
theorem poolWaitAdd_frame (s : State) (h p q cls : Nat) : ((s.poolWaitAdd h p q cls).poolOf p q).bufs = (s.poolOf p q).bufs
    ∧ (s.poolWaitAdd h p q cls).mem = s.mem := by
  unfold State.poolWaitAdd
  dsimp only
  split
  · exact ⟨rfl, rfl⟩
  split
  · exact ⟨rfl, rfl⟩
  split
  · exact ⟨rfl, rfl⟩
  · exact ⟨(congrArg Pool.bufs (mget_mset _ _ _ _) :), rfl⟩

/-! ### A free (R116) -/

theorem exec_poolFree {s : State} {who : Requester} {h : Nat} (hh : s.reqHank who = h) (hcarries : h ≠ noHank) (p q i : Nat) :
    exec (.poolFree who p q i) s = .next ((fresh s).poolFree h p q i) := by
  subst hh
  exact congrArg Host.Outcome.next (asHank_of_hank (s := fresh s) hcarries _)

section
variable {s : State} {h p q i : Nat} {x : Pool} (hx : s.poolOf p q = x)
include hx

/-- Its scrub starts, and the grants over it are void. -/
theorem poolFree_held {b : Buf} (hwoven : x.woven = true) (hb : mget? x.bufs i = some b) (hheld : b.held = true) (hh : b.hank = h) :
    s.poolFree h p q i = ((s.setPool p q { x with bufs := mset x.bufs i { held := false, hank := 0 } }).scrub
      (x.base + i * x.stride) (x.base + i * x.stride + x.stride)).voidRange (x.base + i * x.stride) (x.base + i * x.stride + x.stride) := by
  subst hx
  unfold State.poolFree
  dsimp only
  rw [hb]
  exact if_pos (by simp [hwoven, hheld, hh])

/-- A free of anything else is counted. -/
theorem poolFree_bad (hbad : ∀ b, x.woven = true → mget? x.bufs i = some b → b.held = true → b.hank ≠ h) : s.poolFree h p q i =
    s.setHank h { s.hank h with badFrees := min ((s.hank h).badFrees + 1) (2 ^ 32 - 1) } := by
  subst hx
  unfold State.poolFree
  dsimp only
  cases hb : mget? (s.poolOf p q).bufs i with
  | none => rfl
  | some b =>
    refine if_neg fun hheld => ?_
    simp only [Bool.and_eq_true, beq_iff_eq] at hheld
    obtain ⟨⟨hwoven, hheld⟩, hh⟩ := hheld
    exact hbad b hwoven hb hheld hh

end

/-! ### The end of a buffer's scrub (R116, R117) -/

/-- The wait that is pulsed is the oldest of the highest class that may take a buffer. -/
theorem waitFor_some {x : Pool} {v : PoolWait} {n c : Nat} (h : waitFor x n c = some v) :
    x.classMay v.cls x.free = true ∧ x.waits.find? (fun u => u.cls == v.cls) = some v
    ∧ ∀ u ∈ x.waits, x.classMay u.cls x.free = true → c ≤ u.cls → u.cls < c + n → v.cls ≤ u.cls := by
  induction n generalizing c with
  | zero => simp [waitFor] at h
  | succ n ih =>
    unfold waitFor at h
    split at h
    case h_1 w hfind =>
      obtain rfl : w = v := Option.some.inj h
      have hw := List.find?_some hfind
      simp only [Bool.and_eq_true, beq_iff_eq] at hw
      obtain ⟨rfl, hmay⟩ := hw
      simp only [hmay, Bool.and_true] at hfind
      exact ⟨hmay, hfind, fun u _ _ hc _ => hc⟩
    case h_2 hnone =>
      obtain ⟨hmay, hfind, hbest⟩ := ih h
      refine ⟨hmay, hfind, fun u hu humay hc hlt => hbest u hu humay ?_ (by omega)⟩
      have hne : u.cls ≠ c := by
        rintro rfl
        have := List.find?_eq_none.mp hnone u hu
        simp [humay] at this
      omega

section
variable {s : State} {p q i : Nat} {b : Buf} {x y : Pool} (hx : s.poolOf p q = x) (hb : mget? x.bufs i = some b)
  (hfree : b.held = false) (hy : { x with bufs := mdel x.bufs i } = y)
include hx hb hfree hy

/-- With no wait that may take it the buffer is free. -/
theorem poolScrubDone_unawaited (hw : waitFor y 3 0 = none) : s.poolScrubDone p q i = s.setPool p q y := by
  subst hx hy
  unfold State.poolScrubDone
  dsimp only
  rw [hb]
  dsimp only
  rw [if_neg (by simp [hfree]), hw]

/-- A wait that may is removed and pulsed. -/
theorem poolScrubDone_awaited {v : PoolWait} (hw : waitFor y 3 0 = some v) :
    s.poolScrubDone p q i = (s.setPool p q { y with waits := y.waits.erase v }).pulse v.event := by
  subst hx hy
  unfold State.poolScrubDone
  dsimp only
  rw [hb]
  dsimp only
  rw [if_neg (by simp [hfree]), hw]

end

end Sys2Proof.Machine
end

section
namespace Sys2Proof.Proofs

open Machine Safety

/-- Settles O18: an allocation given and in each refusal, a free, a bad free, and the end of a buffer's scrub. -/
theorem poolBuffersAreTakenAndFreed : Obligations.PoolBuffersAreTakenAndFreed := by
  intro s who p q cls i hp hq hwho h x r
  have hx : s.poolOf p q = x := rfl
  have hh : s.reqHank who = h := rfl
  have hr : r = oneReq who p q cls := rfl
  clear_value r x h
  subst hr
  refine ⟨?_, ?_, ?_, ?_, ?_, ?_, ?_⟩
  · intro hwoven h0 hrec hmay hlimit hbounds hsorted hwf
    obtain ⟨n, hn, hfree, hserve⟩ := poolServe_given (s := fresh s) (r := oneReq who p q cls) hx hh hwoven h0 hrec hmay hlimit
    have hpools := pools_scrub (fresh s).draw.2 (x.base + n * x.stride) (x.base + (n + 1) * x.stride)
    have hout := out_scrub (fresh s).draw.2 (x.base + n * x.stride) (x.base + (n + 1) * x.stride)
    refine ⟨_, n, exec_poolAllocate_one hx hserve, hn, hfree, congrArg (mset · _ _) hpools, congrArg (· ++ _) hout, ?_, ?_⟩
    · intro a hlo hhi
      rw [State.emit_mem, State.setPool_mem, memGet_scrub_inside (s := (fresh s).draw.2) hwf hlo hhi]
    · intro a ha
      rw [State.emit_mem, State.setPool_mem, memGet_scrub_outside (s := (fresh s).draw.2) hwf ha]
      rfl
  · intro hwoven h0 hrec hmay
    have hserve := poolServe_empty (s := fresh s) (r := oneReq who p q cls) hx hh hwoven h0 hrec hmay
    obtain ⟨hbufs, hmem⟩ := poolWaitAdd_frame (fresh s) h p q (s.poolClass (oneReq who p q cls))
    exact ⟨_, exec_poolAllocate_one hx hserve, List.getLast?_concat, hbufs.trans (congrArg Pool.bufs hx), hmem⟩
  · intro hwoven h0 hrec hmay hlimit
    exact exec_poolAllocate_one hx (poolServe_overLimit (s := fresh s) (r := oneReq who p q cls) hx hh hwoven h0 hrec hmay hlimit)
  · exact fun hno => exec_poolAllocate_one hx (poolServe_noPool (s := fresh s) (r := oneReq who p q cls) hx hh _ hno)
  · exact fun b hwoven hb hheld hb' => ⟨_, exec_poolFree hh (hh ▸ hwho) p q i, poolFree_held (s := fresh s) hx hwoven hb hheld hb'⟩
  · exact fun hbad => (exec_poolFree hh (hh ▸ hwho) p q i).trans (congrArg _ (poolFree_bad (s := fresh s) hx hbad))
  · intro b hb hfree y
    refine ⟨fun hw => congrArg _ (poolScrubDone_unawaited (s := fresh s) hx hb hfree rfl hw), fun v hw => ?_⟩
    obtain ⟨hmay, hfind, hbest⟩ := waitFor_some hw
    exact ⟨congrArg _ (poolScrubDone_awaited (s := fresh s) hx hb hfree rfl hw), hmay, hfind,
      fun u hu humay hcls => hbest u hu humay (Nat.zero_le _) (by omega)⟩

end Sys2Proof.Proofs
end

section
/-! SUPPORT. The start of a Spindle task, from the free core to the loaded images (04 R110; 06 R147, R148; 18 R407). -/

namespace Sys2Proof.Machine

open Safety

/-- R407: a unit that counts, and that no report has been latched for, passes its check and changes nothing. -/
theorem startCheck_passes {s : State} {i : Nat} (hcounts : s.counts i = true) (hlatch : (s.unitSt i).latch = false) :
    s.startCheck i = (true, s) := by
  unfold State.startCheck
  dsimp only
  rw [if_neg (by simp [hcounts]), if_neg (by simp [hlatch])]

/-- R147: a free core takes its next job. -/
theorem coreTake_starts {s : State} {c : Nat} {j : Job} (hfree : (s.core c).free = true) (hj : s.coreJob c = some j)
    (hcounts : s.counts (48 + c) = true) (hlatch : (s.unitSt (48 + c)).latch = false) : s.coreTake c = s.taskStart c j := by
  unfold State.coreTake
  rw [if_pos hfree, hj]
  dsimp only
  rw [startCheck_passes hcounts hlatch]

/-- R148, R110: a core at the start of a job: its registers at their start values, and its X and Y without what another hank, or one
destroyed since, has left there. -/
def Core.starting (k : Core) (j : Job) : Core :=
  { state := 3, hank := j.hank, job := some j.id, maxHeld := k.maxHeld, window := k.window
    x := if k.hank ≠ j.hank ∨ k.stranger then [] else k.x, y := if k.hank ≠ j.hank ∨ k.stranger then [] else k.y, pm := k.pm }

/-- R148: the core of a task whose descriptor `d` names the images `p`, `x` and `y`. -/
def Core.loaded (k : Core) (d p x y : List Byte) : Core :=
  { k with
    pm := memPuts k.pm 0 p, x := memPuts k.x 0 x, y := memPuts k.y 0 y
    holdoff := leAt d 47 1, doneEvent := leAt d 44 2, pc := BitVec.ofNat 16 (leAt d 12 4)
    s := mset (mset [] 1 (BitVec.ofNat 64 (leAt d 48 8))) 30 (BitVec.ofNat 64 (leAt d 40 4)) }

/-- The state in which a task's descriptor is read. -/
def State.starting (s : State) (c : Nat) (j : Job) : State :=
  (s.updJob j.id (fun j => { j with phase := .running, unit := c })).setCore c ((s.core c).starting j)

/-- R148: with a descriptor and images that can be read the core is loaded. -/
theorem taskStart_loaded {s s₁ s₂ s₃ s₄ : State} {c : Nat} {j : Job} {d p x y : List Byte}
    (hd : (s.starting c j).coreImage c j.desc 64 = (some d, s₁)) (hok : spdDescOk d = true)
    (hp : (s₁.updJob j.id (fun j => { j with doneEvent := leAt d 44 2 })).coreImage c (leAt d 0 8) (leAt d 8 4) = (some p, s₂))
    (hx : s₂.coreImage c (leAt d 16 8) (leAt d 24 4) = (some x, s₃))
    (hy : s₃.coreImage c (leAt d 32 8) (leAt d 28 4) = (some y, s₄)) :
    s.taskStart c j = s₄.setCore c ((s₄.core c).loaded d p x y) := by
  unfold State.starting Core.starting at hd
  unfold State.taskStart
  dsimp only
  rw [hd]
  dsimp only
  rw [if_neg (by simp [hok]), hp]
  dsimp only
  rw [hx]
  dsimp only
  rw [hy]
  rfl

end Sys2Proof.Machine
end

section
namespace Sys2Proof.Proofs

open Machine Safety

/-- Settles O21: the core is taken for the job, and its images are loaded. -/
theorem spindleTaskStarts : Obligations.SpindleTaskStarts := by
  intro s c j hfree hj hcounts hlatch _ k differ s₀ d s₁ p s₂ x s₃ y s₄ hd hok hp hx hy
  have hs₀ : s₀ = (fresh s).starting c j := by
    simp only [s₀, differ, decide_eq_true_eq]
    rfl
  have hload := taskStart_loaded (hs₀ ▸ hd) hok hp hx hy
  change Host.Outcome.next ((fresh s).coreTake c).takeReports = _
  rw [coreTake_starts (s := fresh s) hfree hj hcounts hlatch, hload]
  rfl

end Sys2Proof.Proofs
end

section
/-! SUPPORT. A memory request that arrives where nothing waits, and reads and writes of memory whose stored bits hold no error (04 R91 to R95;
05 R126, R130, R138, R139). -/

namespace Sys2Proof.Machine

open Safety

/-! ### Arrival at an idle target -/

/-- What waits when this work alone has been accepted. -/
def MemWait.sole (w : MemWork) : MemWait := { work := w, accepted := true }

/-- The state in which it does. -/
def State.alone (s : State) (w : MemWork) : State := { s with fab := { s.fab with waits := [.sole w] } }

theorem acceptOne_of_empty {s : State} (h : s.fab.waits = []) (u : Nat) : s.acceptOne u = s := by
  simp [State.acceptOne, State.waitsAt, h]

/-- R131: work that joins where nothing waits is accepted. -/
theorem enqueue_alone {s : State} (h : s.fab.waits = []) (w : MemWork) :
    s.enqueue w = s.alone w := by
  have haddr : ∀ f : Fab, w.addr { s with fab := f } = w.addr s := fun f => by cases w <;> rfl
  have hunit : ∀ (f : Fab) a, State.memUnit { s with fab := f } a = s.memUnit a := fun _ _ => rfl
  simp [State.alone, State.enqueue, State.acceptOne, State.waitsAt, h, acceptFirst, MemWait.sole, haddr, hunit]

/-- R131: every port has room for a request when it has none outstanding. -/
theorem portLimit_pos (req : Nat) : 0 < (portLimit req).2.1 ∧ 0 < (portLimit req).2.2 := by
  unfold portLimit
  repeat' split
  all_goals exact ⟨Nat.succ_pos _, Nat.succ_pos _⟩

theorem behind_nil (s : State) (w : MemWork) : s.behind [] w = false := by
  obtain ⟨hr, hw⟩ := portLimit_pos w.req
  unfold State.behind
  dsimp only
  split <;> simp <;> omega

section
variable {s : State} {r : MemReq} {h cls : Nat} (hwaits : s.fab.waits = [.sole (.request r h cls)])
include hwaits

theorem ready_alone : s.ready (s.memUnit r.addr) = [(0, .sole (.request r h cls))] := by
  simp [State.ready, hwaits, MemWait.sole, MemWork.addr, behind_nil]

/-- R130: a request that waits alone is chosen. -/
theorem pick_alone : s.pick (s.memUnit r.addr) = some (0, .sole (.request r h cls)) := by
  unfold State.pick
  dsimp only
  rw [ready_alone hwaits]
  simp [MemWait.sole, MemWork.isTag, MemWork.isScrub, MemWork.rank, leastBy]

/-- When it is granted, nothing waits any more. -/
theorem grantMem_alone : ∃ f : Fab, f.flaws = s.fab.flaws ∧ f.ueLog = s.fab.ueLog ∧
    s.grantMem (s.memUnit r.addr) 0 (.request r h cls) = { s with fab := f } := by
  have hafter : waitsAfter s (s.memUnit r.addr) 0 (MemWork.request r h cls).rank = [] := by simp [waitsAfter, hwaits]
  unfold State.grantMem
  rw [hafter]
  refine ⟨_, ?_, ?_, acceptOne_of_empty ?_ _⟩ <;> rfl

theorem serveOne_alone : s.serveOne true (s.memUnit r.addr) =
    (s.grantMem (s.memUnit r.addr) 0 (.request r h cls)).perform true (.request r h cls) := by
  rw [State.serveOne, pick_alone hwaits]
  rfl

end

/-- R130: an idle target serves the request that arrives. -/
theorem arrive_alone {s : State} (h : s.fab.waits = []) (r : MemReq) (hank cls : Nat) :
    ∃ f : Fab, f.flaws = s.fab.flaws ∧ f.ueLog = s.fab.ueLog ∧
      s.arrive (.request r hank cls) false = ({ s with fab := f } : State).perform true (.request r hank cls) := by
  have hidle : (s.waitsAt (s.memUnit r.addr)).isEmpty = true := by simp [State.waitsAt, h]
  obtain ⟨f, hflaws, hlog, hgrant⟩ :=
    grantMem_alone (s := s.alone (.request r hank cls)) rfl
  refine ⟨f, hflaws, hlog, ?_⟩
  unfold State.arrive
  rw [enqueue_alone h]
  dsimp only [MemWork.addr]
  rw [if_pos (by simp [hidle])]
  exact (serveOne_alone rfl).trans (congrArg (State.perform · true _) hgrant)

/-! ### The tag cache and stored bits without errors -/

/-- No stored bit holds an error that no access has met, and no logged block is poisoned. -/
def Fab.clean (f : Fab) : Prop := f.flaws = [] ∧ f.ueLog = []

section
variable {s : State} (hc : s.fab.clean)
include hc

theorem flaw_of_clean (u : Nat) : s.flaw u = 0 := by simp [State.flaw, hc.1, mget, mget?]

theorem logged_of_clean (a : Nat) : s.logged a = false := by simp [State.logged, hc.2]

/-- R138: no correctable error is met. -/
theorem correctAll_of_clean (a req : Nat) (us : List Nat) : s.correctAll a req us = s := by
  simp [State.correctAll, flaw_of_clean hc]

/-- R139: no uncorrectable error is met. -/
theorem find_flaw_of_clean (us : List Nat) : us.find? (fun u => s.flaw u == 2) = none := by simp [flaw_of_clean hc]

theorem clean_tagTouch (line : Nat) (dirty : Bool) : (s.tagTouch line dirty).fab.clean := by
  unfold State.tagTouch
  dsimp only
  repeat' split
  all_goals exact hc

/-- R126: the tag line that an access needs enters the tag cache, and nothing but the fabric's own changes. -/
theorem tagFetch_of_clean (a req : Nat) : (s.tagFetch a req).fab.clean ∧ (s.tagFetch a req).sansFab = s.sansFab := by
  unfold State.tagFetch
  dsimp only
  split
  case isTrue => exact ⟨hc, rfl⟩
  split
  case isTrue => exact ⟨hc, rfl⟩
  rw [if_neg (by simp [flaw_of_clean hc, logged_of_clean hc]), correctAll_of_clean hc]
  exact ⟨clean_tagTouch hc _ _, sansFab_tagTouch s _ _⟩

end

/-! ### What the fabric's own does not enter -/

theorem bytesAt_congr {s t : State} (hmem : t.mem = s.mem) (a n : Nat) : t.bytesAt a n = s.bytesAt a n := by
  induction n generalizing a with
  | zero => rfl
  | succ n ih => rw [State.bytesAt, State.bytesAt, hmem, ih]

section
variable {s t : State} (hv : t.sansFab = s.sansFab)
include hv

theorem accessKind_of_sansFab (h a : Nat) (write : Bool) : t.accessKind h a write = s.accessKind h a write :=
  (congrArg (State.accessKind · h a write) hv :)

theorem isWritten_of_sansFab (a : Nat) : t.isWritten a = s.isWritten a := (congrArg (State.isWritten · a) hv :)

theorem inTagTable_of_sansFab (a : Nat) : t.inTagTable a = s.inTagTable a := (congrArg (State.inTagTable · a) hv :)

theorem sansFab_accessError (h a k : Nat) : (t.accessError h a k).sansFab = (s.accessError h a k).sansFab :=
  (congrArg (State.accessError · h a k) hv :)

end

/-! ### Reads -/

/-- R93: the state with one more read of unwritten memory counted for a hank. -/
def State.countUnwritten (s : State) (h : Nat) : State :=
  s.setHank h { s.hank h with unwrittenReads := satAdd 32 (s.hank h).unwrittenReads 1 }

theorem faultMode_countUnwritten (s : State) (h : Nat) : (s.countUnwritten h).faultMode h = s.faultMode h := by
  simp [State.faultMode, State.countUnwritten, State.hank, State.setHank, State.img]

section
variable {s u : State} {h a : Nat} (hc : u.fab.clean) (hu : u.sansFab = s.sansFab) (req n : Nat)
include hc hu

/-- R91: a read that the tags refuse. -/
theorem memRead_refused {k : Nat} (hk : s.accessKind h a false = some k) :
    ∃ t, u.memRead h req a n = (.access, List.replicate n 0, t) ∧ t.sansFab = (s.accessError h a k).sansFab := by
  have hv := (tagFetch_of_clean hc a req).2.trans hu
  refine ⟨(u.tagFetch a req).accessError h a k, ?_, sansFab_accessError hv h a k⟩
  simp only [State.memRead, (accessKind_of_sansFab hv h a false).trans hk]

/-- R91: a read of written memory that the tags let in. -/
theorem memRead_written (hk : s.accessKind h a false = none) (hw : s.isWritten a = true) (ht : s.inTagTable a = false) :
    ∃ t, u.memRead h req a n = (.ok, s.bytesAt a n, t) ∧ t.sansFab = s.sansFab := by
  obtain ⟨hc, hv⟩ := tagFetch_of_clean hc a req
  replace hv := hv.trans hu
  have hmem : (u.tagFetch a req).mem = s.mem := (congrArg State.mem hv :)
  refine ⟨u.tagFetch a req, ?_, hv⟩
  simp [State.memRead, State.heldBytes, accessKind_of_sansFab hv, hk, isWritten_of_sansFab hv, hw, inTagTable_of_sansFab hv, ht,
    bytesAt_congr hmem, logged_of_clean hc, correctAll_of_clean hc, find_flaw_of_clean hc]

/-- R93, R94: a read of unwritten memory that the tags let in. -/
theorem memRead_unwritten (hk : s.accessKind h a false = none) (hw : s.isWritten a = false) :
    ∃ t, u.memRead h req a n = (if s.faultMode h then .access else .ok, List.replicate n 0, t)
      ∧ t.sansFab = (if s.faultMode h then (s.countUnwritten h).accessError h a 3 else s.countUnwritten h).sansFab := by
  obtain ⟨hc, hv⟩ := tagFetch_of_clean hc a req
  replace hv := hv.trans hu
  have hcount : ((u.tagFetch a req).countUnwritten h).sansFab = (s.countUnwritten h).sansFab := (congrArg (State.countUnwritten · h) hv :)
  have hmode : ((u.tagFetch a req).countUnwritten h).faultMode h = s.faultMode h :=
    (faultMode_countUnwritten _ h).trans (congrArg (State.faultMode · h) hv :)
  unfold State.memRead
  dsimp only
  rw [accessKind_of_sansFab hv, hk, logged_of_clean hc, isWritten_of_sansFab hv, hw]
  change ∃ t, (if ((u.tagFetch a req).countUnwritten h).faultMode h then (_, _, ((u.tagFetch a req).countUnwritten h).accessError h a 3)
    else (_, _, (u.tagFetch a req).countUnwritten h)) = _ ∧ _
  rw [hmode]
  split
  · exact ⟨_, rfl, sansFab_accessError hcount h a 3⟩
  · exact ⟨_, rfl, hcount⟩

/-- R93: it gives zeros, counted. -/
theorem memRead_unwritten_zeros (hk : s.accessKind h a false = none) (hw : s.isWritten a = false) (hm : s.faultMode h = false) :
    ∃ t, u.memRead h req a n = (.ok, List.replicate n 0, t) ∧ t.sansFab = (s.countUnwritten h).sansFab := by
  simpa [hm] using memRead_unwritten hc hu req n hk hw

/-- R94: in fault mode it is an access error too. -/
theorem memRead_unwritten_faults (hk : s.accessKind h a false = none) (hw : s.isWritten a = false) (hm : s.faultMode h = true) :
    ∃ t, u.memRead h req a n = (.access, List.replicate n 0, t) ∧ t.sansFab = ((s.countUnwritten h).accessError h a 3).sansFab := by
  simpa [hm] using memRead_unwritten hc hu req n hk hw

end

/-! ### Writes -/

/-- What a write leaves of memory: the rest of a granule that was never written reads zero (R95). -/
def State.stored (s : State) (a : Nat) (bs : List Byte) : State := { s with
  mem := memPuts (if s.isWritten a then s.mem else memClear s.mem (granule a) (granule a + granuleSize a)) a bs
  written := if s.isWritten a then s.written else kins s.written (granule a) }

theorem sansFab_putBytes (s : State) (a : Nat) (bs : List Byte) : (s.putBytes a bs).sansFab = (s.stored a bs).sansFab := by
  unfold State.putBytes State.stored
  dsimp only
  rw [sansFab_mend, sansFab_unlog]
  split
  case isTrue => rfl
  have hv := sansFab_tagUpdate (({ s with
    mem := memClear s.mem (granule a) (granule a + granuleSize a), written := kins s.written (granule a) } : State).mend
      (granule a) (granule a + granuleSize a)) (granule a) (granule a + granuleSize a)
  exact (congrArg (fun t : State => ({ t with mem := memPuts t.mem a bs } : State)) hv :)

section
variable {s u : State} {h a : Nat} (hc : u.fab.clean) (hu : u.sansFab = s.sansFab) (req : Nat) (bs : List Byte)
include hc hu

/-- R91: a write that the tags refuse. -/
theorem memWrite_refused {k : Nat} (hk : s.accessKind h a true = some k) :
    ∃ t, u.memWrite h req a bs = (.access, t) ∧ t.sansFab = (s.accessError h a k).sansFab := by
  have hv := (tagFetch_of_clean hc a req).2.trans hu
  refine ⟨(u.tagFetch a req).accessError h a k, ?_, sansFab_accessError hv h a k⟩
  simp only [State.memWrite, (accessKind_of_sansFab hv h a true).trans hk]

/-- R91, R95: a write that the tags let in. -/
theorem memWrite_served (hk : s.accessKind h a true = none) (ht : s.inTagTable a = false) :
    ∃ t, u.memWrite h req a bs = (.ok, t) ∧ t.sansFab = (s.stored a bs).sansFab := by
  obtain ⟨hc, hv⟩ := tagFetch_of_clean hc a req
  replace hv := hv.trans hu
  have hput : ((u.tagFetch a req).putBytes a bs).sansFab = (s.stored a bs).sansFab :=
    (sansFab_putBytes _ a bs).trans (congrArg (State.stored · a bs) hv :)
  refine ⟨(u.tagFetch a req).putBytes a bs, ?_, hput⟩
  simp [State.memWrite, accessKind_of_sansFab hv, hk, inTagTable_of_sansFab hv, ht, logged_of_clean hc, correctAll_of_clean hc,
    find_flaw_of_clean hc]

end

/-! ### Bytes of a write -/

theorem khas_kins (l : List Nat) (k : Nat) : khas (kins l k) k = true := by
  induction l with
  | nil => simp [kins, khas]
  | cons j l ih =>
    rw [kins]
    split
    case isTrue => simp [khas]
    split
    case isTrue => simp [khas]
    case isFalse hne hlt => simp [khas, hne, hlt, ih]

/-- R95: the granule of a write is written. -/
theorem isWritten_stored (s : State) (a : Nat) (bs : List Byte) : (s.stored a bs).isWritten a = true := by
  by_cases hw : s.isWritten a = true
  · have hkept : (s.stored a bs).written = s.written := if_pos hw
    rw [State.isWritten, hkept]
    exact hw
  · have hkins : (s.stored a bs).written = kins s.written (granule a) := if_neg hw
    rw [State.isWritten, hkins, khas_kins, Bool.or_true]

section
variable {s : State} (hwf : Memory.wf s.mem = true) (a : Nat) (bs : List Byte)
include hwf

theorem memGet_stored_inside {i : Nat} (hi : i < bs.length) : memGet (s.stored a bs).mem (a + i) = bs.getD i 0 := by
  unfold State.stored
  dsimp only
  split
  · exact memGet_memPuts_inside bs _ a i hwf hi
  · exact memGet_memPuts_inside bs _ a i (memClear_wf _ _ _ hwf) hi

theorem memGet_stored_outside {x : Nat} (hx : x < a ∨ a + bs.length ≤ x) : memGet (s.stored a bs).mem x =
    if s.isWritten a = false ∧ granule a ≤ x ∧ x < granule a + granuleSize a then 0 else memGet s.mem x := by
  unfold State.stored
  dsimp only
  by_cases hw : s.isWritten a = true
  · rw [if_pos hw, memGet_memPuts_outside bs _ a x hwf hx, if_neg (by simp [hw])]
  · rw [if_neg hw, memGet_memPuts_outside bs _ a x (memClear_wf _ _ _ hwf) hx, memGet_memClear _ _ _ hwf]
    simp [hw]

end

/-! ### The command -/

/-- The address is one that Skein or DRAM serves. -/
def State.inMemory (s : State) (a : Nat) : Prop := ∃ b, s.target a = .skein b ∨ s.target a = .dram b

/-- A request that meets no error of stored bits. -/
theorem flips_none (s : State) {r : MemReq} (hflips : r.flips = []) (hecc : r.ecc = 0) : s.flips r = s := by
  have hflip : ∀ (s : State) u, s.flip u 0 = s := fun s u => if_pos (Or.inl rfl)
  unfold State.flips
  rw [hflips, hecc]
  cases r.data with
  | none => exact hflip s r.addr
  | some d =>
    dsimp only
    rw [if_neg (by decide), List.nil_append, List.foldl_map]
    exact List.foldl_fixed' (fun u => hflip s u) _

/-- A request of a hank, without errors of stored bits, to memory at which nothing waits. -/
structure PlainRequest (s : State) (r : MemReq) : Prop where
  ok : memReqOk r = true
  inMemory : s.inMemory r.addr
  quiet : Quiet s
  hank : s.reqHank r.who ≠ noHank
  flips : r.flips = []
  ecc : r.ecc = 0
  held : r.held = false

section
variable {s v : State} {r : MemReq} (hr : PlainRequest s r)
include hr

/-- R130: it is performed at once. -/
theorem request_plain : ∃ u : State, u.fab.clean ∧ u.sansFab = s.sansFab ∧
    s.request r = u.perform true (.request r (s.reqHank r.who) (s.reqClass r.who)) := by
  obtain ⟨hwaits, hflaws, hlog⟩ := hr.quiet
  obtain ⟨f, hf, hl, harrive⟩ := arrive_alone hwaits r (s.reqHank r.who) (s.reqClass r.who)
  refine ⟨{ s with fab := f }, ⟨hf.trans hflaws, hl.trans hlog⟩, rfl, ?_⟩
  rw [State.request, asHank_of_hank hr.hank, ← harrive]
  obtain ⟨b, hb | hb⟩ := hr.inMemory <;> simp only [hb, flips_none s hr.flips hr.ecc, hr.held]

theorem request_read_plain {st : Status} {bs : List Byte} (hd : r.data = none)
    (hread : ∀ u : State, u.fab.clean → u.sansFab = s.sansFab →
      ∃ t, u.memRead (s.reqHank r.who) (reqId r.who) r.addr r.len = (st, bs, t) ∧ t.sansFab = v.sansFab) :
    ∃ t : State, s.request r = t.emit (.answer st.code bs) ∧ t.sansFab = v.sansFab := by
  obtain ⟨u, hc, hu, hreq⟩ := request_plain hr
  obtain ⟨t, ht, hv⟩ := hread u hc hu
  have htarget : u.target r.addr = s.target r.addr := (congrArg (State.target · r.addr) hu :)
  refine ⟨t, hreq.trans ?_, hv⟩
  obtain ⟨b, hb | hb⟩ := hr.inMemory <;> simp [State.perform, htarget, hb, hd, ht]

theorem request_write_plain {st : Status} {d : List Byte} (hd : r.data = some d)
    (hwrite : ∀ u : State, u.fab.clean → u.sansFab = s.sansFab →
      ∃ t, u.memWrite (s.reqHank r.who) (reqId r.who) r.addr d = (st, t) ∧ t.sansFab = v.sansFab) :
    ∃ t : State, s.request r = t.emit (.answer st.code []) ∧ t.sansFab = v.sansFab := by
  obtain ⟨u, hc, hu, hreq⟩ := request_plain hr
  obtain ⟨t, ht, hv⟩ := hwrite u hc hu
  have htarget : u.target r.addr = s.target r.addr := (congrArg (State.target · r.addr) hu :)
  refine ⟨t, hreq.trans ?_, hv⟩
  obtain ⟨b, hb | hb⟩ := hr.inMemory <;> simp [State.perform, htarget, hb, hd, ht]

end

/-- What a command leaves whose request leaves `v`, up to the fabric's own. -/
theorem exec_memoryRequest_answers {s v : State} {r : MemReq} {o : Out} (hok : memReqOk r = true) (hcalm : Calm v) (hout : v.out = [])
    (hreq : ∃ t : State, (fresh s).request r = t.emit o ∧ t.sansFab = v.sansFab) :
    ∃ t, exec (.memoryRequest r) s = .next t ∧ t = { v with fab := t.fab, out := [o] } := by
  obtain ⟨t, hreq, hv⟩ := hreq
  have hsettle : (t.emit o).settle = t.emit o :=
    settle_of_calm (calm_congr hcalm (congrArg (·.stw.reports) hv :) (congrArg State.chans hv :))
  refine ⟨t.emit o, ?_, ?_⟩
  · rw [exec_memoryRequest hok, hreq, hsettle]
  · rw [eq_of_sansFab hv, State.emit]
    simp [hout]

end Sys2Proof.Machine
end

section
namespace Sys2Proof.Proofs

open Machine Safety

/-- Settles O23: memory performs the request at once, after its tag line is in the cache: a read as the tags and WRITTEN of its granule say,
and a write as the tags say. -/
theorem memoryAccessesAreChecked : Obligations.MemoryAccessesAreChecked := by
  refine ⟨?_, ?_⟩
  · intro s who a n hcalm hquiet hhank hn hfit hmem htable h answers counted
    have hplain : PlainRequest (fresh s) { who := who, addr := a, len := n, data := none, ecc := 0 } :=
      ⟨by simp [memReqOk, hn, hfit], hmem, hquiet, hhank, rfl, rfl, rfl⟩
    have hanswers : ∀ (v : State) (st : Status) (bs : List Byte), Calm v → v.out = [] →
        (∀ u : State, u.fab.clean → u.sansFab = (fresh s).sansFab →
          ∃ t, u.memRead h (reqId who) a n = (st, bs, t) ∧ t.sansFab = v.sansFab) → answers v st.code bs :=
      fun v st bs hv hout hread => exec_memoryRequest_answers hplain.ok hv hout (request_read_plain hplain rfl hread)
    have hcounted : counted = (fresh s).countUnwritten h := rfl
    have hbytes : s.bytesAt a n = (fresh s).bytesAt a n := bytesAt_congr (s := fresh s) (t := s) rfl a n
    clear_value counted
    subst hcounted
    rw [hbytes]
    refine ⟨fun k hk => ?_, fun hk hw => ?_, fun hk hw hmode => ?_, fun hk hw hmode => ?_⟩
    · exact hanswers _ .access _ (calm_congr hcalm rfl rfl) rfl fun u hc hu => memRead_refused hc hu _ n hk
    · exact hanswers _ .ok _ hcalm rfl fun u hc hu => memRead_written hc hu _ n hk hw htable
    · exact hanswers _ .ok _ (calm_congr hcalm rfl rfl) rfl fun u hc hu => memRead_unwritten_zeros hc hu _ n hk hw hmode
    · exact hanswers _ .access _ (calm_congr hcalm rfl rfl) rfl fun u hc hu => memRead_unwritten_faults hc hu _ n hk hw hmode
  · intro s who a bs hcalm hquiet hhank hwf hn hfit hmem htable h go
    have hplain : PlainRequest (fresh s) { who := who, addr := a, len := bs.length, data := some bs, ecc := 0 } :=
      ⟨by simp [memReqOk, hn, hfit], hmem, hquiet, hhank, rfl, rfl, rfl⟩
    have hanswers : ∀ (v : State) (st : Status), Calm v → v.out = [] →
        (∀ u : State, u.fab.clean → u.sansFab = (fresh s).sansFab →
          ∃ t, u.memWrite h (reqId who) a bs = (st, t) ∧ t.sansFab = v.sansFab) →
        ∃ t, go = .next t ∧ t = { v with fab := t.fab, out := [.answer st.code []] } :=
      fun v st hv hout hwrite => exec_memoryRequest_answers hplain.ok hv hout (request_write_plain hplain rfl hwrite)
    refine ⟨fun k hk => ?_, fun hk => ?_⟩
    · exact hanswers _ .access (calm_congr hcalm rfl rfl) rfl fun u hc hu => memWrite_refused hc hu _ bs hk
    · obtain ⟨t, hgo, ht⟩ := hanswers ((fresh s).stored a bs) .ok (calm_congr hcalm rfl rfl) rfl
        fun u hc hu => memWrite_served hc hu _ bs hk htable
      have hstored : t.mem = (s.stored a bs).mem := (congrArg State.mem ht :)
      have hwritten : t.isWritten a = (s.stored a bs).isWritten a := (congrArg (State.isWritten · a) ht :)
      refine ⟨t, hgo, (congrArg State.out ht :), ?_, fun i hi => ?_, fun x hx => ?_, ?_⟩
      · rw [ht]
        rfl
      · rw [hstored, memGet_stored_inside hwf a bs hi]
      · rw [hstored, memGet_stored_outside hwf a bs hx]
      · rw [hwritten, isWritten_stored]

end Sys2Proof.Proofs
end

section
/-! SUPPORT. The choice at a bank or interface, what joins those that wait there, and the route granted next (05 R130, R131, R135). -/

namespace Sys2Proof.Machine

open Safety

/-! ### Least keys -/

theorem leastBy_eq_argmin (key : Nat × MemWait → Nat) (l : List (Nat × MemWait)) : leastBy key l = l.argmin key := by
  induction l with
  | nil => rfl
  | cons x xs ih =>
    rw [leastBy, ih, List.argmin_cons]
    cases xs.argmin key with
    | none => rfl
    | some y => simp only [← not_lt, ite_not]

theorem leastRoute_eq_argmin (key : Nat × Route → Nat) (l : List (Nat × Route)) : leastRoute key l = l.argmin key := by
  induction l with
  | nil => rfl
  | cons x xs ih =>
    rw [leastRoute, ih, List.argmin_cons]
    cases xs.argmin key with
    | none => rfl
    | some y => simp only [← not_lt, ite_not]

/-! ### The choice of a target (R130) -/

/-- Tag-table traffic has used up its share at target `u` while other requests of rank 1 may be served. -/
def State.tagSpent (s : State) (u : Nat) : Prop :=
  (mget s.fab.arbs u {}).sinceTag < 3 ∧ ∃ x ∈ s.ready u, x.2.work.isRequest = true ∧ x.2.work.rank = 1

/-- A patrol scrub that has waited through 64 accesses. -/
def MemWait.due (w : MemWait) : Prop := w.work.isScrub = true ∧ 64 ≤ w.waited

/-- What target `u` may serve next: tag-table traffic is set aside where its share is used up. -/
def State.choosable (s : State) (u : Nat) : List (Nat × MemWait) :=
  if (mget s.fab.arbs u {}).sinceTag < 3 ∧ (s.ready u).any (fun e => e.2.work.isRequest && e.2.work.rank == 1) then
    (s.ready u).filter (fun e => !e.2.work.isTag)
  else s.ready u

/-- The best rank of what target `u` may serve next. -/
def State.bestRank (s : State) (u : Nat) : Nat := ((s.choosable u).map (fun e => e.2.work.rank)).foldl min 4

/-- What target `u` may serve next of the best rank. -/
def State.foremost (s : State) (u : Nat) : List (Nat × MemWait) := (s.choosable u).filter (fun e => e.2.work.rank == s.bestRank u)

/-- The place of one of them in the round robin after the requester that target `u` served last in that rank. -/
def State.memTurn (s : State) (u : Nat) (x : Nat × MemWait) : Nat :=
  rrKey (mget (mget s.fab.arbs u {}).last (s.bestRank u) 159) x.2.work.req

theorem pick_eq (s : State) (u : Nat) : s.pick u =
    match (s.choosable u).find? (fun e => e.2.work.isScrub && decide (64 ≤ e.2.waited)) with
    | some e => some e
    | none =>
      match (s.foremost u).find? (fun e => decide (u < 64 ∧ 64 ≤ e.2.passed)) with
      | some e => some e
      | none => (s.foremost u).argmin (s.memTurn u) := by
  rw [← leastBy_eq_argmin]
  rfl

section
variable {s : State} {u : Nat} {e x : Nat × MemWait}

theorem mem_choosable : x ∈ s.choosable u ↔ x ∈ s.ready u ∧ (x.2.work.isTag = true → ¬s.tagSpent u) := by
  have hspent : ((mget s.fab.arbs u {}).sinceTag < 3 ∧ (s.ready u).any (fun e => e.2.work.isRequest && e.2.work.rank == 1)) ↔
      s.tagSpent u := by simp [State.tagSpent]
  unfold State.choosable
  split
  case isTrue h => simp [hspent.mp h]
  case isFalse h => simp [mt hspent.mpr h]

theorem isTag_eq_false_of_isRequest {w : MemWork} (h : w.isRequest = true) : w.isTag = false := by
  cases w <;> simp_all [MemWork.isRequest, MemWork.isTag]

theorem isTag_eq_false_of_isScrub {w : MemWork} (h : w.isScrub = true) : w.isTag = false := by
  cases w <;> simp_all [MemWork.isScrub, MemWork.isTag]

theorem rank_pos (w : MemWork) : 1 ≤ w.rank := by
  cases w <;> simp [MemWork.rank]

/-- Of the best rank there is something that may be served, whatever is set aside. -/
theorem exists_choosable_rank_le (hx : x ∈ s.ready u) : ∃ y ∈ s.choosable u, y.2.work.rank ≤ x.2.work.rank := by
  by_cases hset : x.2.work.isTag = true ∧ s.tagSpent u
  · obtain ⟨-, -, y, hy, hreq, hrank⟩ := hset
    refine ⟨y, mem_choosable.mpr ⟨hy, fun htag => ?_⟩, hrank ▸ rank_pos _⟩
    simp [isTag_eq_false_of_isRequest hreq] at htag
  · exact ⟨x, mem_choosable.mpr ⟨hx, fun htag hspent => hset ⟨htag, hspent⟩⟩, le_rfl⟩

theorem bestRank_le (hx : x ∈ s.ready u) : s.bestRank u ≤ x.2.work.rank := by
  obtain ⟨y, hy, hle⟩ := exists_choosable_rank_le hx
  rw [State.bestRank, List.foldl_min]
  exact (min_le_right _ _).trans ((List.min?_getD_le_of_mem (List.mem_map_of_mem hy)).trans hle)

theorem mem_foremost : x ∈ s.foremost u ↔ x ∈ s.choosable u ∧ x.2.work.rank = s.bestRank u := by simp [State.foremost]

/-- R130: what is served next is a patrol scrub that is due, or of the foremost a DRAM request that 64 younger ones have passed or the first
in round robin. -/
theorem pick_cases (h : s.pick u = some e) :
    (e ∈ s.choosable u ∧ e.2.due)
    ∨ ((∀ x ∈ s.choosable u, ¬x.2.due) ∧ e ∈ s.foremost u
      ∧ ((u < 64 ∧ 64 ≤ e.2.passed) ∨ ∀ x ∈ s.foremost u, s.memTurn u e ≤ s.memTurn u x)) := by
  rw [pick_eq] at h
  split at h
  case h_1 hdue =>
    obtain rfl := Option.some.inj h
    exact Or.inl ⟨List.mem_of_find?_eq_some hdue, by simpa [MemWait.due] using List.find?_some hdue⟩
  case h_2 hdue =>
    refine Or.inr ⟨by simpa [MemWait.due] using hdue, ?_⟩
    split at h
    case h_1 hpassed =>
      obtain rfl := Option.some.inj h
      exact ⟨List.mem_of_find?_eq_some hpassed, Or.inl (by simpa using List.find?_some hpassed)⟩
    case h_2 => exact ⟨List.argmin_mem h, Or.inr fun x hx => List.le_of_mem_argmin hx h⟩

end

/-! ### Joining what waits (R130, R131) -/

/-- The state in which `ws` waits. -/
def State.withWaits (s : State) (ws : List MemWait) : State := { s with fab := { s.fab with waits := ws } }

theorem acceptFirst_work (w : MemWait) (l : List MemWait) : (acceptFirst w l).map (·.work) = l.map (·.work) := by
  induction l with
  | nil => rfl
  | cons x xs ih =>
    unfold acceptFirst
    split
    · rfl
    · simp [ih]

/-- R131: acceptance marks one of what waits. -/
theorem acceptOne_marks (s : State) (u : Nat) : ∃ ws, s.acceptOne u = s.withWaits ws
    ∧ ws.map (·.work) = s.fab.waits.map (·.work) := by
  unfold State.acceptOne
  dsimp only
  repeat' split
  · exact ⟨_, rfl, rfl⟩
  · exact ⟨_, rfl, rfl⟩
  · exact ⟨_, rfl, acceptFirst_work _ _⟩

/-- A request that joins comes last of what waits. -/
theorem enqueue_waits (s : State) (w : MemWork) : ∃ ws, s.enqueue w = s.withWaits ws
    ∧ ws.map (·.work) = s.fab.waits.map (·.work) ++ [w] := by
  obtain ⟨ws, hs, hw⟩ := acceptOne_marks (s.withWaits (s.fab.waits ++ [{ work := w }])) (s.memUnit (w.addr s))
  exact ⟨ws, hs, hw.trans List.map_append⟩

/-- R130 (log 189): where the target is taken, or others wait, what arrives joins them. -/
theorem arrive_waits {s : State} {w : MemWork} {held : Bool} (h : held = true ∨ s.waitsAt (s.memUnit (w.addr s)) ≠ []) :
    s.arrive w held = s.enqueue w := by
  have hidle : ((s.waitsAt (s.memUnit (w.addr s))).isEmpty && !held) = false := by
    rcases h with rfl | h <;> simp [*]
  simp [State.arrive, hidle]

/-- A request of a hank to memory, without errors of stored bits, is what arrives there. -/
theorem request_arrives {s : State} {r : MemReq} (hhank : s.reqHank r.who ≠ noHank) (hecc : r.ecc = 0) (hflips : r.flips = [])
    (hmem : s.inMemory r.addr) : s.request r = s.arrive (.request r (s.reqHank r.who) (s.reqClass r.who)) r.held := by
  rw [State.request, asHank_of_hank hhank]
  obtain ⟨b, hb | hb⟩ := hmem <;> simp only [hb, flips_none s hflips hecc]

/-- R130 (log 189): a request that finds its target taken, or others waiting there, waits and is not answered yet. -/
theorem exec_memoryRequest_waits {s : State} {r : MemReq} (hcalm : Calm s) (hok : memReqOk r = true) (hhank : s.reqHank r.who ≠ noHank)
    (hecc : r.ecc = 0) (hflips : r.flips = []) (hmem : s.inMemory r.addr) (hwait : r.held = true ∨ s.waitsAt (s.memUnit r.addr) ≠ []) :
    ∃ ws, exec (.memoryRequest r) s = .next ((fresh s).withWaits ws)
      ∧ ws.map (·.work) = s.fab.waits.map (·.work) ++ [.request r (s.reqHank r.who) (s.reqClass r.who)] := by
  obtain ⟨ws, hjoin, hlast⟩ := enqueue_waits (fresh s) (.request r (s.reqHank r.who) (s.reqClass r.who))
  have harrive := arrive_waits (s := fresh s) (w := .request r (s.reqHank r.who) (s.reqClass r.who)) hwait
  have hrequest := (request_arrives (s := fresh s) hhank hecc hflips hmem).trans (harrive.trans hjoin)
  refine ⟨ws, ?_, hlast⟩
  rw [exec_memoryRequest hok, hrequest, settle_of_calm (s := (fresh s).withWaits ws) (calm_congr hcalm rfl rfl)]

/-! ### The route granted next (R135) -/

/-- The place of a route in the round robin after the one last granted. -/
def State.routeTurn (s : State) (x : Nat × Route) : Nat := (x.1 + 1023 - s.fab.lastRoute % 1024) % 1024

/-- The ready routes that have been passed over for 64 grants. -/
def State.overdueRoutes (s : State) : List (Nat × Route) := s.readyRoutes.filter (fun x => decide (64 ≤ x.2.passed))

theorem pickRoute_eq (s : State) : s.pickRoute =
    match if s.fab.sinceForced < 3 then none else s.overdueRoutes.argmin s.routeTurn with
    | some x => some (x.1, x.2, true)
    | none => (s.readyRoutes.argmin (fun x => (3 - x.2.priority) * 1024 + s.routeTurn x)).map (fun x => (x.1, x.2, false)) := by
  rw [← leastRoute_eq_argmin, ← leastRoute_eq_argmin]
  rfl

section
variable {s : State} {n : Nat} {r : Route}

theorem mem_readyRoutes : (n, r) ∈ s.readyRoutes ↔ (n, r) ∈ s.routes ∧ r.formed = true ∧ r.ready ≠ [] ∧ 0 < r.credits := by
  simp [State.readyRoutes, and_assoc]

/-- R135: a forced grant is of a route passed over for 64 grants, after three that were not forced. -/
theorem pickRoute_forced (h : s.pickRoute = some (n, r, true)) : (n, r) ∈ s.readyRoutes ∧ 64 ≤ r.passed ∧ 3 ≤ s.fab.sinceForced := by
  rw [pickRoute_eq] at h
  split at h
  case h_2 => simp at h
  case h_1 x hx =>
    obtain ⟨rfl, rfl, -⟩ : x.1 = n ∧ x.2 = r ∧ true = true := by simpa using h
    split at hx
    case isTrue => cases hx
    case isFalse hforced =>
      obtain ⟨hmem, hpassed⟩ := List.mem_filter.mp (List.argmin_mem hx)
      exact ⟨hmem, of_decide_eq_true hpassed, not_lt.mp hforced⟩

/-- R135: another grant is made while none is due, and no ready route has a higher PRIORITY. -/
theorem pickRoute_byPriority (h : s.pickRoute = some (n, r, false)) : (n, r) ∈ s.readyRoutes
    ∧ (s.fab.sinceForced < 3 ∨ ∀ y ∈ s.readyRoutes, y.2.passed < 64)
    ∧ ∀ y ∈ s.readyRoutes, y.2.priority ≤ 3 → y.2.priority ≤ r.priority := by
  rw [pickRoute_eq] at h
  split at h
  case h_1 => simp at h
  case h_2 hnone =>
    obtain ⟨x, hx, hxr⟩ := Option.map_eq_some_iff.mp h
    obtain ⟨rfl, rfl, -⟩ : x.1 = n ∧ x.2 = r ∧ false = false := by simpa using hxr
    refine ⟨List.argmin_mem hx, ?_, fun y hy hle => ?_⟩
    · split at hnone
      case isTrue hforced => exact Or.inl hforced
      case isFalse =>
        have hempty : s.overdueRoutes = [] := List.argmin_eq_none.mp hnone
        exact Or.inr fun y hy => by simpa using List.filter_eq_nil_iff.mp hempty y hy
    · have hturn : ∀ z, s.routeTurn z < 1024 := fun z => Nat.mod_lt _ (by decide)
      have hkey := List.le_of_mem_argmin hy hx
      have := hturn x
      have := hturn y
      omega

end

end Sys2Proof.Machine
end

section
namespace Sys2Proof.Proofs

open Machine Safety

/-- Settles O27: the choice of a target, a request that waits (log 189), and the choice of the fabric. -/
theorem waitingRequestsAreServedByRank : Obligations.WaitingRequestsAreServedByRank := by
  refine ⟨?_, ?_, ?_⟩
  · intro s u e hpick due spent last
    rcases pick_cases hpick with ⟨hmem, hdue⟩ | ⟨hnone, hmem, hchoice⟩
    · exact ⟨(mem_choosable.mp hmem).1, Or.inl hdue⟩
    obtain ⟨hchoosable, hrank⟩ := mem_foremost.mp hmem
    obtain ⟨hready, hshare⟩ := mem_choosable.mp hchoosable
    refine ⟨hready, Or.inr ⟨fun x hx hdue => ?_, fun x hx => hrank ▸ bestRank_le hx,
      hchoice.imp id fun hfirst x hx hxr hxs => ?_, hshare⟩⟩
    · have htag : x.2.work.isTag = false := isTag_eq_false_of_isScrub hdue.1
      exact hnone x (mem_choosable.mpr ⟨hx, by simp [htag]⟩) hdue
    · have hkey := hfirst x (mem_foremost.mpr ⟨mem_choosable.mpr ⟨hx, hxs⟩, hxr.trans hrank⟩)
      rwa [State.memTurn, State.memTurn, ← hrank] at hkey
  · intro s r hcalm hok hhank hecc hflips hmem hwait
    obtain ⟨ws, hexec, hlast⟩ := exec_memoryRequest_waits hcalm hok hhank hecc hflips hmem hwait
    exact ⟨_, hexec, rfl, rfl, hlast⟩
  · intro s n r forced hpick
    cases forced with
    | true =>
      obtain ⟨hmem, hpassed, hforced⟩ := pickRoute_forced hpick
      obtain ⟨-, hformed, hready, hcredits⟩ := mem_readyRoutes.mp hmem
      exact ⟨hmem, hformed, hready, hcredits, fun _ => ⟨hpassed, hforced⟩, nofun⟩
    | false =>
      obtain ⟨hmem, hnone, hhigh⟩ := pickRoute_byPriority hpick
      obtain ⟨-, hformed, hready, hcredits⟩ := mem_readyRoutes.mp hmem
      exact ⟨hmem, hformed, hready, hcredits, nofun, fun _ => ⟨hnone, hhigh⟩⟩

end Sys2Proof.Proofs
end

section
/-! SUPPORT. Flits and credits on a route: what arrives, what is delivered, what a credit fault leaves (05 R133, R134, R144). -/

namespace Sys2Proof.Machine

open Safety

/-! ### The end of a command, and reports -/

/-- No report waits: the steward takes none. -/
theorem takeReports_of_none {s : State} (h : s.stw.reports = []) : s.takeReports = s := by
  have hstw : ({ s.stw with reports := [] } : Stw) = s.stw := by rw [← h]
  simp only [State.takeReports, h, List.foldl_nil, hstw]

/-- Reports of one cause wait in the order of their units. -/
theorem reports_foldl_report (l : List Nat) (cause : Nat) (s : State) :
    (l.foldl (fun s u => s.report u cause) s).stw.reports = s.stw.reports ++ l.map (fun e => (e, cause)) := by
  induction l generalizing s with
  | nil => simp
  | cons u l ih =>
    rw [List.foldl_cons, ih]
    simp [State.report]

/-! ### Routes -/

@[simp] theorem State.setRoute_setRoute (s : State) (n : Nat) (x y : Route) : (s.setRoute n x).setRoute n y = s.setRoute n y := by
  simp [State.setRoute]

/-- The hanks that a port works for are no matter of the routes. -/
@[simp] theorem portHanks_setRoute (s : State) (n e : Nat) (x : Route) : (s.setRoute n x).portHanks e = s.portHanks e := rfl

section
variable {s : State} {n : Nat} {f : Flit}

/-- R134: flits stay in the buffer while the port runs no job. -/
theorem drainRoute_idle (h : s.portHanks (s.route n).dst = none) : s.drainRoute n = s := by
  unfold State.drainRoute
  cases (s.route n).buf.length <;> simp [State.drainFlits, h]

/-- R133: the one flit in the buffer goes to a job. -/
theorem drainRoute_single {hs : List Nat} (hport : s.portHanks (s.route n).dst = some hs) (hbuf : (s.route n).buf = [f]) :
    s.drainRoute n = (s.setRoute n { s.route n with buf := [] }).deliverFlit n hs f := by
  simp [State.drainRoute, State.drainFlits, hport, hbuf]

/-- R134: a flit for which there is a slot takes it. -/
theorem bufferFlit_room (hroom : (s.route n).buf.length < 32) (hsync : (s.route n).resync = false) :
    s.bufferFlit f n = (s.setRoute n { s.route n with buf := (s.route n).buf ++ [f] }).drainRoute n := by
  simp [State.bufferFlit, Nat.not_le.mpr hroom, hsync]

/-- R134 (log 190): with none under way, a flit that arrives spends a credit. -/
theorem flitArrive_spends (hwoven : (s.route f.route).woven = true) (hformed : (s.route f.route).formed = true)
    (hwire : (s.route f.route).wire = []) (hcredit : 0 < (s.route f.route).credits) : s.flitArrive f =
      (s.setRoute f.route { s.route f.route with credits := (s.route f.route).credits - 1 }).bufferFlit f f.route := by
  simp [State.flitArrive, hwoven, hformed, hwire, hcredit.ne']

/-- R135: of the flits under way the oldest arrives. -/
theorem flitArrive_wire {g : Flit} {rest : List Flit} (hwoven : (s.route f.route).woven = true)
    (hwire : (s.route f.route).wire = g :: rest) :
    s.flitArrive f = (s.setRoute f.route { s.route f.route with wire := rest }).bufferFlit g f.route := by
  simp [State.flitArrive, hwoven, hwire]

end

/-! ### Credit faults (R144) -/

/-- What a credit fault of route `n` in `s` leaves in `t`: the route starts again, the fault is counted, and the units
of its ends are reported. -/
structure FaultOf (s : State) (n : Nat) (t : State) : Prop where
  route : t.route n = { s.route n with credits := 32, buf := [], wire := [], open_ := false, resync := true }
  linkFaults : t.fab.linkFaults = satAdd 32 s.fab.linkFaults 1
  reports : t.stw.reports = s.stw.reports
    ++ (endpointUnits s.img (s.route n).src ++ endpointUnits s.img (s.route n).dst).map (fun e => (e, 3))

/-- How many credits were left does not matter. -/
theorem FaultOf.of_credits {s t : State} {n c : Nat} (h : FaultOf (s.setRoute n { s.route n with credits := c }) n t) : FaultOf s n t := by
  obtain ⟨hroute, hcount, hreports⟩ := h
  rw [State.route_setRoute] at hroute hreports
  exact ⟨hroute, hcount, hreports⟩

theorem creditFault_faultOf (s : State) (n : Nat) : FaultOf s n (s.creditFault n) := by
  unfold State.creditFault
  extract_lets r s₁ s₂ fab s₃ s₄
  have h₁ : s₁ = { s with streams := s₁.streams } := by unfold s₁; split <;> rfl
  have h₄ : s₄.sansPulses = s₃.sansPulses := sansPulses_pulse s₃ 0x007
  have hroute : s₃.route n = { r with buf := [], wire := [], credits := 32, open_ := false, resync := true } :=
    State.route_setRoute s₁ n _
  have hfab : s₃.fab.linkFaults = satAdd 32 s.fab.linkFaults 1 := (congrArg (fun u : State => satAdd 32 u.fab.linkFaults 1) h₁ :)
  have hreports : s₄.stw.reports = s.stw.reports :=
    (congrArg (fun u : State => u.stw.reports) h₄ :).trans (congrArg (fun u : State => u.stw.reports) h₁ :)
  have himg : s₄.img = s.img := (congrArg State.img h₄ :).trans (congrArg State.img h₁ :)
  have hkept := foldl_keeps (fun u : State => (u.route n, u.fab)) (f := fun s u => s.report u 3) (fun _ _ => rfl)
    (endpointUnits s₄.img r.src ++ endpointUnits s₄.img r.dst) s₄
  obtain ⟨hroute', hfab'⟩ := Prod.mk.inj hkept
  refine ⟨?_, ?_, ?_⟩
  · exact hroute'.trans ((congrArg (State.route · n) h₄ :).trans hroute)
  · exact (congrArg Fab.linkFaults hfab').trans ((congrArg (fun u : State => u.fab.linkFaults) h₄ :).trans hfab)
  · rw [reports_foldl_report, hreports, himg]

section
variable {s : State} {f : Flit}

/-- R144 (log 190): a flit without a credit or without a slot is a credit fault. -/
theorem flitArrive_fault (hwoven : (s.route f.route).woven = true) (hformed : (s.route f.route).formed = true)
    (hwire : (s.route f.route).wire = []) (hfault : (s.route f.route).credits = 0 ∨ 32 ≤ (s.route f.route).buf.length) :
    FaultOf s f.route (s.flitArrive f) := by
  rcases Nat.eq_zero_or_pos (s.route f.route).credits with hzero | hcredit
  · have harrive : s.flitArrive f = s.creditFault f.route := by simp [State.flitArrive, hwoven, hformed, hwire, hzero]
    exact harrive ▸ creditFault_faultOf s f.route
  · have hfull : 32 ≤ (s.route f.route).buf.length := hfault.resolve_left hcredit.ne'
    rw [flitArrive_spends hwoven hformed hwire hcredit, State.bufferFlit, State.route_setRoute]
    dsimp only
    rw [if_pos hfull]
    exact (creditFault_faultOf _ _).of_credits

/-- R144: more than 32 credits are a credit fault. -/
theorem creditReturn_fault {n count : Nat} (hwoven : (s.route n).woven = true) (hmany : 32 < (s.route n).credits + count) :
    FaultOf s n (s.creditReturn n count) := by
  have hreturn : s.creditReturn n count = s.creditFault n := by simp [State.creditReturn, hwoven, hmany]
  exact hreturn ▸ creditFault_faultOf s n

end

/-! ### Credits that return (R134) -/

theorem arbitrate_of_none_ready {s : State} (h : ∀ x ∈ s.routes, x.2.ready = []) : s.arbitrate = s := by
  have hsum : (s.routes.map (fun x => x.2.ready.length)).sum = 0 :=
    List.sum_eq_zero fun k hk => by
      obtain ⟨x, hx, rfl⟩ := List.mem_map.mp hk
      simp [h x hx]
  rw [State.arbitrate, hsum, State.grantFlits]

theorem eq_or_mem_of_mem_mset {α : Type} {m : NMap α} {k : Nat} {x : α} {e : Nat × α} (h : e ∈ mset m k x) :
    e = (k, x) ∨ e ∈ m := by
  induction m with
  | nil => simpa [mset] using h
  | cons p m ih =>
    unfold mset at h
    repeat' split at h
    all_goals grind

/-- R134: where no flit waits for a credit, what returns is counted. -/
theorem creditReturn_counted {s : State} {n count : Nat} (hwoven : (s.route n).woven = true) (hfew : (s.route n).credits + count ≤ 32)
    (hready : ∀ x ∈ s.routes, x.2.ready = []) (hready' : (s.route n).ready = []) :
    s.creditReturn n count = s.setRoute n { s.route n with credits := (s.route n).credits + count } := by
  have hall : ∀ x ∈ (s.setRoute n { s.route n with credits := (s.route n).credits + count }).routes, x.2.ready = [] := by
    intro x hx
    rcases eq_or_mem_of_mem_mset hx with rfl | hx
    · exact hready'
    · exact hready x hx
  rw [← arbitrate_of_none_ready hall]
  simp [State.creditReturn, hwoven, Nat.not_lt.mpr hfew]

/-! ### Flits that arrive (R133, R134) -/

section
variable {s : State} {f : Flit}

/-- R134 (log 190): a flit that a credit covers is buffered while its port runs no job. -/
theorem flitArrive_buffered (hwoven : (s.route f.route).woven = true) (hformed : (s.route f.route).formed = true)
    (hwire : (s.route f.route).wire = []) (hcredit : 0 < (s.route f.route).credits) (hroom : (s.route f.route).buf.length < 32)
    (hsync : (s.route f.route).resync = false) (hport : s.portHanks (s.route f.route).dst = none) :
    s.flitArrive f = s.setRoute f.route
      { s.route f.route with credits := (s.route f.route).credits - 1, buf := (s.route f.route).buf ++ [f] } := by
  rw [flitArrive_spends hwoven hformed hwire hcredit, bufferFlit_room (by simpa using hroom) (by simpa using hsync),
    drainRoute_idle (by simpa using hport)]
  simp

/-- R135: the oldest under way is buffered while its port runs no job. -/
theorem flitArrive_wire_buffered {g : Flit} {rest : List Flit} (hwoven : (s.route f.route).woven = true)
    (hwire : (s.route f.route).wire = g :: rest) (hroom : (s.route f.route).buf.length < 32)
    (hsync : (s.route f.route).resync = false) (hport : s.portHanks (s.route f.route).dst = none) :
    s.flitArrive f = s.setRoute f.route { s.route f.route with wire := rest, buf := (s.route f.route).buf ++ [g] } := by
  rw [flitArrive_wire hwoven hwire, bufferFlit_room (by simpa using hroom) (by simpa using hsync),
    drainRoute_idle (by simpa using hport)]
  simp

/-- R133: a flit that finds its port's buffer empty and a job there is delivered, a credit less. -/
theorem flitArrive_delivered {hs : List Nat} (hwoven : (s.route f.route).woven = true) (hformed : (s.route f.route).formed = true)
    (hwire : (s.route f.route).wire = []) (hcredit : 0 < (s.route f.route).credits) (hbuf : (s.route f.route).buf = [])
    (hsync : (s.route f.route).resync = false) (hport : s.portHanks (s.route f.route).dst = some hs) :
    s.flitArrive f = (s.setRoute f.route
      { s.route f.route with credits := (s.route f.route).credits - 1, buf := [] }).deliverFlit f.route hs f := by
  rw [flitArrive_spends hwoven hformed hwire hcredit, bufferFlit_room (by simp [hbuf]) (by simpa using hsync),
    drainRoute_single (f := f) (by simpa using hport) (by simp [hbuf])]
  simp

end

/-! ### Delivery (R133) -/

/-- R92: an access error is counted for its hank. -/
theorem accessErrors_accessError (s : State) (h a k : Nat) :
    ((s.accessError h a k).hank h).accessErrors = satAdd 32 (s.hank h).accessErrors 1 := by
  unfold State.accessError
  dsimp only
  split <;> rw [State.hank_setHank]

section
variable {s : State} {n : Nat} {hs : List Nat} {f : Flit}

/-- A flit of one of the hanks joins the stream at its port. -/
theorem deliverFlit_own (h : hs.contains f.hank = true) :
    (s.deliverFlit n hs f).route n = { s.route n with flits := ((s.route n).flits + 1) % 2 ^ 32, open_ := !f.last }
    ∧ (s.deliverFlit n hs f).streams = mset s.streams (s.route n).dst (mget s.streams (s.route n).dst [] ++ [f])
    ∧ (s.deliverFlit n hs f).stw = s.stw := by
  simp only [State.deliverFlit, if_pos h]
  exact ⟨State.route_setRoute s n _, rfl, rfl⟩

/-- A flit of another hank is discarded as an access error of its own. -/
theorem deliverFlit_foreign (h : hs.contains f.hank = false) :
    (s.deliverFlit n hs f).route n = s.route n ∧ (s.deliverFlit n hs f).streams = s.streams
    ∧ ((s.deliverFlit n hs f).hank f.hank).accessErrors = satAdd 32 (s.hank f.hank).accessErrors 1
    ∧ (s.deliverFlit n hs f).stw = s.stw := by
  simp only [State.deliverFlit, if_neg (ne_true_of_eq_false h)]
  exact ⟨rfl, rfl, accessErrors_accessError s f.hank _ 1, rfl⟩

end

end Sys2Proof.Machine
end

section
/-! SUPPORT. A patrol read of a Skein block, from the address to the end of its pass (05 R138, R139, R146; log 186). -/

namespace Sys2Proof.Machine

open Safety

/-! ### Addresses and code words of Skein -/

/-- R18: Skein lies below DRAM. -/
theorem lt_dramBase_of_target_skein {s : State} {a b : Nat} (h : s.target a = .skein b) : a < dramBase := by
  unfold State.target at h
  dsimp only at h
  split at h
  case isTrue => cases h
  split at h
  case isTrue hrange =>
    have hbanks : nBanks s.variant ≤ 48 := by cases s.variant <;> decide
    calc a < skeinBase + nBanks s.variant * mib := hrange.2
      _ ≤ skeinBase + 48 * mib := Nat.add_le_add_left (Nat.mul_le_mul_right _ hbanks) _
      _ < dramBase := by decide
  case isFalse =>
    exfalso
    repeat' split at h
    all_goals cases h

section
variable {a : Nat} (ha : a < dramBase)
include ha

/-- R120: a block of Skein holds eight code words. -/
theorem codeWords_skeinBlock : codeWords (a - a % 64) 64 = (List.range 8).map (fun i => 8 * ((a - a % 64) / 8 + i)) := by
  have hcount : (a - a % 64 + 64 + 8 - 1) / 8 - (a - a % 64) / 8 = 8 := by omega
  have hlt : a - a % 64 < dramBase := by omega
  simp only [codeWords, if_pos hlt, hcount]

/-- One of them holds the byte at `a`. -/
theorem mem_codeWords_skeinBlock : 8 * (a / 8) ∈ codeWords (a - a % 64) 64 := by
  rw [codeWords_skeinBlock ha]
  exact List.mem_map.mpr ⟨a % 64 / 8, List.mem_range.mpr (by omega), by omega⟩

theorem nodup_codeWords_skeinBlock : (codeWords (a - a % 64) 64).Nodup := by
  rw [codeWords_skeinBlock ha]
  exact List.nodup_range.map fun i j (hij : 8 * _ = 8 * _) => by omega

/-- The code word of the byte at `a`. -/
theorem codeWords_skeinByte : codeWords a 1 = [8 * (a / 8)] := by
  have hcount : (a + 1 + 8 - 1) / 8 - a / 8 = 1 := by omega
  simp only [codeWords, if_pos ha, hcount]
  rfl

end

/-! ### The one error of the stored bits -/

/-- The state in which these errors of stored bits alone have been met by no access. -/
def State.withFlaws (s : State) (l : NMap Nat) : State := { s with fab := { s.fab with flaws := l } }

/-- An error at a written Skein address, where there was none. -/
theorem flip_skein {s : State} {a : Nat} (ha : a < dramBase) (hw : s.isWritten a = true) (hf : s.fab.flaws = []) (kind : Nat) :
    s.flip a (kind + 1) = s.withFlaws [(8 * (a / 8), min (kind + 1) 2)] := by
  simp [State.flip, State.withFlaws, State.eccOn, State.flaw, codeWords_skeinByte ha, ha, hw, hf, mget, mget?, mset]

section
variable {s : State} {a u : Nat}

theorem flaw_single {k : Nat} (hf : s.fab.flaws = [(u, k)]) (w : Nat) : s.flaw w = if w = u then k else 0 := by
  simp only [State.flaw, hf, mget, mget?, eq_comm (a := u)]
  split <;> simp

/-- R138: of the words of a block the one with a correctable error is corrected. -/
theorem correctAll_single {us : List Nat} (hf : s.fab.flaws = [(u, 1)]) (hmem : u ∈ us) (hnodup : us.Nodup) (req : Nat) :
    s.correctAll a req us = s.corrected a u req := by
  have hone : us.filter (fun w => s.flaw w == 1) = [u] := by
    have hpred : (fun w => s.flaw w == 1) = (· == u) := by
      funext w
      rw [flaw_single hf]
      split <;> simp [*]
    rw [hpred, List.filter_beq, List.count_eq_one_of_mem hnodup hmem, List.replicate_one]
  rw [State.correctAll, hone, List.foldl_cons, List.foldl_nil]

end

/-! ### Errors counted in Skein -/

/-- The state with this fabric. -/
def State.withFab (s : State) (f : Fab) : State := { s with fab := f }

/-- What an error at a Skein address counts and latches: kind 1 is corrected, another is not. -/
def Fab.counted (f : Fab) (a kind req : Nat) : Fab := { f with
  sknCe := satAdd 32 f.sknCe (b2n (kind = 1))
  sknUe := satAdd 32 f.sknUe (b2n (kind ≠ 1))
  sknErr := f.sknErr.take a kind req
  banks := mupd f.banks ((a - skeinBase) / mib) {} (fun k =>
    { ue := satAdd 16 k.ue (b2n (kind ≠ 1)), ce := satAdd 16 k.ce (b2n (kind = 1)) }) }

theorem countError_skein {a : Nat} (ha : a < dramBase) (s : State) (kind req : Nat) :
    s.countError a kind req = s.withFab (s.fab.counted a kind req) := if_pos ha

section
variable {s : State} {a : Nat} (ha : a < dramBase)
include ha

/-- R138, R142: the first corrected error of a bank in its hour is counted, and no limit is crossed. -/
theorem correctedError_first (hfirst : mget s.fab.ceTimes (s.memUnit a) [] = []) (hlimit : 0 < s.fab.ceLimit) (req : Nat) :
    ∃ f : Fab, s.correctedError a req = s.withFab f ∧ f.sknCe = satAdd 32 s.fab.sknCe 1
      ∧ f.flaws = s.fab.flaws ∧ f.sknPasses = s.fab.sknPasses := by
  have h₁ := countError_skein ha s 1 req
  unfold State.correctedError
  extract_lets s₁ u old fab s₂
  change s₁ = _ at h₁
  have hold : old = [] := by
    unfold old u
    rw [h₁]
    exact congrArg (List.filter _) hfirst
  clear_value old
  subst hold
  clear_value s₁
  subst h₁
  have hbelow : ([] : List Nat).length < s₂.fab.ceLimit := hlimit
  rw [if_pos hbelow]
  exact ⟨_, rfl, rfl, rfl, rfl⟩

/-- R139: an uncorrectable error is counted and logged while the log is empty, and pulses an event. -/
theorem uncorrectable_first (hlog : s.fab.ueLog = []) (req : Nat) :
    ∃ f : Fab, (s.uncorrectable a req).sansPulses = (s.withFab f).sansPulses ∧ f.sknUe = satAdd 32 s.fab.sknUe 1
      ∧ f.ueLog = [{ base := a - a % 64 }] ∧ f.sknPasses = s.fab.sknPasses := by
  have hroom : (s.withFab (s.fab.counted a 2 req)).ueLogFull = false := by
    have hempty : (s.withFab (s.fab.counted a 2 req)).fab.ueLog = [] := hlog
    simp [State.ueLogFull, hempty]
  unfold State.uncorrectable
  rw [countError_skein ha]
  dsimp only
  rw [sansPulses_pulse, if_neg (by simp [hroom])]
  refine ⟨_, rfl, rfl, ?_, rfl⟩
  exact congrArg (· ++ _) hlog

end

/-! ### The read (R146) -/

section
variable {s : State} {a : Nat} (ha : a < dramBase) (hw : s.isWritten a = true) (hlog : s.fab.ueLog = [])
include hw hlog

theorem scrubRead_clean (hf : s.fab.flaws = []) : s.scrubRead a = s := by
  have hclean : s.fab.clean := ⟨hf, hlog⟩
  simp [State.scrubRead, hw, logged_of_clean hclean, correctAll_of_clean hclean, find_flaw_of_clean hclean]

include ha

/-- R138: what the read finds and can correct is corrected, counted, and written back. -/
theorem scrubRead_corrects (hf : s.fab.flaws = [(8 * (a / 8), 1)]) (hfirst : mget s.fab.ceTimes (s.memUnit a) [] = [])
    (hlimit : 0 < s.fab.ceLimit) : ∃ f : Fab, s.scrubRead a = s.withFab f ∧ f.sknCe = satAdd 32 s.fab.sknCe 1 ∧ f.flaws = []
      ∧ f.sknPasses = s.fab.sknPasses := by
  obtain ⟨f, herror, hce, hflaws, hpasses⟩ := correctedError_first ha hfirst hlimit 158
  have hnone : (codeWords (a - a % 64) 64).find? (fun u => s.flaw u == 2) = none :=
    List.find?_eq_none.mpr fun w _ => by
      rw [flaw_single hf]
      split <;> decide
  have hmax : max a (8 * (a / 8)) = a := max_eq_left (by omega)
  have hlogged : s.logged a = false := by simp [State.logged, hlog]
  refine ⟨((s.withFab f).mend (8 * (a / 8)) (8 * (a / 8) + 1)).fab, ?_, hce, ?_, hpasses⟩
  · unfold State.scrubRead
    dsimp only
    rw [if_neg (by simp [hw, hlogged]), hnone, correctAll_single hf (mem_codeWords_skeinBlock ha) (nodup_codeWords_skeinBlock ha),
      State.corrected, hmax, herror]
    rfl
  · simp [State.mend, State.withFab, hflaws, hf]

/-- R139: what it finds and cannot correct is counted and logged. -/
theorem scrubRead_logs (hf : s.fab.flaws = [(8 * (a / 8), 2)]) :
    ∃ f : Fab, (s.scrubRead a).sansPulses = (s.withFab f).sansPulses ∧ f.sknUe = satAdd 32 s.fab.sknUe 1
      ∧ f.ueLog = [{ base := a - a % 64 }] ∧ f.sknPasses = s.fab.sknPasses := by
  have hnone : (codeWords (a - a % 64) 64).filter (fun u => s.flaw u == 1) = [] :=
    List.filter_eq_nil_iff.mpr fun w _ => by
      rw [flaw_single hf]
      split <;> decide
  have hfind : (codeWords (a - a % 64) 64).find? (fun u => s.flaw u == 2) = some (8 * (a / 8)) := by
    obtain ⟨u, hu⟩ := Option.isSome_iff_exists.mp (List.find?_isSome.mpr
      ⟨_, mem_codeWords_skeinBlock ha, by simp [flaw_single hf]⟩ :
        ((codeWords (a - a % 64) 64).find? (fun u => s.flaw u == 2)).isSome = true)
    have htwo := List.find?_some hu
    rw [flaw_single hf] at htwo
    split at htwo
    case isTrue heq => rw [hu, heq]
    case isFalse => cases htwo
  have hmax : max a (8 * (a / 8)) = a := max_eq_left (by omega)
  have hlogged : s.logged a = false := by simp [State.logged, hlog]
  have hread : s.scrubRead a = s.uncorrectable a 158 := by
    unfold State.scrubRead
    dsimp only
    rw [if_neg (by simp [hw, hlogged]), hfind, State.correctAll, hnone, List.foldl_nil]
    exact congrArg (s.uncorrectable · 158) hmax
  rw [hread]
  exact uncorrectable_first ha hlog 158

end

/-- R146: the last read of a Skein pass counts the pass. -/
theorem passEnd_skein {a : Nat} (ha : a < dramBase) (s : State) (passDone : Bool) : s.passEnd a passDone =
    s.withFab { s.fab with sknPasses := if passDone then (s.fab.sknPasses + 1) % 2 ^ 20 else s.fab.sknPasses } := by
  cases passDone
  · rfl
  · simp [State.passEnd, State.withFab, ha]

/-! ### Its turn at the bank (R130) -/

/-- The state with these arbiters. -/
def State.withArbs (s : State) (arbs : NMap MemArb) : State := { s with fab := { s.fab with arbs := arbs } }

@[simp] theorem withFab_withArbs (s : State) (arbs : NMap MemArb) (f : Fab) : (s.withArbs arbs).withFab f = s.withFab f := rfl

@[simp] theorem isWritten_withArbs (s : State) (arbs : NMap MemArb) (a : Nat) : (s.withArbs arbs).isWritten a = s.isWritten a := rfl

@[simp] theorem isWritten_withFlaws (s : State) (l : NMap Nat) (a : Nat) : (s.withFlaws l).isWritten a = s.isWritten a := rfl

@[simp] theorem isWritten_fresh (s : State) (a : Nat) : (fresh s).isWritten a = s.isWritten a := rfl

@[simp] theorem withFab_withFlaws (s : State) (l : NMap Nat) (f : Fab) : (s.withFlaws l).withFab f = s.withFab f := rfl

section
variable {s : State} {a : Nat} {passDone : Bool}

theorem pick_scrubAlone (h : s.fab.waits = [.sole (.scrub a passDone)]) :
    s.pick (s.memUnit a) = some (0, .sole (.scrub a passDone)) := by
  have hready : s.ready (s.memUnit a) = [(0, .sole (.scrub a passDone))] := by
    simp [State.ready, h, MemWait.sole, MemWork.addr, State.behind, MemWork.isRequest]
  unfold State.pick
  dsimp only
  rw [hready]
  simp [MemWait.sole, MemWork.isRequest, MemWork.isScrub, MemWork.rank, leastBy]

theorem grantMem_scrubAlone (h : s.fab.waits = [.sole (.scrub a passDone)]) :
    ∃ arbs, s.grantMem (s.memUnit a) 0 (.scrub a passDone) = { s with fab := { s.fab with waits := [], arbs := arbs } } := by
  have hafter : waitsAfter s (s.memUnit a) 0 (MemWork.scrub a passDone).rank = [] := by simp [waitsAfter, h]
  unfold State.grantMem
  rw [hafter]
  refine ⟨_, acceptOne_of_empty ?_ _⟩
  rfl

theorem serveOne_scrubAlone (h : s.fab.waits = [.sole (.scrub a passDone)]) : s.serveOne true (s.memUnit a) =
    (s.grantMem (s.memUnit a) 0 (.scrub a passDone)).perform true (.scrub a passDone) := by
  rw [State.serveOne, pick_scrubAlone h]
  rfl

/-- R130: a bank at which nothing waits reads at once. -/
theorem arrive_scrubAlone (h : s.fab.waits = []) :
    ∃ arbs, s.arrive (.scrub a passDone) false = ((s.withArbs arbs).scrubRead a).passEnd a passDone := by
  have hidle : (s.waitsAt (s.memUnit a)).isEmpty = true := by simp [State.waitsAt, h]
  obtain ⟨arbs, hgrant⟩ := grantMem_scrubAlone (s := s.alone (.scrub a passDone)) rfl
  have hwaits : ({ s with fab := { s.fab with waits := [], arbs := arbs } } : State) = s.withArbs arbs := by
    rw [← h]
    rfl
  refine ⟨arbs, ?_⟩
  unfold State.arrive
  rw [enqueue_alone h]
  dsimp only [MemWork.addr]
  rw [if_pos (by simp [hidle])]
  exact (serveOne_scrubAlone rfl).trans (congrArg (State.perform · true _) (hgrant.trans hwaits))

end

/-- What a read and the end of its pass leave, when the read raises no report. -/
theorem sansPulses_patrolRead {u : State} {f : Fab} {a : Nat} (ha : a < dramBase)
    (hread : (u.scrubRead a).sansPulses = (u.withFab f).sansPulses) (hreports : u.stw.reports = []) (passDone : Bool) :
    ((u.scrubRead a).passEnd a passDone).takeReports.sansPulses =
      (u.withFab { f with sknPasses := if passDone then (f.sknPasses + 1) % 2 ^ 20 else f.sknPasses }).sansPulses := by
  have hnone : ((u.scrubRead a).passEnd a passDone).stw.reports = [] := by
    rw [passEnd_skein ha]
    exact (congrArg (fun w : State => w.stw.reports) hread :).trans hreports
  rw [takeReports_of_none hnone, passEnd_skein ha]
  exact congrArg (fun w : State => w.withFab { w.fab with
    sknPasses := if passDone then (w.fab.sknPasses + 1) % 2 ^ 20 else w.fab.sknPasses }) hread

/-! ### The command -/

section
variable {s : State} {a b : Nat} (htarget : s.target a = .skein b)
include htarget

/-- R146: the block of a granule that was never written is passed over. -/
theorem exec_patrolScrub_unwritten (hreports : s.stw.reports = []) (hw : s.isWritten a = false) (ecc : Nat) (passDone held : Bool) :
    exec (.patrolScrub a ecc ⟨passDone, held⟩) s = .next ((fresh s).withFab
      { s.fab with sknPasses := if passDone then (s.fab.sknPasses + 1) % 2 ^ 20 else s.fab.sknPasses }) := by
  have hpatrol : (fresh s).patrol a ecc passDone held = (fresh s).passEnd a passDone := by
    have htf : (fresh s).target a = .skein b := htarget
    have hwf : (fresh s).isWritten a = false := hw
    simp [State.patrol, htf, hwf]
  change Host.Outcome.next ((fresh s).patrol a ecc passDone held).takeReports = _
  rw [hpatrol, passEnd_skein (lt_dramBase_of_target_skein htarget)]
  exact congrArg _ (takeReports_of_none hreports)

/-- R146: the block of a written granule is read. -/
theorem exec_patrolScrub_written (hw : s.isWritten a = true) (hwaits : s.fab.waits = []) (ecc : Nat) (passDone : Bool) :
    ∃ arbs, exec (.patrolScrub a ecc ⟨passDone, false⟩) s =
      .next (((((fresh s).flip a ecc).withArbs arbs).scrubRead a).passEnd a passDone).takeReports := by
  have hflip : ((fresh s).flip a ecc).fab.waits = [] := by
    unfold State.flip
    split <;> exact hwaits
  obtain ⟨arbs, harrive⟩ := arrive_scrubAlone (a := a) (passDone := passDone) hflip
  have hpatrol : (fresh s).patrol a ecc passDone false = ((fresh s).flip a ecc).arrive (.scrub a passDone) false := by
    have htf : (fresh s).target a = .skein b := htarget
    have hwf : (fresh s).isWritten a = true := hw
    simp [State.patrol, htf, hwf]
  refine ⟨arbs, ?_⟩
  change Host.Outcome.next ((fresh s).patrol a ecc passDone false).takeReports = _
  rw [hpatrol, harrive]

variable (hreports : s.stw.reports = []) (hw : s.isWritten a = true) (hquiet : Quiet s) (passDone : Bool)
include hreports hw hquiet

/-- R146: a read without an error leaves the state but for the fabric's arbiters, and the pass that it ends. -/
theorem exec_patrolScrub_clean : ∃ arbs, exec (.patrolScrub a 0 ⟨passDone, false⟩) s = .next (((fresh s).withArbs arbs).withFab
    { ((fresh s).withArbs arbs).fab with
      sknPasses := if passDone then (s.fab.sknPasses + 1) % 2 ^ 20 else s.fab.sknPasses }) := by
  obtain ⟨hwaits, hflaws, hlog⟩ := hquiet
  obtain ⟨arbs, hexec⟩ := exec_patrolScrub_written htarget hw hwaits 0 passDone
  have hflip : (fresh s).flip a 0 = fresh s := if_pos (Or.inl rfl)
  have hread : ((fresh s).withArbs arbs).scrubRead a = (fresh s).withArbs arbs := scrubRead_clean hw hlog hflaws
  refine ⟨arbs, hexec.trans ?_⟩
  rw [hflip, hread, passEnd_skein (lt_dramBase_of_target_skein htarget)]
  exact congrArg _ (takeReports_of_none hreports)

/-- R138, R146: a read that finds an error that it can correct. -/
theorem exec_patrolScrub_corrects (hfirst : mget s.fab.ceTimes (s.memUnit a) [] = []) (hlimit : 0 < s.fab.ceLimit) :
    ∃ (t : State) (f : Fab), exec (.patrolScrub a 1 ⟨passDone, false⟩) s = .next t ∧ t.sansPulses = ((fresh s).withFab f).sansPulses
      ∧ f.sknPasses = (if passDone then (s.fab.sknPasses + 1) % 2 ^ 20 else s.fab.sknPasses)
      ∧ f.sknCe = satAdd 32 s.fab.sknCe 1 ∧ f.flaws = [] := by
  obtain ⟨hwaits, hflaws, hlog⟩ := hquiet
  have ha := lt_dramBase_of_target_skein htarget
  obtain ⟨arbs, hexec⟩ := exec_patrolScrub_written htarget hw hwaits 1 passDone
  rw [flip_skein (s := fresh s) ha hw hflaws 0] at hexec
  obtain ⟨f, hread, hce, hmended, hpasses⟩ :=
    scrubRead_corrects (s := ((fresh s).withFlaws [(8 * (a / 8), 1)]).withArbs arbs) ha (by simpa using hw) hlog rfl hfirst hlimit
  have hview := sansPulses_patrolRead ha (congrArg State.sansPulses hread) hreports passDone
  rw [hpasses, withFab_withArbs, withFab_withFlaws] at hview
  exact ⟨_, _, hexec, hview, rfl, hce, hmended⟩

/-- R139, R146: a read that finds an error that it cannot correct. -/
theorem exec_patrolScrub_logs (n : Nat) :
    ∃ (t : State) (f : Fab), exec (.patrolScrub a (n + 2) ⟨passDone, false⟩) s = .next t
      ∧ t.sansPulses = ((fresh s).withFab f).sansPulses
      ∧ f.sknPasses = (if passDone then (s.fab.sknPasses + 1) % 2 ^ 20 else s.fab.sknPasses)
      ∧ f.sknUe = satAdd 32 s.fab.sknUe 1 ∧ f.ueLog = [{ base := a - a % 64 }] := by
  obtain ⟨hwaits, hflaws, hlog⟩ := hquiet
  have ha := lt_dramBase_of_target_skein htarget
  obtain ⟨arbs, hexec⟩ := exec_patrolScrub_written htarget hw hwaits (n + 2) passDone
  have hkind : min (n + 1 + 1) 2 = 2 := by omega
  rw [flip_skein (s := fresh s) ha hw hflaws (n + 1), hkind] at hexec
  obtain ⟨f, hread, hue, hlogged, hpasses⟩ :=
    scrubRead_logs (s := ((fresh s).withFlaws [(8 * (a / 8), 2)]).withArbs arbs) ha (by simpa using hw) hlog rfl
  have hview := sansPulses_patrolRead ha hread hreports passDone
  rw [hpasses, withFab_withArbs, withFab_withFlaws] at hview
  exact ⟨_, _, hexec, hview, rfl, hue, hlogged⟩

end

end Sys2Proof.Machine
end

section
namespace Sys2Proof.Proofs

open Machine Safety

/-- Settles O26: a flit in each outcome, credits that return, credit faults; and a patrol read without an error, with one that it corrects,
and with one that it cannot correct. -/
theorem fabricCreditsAndPatrol : Obligations.FabricCreditsAndPatrol := by
  refine ⟨?_, ?_⟩
  · intro s f count hwoven hformed hreports r faulted
    have harrive : ∀ {t : State}, (fresh s).flitArrive f = t → t.stw.reports = [] → exec (.flitArrival f) s = .next t :=
      fun h hr => congrArg Host.Outcome.next ((congrArg State.takeReports h).trans (takeReports_of_none hr))
    have hfaulted : ∀ {t : State} {c : Instr}, exec c s = .next t.takeReports → FaultOf (fresh s) f.route t → faulted (exec c s) :=
      fun hexec h => ⟨_, hexec, h.route, h.linkFaults, h.reports.trans (congrArg (· ++ _) hreports)⟩
    refine ⟨?_, ?_, ?_, ?_, ?_, ?_⟩
    · intro hwire hcredit hroom hsync hport
      exact harrive (flitArrive_buffered (s := fresh s) hwoven hformed hwire hcredit hroom hsync hport) hreports
    · intro g rest hwire hroom hsync hport
      exact ⟨_, harrive (flitArrive_wire_buffered (s := fresh s) hwoven hwire hroom hsync hport) hreports, rfl,
        State.route_setRoute _ _ _⟩
    · intro hs hwire hcredit hbuf hsync hport
      have hdeliver := flitArrive_delivered (s := fresh s) hwoven hformed hwire hcredit hbuf hsync hport
      generalize hu : (fresh s).setRoute f.route _ = u at hdeliver
      have hroute : u.route f.route = { r with credits := r.credits - 1, buf := [] } := hu ▸ State.route_setRoute _ _ _
      have hstreams : u.streams = s.streams := hu ▸ rfl
      have hstw : u.stw = s.stw := hu ▸ rfl
      have hhank : u.hank f.hank = s.hank f.hank := hu ▸ rfl
      cases hown : hs.contains f.hank with
      | true =>
        obtain ⟨hr, hst, hw⟩ := deliverFlit_own (s := u) (n := f.route) hown
        rw [hroute] at hr hst
        rw [hstreams] at hst
        refine ⟨_, harrive hdeliver (by rw [hw, hstw, hreports]), by rw [hr], by rw [hr], fun _ => ⟨?_, by rw [hr]⟩, nofun⟩
        rw [hst]
        exact mget_mset _ _ _ _
      | false =>
        obtain ⟨hr, hst, hcount, hw⟩ := deliverFlit_foreign (s := u) (n := f.route) hown
        rw [hroute] at hr
        rw [hhank] at hcount
        exact ⟨_, harrive hdeliver (by rw [hw, hstw, hreports]), by rw [hr], by rw [hr], nofun,
          fun _ => ⟨hst.trans hstreams, hcount⟩⟩
    · intro hfew hready hready'
      have hreturn := creditReturn_counted (s := fresh s) hwoven hfew hready hready'
      exact congrArg Host.Outcome.next ((congrArg State.takeReports hreturn).trans (takeReports_of_none hreports))
    · exact fun hmany => hfaulted rfl (creditReturn_fault (s := fresh s) hwoven hmany)
    · exact fun hwire hfault => hfaulted rfl (flitArrive_fault (s := fresh s) hwoven hformed hwire hfault)
  · intro s a b ecc passDone held htarget hreports passes
    refine ⟨fun hw => exec_patrolScrub_unwritten htarget hreports hw ecc passDone held, fun hw hquiet hfirst hlimit => ?_⟩
    match ecc with
    | 0 =>
      obtain ⟨arbs, hexec⟩ := exec_patrolScrub_clean htarget hreports hw hquiet passDone
      exact ⟨_, hexec, rfl, rfl, rfl, fun _ => ⟨rfl, rfl, rfl⟩, nofun, nofun⟩
    | 1 =>
      obtain ⟨t, f, hexec, hview, hpasses, hce, hmended⟩ :=
        exec_patrolScrub_corrects htarget hreports hw hquiet passDone hfirst hlimit
      have hfab : t.fab = f := (congrArg State.fab hview :)
      subst hfab
      exact ⟨t, hexec, (congrArg State.mem hview :), (congrArg State.written hview :), hpasses, nofun,
        fun _ => ⟨hce, hmended⟩, nofun⟩
    | n + 2 =>
      obtain ⟨t, f, hexec, hview, hpasses, hue, hlogged⟩ := exec_patrolScrub_logs htarget hreports hw hquiet passDone n
      have hfab : t.fab = f := (congrArg State.fab hview :)
      subst hfab
      exact ⟨t, hexec, (congrArg State.mem hview :), (congrArg State.written hview :), hpasses, nofun, nofun,
        fun _ => ⟨hue, hlogged⟩⟩

end Sys2Proof.Proofs
end

section
/-! SUPPORT. SEQ of the next entry: every record of fact raises it, and no other work of the steward lowers it (16 R371, R376, R381). -/

namespace Sys2Proof.Machine

open Safety

section
variable (s : State)

theorem head_pulse (e : Nat) : (s.pulse e).lea.head = s.lea.head := (congrArg (fun u : State => u.lea.head) (sansPulses_pulse s e) :)

theorem head_jRing (e : JEntry) : (s.jRing e).lea.head = s.lea.head + 1 :=
  (congrArg (fun u : State => u.lea.head) (sansPulses_jRing s e) :)

/-- An entry takes a SEQ, in the ring, in the reserve or as a lost one. -/
theorem head_lt_jFact (e : JEntry) : s.lea.head < (s.jFact e).lea.head := by
  unfold State.jFact
  split
  · rw [head_jRing]
    exact Nat.lt_succ_self _
  split
  · exact Nat.lt_succ_self _
  · dsimp only
    split
    · exact Nat.lt_succ_self _
    · exact Nat.lt_succ_of_lt (Nat.lt_succ_self _)

theorem head_programEpoch (e : Nat) (ok : Bool) : (s.programEpoch e ok).lea.head = s.lea.head := by
  unfold State.programEpoch
  dsimp only
  repeat' split
  all_goals rfl

/-- R381: a new epoch's count starts at no SEQ that is already given. -/
theorem head_le_jRoll : s.lea.head ≤ s.jRoll.lea.head := by
  unfold State.jRoll State.beginEpoch
  split
  · exact le_rfl
  · refine le_trans ?_ (head_lt_jFact _ _).le
    dsimp only
    rw [head_programEpoch]
    exact le_max_left _ _

theorem head_lt_fact (e : JEntry) : s.lea.head < (s.fact e).lea.head := (head_le_jRoll s).trans_lt (head_lt_jFact _ e)

theorem head_le_pointFact (kind i old new : Nat) : s.lea.head ≤ (s.pointFact kind i old new).lea.head := by
  unfold State.pointFact
  split
  · exact le_rfl
  · exact (head_lt_fact s _).le

theorem head_le_foldl {α : Type} {f : State → α → State} (h : ∀ s x, s.lea.head ≤ (f s x).lea.head) (l : List α) :
    s.lea.head ≤ (l.foldl f s).lea.head := by
  induction l generalizing s with
  | nil => exact le_rfl
  | cons x l ih => exact (h s x).trans (ih _)

theorem lea_lower (i op : Nat) : (s.lower i op).lea = s.lea := rfl

theorem head_le_forceDown (i op : Nat) : s.lea.head ≤ (s.forceDown i op).lea.head := by
  unfold State.forceDown
  extract_lets x s₁
  have h₁ : s.lea.head ≤ s₁.lea.head := head_le_pointFact s _ _ _ _
  clear_value s₁
  split
  · exact le_rfl
  split
  · rwa [State.setIsl_lea]
  · rwa [lea_lower]

theorem head_le_applyCaps : s.lea.head ≤ s.applyCaps.lea.head := head_le_foldl s (fun s i => head_le_forceDown s i _) _

end

/-- While the ring has room a record of fact is an entry of the ring. -/
theorem fact_of_hasRoom {s : State} (h : HasRoom s) (e : JEntry) : s.fact e = s.jRing e := by
  have hroom : s.jRoom 1 = true := by simpa [State.jRoom] using h.2
  rw [State.fact, jRoll_of_epoch h.1, State.jFact, if_pos hroom]

end Sys2Proof.Machine
end

section
/-! SUPPORT. DRAM temperature, and the fans (05 R128; 15 R347 to R349). -/

namespace Sys2Proof.Machine

open Safety

/-! ### DRAM temperature (05 R128) -/

section
variable (s : State)

@[simp] theorem sansIslands_pointFact (kind i old new : Nat) : (s.pointFact kind i old new).sansIslands = s.sansIslands := by
  unfold State.pointFact
  split <;> simp

@[simp] theorem sansIslands_forceDown (i op : Nat) : (s.forceDown i op).sansIslands = s.sansIslands := by
  unfold State.forceDown
  dsimp only
  repeat' split
  all_goals simp

@[simp] theorem sansIslands_applyCaps : s.applyCaps.sansIslands = s.sansIslands :=
  sansIslands_foldl (fun s i => sansIslands_forceDown s i _) _ s

end

theorem mem_of_mget? {α : Type} {m : NMap α} {k : Nat} {x : α} (h : mget? m k = some x) : (k, x) ∈ m := by
  induction m with
  | nil => cases h
  | cons p m ih =>
    unfold mget? at h
    split at h
    case isTrue hk =>
      obtain rfl := Option.some.inj h
      exact List.mem_cons.mpr (Or.inl (Prod.ext hk.symm rfl))
    split at h
    case isTrue => cases h
    case isFalse => exact List.mem_cons_of_mem _ (ih h)

/-- R128: the first interface that reads HOT sets the cap, with a record. -/
theorem mr4_hot {s : State} {l : List (Nat × Bool)} {k m : Nat} {d : Dram} (hcap : s.pwr.hotCap = false)
    (hd : mget? s.dram k = some d) (hactive : d.state = 2) (hhot : l[k]? = some (m, true)) :
    (s.mr4 l).pwr.hotCap = true ∧ s.lea.head < (s.mr4 l).lea.head := by
  unfold State.mr4
  extract_lets old s₁ pwr s₂ i
  have hany : s₁.anyHot = true :=
    List.any_eq_true.mpr ⟨_, List.mem_map_of_mem (mem_of_mget? hd), by simp [hhot, hactive]⟩
  have hfirst : s₁.anyHot = true ∧ (!s₁.pwr.hotCap) = true := ⟨hany, congrArg not hcap⟩
  rw [if_pos hfirst]
  constructor
  · refine (congrArg (fun u : State => u.pwr.hotCap) (sansIslands_applyCaps _) :).trans ?_
    exact (congrArg (fun u : State => u.pwr.hotCap) (sansRecords_fact _ _) :)
  · exact (head_lt_fact s₂ _).trans_le (head_le_applyCaps _)

/-- R128: the release clears the cap, with a record. -/
theorem hotRelease_cool {s : State} (hcap : s.pwr.hotCap = true) (hcool : s.anyHot = false) :
    s.hotRelease.pwr.hotCap = false ∧ s.lea.head < s.hotRelease.lea.head := by
  unfold State.hotRelease
  rw [if_pos (by simp [hcap, hcool])]
  extract_lets pwr s₁
  exact ⟨(congrArg (fun u : State => u.pwr.hotCap) (sansRecords_fact s₁ _) :), head_lt_fact s₁ _⟩

/-! ### Fans (R347 to R349) -/

@[simp] theorem fan_setFan (s : State) (n : Nat) (x : Fan) : (s.setFan n x).fan n = x := by simp [State.fan, State.setFan]

theorem fan_setFan_ne (s : State) {n i : Nat} (x : Fan) (h : n ≠ i) : (s.setFan i x).fan n = s.fan n := by
  simp [State.fan, State.setFan, mget_mset_ne _ _ _ _ _ h]

/-- The tach reading of a fan is taken, if there is one. -/
def State.readTach (s : State) (rpm : List Nat) (i : Nat) : State :=
  match rpm[i]? with
  | some r => s.setFan i { s.fan i with rpm := r % 2 ^ 16 }
  | none => s

/-- The state without the fans' readings. -/
def State.sansFans (s : State) : State := { s with stw := { s.stw with fans := [] } }

theorem sansFans_readTach (s : State) (rpm : List Nat) (i : Nat) : (s.readTach rpm i).sansFans = s.sansFans := by
  unfold State.readTach
  split <;> rfl

theorem fan_readTach_ne (s : State) (rpm : List Nat) {n i : Nat} (h : n ≠ i) : (s.readTach rpm i).fan n = s.fan n := by
  unfold State.readTach
  split
  · exact fan_setFan_ne s _ h
  · rfl

theorem rpm_readTach {rpm : List Nat} {n r : Nat} (hr : rpm[n]? = some r) (s : State) : ((s.readTach rpm n).fan n).rpm = r % 2 ^ 16 := by
  simp [State.readTach, hr]

theorem rpm_foldl_readTach {rpm : List Nat} {n r : Nat} (hr : rpm[n]? = some r) (l : List Nat) (s : State)
    (h : n ∈ l ∨ (s.fan n).rpm = r % 2 ^ 16) : ((l.foldl (State.readTach · rpm) s).fan n).rpm = r % 2 ^ 16 := by
  induction l generalizing s with
  | nil => simpa using h
  | cons i l ih =>
    refine ih _ ?_
    rcases eq_or_ne n i with rfl | hne
    · exact Or.inr (rpm_readTach hr s)
    · rw [fan_readTach_ne s rpm hne]
      exact h.imp_left fun hmem => (List.mem_cons.mp hmem).resolve_left hne

/-- The curve duty of the next update: it rises at once and falls by at most half a point. -/
def State.nextCurve (s : State) : Nat :=
  let goal := 2 * s.stw.curve (hottest s.stw.sites 0 (0, 0)).2
  if s.stw.curve2 ≤ goal then goal else max goal (s.stw.curve2 - 1)

/-- The state with this curve duty. -/
def State.withCurve (s : State) (c : Nat) : State := { s with stw := { s.stw with curve2 := c } }

theorem fanUpdate_eq (s : State) (rpm : List Nat) : s.fanUpdate rpm =
    ((List.range 4).foldl (State.readTach · rpm) s).withCurve ((List.range 4).foldl (State.readTach · rpm) s).nextCurve := rfl

/-- R347: an update takes the tach readings and moves the curve duty. -/
theorem fanUpdate_leaves (s : State) (rpm : List Nat) : s.fanUpdate rpm = { s with stw := (s.fanUpdate rpm).stw }
    ∧ (s.fanUpdate rpm).stw.curve2 = s.nextCurve
    ∧ ∀ n r, n < 4 → rpm[n]? = some r → ((s.fanUpdate rpm).fan n).rpm = r % 2 ^ 16 := by
  have hview := foldl_keeps State.sansFans (f := (State.readTach · rpm)) (fun s i => sansFans_readTach s rpm i) (List.range 4) s
  have hrpm := fun n r (hn : n < 4) hr => rpm_foldl_readTach (rpm := rpm) (n := n) (r := r) hr (List.range 4) s
    (Or.inl (List.mem_range.mpr hn))
  rw [fanUpdate_eq]
  generalize (List.range 4).foldl (State.readTach · rpm) s = u at hview hrpm
  refine ⟨?_, (congrArg State.nextCurve hview :), hrpm⟩
  have hu : u = { s with stw := u.stw } :=
    calc u = { u.sansFans with stw := u.stw } := rfl
      _ = _ := by rw [hview]; rfl
  rw [hu]
  rfl

/-- R348: while an enabled fan is faulted, every enabled fan runs at 100 %. -/
theorem fanDuty_of_fault {s : State} {i : Nat} (hi : i < 4) (hmask : bit s.stw.fanMask i = true) (hfault : (s.fan i).fault = true) :
    s.fanDuty i = 100 := by
  have hfaulted : s.fanFaulted = true := List.any_eq_true.mpr ⟨i, List.mem_range.mpr hi, by simp [hmask, hfault]⟩
  unfold State.fanDuty
  simp [hmask, hfaulted]

/-- A pulse after an entry is no entry. -/
theorem oneEntry_pulse {s t : State} {object old new : Nat} (h : OneEntry s t object old new) (e : Nat) :
    OneEntry s (t.pulse e) object old new := by
  have hlea : (t.pulse e).lea = t.lea := (congrArg State.lea (sansPulses_pulse t e) :)
  rw [OneEntry, hlea]
  exact h

/-- R349: the fault of a driven fan is recorded once, and drives it at 100 %. -/
theorem fanFails_driven {s : State} {i : Nat} (hi : i < 4) (hmask : bit s.stw.fanMask i = true) (hfault : (s.fan i).fault = false)
    (hduty : 0 < s.fanDuty i) (hroom : HasRoom s) : ((s.fanFails i).fan i).fault = true ∧ (s.fanFails i).fanDuty i = 100
      ∧ OneEntry s (s.fanFails i) (jObj 15 (16 + i)) (s.fanDuty i) 100 := by
  unfold State.fanFails
  rw [if_pos ⟨hi, hmask, by simp [hfault], hduty⟩]
  extract_lets old x s₁
  have hfan : (s₁.fan i).fault = true := by simp [s₁]
  have hfull : s₁.fanDuty i = 100 := fanDuty_of_fault hi hmask hfan
  rw [hfull, fact_of_hasRoom (s := s₁) hroom]
  have hview : ∀ e, ((s₁.jRing e).pulse 0x00B).sansRecords = s₁.sansRecords := fun e => by simp
  exact ⟨(congrArg (fun u : State => (u.fan i).fault) (hview _) :).trans hfan, (congrArg (State.fanDuty · i) (hview _) :).trans hfull,
    oneEntry_pulse (oneEntry_jRing s₁ _) _⟩

end Sys2Proof.Machine
end

section
/-! SUPPORT. The watchdog: kicks, the forced state from its expiry through the steward's restart, and its release (15 R350 to R352;
17 R390, R394; log 201). -/

namespace Sys2Proof.Machine

open Safety

/-! ### A loop over islands -/

/-- A loop that changes each island by itself changes each of its islands once. -/
theorem isl_foldl {g : State → Nat → State} {F : Island → Island} (hsame : ∀ s i, (g s i).isl i = F (s.isl i))
    (hother : ∀ s i j, j ≠ i → (g s i).isl j = s.isl j) {l : List Nat} (hnodup : l.Nodup) (s : State) (j : Nat) :
    (l.foldl g s).isl j = if j ∈ l then F (s.isl j) else s.isl j := by
  induction l generalizing s with
  | nil => simp
  | cons i l ih =>
    obtain ⟨hi, hl⟩ := List.nodup_cons.mp hnodup
    rw [List.foldl_cons, ih hl]
    rcases eq_or_ne j i with rfl | hne
    · simp [hi, hsame]
    · simp [hne, hother _ _ _ hne]

/-- The islands that the watchdog holds: all but APP. -/
def State.heldIslands (s : State) : List Nat := s.islands.filter (fun i => decide (i < 5))

theorem nodup_heldIslands (s : State) : s.heldIslands.Nodup := by
  have hislands : s.islands.Nodup := by
    unfold State.islands
    cases s.variant <;> decide
  exact hislands.filter _

theorem mem_heldIslands {s : State} {j : Nat} (hj : j ∈ s.islands) (h5 : j < 5) : j ∈ s.heldIslands :=
  List.mem_filter.mpr ⟨hj, decide_eq_true h5⟩

/-! ### Kicks (R350) -/

/-- R350: the steward's kick with the expected value makes the other value the expected one. -/
theorem wdKick_expected {s : State} {v : Nat} (hv : v % 2 ^ 16 = if s.stw.kick5a then 0x5A5A else 0xA5A5) :
    s.wdKick .steward v = ({ s with stw := { s.stw with kick5a := !s.stw.kick5a } } : State).served := by
  have hzero : s.reqHank .steward = 0 := rfl
  simp only [State.wdKick, hzero, ne_eq, not_true_eq_false, if_false, true_and, if_pos hv]

/-- R350: another kick by hank 0 is counted. -/
theorem wdKick_bad {s : State} {who : Requester} {v : Nat} (hzero : s.reqHank who = 0)
    (hbad : who ≠ .steward ∨ v % 2 ^ 16 ≠ if s.stw.kick5a then 0x5A5A else 0xA5A5) :
    s.wdKick who v = ({ s with stw := { s.stw with badKicks := satAdd 8 s.stw.badKicks 1 } } : State).served := by
  have hnot : ¬(who = .steward ∧ v % 2 ^ 16 = if s.stw.kick5a then 0x5A5A else 0xA5A5) := not_and_or.mpr hbad
  simp only [State.wdKick, hzero, ne_eq, not_true_eq_false, if_false, if_neg hnot]

/-! ### The forced state (R351) -/

/-- What the forced state is made of: the steward's, the alert pin, and the points of the islands. -/
structure ForcedView where
  forced : Bool
  expiries : Nat
  session : Bool
  alert : Bool
  cur : Nat → Nat

def State.forcedView (s : State) : ForcedView :=
  { forced := s.stw.wdForced, expiries := s.stw.expiries, session := s.stw.session, alert := s.pins.thermAlert
    cur := fun i => (s.isl i).cur }

/-- `t` is in the forced state as `s` is, and its journal has not gone back. -/
structure Later (s t : State) : Prop where
  view : t.forcedView = s.forcedView
  head : s.lea.head ≤ t.lea.head

theorem Later.trans {s t u : State} (h : Later s t) (h' : Later t u) : Later s u := ⟨h'.view.trans h.view, h.head.trans h'.head⟩

theorem Later.forced {s t : State} (h : Later s t) : t.stw.wdForced = s.stw.wdForced := congrArg ForcedView.forced h.view

theorem Later.expiries {s t : State} (h : Later s t) : t.stw.expiries = s.stw.expiries := congrArg ForcedView.expiries h.view

theorem Later.session {s t : State} (h : Later s t) : t.stw.session = s.stw.session := congrArg ForcedView.session h.view

theorem Later.alert {s t : State} (h : Later s t) : t.pins.thermAlert = s.pins.thermAlert := congrArg ForcedView.alert h.view

theorem Later.cur {s t : State} (h : Later s t) (i : Nat) : (t.isl i).cur = (s.isl i).cur :=
  congrArg (fun w : ForcedView => w.cur i) h.view

section
variable (s : State)

theorem later_refl : Later s s := ⟨rfl, le_rfl⟩

theorem later_fact (e : JEntry) : Later s (s.fact e) := ⟨(congrArg State.forcedView (sansRecords_fact s e) :), (head_lt_fact s e).le⟩

theorem later_pulse (e : Nat) : Later s (s.pulse e) := ⟨(congrArg State.forcedView (sansPulses_pulse s e) :), (head_pulse s e).ge⟩

theorem later_boot (x : Boot) : Later s { s with boot := x } := ⟨rfl, le_rfl⟩

theorem later_setDir (part : Nat) (d : DirEntry) : Later s (s.setDir part d) := ⟨rfl, le_rfl⟩

/-- R394: the steward's part goes back to its other slot at once; no engine waits for it. -/
theorem later_revertPart (left : SlotState) : Later s (s.revertPart 1 left) := (later_boot s _).trans (later_setDir _ _ _)

/-- R394: a failed trial of the steward's part uses up a try, or reverts the part with a record. -/
theorem later_failTrial : Later s (s.failTrial 1) := by
  unfold State.failTrial
  dsimp only
  split
  · split
    · exact (later_boot s _).trans (later_setDir _ _ _)
    · exact (later_revertPart s _).trans (later_fact _ _)
  · exact later_refl s

theorem later_startTrial (part : Nat) : Later s (s.startTrial part) := by
  unfold State.startTrial
  dsimp only
  split
  · exact later_boot s _
  · exact later_refl s

theorem later_runSlot (part : Nat) (b : Bool) : Later s (s.runSlot part b) := later_boot s _

/-- R392: no unit needs the steward's part, so its load moves none. -/
theorem later_loadPart : Later s (s.loadPart 1) := by
  have hnone : ∀ p, (partUnits 1).filter p = [] := fun _ => rfl
  unfold State.loadPart
  extract_lets d boot s₁ code old
  have h₁ : Later s s₁ := later_boot s _
  rw [hnone, List.foldl_nil]
  split
  · exact h₁.trans ((later_runSlot _ _ _).trans (later_startTrial _ _))
  split
  · exact h₁.trans ((later_fact _ _).trans (later_runSlot _ _ _))
  · exact h₁.trans (later_fact _ _)

theorem later_retier : Later s s.retier := by
  unfold State.retier
  extract_lets t old s₁
  split
  · exact later_refl s
  · have h₁ : Later s s₁ := ⟨rfl, le_rfl⟩
    exact h₁.trans ((later_fact _ _).trans (later_pulse _ _))

/-- An island's record may change while its point stays. -/
theorem later_setIsl {i : Nat} {x : Island} (h : x.cur = (s.isl i).cur) : Later s (s.setIsl i x) := by
  have hcur : (fun j => ((s.setIsl i x).isl j).cur) = fun j => (s.isl j).cur := by
    funext j
    rcases eq_or_ne j i with rfl | hne
    · rw [State.isl_setIsl, h]
    · rw [State.isl_setIsl_ne _ _ _ _ hne]
  exact ⟨congrArg (fun c => { s.forcedView with cur := c }) hcur, le_rfl⟩

theorem later_foldl {α : Type} {f : State → α → State} (h : ∀ s x, Later s (f s x)) (l : List α) : Later s (l.foldl f s) :=
  ⟨foldl_keeps State.forcedView (fun s x => (h s x).view) l s, head_le_foldl s (fun s x => (h s x).head) l⟩

/-- R390: RECOVERY stops the islands' clocks at their points. -/
theorem later_recovery (env : Option BootEnv) : Later s (s.recovery env) := by
  unfold State.recovery
  extract_lets s₁ pins boot s₂
  have h₁ : Later s s₁ := later_foldl s (fun u i => later_setIsl u (x := { u.isl i with stopped := true }) rfl) _
  have h₂ : Later s₁ s₂ := ⟨rfl, le_rfl⟩
  exact h₁.trans (h₂.trans ((later_fact _ _).trans (later_retier _)))

/-- R390: the restart of the steward leaves the other domains as they are. -/
theorem later_restartSteward (h : s.stw.session = false) : Later s s.restartSteward := by
  unfold State.restartSteward
  extract_lets stw s₁
  have hended : Later s { s with stw := { s.stw with kick5a := false, session := false } } :=
    ⟨congrArg (fun b => { s.forcedView with session := b }) h.symm, le_rfl⟩
  have h₁ : Later s s₁ := hended.trans (later_loadPart _)
  split
  · exact h₁
  · exact h₁.trans (later_recovery _ _)

end

/-- What an island runs at while the watchdog holds it. -/
def Island.heldAtOp0 (x : Island) : Island :=
  if x.st = 4 ∨ x.st = 5 then x else { x with cur := 0, target := 0, st := if x.st = 3 then 3 else 0, waiting := none }

/-- An island is held at the clock of OP0, with a record where its point changes. -/
def State.holdIsland (s : State) (i : Nat) : State :=
  if (s.isl i).st = 4 ∨ (s.isl i).st = 5 then s
  else (s.pointFact 3 i (if (s.isl i).st = 2 then (s.isl i).target else (s.isl i).cur) 0).setIsl i (s.isl i).heldAtOp0

theorem isl_pointFact (s : State) (kind i old new j : Nat) : (s.pointFact kind i old new).isl j = s.isl j := by
  unfold State.pointFact
  split
  · rfl
  · exact (congrArg (State.isl · j) (sansRecords_fact s _) :)

section
variable (s : State)

theorem wdClocks_eq : s.wdClocks = s.heldIslands.foldl State.holdIsland s := by
  unfold State.wdClocks
  congr 1
  funext u i
  unfold State.holdIsland Island.heldAtOp0
  dsimp only
  split <;> rfl

theorem isl_holdIsland (i : Nat) : (s.holdIsland i).isl i = (s.isl i).heldAtOp0 := by
  unfold State.holdIsland
  split
  case isTrue h => exact (if_pos h).symm
  case isFalse => exact State.isl_setIsl _ _ _

theorem isl_holdIsland_ne (i j : Nat) (h : j ≠ i) : (s.holdIsland i).isl j = s.isl j := by
  unfold State.holdIsland
  split
  · rfl
  · rw [State.isl_setIsl_ne _ _ _ _ h, isl_pointFact]

theorem isl_wdClocks {j : Nat} (hj : j ∈ s.heldIslands) : (s.wdClocks).isl j = (s.isl j).heldAtOp0 := by
  rw [wdClocks_eq, isl_foldl isl_holdIsland isl_holdIsland_ne (nodup_heldIslands s), if_pos hj]

theorem sansIslands_wdClocks : s.wdClocks.sansIslands = s.sansIslands := by
  rw [wdClocks_eq]
  refine sansIslands_foldl (fun s i => ?_) _ s
  unfold State.holdIsland
  split <;> simp

theorem head_le_wdClocks : s.lea.head ≤ s.wdClocks.lea.head := by
  rw [wdClocks_eq]
  refine head_le_foldl s (fun s i => ?_) _
  unfold State.holdIsland
  split
  · exact le_rfl
  · rw [State.setIsl_lea]
    exact head_le_pointFact _ _ _ _ _

end

/-- R351: an expiry begins the forced state, with a record before any other, and ends the console's session (log 201). -/
theorem wdExpire_leaves (s : State) : s.wdExpire.stw.wdForced = true ∧ s.wdExpire.stw.expiries = satAdd 16 s.stw.expiries 1
    ∧ s.wdExpire.stw.session = false ∧ s.wdExpire.pins.thermAlert = true ∧ s.lea.head < s.wdExpire.lea.head
    ∧ ∀ j ∈ s.islands, j < 5 → (s.isl j).st ≠ 4 → (s.isl j).st ≠ 5 → (s.wdExpire.isl j).cur = 0 := by
  unfold State.wdExpire
  extract_lets stw pins s₁ st s₂
  have h₂ : s₂.sansRecords = s₁.sansRecords := sansRecords_fact s₁ _
  have hpulse : (s₂.wdClocks.pulse 0x00D).sansPulses = s₂.wdClocks.sansPulses := sansPulses_pulse _ _
  have hview : (s₂.wdClocks.pulse 0x00D).sansIslands = s₁.sansIslands :=
    (sansIslands_of_sansRecords (sansRecords_of_sansPulses hpulse)).trans
      ((sansIslands_wdClocks s₂).trans (sansIslands_of_sansRecords h₂))
  refine ⟨(congrArg (fun u : State => u.stw.wdForced) hview :), (congrArg (fun u : State => u.stw.expiries) hview :),
    (congrArg (fun u : State => u.stw.session) hview :), (congrArg (fun u : State => u.pins.thermAlert) hview :), ?_, ?_⟩
  · rw [head_pulse]
    exact (head_lt_fact s₁ _).trans_le (head_le_wdClocks s₂)
  · intro j hj h5 hoff hkept
    have hheld : j ∈ s₂.heldIslands := mem_heldIslands ((congrArg State.islands h₂ :) ▸ hj) h5
    have hisl : s₂.isl j = s.isl j := (congrArg (State.isl · j) h₂ :)
    have hclock : (s₂.wdClocks.pulse 0x00D).isl j = (s₂.isl j).heldAtOp0 :=
      (congrArg (State.isl · j) hpulse :).trans (isl_wdClocks s₂ hheld)
    rw [hclock, hisl, Island.heldAtOp0, if_neg (not_or.mpr ⟨hoff, hkept⟩)]

/-- R351, R394: the steward's restart after an expiry leaves the forced state as the expiry made it. -/
theorem later_watchdogRestart (s : State) : Later s.wdExpire s.watchdogRestart := by
  obtain ⟨-, -, hsession, -⟩ := wdExpire_leaves s
  have htrial := later_failTrial s.wdExpire
  exact htrial.trans (later_restartSteward _ (htrial.session.trans hsession))

/-- R351: what an expiry leaves once the steward has restarted. -/
theorem watchdogRestart_leaves (s : State) : s.watchdogRestart.stw.wdForced = true
    ∧ s.watchdogRestart.stw.expiries = satAdd 16 s.stw.expiries 1 ∧ s.watchdogRestart.stw.session = false
    ∧ s.watchdogRestart.pins.thermAlert = true ∧ s.lea.head < s.watchdogRestart.lea.head
    ∧ ∀ j ∈ s.islands, j < 5 → (s.isl j).st ≠ 4 → (s.isl j).st ≠ 5 → (s.watchdogRestart.isl j).cur = 0 := by
  obtain ⟨hforced, hexpiries, hsession, halert, hhead, hcur⟩ := wdExpire_leaves s
  have hlater := later_watchdogRestart s
  refine ⟨hlater.forced.trans hforced, hlater.expiries.trans hexpiries, hlater.session.trans hsession, hlater.alert.trans halert,
    hhead.trans_le hlater.head, fun j hj h5 hoff hkept => (hlater.cur j).trans (hcur j hj h5 hoff hkept)⟩

/-! ### The release (R352) -/

/-- An island as the confirmation of V(OP0) leaves it. -/
def Island.released (x : Island) : Island := if x.st = 4 ∨ x.st = 5 then x else { x with st := 0, volt := opVolt 0, recover := false }

/-- An island whose V(OP0) is confirmed is stable there. -/
def State.releaseIsland (s : State) (i : Nat) : State :=
  if (s.isl i).st = 4 ∨ (s.isl i).st = 5 then s else s.setIsl i { s.isl i with st := 0, volt := opVolt 0, recover := false }

theorem isl_releaseIsland (s : State) (i : Nat) : (s.releaseIsland i).isl i = (s.isl i).released := by
  unfold State.releaseIsland Island.released
  split
  · rfl
  · exact State.isl_setIsl _ _ _

theorem isl_releaseIsland_ne (s : State) (i j : Nat) (h : j ≠ i) : (s.releaseIsland i).isl j = s.isl j := by
  unfold State.releaseIsland
  split
  · rfl
  · exact State.isl_setIsl_ne _ _ _ _ h

theorem sansIslands_releaseIsland (s : State) (i : Nat) : (s.releaseIsland i).sansIslands = s.sansIslands := by
  unfold State.releaseIsland
  split <;> rfl

/-- The state in which the sites have been read again and the forced state has ended. -/
def State.unforced (s : State) (sites : List Nat) : State := { s with
  stw := { s.stw with
    wdForced := false, sites := (List.range 16).map (fun i => sites.getD i 0)
    peaks := (List.range 16).map (fun i => max (s.stw.peaks.getD i 0) (sites.getD i 0)) }
  pins := { s.pins with thermAlert := s.pwr.level == 3 } }

/-- R352: with every site below 110 degrees and every island confirmed the steward's release ends the forced state. -/
theorem wdRelease_ends {s : State} {sites c : List Nat} (hforced : s.stw.wdForced = true) (hcool : ∀ k, k < 16 → sites.getD k 0 < 110)
    (hconfirmed : ∀ j ∈ s.islands, j ∈ c) :
    s.wdRelease .steward sites c = (s.heldIslands.foldl State.releaseIsland (s.unforced sites)).served := by
  have hall : s.stw.wdForced = true ∧ (List.range 16).all (fun i => decide (sites.getD i 0 < 110)) = true
      ∧ s.islands.all c.contains = true :=
    ⟨hforced, List.all_eq_true.mpr fun k hk => decide_eq_true (hcool k (List.mem_range.mp hk)),
      List.all_eq_true.mpr fun j hj => List.contains_iff_mem.mpr (hconfirmed j hj)⟩
  unfold State.wdRelease
  rw [if_neg (by decide), if_pos hall]
  rfl

/-- R352: an island that was not off is then stable at OP0. -/
theorem released_leaves (s : State) (sites : List Nat) :
    let t := (s.heldIslands.foldl State.releaseIsland (s.unforced sites)).served
    t.stw.wdForced = false ∧ t.pins.thermAlert = (s.pwr.level == 3)
    ∧ ∀ j ∈ s.islands, j < 5 → (s.isl j).st ≠ 4 → (s.isl j).st ≠ 5 →
        t.isl j = { s.isl j with st := 0, volt := 550, recover := false } := by
  intro t
  have hview := sansIslands_foldl sansIslands_releaseIsland s.heldIslands (s.unforced sites)
  refine ⟨(congrArg (fun u : State => u.stw.wdForced) hview :), (congrArg (fun u : State => u.pins.thermAlert) hview :), ?_⟩
  intro j hj h5 hoff hkept
  have hisl : t.isl j = ((s.unforced sites).isl j).released := by
    have hfold := isl_foldl isl_releaseIsland isl_releaseIsland_ne (nodup_heldIslands s) (s.unforced sites) j
    rwa [if_pos (mem_heldIslands hj h5)] at hfold
  rw [hisl]
  exact if_neg (not_or.mpr ⟨hoff, hkept⟩)

/-- R352: nobody but the steward releases. -/
theorem wdRelease_denied {s : State} {who : Requester} (h : who ≠ .steward) (sites c : List Nat) :
    s.wdRelease who sites c = s.denyReg who 44 0x00C 0 := if_pos h

end Sys2Proof.Machine
end

section
namespace Sys2Proof.Proofs

open Machine Safety

/-- Settles O53: DRAM temperature, fans, kicks, the expiry and the release, each outcome once. -/
theorem stewardGuardsTheBoard : Obligations.StewardGuardsTheBoard := by
  intro s who i v f
  have hsteward : f.reqHank .steward ≠ noHank := Nat.zero_ne_add_one 4095
  refine ⟨?_, ?_, ?_, ?_, ?_, ?_, ?_, ?_, ?_, ?_⟩
  · rintro l hcap ⟨k, m, d, hd, hactive, hhot⟩
    exact ⟨_, rfl, mr4_hot (s := f) hcap hd hactive hhot⟩
  · exact fun hcap hcool => ⟨_, rfl, hotRelease_cool (s := f) hcap hcool⟩
  · exact fun l => ⟨_, rfl, fanUpdate_leaves f l⟩
  · exact fun hi hmask hfault hduty hroom => ⟨_, rfl, fanFails_driven (s := f) hi hmask hfault hduty hroom⟩
  · exact fun hfault => congrArg Host.Outcome.next (if_pos hfault)
  · intro hv
    have hasked := asHank_of_hank (s := f) (who := .steward) hsteward (fun s => s.wdKick .steward v.toNat)
    exact congrArg Host.Outcome.next (hasked.trans (wdKick_expected hv))
  · intro hzero hbad
    have hhank : f.reqHank who ≠ noHank := by
      rw [show f.reqHank who = 0 from hzero]
      decide
    exact congrArg Host.Outcome.next ((asHank_of_hank hhank _).trans (wdKick_bad (s := f) hzero hbad))
  · exact ⟨(fresh s).watchdogRestart, rfl, watchdogRestart_leaves (fresh s)⟩
  · intro sites c hforced hcool hconfirmed
    have hasked := asHank_of_hank (s := f) (who := .steward) hsteward (fun s => s.wdRelease .steward sites c)
    exact ⟨_, congrArg Host.Outcome.next (hasked.trans (wdRelease_ends hforced hcool hconfirmed)), released_leaves f sites⟩
  · intro sites c hwho hhank
    exact congrArg Host.Outcome.next ((asHank_of_hank (s := f) hhank _).trans (wdRelease_denied hwho sites c))

end Sys2Proof.Proofs
end

section
/-! SUPPORT. Which slot a legal Zagil instruction stands in (07 R171), and bytes put into X and Y and read back (06 R152, R153). -/

namespace Sys2Proof.Machine

open Safety

/-! ### The slot of a legal instruction -/

section
variable {k : Core} {w : Nat} (hlegal : zLegal k w = true)
include hlegal

theorem slotB_of_legal_scalar (hopc : zOpc w = 0x01) : k.slotB = false := by
  simp only [zLegal, hopc, Bool.and_eq_true, Bool.not_eq_true'] at hlegal
  exact hlegal.1

theorem slotB_of_legal_local (hopc : zOpc w = 0x02 ∨ zOpc w = 0x03 ∨ zOpc w = 0x04) : k.slotB = false := by
  rcases hopc with hopc | hopc | hopc <;>
  · simp only [zLegal, hopc, Bool.and_eq_true, Bool.not_eq_true'] at hlegal
    exact hlegal.1

theorem slotB_of_legal_vector (hopc : zOpc w = 0x10) : k.slotB = true := by
  simp only [zLegal, hopc, Bool.and_eq_true] at hlegal
  exact hlegal.1

theorem slotB_of_legal_pred (hopc : zOpc w = 0x11) : k.slotB = true := by
  simp only [zLegal, hopc, Bool.and_eq_true] at hlegal
  exact hlegal.1

end

/-! ### Bytes in X and Y -/

/-- X and Y are in the canonical form of memory. -/
def Core.LocalWf (k : Core) : Prop := Memory.wf k.x = true ∧ Memory.wf k.y = true

section
variable {k : Core} (h : k.LocalWf)
include h

theorem localWf_lput1 (a : Nat) (b : Byte) : (k.lput1 a b).LocalWf := by
  obtain ⟨hx, hy⟩ := h
  unfold Core.lput1
  split
  · exact ⟨memPut_wf _ _ _ hx, hy⟩
  · exact ⟨hx, memPut_wf _ _ _ hy⟩

/-- X holds the addresses below 0x20000 and Y those above, so a byte put at one address is read there alone. -/
theorem lbyte_lput1 (a c : Nat) (b : Byte) : (k.lput1 a b).lbyte c = if c = a then b else k.lbyte c := by
  obtain ⟨hx, hy⟩ := h
  unfold Core.lput1
  split
  · simp only [Core.lbyte, memGet_memPut _ _ _ _ hx]
    split
    · rfl
    · rw [if_neg (by omega)]
  · simp only [Core.lbyte, memGet_memPut _ _ _ _ hy]
    split
    · rw [if_neg (by omega)]
    · simp only [show c - 0x20000 = a - 0x20000 ↔ c = a by omega]

theorem lbyte_lput_outside (bs : List Byte) (a c : Nat) (hc : c < a ∨ a + bs.length ≤ c) : (k.lput a bs).lbyte c = k.lbyte c := by
  induction bs generalizing k a with
  | nil => rfl
  | cons b bs ih =>
    rw [List.length_cons] at hc
    rw [Core.lput, ih (localWf_lput1 h a b) _ (by omega), lbyte_lput1 h, if_neg (by omega)]

theorem lbyte_lput_inside (bs : List Byte) (a i : Nat) (hi : i < bs.length) : (k.lput a bs).lbyte (a + i) = bs[i] := by
  induction bs generalizing k a i with
  | nil => exact absurd hi (Nat.not_lt_zero i)
  | cons b bs ih =>
    cases i with
    | zero =>
      rw [Core.lput, lbyte_lput_outside (localWf_lput1 h a b) _ _ _ (by omega), lbyte_lput1 h]
      exact if_pos rfl
    | succ i =>
      rw [Core.lput, show a + (i + 1) = a + 1 + i by omega, ih (localWf_lput1 h a b) _ _ (Nat.lt_of_succ_lt_succ hi)]
      rfl

/-- A part of the bytes put is read where it was put. -/
theorem lbytes_lput (bs : List Byte) (a off n : Nat) (hn : off + n ≤ bs.length) :
    (k.lput a bs).lbytes (a + off) n = (bs.drop off).take n := by
  apply List.ext_getElem
  · simp [Core.lbytes]; omega
  · intro i hi _
    have hin : i < n := by simpa [Core.lbytes] using hi
    simp only [Core.lbytes, List.getElem_map, List.getElem_range, List.getElem_take, List.getElem_drop]
    rw [Nat.add_assoc, lbyte_lput_inside h bs a (off + i) (by omega)]

end

/-- A put changes X and Y alone. -/
theorem lput_frame (k : Core) (a : Nat) (bs : List Byte) : k.lput a bs = { k with x := (k.lput a bs).x, y := (k.lput a bs).y } := by
  induction bs generalizing k a with
  | nil => rfl
  | cons b bs ih =>
    rw [Core.lput, ih]
    unfold Core.lput1
    split <;> rfl

end Sys2Proof.Machine
end

section
/-! SUPPORT. The memory operand of a local access: its address, its modify, and the buffers it steps through (06 R152, R157, R158). -/

namespace Sys2Proof.Machine

open Safety

section
variable {k k' : Core} {m abs n a cause : Nat}

/-! ### The modify -/

theorem setA_frame (k : Core) (i : Nat) (v : BitVec 32) :
    k.setA i v = { k with a := (k.setA i v).a, shadow := (k.setA i v).shadow } := by
  unfold Core.setA
  split <;> rfl

/-- A modify writes one address register, or none. -/
theorem mopModify_writes (h : k.mopModify m n = .ok k') : k' = k ∨ ∃ i v, k' = k.setA i v := by
  unfold Core.mopModify at h
  dsimp only at h
  split at h
  · split at h <;> cases h
    exact .inr ⟨_, _, rfl⟩
  split at h
  · split at h <;> cases h
    exact .inr ⟨_, _, rfl⟩
  · cases h
    exact .inl rfl

theorem mopModify_frame (h : k.mopModify m n = .ok k') : k' = { k with a := k'.a, shadow := k'.shadow } := by
  rcases mopModify_writes h with rfl | ⟨i, v, rfl⟩
  · rfl
  · exact setA_frame k i v

/-! ### The operand -/

/-- An operand that does not fault is its address and then its modify. -/
theorem mop_ok (h : k.mop m abs n = .ok (a, k')) : k.mopAddr m abs n = .ok a ∧ k.mopModify m n = .ok k' := by
  unfold Core.mop at h
  split at h
  · cases h
  split at h
  · cases h
  · cases h
    exact ⟨‹_›, ‹_›⟩

/-- The access is checked before the modify. -/
theorem mop_error (h : k.mopAddr m abs n = .error cause) : k.mop m abs n = .error cause := by
  unfold Core.mop
  rw [h]

theorem mop_frame (h : k.mop m abs n = .ok (a, k')) : k' = { k with a := k'.a, shadow := k'.shadow } :=
  mopModify_frame (mop_ok h).2

/-- R152: ALIGN comes before ADDRESS; an aligned access of a size that divides 0x40000 lies in X and Y when it starts there. -/
theorem localCause_eq (a : Nat) (hn : n ∈ [2, 4, 8, 64, 128]) :
    localCause a n = if a % n ≠ 0 then some 2 else if 0x40000 ≤ a then some 3 else none := by
  unfold localCause
  split
  · rfl
  · have : 0x40000 < a + n ↔ 0x40000 ≤ a := by
      fin_cases hn <;> omega
    simp only [this]

theorem mopAddr_eq (k : Core) (m abs : Nat) (hn : n ∈ [2, 4, 8, 64, 128]) (hm : mopMode m ≠ 3) :
    let a := if mopMode m = 4 then abs else (k.getA (mopAn m)).toNat
    k.mopAddr m abs n = if a % n ≠ 0 then .error 2 else if 0x40000 ≤ a then .error 3 else .ok a := by
  intro a
  have hcheck : k.mopAddr m abs n = match localCause a n with | some c => .error c | none => .ok a := by
    unfold Core.mopAddr
    rw [if_neg hm]
    unfold a
    split <;> rfl
  rw [hcheck, localCause_eq a hn]
  split_ifs <;> rfl

end

/-! ### Buffers -/

theorem ofNat_low (n : Nat) (v : Int) : BitVec.ofNat n (low n v) = BitVec.ofInt n v := by
  apply BitVec.eq_of_toNat_eq
  rw [BitVec.toNat_ofNat, BitVec.toNat_ofInt, low]
  exact Nat.mod_eq_of_lt (by have := Int.emod_lt_of_pos v (b := (2 ^ n : Nat)) (by positivity); omega)

section
variable (k : Core) (n : Nat) (d : Int) (size : Nat)

/-- LEN of a buffer register. -/
theorem bits_low19 (l : Nat) : bits l 18 0 = l % 2 ^ 19 := rfl

/-- R157: a LEN of 0 is linear modulo 2^32. -/
theorem modadd_linear (hlinear : bit (mget k.l n (0 : BitVec 32)).toNat 31 = false)
    (hlen : (mget k.l n (0 : BitVec 32)).toNat % 2 ^ 19 = 0) : k.modadd n d size = some (BitVec.ofInt 32 ((k.getA n).toNat + d)) := by
  unfold Core.modadd
  dsimp only
  rw [if_pos (by rw [hlinear]; rfl), bits_low19, if_pos hlen, ofNat_low]

/-- R157: a circular buffer steps from B by the distance of A + D modulo LEN. -/
theorem modadd_circular (hlinear : bit (mget k.l n (0 : BitVec 32)).toNat 31 = false)
    (hlen : 0 < (mget k.l n (0 : BitVec 32)).toNat % 2 ^ 19) : k.modadd n d size = some (BitVec.ofNat 32
      ((mget k.b n (0 : BitVec 32)).toNat + (((k.getA n).toNat - (mget k.b n (0 : BitVec 32)).toNat + d)
        % ((mget k.l n (0 : BitVec 32)).toNat % 2 ^ 19 : Nat)).toNat)) := by
  unfold Core.modadd
  dsimp only
  rw [if_pos (by rw [hlinear]; rfl), bits_low19, if_neg (by omega)]

/-- R157: a bit-reversed buffer of no power of two, or smaller than the access, is unusable. -/
theorem modadd_unusable (hreversed : bit (mget k.l n (0 : BitVec 32)).toNat 31 = true)
    (hlen : (mget k.l n (0 : BitVec 32)).toNat % 2 ^ 19 < size ∨ ∀ e, (mget k.l n (0 : BitVec 32)).toNat % 2 ^ 19 ≠ 2 ^ e) :
    k.modadd n d size = none := by
  unfold Core.modadd
  dsimp only
  rw [if_neg (by rw [hreversed]; decide), bits_low19, if_pos (hlen.imp_right fun h he => h _ he.symm)]

end

/-- A place in [b, b + len) that is congruent to x modulo len. -/
theorem wrapped_place (x : Int) (b : Nat) {len : Nat} (hlen : 0 < len) :
    (b + ((x - b) % len).toNat) < b + len ∧ ((b + ((x - b) % len).toNat : Nat) - x) % len = 0 := by
  have hpos : (0 : Int) < len := by omega
  have hlo := Int.emod_nonneg (x - b) hpos.ne'
  have hhi := Int.emod_lt_of_pos (x - b) hpos
  refine ⟨by omega, ?_⟩
  have hdiff : ((b + ((x - b) % len).toNat : Nat) : Int) - x = (x - b) % len - (x - b) := by omega
  rw [hdiff]
  exact Int.emod_eq_zero_of_dvd (Int.dvd_sub_self_of_emod_eq rfl)

end Sys2Proof.Machine
end

section
/-! SUPPORT. The local scalar accesses as they issue (07 R177). -/

namespace Sys2Proof.Machine

open Safety

/-- R174: the sign-extended bytes are the signed number they spell. -/
theorem extend_eq {n : Nat} (v : Nat) (zero : Bool) (hn : 0 < n) :
    extend n v zero = if zero then BitVec.ofNat 64 v else (BitVec.ofNat (8 * n) v).signExtend 64 := by
  have hsx : sx (8 * n) v = (BitVec.ofNat (8 * n) v).toInt := by
    have hpow : 2 ^ (8 * n) = 2 * 2 ^ (8 * n - 1) := by rw [← pow_succ']; congr 1; omega
    rw [BitVec.toInt_eq_toNat_cond, sx, BitVec.toNat_ofNat]
    split <;> rename_i hv
    · rw [if_pos (by omega)]
    · rw [if_neg (by omega)]; norm_cast
  rw [extend, hsx]
  rfl

theorem sizeOf'_pos (c : Nat) : 0 < sizeOf' c := by
  unfold sizeOf'
  repeat' split
  all_goals decide

section
variable {s : State} {c w a : Nat} {k' : Core} (hi : Issues s c w)
include hi

/-- The slot that a local access stands in is A. -/
theorem slotB_of_issues_local (hopc : zOpc w = 0x02 ∨ zOpc w = 0x03 ∨ zOpc w = 0x04) : (taken (s.core c)).slotB = false :=
  have ⟨_, _, hlegal, _⟩ := hi
  slotB_of_legal_local hlegal hopc

/-- R177: a load is the operand's modify and then the write of S[RD]. -/
theorem exec_localScalarLoad (hopc : zOpc w = 0x02)
    (hmop : (taken (s.core c)).mop (zMop w) (bits w 17 0) (sizeOf' (zFn w % 8)) = .ok (a, k')) :
    exec (.localScalarLoad c) s = .next (slotA s c (k'.setS (zRd w)
      (extend (sizeOf' (zFn w % 8)) (leNat ((s.core c).lbytes a (sizeOf' (zFn w % 8)))) (bit (zFn w) 3)))) := by
  have hslot : k'.slotB = false := by rw [mop_frame hmop]; exact slotB_of_issues_local hi (.inl hopc)
  refine congrArg Host.Outcome.next (zagil_slotA s c w _ Core.localLoad _ hi (beq_iff_eq.mpr hopc) ?_ ((slotB_setS _ _ _).trans hslot))
  unfold Core.localLoad
  dsimp only
  rw [hmop]
  rfl

/-- R177: a store puts the low bytes of S[RD]. -/
theorem exec_localScalarStore (hopc : zOpc w = 0x03)
    (hmop : (taken (s.core c)).mop (zMop w) (bits w 17 0) (sizeOf' (zFn w % 8)) = .ok (a, k')) :
    exec (.localScalarStore c) s = .next (slotA s c
      (k'.lput a (leBytes (sizeOf' (zFn w % 8)) ((s.core c).getS (zRd w)).toNat))) := by
  have hslot : k'.slotB = false := by rw [mop_frame hmop]; exact slotB_of_issues_local hi (.inr (.inl hopc))
  refine congrArg Host.Outcome.next (zagil_slotA s c w _ Core.localStore _ hi (beq_iff_eq.mpr hopc) ?_ ?_)
  · unfold Core.localStore
    dsimp only
    rw [hmop]
    rfl
  · rw [lput_frame]
    exact hslot

/-- R177: AMOD is the operand's modify alone. -/
theorem exec_amod (hopc : zOpc w = 0x04) (hmod : (taken (s.core c)).mopModify (zMop w) (sizeOf' (zFn w % 8)) = .ok k') :
    exec (.amod c) s = .next (slotA s c k') := by
  have hslot : k'.slotB = false := by rw [mopModify_frame hmod]; exact slotB_of_issues_local hi (.inr (.inr hopc))
  exact congrArg Host.Outcome.next (zagil_slotA s c w _ Core.amod _ hi (beq_iff_eq.mpr hopc) hmod hslot)

variable {cause : Nat}
  (hfault : (taken (s.core c)).mopAddr (zMop w) (bits w 17 0) (sizeOf' (zFn w % 8)) = .error cause)
include hfault

/-- R168: a faulting access has no effect but its fault. -/
theorem exec_localScalarLoad_fault (hopc : zOpc w = 0x02) :
    exec (.localScalarLoad c) s = .next (((fresh s).setCore c (taken (s.core c))).spdFault c cause) := by
  refine congrArg Host.Outcome.next (zagil_fault s c w _ Core.localLoad cause hi (beq_iff_eq.mpr hopc) ?_)
  unfold Core.localLoad
  dsimp only
  rw [mop_error hfault]

theorem exec_localScalarStore_fault (hopc : zOpc w = 0x03) :
    exec (.localScalarStore c) s = .next (((fresh s).setCore c (taken (s.core c))).spdFault c cause) := by
  refine congrArg Host.Outcome.next (zagil_fault s c w _ Core.localStore cause hi (beq_iff_eq.mpr hopc) ?_)
  unfold Core.localStore
  dsimp only
  rw [mop_error hfault]

end

end Sys2Proof.Machine
end

section
namespace Sys2Proof.Proofs

open Machine Safety

/-- Settles O3: a load, a store whose bytes are read back where they were put and nowhere else, and AMOD. -/
theorem localScalarAccesses : Obligations.LocalScalarAccesses := by
  rintro s c w _ hi rfl
  refine ⟨fun hopc a k' hmop => ?_, fun hopc a k' hmop hx hy => ?_, fun hopc k' hmod => ?_⟩
  · rw [← extend_eq _ _ (sizeOf'_pos _)]
    exact exec_localScalarLoad hi hopc hmop
  · have hframe := mop_frame hmop
    have hwf : k'.LocalWf := by rw [hframe]; exact ⟨hx, hy⟩
    have hbyte : ∀ b, k'.lbyte b = (s.core c).lbyte b := fun b => by rw [hframe]; rfl
    refine ⟨_, exec_localScalarStore hi hopc hmop, lput_frame _ _ _, ?_, fun b hb => ?_⟩
    · have hread := lbytes_lput hwf (leBytes (sizeOf' (zFn w % 8)) ((s.core c).getS (zRd w)).toNat) a 0 (sizeOf' (zFn w % 8)) (by simp)
      rwa [List.drop_zero, List.take_of_length_le (by simp)] at hread
    · rw [lbyte_lput_outside hwf _ _ _ (by simpa using hb), hbyte]
  · exact ⟨exec_amod hi hopc hmod, mopModify_frame hmod⟩

/-- Settles O4: the faults of an operand's address, and modadd in linear, circular and unusable buffers. -/
theorem localAccessFaultsAndBuffers : Obligations.LocalAccessFaultsAndBuffers := by
  refine ⟨⟨fun s c w cause hi hfault => ⟨exec_localScalarLoad_fault hi hfault, exec_localScalarStore_fault hi hfault⟩,
    fun k m abs n hn hm => mopAddr_eq k m abs hn hm⟩, fun k n d size => ?_⟩
  intro a b l len
  refine ⟨modadd_linear k n d size, fun hlinear hlen hfit => ⟨_, modadd_circular k n d size hlinear hlen, ?_⟩, modadd_unusable k n d size⟩
  obtain ⟨hlt, hcongr⟩ := wrapped_place (a + d) b hlen
  have hplace : ((a : Int) - b + d) = a + d - b := by omega
  rw [hplace, BitVec.toNat_ofNat, Nat.mod_eq_of_lt (hlt.trans_le hfit)]
  exact ⟨Nat.le_add_right _ _, hlt, hcongr⟩

end Sys2Proof.Proofs
end

section
/-! SUPPORT. Conditions and the control instructions as they issue, and instructions whose SKIP held (06 R162; 07 R179, R180, R183). -/

namespace Sys2Proof.Machine

open Safety

/-! ### Conditions -/

theorem eq_zero_iff_bits {n : Nat} (v : BitVec n) : v = 0 ↔ ∀ i, i < n → v.getLsbD i = false := by
  refine ⟨?_, fun h => BitVec.eq_of_getLsbD_eq fun i hi => (h i hi).trans (by simp)⟩
  rintro rfl
  simp

theorem eq_zero_iff_toNat {n : Nat} (v : BitVec n) : v = 0 ↔ v.toNat = 0 := by
  rw [← BitVec.toNat_inj]
  rfl

section
variable (k : Core) (ra : Nat)

theorem holds_zero : k.holds 1 ra = decide ((k.getS ra).toNat = 0) := by
  simp only [Core.holds, beq_eq_decide, eq_zero_iff_toNat]

theorem holds_nonzero : k.holds 2 ra = decide ((k.getS ra).toNat ≠ 0) := by
  simp only [Core.holds, bne, beq_eq_decide, eq_zero_iff_toNat, ne_eq, decide_not]

theorem holds_negative : k.holds 3 ra = decide ((k.getS ra).toInt < 0) := BitVec.msb_eq_toInt

theorem holds_nonnegative : k.holds 4 ra = decide (0 ≤ (k.getS ra).toInt) := by
  simp only [Core.holds, BitVec.msb_eq_toInt, ← decide_not, Int.not_lt]

theorem holds_any : k.holds 6 ra = true ↔ ∃ i, i < 128 ∧ (k.getP (ra % 8)).getLsbD i = true := by
  change (_ != _) = true ↔ _
  simp only [bne_iff_ne, ne_eq, eq_zero_iff_bits, not_forall, Bool.not_eq_false, exists_prop]

theorem holds_none : k.holds 7 ra = true ↔ ∀ i, i < 128 → (k.getP (ra % 8)).getLsbD i = false :=
  beq_iff_eq.trans (eq_zero_iff_bits _)

end

/-! ### Control in slot A -/

/-- A target in a register is its low 16 bits (log 147). -/
theorem regTarget_aligned {k : Core} {w : Nat} (h : (k.getS (zCRa w)).toNat % 16 = 0) : k.regTarget w = .ok ((k.getS (zCRa w)).setWidth 16) :=
  (if_neg (not_not.mpr h)).trans (congrArg _ (BitVec.eq_of_toNat_eq (by simp)))

theorem regTarget_unaligned {k : Core} {w : Nat} (h : (k.getS (zCRa w)).toNat % 16 ≠ 0) : k.regTarget w = .error 2 := if_pos h

section
variable {s : State} {c w : Nat} (hi : Issues s c w)
include hi

theorem slotB_of_issues_control {fn : Nat} (hop : isOp 0x06 fn w = true) : (taken (s.core c)).slotB = false :=
  have ⟨_, _, hlegal, _⟩ := hi
  slotB_of_legal_control hlegal (zOpc_of_isOp hop)

theorem exec_br (hop : isOp 0x06 0x00 w = true) : exec (.br c) s = .next (slotA s c
    (if (s.core c).holds (zCond w) (zCRa w)
     then { taken (s.core c) with jump := some (BitVec.ofNat 16 (zTgt w * 16), true) } else taken (s.core c))) := by
  refine congrArg Host.Outcome.next (zagil_slotA s c w _ Core.branch _ hi hop rfl ?_)
  rw [apply_ite Core.slotB]
  exact (ite_self _).trans (slotB_of_issues_control hi hop)

theorem exec_brr (hop : isOp 0x06 0x01 w = true) (ha : ((s.core c).getS (zCRa w)).toNat % 16 = 0) : exec (.brr c) s = .next
    (slotA s c { taken (s.core c) with jump := some (((s.core c).getS (zCRa w)).setWidth 16, true) }) := by
  refine congrArg Host.Outcome.next (zagil_slotA s c w _ Core.branchReg _ hi hop ?_ (slotB_of_issues_control hi hop :))
  unfold Core.branchReg
  rw [regTarget_aligned (k := taken (s.core c)) ha]
  rfl

theorem exec_brr_unaligned (hop : isOp 0x06 0x01 w = true) (ha : ((s.core c).getS (zCRa w)).toNat % 16 ≠ 0) :
    exec (.brr c) s = .next (((fresh s).setCore c (taken (s.core c))).spdFault c 2) := by
  refine congrArg Host.Outcome.next (zagil_fault s c w _ Core.branchReg 2 hi hop ?_)
  unfold Core.branchReg
  rw [regTarget_unaligned (k := taken (s.core c)) ha]

theorem exec_skip (hop : isOp 0x08 0x00 w = true) (hb : (s.core c).slotB = false) : exec (.skip c) s = .next (slotA s c
    { taken (s.core c) with skip := some ((s.core c).holds (zCond w) (zCRa w)) }) :=
  congrArg Host.Outcome.next (zagil_slotA s c w _ Core.skipOp _ hi hop rfl hb)

theorem exec_nop_slotA (hop : isOp 0x00 0x00 w = true) (hb : (s.core c).slotB = false) :
    exec (.nop c) s = .next (slotA s c (taken (s.core c))) :=
  congrArg Host.Outcome.next (zagil_slotA s c w _ Core.nopOp _ hi hop rfl hb)

theorem exec_fence (hop : isOp 0x06 0x0A w = true) : exec (.fence c) s = .next (slotA s c (taken (s.core c))) :=
  congrArg Host.Outcome.next (zagil_slotA s c w _ Core.nopOp _ hi hop rfl (slotB_of_issues_control hi hop))

theorem exec_waiti (hop : isOp 0x06 0x0B w = true) :
    exec (.waiti c) s = .next (slotA s c { taken (s.core c) with waiting := true }) :=
  congrArg Host.Outcome.next (zagil_slotA s c w _ Core.waitOp _ hi hop rfl (slotB_of_issues_control hi hop :))

end

/-! ### A SKIP that held -/

/-- R162: an instruction whose SKIP held has no effect but that its slot passes. -/
theorem zagil_skipped {s : State} {c w : Nat} {op : Nat → Bool} (f : Core → Nat → Except Nat Core) (hissues : (s.core c).issues = true)
    (hword : (s.core c).word = w) (hlegal : zLegal (s.core c) w = true) (hop : op w = true) (hskip : (s.core c).skip = some true) :
    s.zagil c op f = ((fresh s).setCore c (taken (s.core c))).slotDone c := by
  simp [State.zagil, State.issue, show ({ s with out := [] } : State).core c = s.core c from rfl, hissues, hword, hlegal, hop, hskip,
    taken, fresh]

theorem slotDone_slotA {s : State} {c : Nat} {k : Core} (hb : k.slotB = false) : ((fresh s).setCore c k).slotDone c = slotA s c k := by
  simp [State.slotDone, hb, slotA]

theorem slotDone_slotB {s : State} {c : Nat} {k : Core} (hb : k.slotB = true) : ((fresh s).setCore c k).slotDone c = slotB s c k := by
  simp [State.slotDone, hb, slotB]

/-- Every row of the scalar table issues under its own encoding, with an effect on its core alone. -/
theorem exec_scalarOp {o : ScalarOp} (ho : o ∈ scalarOps) :
    ∃ f, ∀ c s, exec (o.cmd c) s = .next (s.zagil c (isOp 0x01 o.fn) f) := by
  fin_cases ho <;> exact ⟨_, fun _ _ => rfl⟩

/-- So does every row of the table of lane-by-lane vector instructions. -/
theorem exec_laneOp {o : LaneOp} (ho : o ∈ laneOps) : ∃ f, ∀ c s, exec (o.cmd c) s = .next (s.zagil c (isOp 0x10 o.fn) f) := by
  fin_cases ho <;> exact ⟨_, fun _ _ => rfl⟩

end Sys2Proof.Machine
end

section
namespace Sys2Proof.Proofs

open Machine Safety

/-- Settles O5: the conditions, the control instructions of slot A, and scalar and vector instructions whose SKIP held. -/
theorem branchesAndWaits : Obligations.BranchesAndWaits := by
  refine ⟨fun k ra _ => ?_, fun s c w hi => ?_, fun s c w o ho hissues hword hlegal hop hskip => ?_,
    fun s c w o ho hissues hword hlegal hop hskip => ?_⟩
  · exact ⟨rfl, holds_zero k ra, holds_nonzero k ra, holds_negative k ra, holds_nonnegative k ra, rfl, holds_any k ra, holds_none k ra⟩
  · exact ⟨exec_br hi, exec_brr hi, exec_brr_unaligned hi, exec_skip hi, exec_nop_slotA hi, exec_nop_slotB hi, exec_fence hi, exec_waiti hi⟩
  · obtain ⟨f, hexec⟩ := exec_scalarOp ho
    rw [hexec, zagil_skipped f hissues hword hlegal hop hskip]
    exact congrArg Host.Outcome.next (slotDone_slotA (slotB_of_legal_scalar hlegal (zOpc_of_isOp hop) :))
  · obtain ⟨f, hexec⟩ := exec_laneOp ho
    rw [hexec, zagil_skipped f hissues hword hlegal hop hskip]
    exact congrArg Host.Outcome.next (slotDone_slotB (slotB_of_legal_vector hlegal (zOpc_of_isOp hop) :))

end Sys2Proof.Proofs
end

section
/-! SUPPORT. The end of a bundle, once for each way to end it, and what frames and repeats leave of a core (06 R155, R160, R163, R164). -/

namespace Sys2Proof.Machine

/-! ### What a frame may change -/

/-- A core without its scalar registers. -/
def Core.sansS (k : Core) : Core := { k with s := [], shadow := { k.shadow with s := [] } }

/-- A core without what a frame writes: the scalar registers, X and Y. -/
def Core.sansFrame (k : Core) : Core := { k.sansS with x := [], y := [] }

section
variable (k : Core)

@[simp] theorem sansS_setS (i : Nat) (v : BitVec 64) : (k.setS i v).sansS = k.sansS := by
  unfold Core.setS
  repeat' split
  all_goals rfl

/-- A return writes scalar registers alone. -/
@[simp] theorem sansS_popFrame (rs : List Nat) : (k.popFrame rs).sansS = k.sansS :=
  (sansS_setS _ _ _).trans (foldl_keeps Core.sansS (fun x _ => sansS_setS x _ _) _ k)

theorem sansFrame_of_sansS {k k' : Core} (h : k'.sansS = k.sansS) : k'.sansFrame = k.sansFrame :=
  congrArg (fun u : Core => { u with x := [], y := [] }) h

@[simp] theorem sansFrame_lput (a : Nat) (bs : List Byte) : (k.lput a bs).sansFrame = k.sansFrame := by
  rw [lput_frame]
  rfl

@[simp] theorem sansFrame_pushFrame (rs : List Nat) : (k.pushFrame rs).sansFrame = k.sansFrame := by
  unfold Core.pushFrame
  dsimp only
  rw [sansFrame_of_sansS (sansS_setS _ _ _), sansFrame_of_sansS (sansS_setS _ _ _), sansFrame_lput]

theorem getLd_sansFrame : k.sansFrame.getLd = k.getLd := rfl

theorem getLs_sansFrame (i : Nat) : k.sansFrame.getLs i = k.getLs i := rfl

theorem getLe_sansFrame (i : Nat) : k.sansFrame.getLe i = k.getLe i := rfl

theorem getLc_sansFrame (i : Nat) : k.sansFrame.getLc i = k.getLc i := rfl

@[simp] theorem sansFrame_framed : k.framed.sansFrame = k.sansFrame := by
  unfold Core.framed
  split
  · rfl
  · exact sansFrame_pushFrame k _
  · exact sansFrame_of_sansS (sansS_popFrame k _)

/-! ### The end of a bundle -/

/-- The core once the frame of its bundle has taken effect and the bundle is forgotten, as it goes on at `t`. -/
def Core.closedAt (t : BitVec 16) : Core := { k.framed with slotB := false, jump := none, rti := false, frame := none, pc := t }

section
variable (t : BitVec 16)

/-- No other field is written by a frame or cleared with its bundle. -/
theorem sansFrame_closedAt :
    (k.closedAt t).sansFrame = { k.sansFrame with slotB := false, jump := none, rti := false, frame := none, pc := t } :=
  congrArg (fun u : Core => { u with slotB := false, jump := none, rti := false, frame := none, pc := t }) (sansFrame_framed k)

@[simp] theorem getLd_closedAt : (k.closedAt t).getLd = k.getLd := by
  rw [← getLd_sansFrame, sansFrame_closedAt]
  rfl

@[simp] theorem getLs_closedAt (i : Nat) : (k.closedAt t).getLs i = k.getLs i := by
  rw [← getLs_sansFrame, sansFrame_closedAt]
  rfl

@[simp] theorem getLe_closedAt (i : Nat) : (k.closedAt t).getLe i = k.getLe i := by
  rw [← getLe_sansFrame, sansFrame_closedAt]
  rfl

@[simp] theorem getLc_closedAt (i : Nat) : (k.closedAt t).getLc i = k.getLc i := by
  rw [← getLc_sansFrame, sansFrame_closedAt]
  rfl

end

variable {k}

theorem endBundle_of_rti (hrti : k.rti = true) : k.endBundle = (k.closedAt k.framed.pc).returned.prune := by
  unfold Core.endBundle
  rw [hrti]
  rfl

/-- Without a branch the next bundle is next, or repeat-end processing says which. -/
theorem endBundle_of_none (hrti : k.rti = false) (hjump : k.jump = none) :
    k.endBundle = (Core.repEnd k.pc 4 (k.closedAt (k.pc + 16))).prune := by
  unfold Core.endBundle
  rw [hrti, hjump]
  rfl

/-- A call, a return and a repeat of no iteration leave no repeat. -/
theorem endBundle_of_jump {t : BitVec 16} (hrti : k.rti = false) (hjump : k.jump = some (t, false)) :
    k.endBundle = (k.closedAt t).prune := by
  unfold Core.endBundle
  rw [hrti, hjump]
  rfl

theorem pc_endBundle_of_jump {t : BitVec 16} {b : Bool} (hrti : k.rti = false) (hjump : k.jump = some (t, b)) : k.endBundle.pc = t := by
  unfold Core.endBundle
  rw [hrti, hjump]
  rfl

end

/-! ### Repeat-end processing -/

section
variable (k : Core) (i d : Nat)

@[simp] theorem pc_setLc (v : BitVec 32) : (k.setLc i v).pc = k.pc := by unfold Core.setLc; split <;> rfl

@[simp] theorem getLd_setLc (v : BitVec 32) : (k.setLc i v).getLd = k.getLd := by
  unfold Core.setLc
  split <;> simp [Core.getLd, *]

@[simp] theorem pc_setLd : (k.setLd d).pc = k.pc := by unfold Core.setLd; split <;> rfl

@[simp] theorem getLd_setLd : (k.setLd d).getLd = d := by
  unfold Core.setLd
  split <;> simp [Core.getLd, *]

variable {k i d} {a : BitVec 16} {n : Nat}

/-- Outside a repeat, or off the end of the innermost one, nothing is processed. -/
theorem repEnd_off (h : k.getLd = 0 ∨ k.getLe (k.getLd - 1) ≠ a) : Core.repEnd a (n + 1) k = k := if_pos h

variable (hld : k.getLd = d + 1) (hle : k.getLe d = a)
include hld hle

/-- R160: with more than one iteration left the core is at LS again, with one less. -/
theorem repEnd_again (hlc : 1 < (k.getLc d).toNat) : (Core.repEnd a (n + 1) k).pc = k.getLs d
    ∧ (Core.repEnd a (n + 1) k).getLc d = k.getLc d - 1 ∧ (Core.repEnd a (n + 1) k).getLd = d + 1 := by
  have hbody : ¬(k.getLd = 0 ∨ k.getLe d ≠ a) := by rw [hld, hle]; simp
  unfold Core.repEnd
  dsimp only
  rw [show k.getLd - 1 = d by omega, if_neg hbody, if_pos hlc]
  split <;> exact ⟨pc_setLc _ _ _, getLc_setLc _ _ _, (getLd_setLc _ _ _).trans hld⟩

/-- R160: with its count used up the repeat is left. -/
theorem repEnd_over (hlc : (k.getLc d).toNat ≤ 1) :
    Core.repEnd a (n + 1) k = Core.repEnd a n ((if k.tight then k.iterated true else k).setLd d) := by
  have hbody : ¬(k.getLd = 0 ∨ k.getLe d ≠ a) := by rw [hld, hle]; simp
  rw [Core.repEnd]
  dsimp only
  rw [show k.getLd - 1 = d by omega, if_neg hbody, if_neg (by omega)]

end

/-! ### The next bundle -/

section
variable {k : Core} {d : Nat} (hrti : k.rti = false) (hjump : k.jump = none)
include hrti hjump

/-- Off the end of a repeat the next bundle is next. -/
theorem endBundle_off (h : k.getLd = 0 ∨ k.getLe (k.getLd - 1) ≠ k.pc) :
    k.endBundle = (k.closedAt (k.pc + 16)).prune := by
  rw [endBundle_of_none hrti hjump, repEnd_off]
  simpa using h

variable (hld : k.getLd = d + 1)
include hld

/-- R160: at the end of a repeat with iterations left. -/
theorem endBundle_again (hle : k.getLe d = k.pc) (hlc : 1 < (k.getLc d).toNat) :
    k.endBundle.pc = k.getLs d ∧ k.endBundle.getLc d = k.getLc d - 1 ∧ k.endBundle.getLd = d + 1 := by
  have hagain := repEnd_again (k := k.closedAt (k.pc + 16)) (a := k.pc) (d := d) (n := 3) (by simpa using hld) (by simpa using hle)
    (by simpa using hlc)
  rw [getLs_closedAt, getLc_closedAt] at hagain
  rw [endBundle_of_none hrti hjump]
  exact hagain

omit hld in
/-- R160: at the end of the outermost repeat's last iteration. -/
theorem endBundle_over (hld : k.getLd = 1) (hle : k.getLe 0 = k.pc) (hlc : (k.getLc 0).toNat ≤ 1) :
    k.endBundle.pc = k.pc + 16 ∧ k.endBundle.getLd = 0 := by
  have hleft := repEnd_over (k := k.closedAt (k.pc + 16)) (a := k.pc) (d := 0) (n := 3) (by simpa using hld) (by simpa using hle)
    (by simpa using hlc)
  rw [endBundle_of_none hrti hjump, hleft, repEnd_off (.inl (getLd_setLd _ 0))]
  refine ⟨(pc_setLd _ _).trans ?_, getLd_setLd _ 0⟩
  split <;> rfl

end

end Sys2Proof.Machine
end

section
/-! SUPPORT. REP and REPR as they issue (06 R159). -/

namespace Sys2Proof.Machine

open Safety

section
variable {k : Core} {w n : Nat}

/-- R159: a repeat of no iteration goes on after its end bundle. -/
theorem repeat_zero : k.repeat_ w 0 = .ok { k with jump := some (BitVec.ofNat 16 (zTgt w * 16) + 16, false) } := rfl

variable (hn : 0 < n)
include hn

/-- R159: a fifth level faults. -/
theorem repeat_full (hld : 4 ≤ k.getLd) : k.repeat_ w n = .error 6 := by
  unfold Core.repeat_
  dsimp only
  rw [if_neg hn.ne', if_pos hld]

/-- R159: outside every active body a repeat is opened. -/
theorem repeat_opens {d : Nat} {p : BitVec 16} (hd : k.getLd = d) (hp : k.pc = p) (hld : d < 4)
    (hout : ∀ i, i < d → k.inBody i p = false) : k.repeat_ w n = .ok
      { (((k.setLs d (p + 16)).setLe d (BitVec.ofNat 16 (zTgt w * 16))).setLc d (BitVec.ofNat 32 n)).setLd (d + 1) with heldIters := [] } := by
  subst hd hp
  have hnone : (List.range k.getLd).reverse.find? (fun i => k.inBody i k.pc) = none := by simpa using hout
  unfold Core.repeat_
  dsimp only
  rw [if_neg hn.ne', if_neg (by omega), hnone]
  rfl

end

section
variable (k : Core) (i : Nat)

@[simp] theorem slotB_setLs (v : BitVec 16) : (k.setLs i v).slotB = k.slotB := by unfold Core.setLs; split <;> rfl
@[simp] theorem slotB_setLe (v : BitVec 16) : (k.setLe i v).slotB = k.slotB := by unfold Core.setLe; split <;> rfl
@[simp] theorem slotB_setLc (v : BitVec 32) : (k.setLc i v).slotB = k.slotB := by unfold Core.setLc; split <;> rfl
@[simp] theorem slotB_setLd (d : Nat) : (k.setLd d).slotB = k.slotB := by unfold Core.setLd; split <;> rfl

end

/-- REP by its encoding, else REPR. -/
def repCommand (c w : Nat) : Instr := if isOp 0x06 0x06 w then .rep c else .repr c

/-- The count that REP holds, else the one that REPR reads. -/
def repCount (k : Core) (w : Nat) : Nat := if isOp 0x06 0x06 w then zImm w else (k.getS (zCRa w)).toNat % 2 ^ 32

section
variable {s : State} {c w : Nat} (hi : Issues s c w) (hop : isOp 0x06 0x06 w = true ∨ isOp 0x06 0x07 w = true)
include hop

/-- Both commands are a repeat of their count. -/
theorem exec_repCommand : ∃ op f, op w = true ∧ exec (repCommand c w) s = .next (s.zagil c op f)
    ∧ f (taken (s.core c)) w = (taken (s.core c)).repeat_ w (repCount (s.core c) w) := by
  unfold repCommand repCount
  split
  · exact ⟨_, Core.rep, ‹_›, rfl, rfl⟩
  · exact ⟨_, Core.repReg, hop.resolve_left ‹_›, rfl, rfl⟩

include hi

theorem exec_rep_ok {k : Core} (h : (taken (s.core c)).repeat_ w (repCount (s.core c) w) = .ok k) (hk : k.slotB = false) :
    exec (repCommand c w) s = .next (slotA s c k) := by
  obtain ⟨op, f, hopw, hexec, hf⟩ := exec_repCommand (s := s) (c := c) hop
  rw [hexec, zagil_slotA s c w op f k hi hopw (hf.trans h) hk]

theorem exec_rep_fault {cause : Nat} (h : (taken (s.core c)).repeat_ w (repCount (s.core c) w) = .error cause) :
    exec (repCommand c w) s = .next (((fresh s).setCore c (taken (s.core c))).spdFault c cause) := by
  obtain ⟨op, f, hopw, hexec, hf⟩ := exec_repCommand (s := s) (c := c) hop
  rw [hexec, zagil_fault s c w op f cause hi hopw (hf.trans h)]

end

end Sys2Proof.Machine
end

section
namespace Sys2Proof.Proofs

open Machine Safety

/-- Settles O6: where a bundle without RTI ends, and REP and REPR with a count of 0, opening a repeat and at a fifth level. -/
theorem repeatsAndBundleEnds : Obligations.RepeatsAndBundleEnds := by
  refine ⟨fun k hrti => ⟨fun _ t b hjump => pc_endBundle_of_jump hrti hjump, fun hld hjump => ?_,
    fun d hjump hld hle hlc => endBundle_again hrti hjump hld hle hlc,
    fun hjump hld hle hlc => endBundle_over hrti hjump hld hle hlc, fun d hjump hld hle => ?_⟩, ?_⟩
  · exact congrArg Core.pc (endBundle_off hrti hjump (.inl hld))
  · rw [endBundle_off hrti hjump (.inr (by rwa [hld]))]
    exact ⟨rfl, (getLd_closedAt k (k.pc + 16)).trans hld⟩
  · intro s c w hi k e cmd n hop
    have hslot : (taken k).slotB = false := hop.elim (slotB_of_issues_control hi) (slotB_of_issues_control hi)
    refine ⟨fun hn => exec_rep_ok hi hop ?_ hslot, fun hn hld hout => exec_rep_ok hi hop (repeat_opens hn rfl rfl hld hout) ?_,
      fun hn hld => exec_rep_fault hi hop (repeat_full hn hld)⟩
    · exact (congrArg ((taken k).repeat_ w) hn).trans repeat_zero
    · exact (slotB_setLd _ _).trans ((slotB_setLc _ _ _).trans ((slotB_setLe _ _ _).trans ((slotB_setLs _ _ _).trans hslot)))

end Sys2Proof.Proofs
end

section
/-! SUPPORT. Scalar registers after a write, and the registers that a call's mask names (06 R163). -/

namespace Sys2Proof

/-- The number whose bits are those of a rising list holds these bits and no other. -/
theorem testBit_foldl_add_two_pow {l : List Nat} (hl : l.SortedLT) (i : Nat) :
    (l.foldl (fun x i => x + 2 ^ i) 0).testBit i = decide (i ∈ l) := by
  have hsum : l.foldl (fun x i => x + 2 ^ i) 0 = (l.map (2 ^ ·)).sum := by
    rw [List.sum_eq_foldl, List.foldl_map]
  rw [hsum, Bool.eq_iff_iff, ← Nat.mem_bitIndices, Nat.bitIndices_sum_map_two_pow hl, decide_eq_true_iff]

/-- One of several numbers of `n` bytes each. -/
theorem leAt_flatMap_leBytes (n : Nat) (f : Nat → Nat) (l : List Nat) (j : Nat) (hj : j < l.length) :
    leAt (l.flatMap (fun i => leBytes n (f i))) (n * j) n = f l[j] % 2 ^ (8 * n) := by
  induction l generalizing j with
  | nil => exact absurd hj (Nat.not_lt_zero j)
  | cons i l ih =>
    rw [List.flatMap_cons]
    cases j with
    | zero => rw [leAt_append_left _ (by simp), Nat.mul_zero, leAt_leBytes]; rfl
    | succ j =>
      rw [leAt_append_right _ _ (by rw [length_leBytes]; exact Nat.le_mul_of_pos_right n j.succ_pos), length_leBytes, Nat.mul_succ,
        Nat.add_sub_cancel, ih j (Nat.lt_of_succ_lt_succ hj)]
      rfl

theorem leNat_lt (bs : List Byte) : leNat bs < 2 ^ (8 * bs.length) := by
  induction bs with
  | nil => exact Nat.one_pos
  | cons b bs ih =>
    have hb := b.isLt
    rw [leNat, List.length_cons, Nat.mul_succ, pow_add]
    omega

namespace Machine

/-! ### Scalar registers -/

section
variable (k : Core) {i j : Nat} (v : BitVec 64)

theorem getS_setS_same (hi : i ≠ 0) : (k.setS i v).getS i = v := by
  unfold Core.setS
  rw [if_neg hi]
  split <;> simp_all [Core.getS]

theorem getS_setS_ne (hj : j ≠ i) : (k.setS i v).getS j = k.getS j := by
  unfold Core.setS
  split
  · rfl
  split
  · simp only [Core.getS, mget_mset_ne _ _ _ _ _ hj]
  · simp only [Core.getS, mget_mset_ne _ _ _ _ _ hj]

/-- Registers written one after another: those that are not written keep their values. -/
theorem getS_foldl_setS_ne (f : Nat → BitVec 64) (l : List (Nat × Nat)) (hj : j ∉ l.map Prod.snd) :
    (l.foldl (fun x e => x.setS e.2 (f e.1)) k).getS j = k.getS j := by
  induction l generalizing k with
  | nil => rfl
  | cons e l ih =>
    rw [List.map_cons, List.mem_cons, not_or] at hj
    rw [List.foldl_cons, ih _ hj.2, getS_setS_ne _ _ hj.1]

/-- One that is written once holds what was written. -/
theorem getS_foldl_setS_mem (f : Nat → BitVec 64) (l : List (Nat × Nat)) (hl : (l.map Prod.snd).Nodup) {e : Nat × Nat} (he : e ∈ l)
    (hi : e.2 ≠ 0) : (l.foldl (fun x e => x.setS e.2 (f e.1)) k).getS e.2 = f e.1 := by
  induction l generalizing k with
  | nil => exact absurd he List.not_mem_nil
  | cons d l ih =>
    rw [List.map_cons, List.nodup_cons] at hl
    rw [List.foldl_cons]
    rcases List.mem_cons.mp he with rfl | hmem
    · rw [getS_foldl_setS_ne _ f l hl.1, getS_setS_same _ _ hi]
    · exact ih _ hl.2 hmem

end

/-! ### The registers of a mask -/

section
variable (m : Nat)

theorem sortedLT_maskRegs : (maskRegs m).SortedLT :=
  (List.Pairwise.sublist List.filter_sublist (List.pairwise_lt_range)).sortedLT

variable {m} {i : Nat}

theorem mem_maskRegs : i ∈ maskRegs m ↔ i < 32 ∧ bit m i = true ∧ i ≠ 0 ∧ i ≠ 30 := by
  simp [maskRegs, and_assoc]

theorem ne_zero_of_mem_maskRegs (hi : i ∈ maskRegs m) : i ≠ 0 := (mem_maskRegs.mp hi).2.2.1

theorem ne_sp_of_mem_maskRegs (hi : i ∈ maskRegs m) : i ≠ 30 := (mem_maskRegs.mp hi).2.2.2

end

/-- The mask that a call pushes. -/
def frameMask (rs : List Nat) : Nat := rs.foldl (fun x i => x + 2 ^ i) 0

/-- R163, R164: the mask pushed names the registers pushed. -/
theorem maskRegs_frameMask (m : Nat) : maskRegs (frameMask (maskRegs m) % 2 ^ 64) = maskRegs m := by
  have hmask : ∀ i, i < 32 → bit (frameMask (maskRegs m) % 2 ^ 64) i = decide (i ∈ maskRegs m) := by
    intro i hi
    rw [bit, Nat.testBit_mod_two_pow, frameMask, testBit_foldl_add_two_pow (sortedLT_maskRegs m), decide_eq_true (hi.trans (by decide)),
      Bool.true_and]
  refine List.filter_congr fun i hi => ?_
  rw [hmask i (List.mem_range.mp hi), Bool.eq_iff_iff]
  simp only [mem_maskRegs, List.mem_range.mp hi, Bool.and_eq_true, decide_eq_true_iff, bne_iff_ne, ne_eq]
  tauto

end Machine
end Sys2Proof
end

section
/-! SUPPORT. Frames: CALL, CALLR and RET as they issue, and what the end of their bundle leaves (06 R163, R164; 07 R180). -/

namespace Sys2Proof.Machine

open Safety

/-! ### Issue -/

section
variable {s : State} {c w : Nat} (hi : Issues s c w)

/-- A frame that is aligned and lies in X or in Y. -/
theorem callTo_ok {k : Core} {w : Nat} (t : BitVec 16)
    (ha : (k.getS 30 - BitVec.ofNat 64 (8 * ((maskRegs (zImm w)).length + 1))).toNat % 8 = 0)
    (hf : frameOk (k.getS 30 - BitVec.ofNat 64 (8 * ((maskRegs (zImm w)).length + 1))).toNat ((maskRegs (zImm w)).length + 1) = true) :
    k.callTo w t = .ok { k with jump := some (t, false), frame := some (true, maskRegs (zImm w)) } := by
  unfold Core.callTo
  dsimp only
  exact if_neg (not_or.mpr ⟨not_not.mpr ha, ne_false_of_eq_true hf⟩)

/-- A part of a frame that lies in X or in Y does so too. -/
theorem frameOk_one {a n : Nat} (h : frameOk a (n + 1) = true) : frameOk a 1 = true := by
  simp only [frameOk, Bool.or_eq_true, Bool.and_eq_true, decide_eq_true_eq] at h ⊢
  omega

theorem ret_ok {k : Core} {w : Nat} (ha : (k.getS 30).toNat % 8 = 0)
    (hf : frameOk (k.getS 30).toNat ((maskRegs (leNat (k.lbytes (k.getS 30).toNat 4))).length + 1) = true) :
    k.ret w = .ok { k with jump := some ((k.getS 31).setWidth 16, false)
                           frame := some (false, maskRegs (leNat (k.lbytes (k.getS 30).toNat 4))) } := by
  unfold Core.ret
  dsimp only
  rw [if_neg (not_not.mpr ha), if_neg (by simp [frameOk_one hf]), if_neg (by simp [hf]), BitVec.ofNat_toNat]

include hi

theorem exec_call {k : Core} (hop : isOp 0x06 0x02 w = true)
    (h : (taken (s.core c)).callTo w (BitVec.ofNat 16 (zTgt w * 16)) = .ok k) (hk : k.slotB = false) :
    exec (.call c) s = .next (slotA s c k) :=
  congrArg Host.Outcome.next (zagil_slotA s c w _ Core.call _ hi hop h hk)

theorem exec_callr {k : Core} (hop : isOp 0x06 0x03 w = true) (ha : ((s.core c).getS (zCRa w)).toNat % 16 = 0)
    (h : (taken (s.core c)).callTo w (((s.core c).getS (zCRa w)).setWidth 16) = .ok k) (hk : k.slotB = false) :
    exec (.callr c) s = .next (slotA s c k) := by
  refine congrArg Host.Outcome.next (zagil_slotA s c w _ Core.callReg _ hi hop ?_ hk)
  unfold Core.callReg
  rw [regTarget_aligned (k := taken (s.core c)) ha]
  exact h

theorem exec_ret {k : Core} (hop : isOp 0x06 0x04 w = true) (h : (taken (s.core c)).ret w = .ok k) (hk : k.slotB = false) :
    exec (.ret c) s = .next (slotA s c k) :=
  congrArg Host.Outcome.next (zagil_slotA s c w _ Core.ret _ hi hop h hk)

end

/-! ### A frame that is pushed -/

section
variable (k : Core) (rs : List Nat)

/-- S30 below the frame of a call. -/
def Core.callSp : BitVec 64 := k.getS 30 - BitVec.ofNat 64 (8 * (rs.length + 1))

/-- The frame of a call: mask and registers, 8 bytes each. -/
def Core.frameBytes : List Byte := leBytes 8 (frameMask rs) ++ rs.flatMap (fun i => leBytes 8 (k.getS i).toNat)

@[simp] theorem length_frameBytes : (k.frameBytes rs).length = 8 * (rs.length + 1) := by
  simp [Core.frameBytes, List.length_flatMap]
  omega

theorem pushFrame_eq : k.pushFrame rs =
    ((k.lput (k.callSp rs).toNat (k.frameBytes rs)).setS 30 (k.callSp rs)).setS 31 ((k.pc + 16).setWidth 64) := by
  rw [← BitVec.ofNat_toNat]
  rfl

theorem lbyte_setS (i a : Nat) (v : BitVec 64) : (k.setS i v).lbyte a = k.lbyte a := by
  unfold Core.setS
  repeat' split
  all_goals rfl

theorem lbyte_pushFrame (a : Nat) : (k.pushFrame rs).lbyte a = (k.lput (k.callSp rs).toNat (k.frameBytes rs)).lbyte a := by
  rw [pushFrame_eq, lbyte_setS, lbyte_setS]

theorem getS_pushFrame_sp : (k.pushFrame rs).getS 30 = k.callSp rs := by
  rw [pushFrame_eq, getS_setS_ne _ _ (by decide), getS_setS_same _ _ (by decide)]

theorem getS_pushFrame_link : (k.pushFrame rs).getS 31 = (k.pc + 16).setWidth 64 := by
  rw [pushFrame_eq, getS_setS_same _ _ (by decide)]

theorem getS_pushFrame_ne {i : Nat} (h30 : i ≠ 30) (h31 : i ≠ 31) : (k.pushFrame rs).getS i = k.getS i := by
  rw [pushFrame_eq, getS_setS_ne _ _ h31, getS_setS_ne _ _ h30, lput_frame]
  rfl

variable {k} (h : k.LocalWf)
include h

theorem leNat_pushFrame {off : Nat} (hoff : off + 8 ≤ 8 * (rs.length + 1)) :
    leNat ((k.pushFrame rs).lbytes ((k.callSp rs).toNat + off) 8) = leAt (k.frameBytes rs) off 8 := by
  have hbytes : (k.pushFrame rs).lbytes ((k.callSp rs).toNat + off) 8 = ((k.frameBytes rs).drop off).take 8 := by
    rw [← lbytes_lput h (k.frameBytes rs) (k.callSp rs).toNat off 8 (by simpa using hoff)]
    simp only [Core.lbytes, lbyte_pushFrame]
  rw [hbytes]
  rfl

theorem pushFrame_mask : leNat ((k.pushFrame rs).lbytes (k.callSp rs).toNat 8) = frameMask rs % 2 ^ 64 := by
  refine (leNat_pushFrame rs h (off := 0) (by omega)).trans ?_
  rw [Core.frameBytes, leAt_append_left _ (by simp), leAt_leBytes]

theorem pushFrame_register {j : Nat} (hj : j < rs.length) :
    leNat ((k.pushFrame rs).lbytes ((k.callSp rs).toNat + 8 * (j + 1)) 8) = (k.getS rs[j]).toNat := by
  rw [leNat_pushFrame rs h (by omega), Core.frameBytes, leAt_append_right _ _ (by rw [length_leBytes]; omega), length_leBytes,
    show 8 * (j + 1) - 8 = 8 * j by omega, leAt_flatMap_leBytes 8 (fun i => (k.getS i).toNat) rs j hj]
  exact Nat.mod_eq_of_lt (k.getS rs[j]).isLt

theorem pushFrame_outside {a : Nat} (ha : a < (k.callSp rs).toNat ∨ (k.callSp rs).toNat + 8 * (rs.length + 1) ≤ a) :
    (k.pushFrame rs).lbyte a = k.lbyte a := by
  rw [lbyte_pushFrame, lbyte_lput_outside h _ _ _ (by simpa using ha)]

end

/-! ### A frame that is popped -/

section
variable (k : Core) {m : Nat}

/-- The register at place `j` of the frame at S30. -/
def Core.frameWord (j : Nat) : BitVec 64 := BitVec.ofNat 64 (leNat (k.lbytes ((k.getS 30).toNat + 8 * (j + 1)) 8))

/-- The registers of a frame by their places, as they are restored. -/
theorem popFrame_eq (rs : List Nat) : k.popFrame rs =
    ((rs.mapIdx Prod.mk).foldl (fun (x : Core) e => x.setS e.2 (k.frameWord e.1)) k).setS 30
      (BitVec.ofNat 64 ((k.getS 30).toNat + 8 * (rs.length + 1))) := rfl

theorem map_snd_mapIdx (rs : List Nat) : (rs.mapIdx Prod.mk).map Prod.snd = rs :=
  List.ext_getElem (by simp) (by simp)

theorem getS_popFrame_sp (rs : List Nat) : (k.popFrame rs).getS 30 = BitVec.ofNat 64 ((k.getS 30).toNat + 8 * (rs.length + 1)) :=
  getS_setS_same _ _ (by decide)

theorem getS_popFrame_ne {rs : List Nat} {i : Nat} (h30 : i ≠ 30) (hi : i ∉ rs) : (k.popFrame rs).getS i = k.getS i := by
  rw [popFrame_eq, getS_setS_ne _ _ h30]
  exact getS_foldl_setS_ne k k.frameWord _ ((map_snd_mapIdx rs).symm ▸ hi)

theorem popFrame_register {j : Nat} (hj : j < (maskRegs m).length) : ((k.popFrame (maskRegs m)).getS (maskRegs m)[j]).toNat =
    leNat (k.lbytes ((k.getS 30).toNat + 8 * (j + 1)) 8) := by
  have hmem : (maskRegs m)[j] ∈ maskRegs m := List.getElem_mem hj
  have hplace : (j, (maskRegs m)[j]) ∈ (maskRegs m).mapIdx Prod.mk := List.mem_mapIdx.mpr ⟨j, hj, rfl⟩
  have hnodup : (((maskRegs m).mapIdx Prod.mk).map Prod.snd).Nodup := by
    rw [map_snd_mapIdx]
    exact (sortedLT_maskRegs m).pairwise.nodup
  have hread := getS_foldl_setS_mem k k.frameWord _ hnodup hplace (ne_zero_of_mem_maskRegs hmem)
  rw [popFrame_eq, getS_setS_ne _ _ (ne_sp_of_mem_maskRegs hmem), hread, Core.frameWord, BitVec.toNat_ofNat]
  exact Nat.mod_eq_of_lt ((leNat_lt _).trans_eq (by simp [Core.lbytes]))

end

/-! ### The end of the bundle -/

section
variable {k k' : Core}

theorem eq_of_sansFrame (h : k'.sansFrame = k.sansFrame) : k' = { k with s := k'.s, shadow := k'.shadow, x := k'.x, y := k'.y } :=
  (congrArg (fun u : Core => { u with s := k'.s, shadow := k'.shadow, x := k'.x, y := k'.y }) h :)

variable {t : BitVec 16} (hrti : k.rti = false)
include hrti

theorem closedAt_frame : k.closedAt t = { k with
    s := (k.closedAt t).s, shadow := (k.closedAt t).shadow, x := (k.closedAt t).x, y := (k.closedAt t).y
    slotB := false, jump := none, frame := none, pc := t } :=
  (congrArg (fun u : Core => { u with slotB := false, jump := none, rti := false, frame := none, pc := t })
    (eq_of_sansFrame (sansFrame_framed k))).trans (congrArg (fun b => { k with
      s := k.framed.s, shadow := k.framed.shadow, x := k.framed.x, y := k.framed.y
      slotB := false, jump := none, rti := b, frame := none, pc := t }) hrti.symm)

/-- What the end of a bundle with a call or a return writes: its frame, where the core goes on, and what the bundle held. -/
theorem endBundle_frame (hjump : k.jump = some (t, false)) : k.endBundle = { k with
    s := k.endBundle.s, shadow := k.endBundle.shadow, x := k.endBundle.x, y := k.endBundle.y, pc := t, slotB := false, jump := none
    frame := none, heldIters := k.endBundle.heldIters } := by
  rw [endBundle_of_jump hrti hjump]
  exact congrArg (fun u : Core => { u with heldIters := (k.closedAt t).prune.heldIters }) (closedAt_frame hrti)

end

/-! ### Calls and returns -/

section
variable {k : Core} {t : BitVec 16} {rs : List Nat} (hrti : k.rti = false) (hjump : k.jump = some (t, false))
include hrti hjump

theorem getS_endBundle {k₁ : Core} (hframed : k.framed = k₁) (i : Nat) : k.endBundle.getS i = k₁.getS i := by
  rw [endBundle_of_jump hrti hjump, ← hframed]
  rfl

theorem lbyte_endBundle {k₁ : Core} (hframed : k.framed = k₁) (a : Nat) : k.endBundle.lbyte a = k₁.lbyte a := by
  rw [endBundle_of_jump hrti hjump, ← hframed]
  rfl

theorem lbytes_endBundle {k₁ : Core} (hframed : k.framed = k₁) (a n : Nat) : k.endBundle.lbytes a n = k₁.lbytes a n := by
  simp only [Core.lbytes, lbyte_endBundle hrti hjump hframed]

end

theorem framed_call {k : Core} {rs : List Nat} (h : k.frame = some (true, rs)) : k.framed = k.pushFrame rs := by
  unfold Core.framed
  rw [h]

theorem framed_return {k : Core} {rs : List Nat} (h : k.frame = some (false, rs)) : k.framed = k.popFrame rs := by
  unfold Core.framed
  rw [h]

/-- A return writes no memory. -/
theorem endBundle_return_frame {k : Core} {t : BitVec 16} {rs : List Nat} (hrti : k.rti = false) (hjump : k.jump = some (t, false))
    (hframe : k.frame = some (false, rs)) : k.endBundle = { k with
      s := k.endBundle.s, shadow := k.endBundle.shadow, pc := t, slotB := false, jump := none, frame := none
      heldIters := k.endBundle.heldIters } := by
  have hview : k.framed.sansS = k.sansS := framed_return hframe ▸ sansS_popFrame k rs
  have hx : k.endBundle.x = k.x := by
    rw [endBundle_of_jump hrti hjump]
    exact (congrArg Core.x hview :)
  have hy : k.endBundle.y = k.y := by
    rw [endBundle_of_jump hrti hjump]
    exact (congrArg Core.y hview :)
  have hframe := endBundle_frame hrti hjump
  rwa [hx, hy] at hframe

end Sys2Proof.Machine
end

section
namespace Sys2Proof.Proofs

open Machine Safety

/-- Settles O7: CALL, CALLR and RET as they issue, and what the end of their bundle pushes and restores. -/
theorem callsPushAndReturnsPop : Obligations.CallsPushAndReturnsPop := by
  refine ⟨?_, ?_, ?_⟩
  · rintro s c w hi k rs sp ha hf cmd t (⟨hop, rfl, rfl⟩ | ⟨hop, rfl, rfl, htarget⟩)
    · exact exec_call hi hop (callTo_ok _ ha hf) (slotB_of_issues_control hi hop :)
    · exact exec_callr hi hop htarget (callTo_ok _ ha hf) (slotB_of_issues_control hi hop :)
  · intro s c w hi hop k a rs ha hf
    exact exec_ret hi hop (ret_ok ha hf) (slotB_of_issues_control hi hop :)
  · intro k m t hrti hjump rs k' sp a
    refine ⟨fun hframe hx hy _ => ?_, fun hframe => ?_⟩
    · have hwf : k.LocalWf := ⟨hx, hy⟩
      have hreg := getS_endBundle hrti hjump (framed_call hframe)
      have hbyte := lbyte_endBundle hrti hjump (framed_call hframe)
      have hbytes := lbytes_endBundle hrti hjump (framed_call hframe)
      refine ⟨(hreg 30).trans (getS_pushFrame_sp k rs), (hreg 31).trans (getS_pushFrame_link k rs),
        fun i h30 h31 => (hreg i).trans (getS_pushFrame_ne k rs h30 h31), fun j hj => ?_, ?_,
        fun b hb => (hbyte b).trans (pushFrame_outside rs hwf hb), endBundle_frame hrti hjump⟩
      · exact (congrArg leNat (hbytes _ _)).trans (pushFrame_register rs hwf hj)
      · exact (congrArg (fun bs => maskRegs (leNat bs)) (hbytes _ _)).trans
          ((congrArg maskRegs (pushFrame_mask rs hwf)).trans (maskRegs_frameMask m))
    · have hreg := getS_endBundle hrti hjump (framed_return hframe)
      exact ⟨(hreg 30).trans (getS_popFrame_sp k rs),
        fun j hj => (congrArg BitVec.toNat (hreg _)).trans (popFrame_register k hj),
        fun i h30 hi => (hreg i).trans (getS_popFrame_ne k h30 hi), endBundle_return_frame hrti hjump hframe⟩

end Sys2Proof.Proofs
end

section
/-! SUPPORT. Entry to a level: after a fault, at an interrupt, and the return from it (06 R165 to R168). -/

namespace Sys2Proof.Machine

open Safety

/-! ### Faults -/

/-- The core with a fault of its next slot recorded. -/
def Core.faulted (k : Core) (cause : Nat) : Core :=
  { k with faultActive := k.active, faultSlot := k.slotB, faultCause := cause, faultPc := k.pc.toNat }

section
variable {s : State} {c : Nat} {k : Core} (cause : Nat)

theorem core_haltCore (s : State) (c : Nat) : (s.haltCore c).core c = { s.core c with state := 4, faultHalt := true } := by
  unfold State.haltCore
  dsimp only
  split
  · rw [core_updJob, State.core_setCore]
  · rw [State.core_setCore]

/-- R168: a fault while level 3 is in service halts the task. -/
theorem core_spdFault_halts (hactive : bit k.active 3 = true) :
    ((s.setCore c k).spdFault c cause).core c = { k.faulted cause with state := 4, faultHalt := true } := by
  unfold State.spdFault
  dsimp only
  rw [State.core_setCore, if_pos hactive, core_haltCore, State.core_setCore]
  rfl

theorem closeBundle_of_no_tend (htend : k.tend = false) : (s.setCore c k).closeBundle c = s.setCore c k.endBundle := by
  unfold State.closeBundle
  dsimp only
  rw [State.core_setCore, if_neg (ne_true_of_eq_false htend), State.setCore_setCore]

/-- The core at the bundle after this one. -/
def Core.nextBundle (k : Core) : Core :=
  ({ k with slotB := false, jump := none, rti := false, frame := none, pc := k.pc + 16 } : Core).prune

variable (hrti : k.rti = false) (hjump : k.jump = none) (hframe : k.frame = none) (hld : k.getLd = 0)
include hrti hjump hframe hld

/-- A bundle without a branch, a frame or an RTI, outside every repeat, is followed by the next. -/
theorem endBundle_plain : k.endBundle = k.nextBundle := by
  have hframed : k.framed = k := by
    unfold Core.framed
    rw [hframe]
  rw [endBundle_off hrti hjump (.inl hld), Core.closedAt, hframed]
  rfl

/-- R168: a fault of a running task below level 3 ends its bundle and enters level 3 at VBASE. -/
theorem spdFault_enters (hactive : bit k.active 3 = false) (htend : k.tend = false) (hstate : k.state = 3) (hended : k.ended = false) :
    (s.setCore c k).spdFault c cause = s.setCore c ((k.faulted cause).nextBundle.enter 3 k.vbase) := by
  have hclose : (s.setCore c (k.faulted cause)).closeBundle c = s.setCore c (k.faulted cause).nextBundle := by
    rw [closeBundle_of_no_tend (k := k.faulted cause) htend, endBundle_plain (k := k.faulted cause) hrti hjump hframe hld]
  have hruns : (k.faulted cause).nextBundle.state = 3 ∧ (!(k.faulted cause).nextBundle.ended) = true := by
    dsimp only [Core.nextBundle, Core.prune, Core.faulted]
    exact ⟨hstate, by rw [hended]; rfl⟩
  unfold Core.faulted at hclose hruns
  unfold State.spdFault Core.faulted
  dsimp only
  rw [State.core_setCore, State.setCore_setCore, if_neg (ne_true_of_eq_false hactive), hclose, State.core_setCore, State.setCore_setCore,
    if_pos hruns]
  rfl

end

/-! ### An illegal instruction -/

section
variable {s : State} {c : Nat} {o : ScalarOp} (ho : o ∈ scalarOps) (hissues : (s.core c).issues = true)
  (hillegal : zLegal (s.core c) (s.core c).word = false)
include ho hissues hillegal

/-- R192: the illegal word is issued, and faults, under every scalar command. -/
theorem exec_illegal : exec (o.cmd c) s = .next (((fresh s).setCore c (taken (s.core c))).spdFault c 1) := by
  obtain ⟨f, hexec⟩ := exec_scalarOp ho
  rw [hexec, zagil_illegal s c _ f hissues hillegal]

/-- R168: with level 3 in service it halts the task. -/
theorem illegal_halts (hactive : bit (s.core c).active 3 = true) :
    ∃ t, exec (o.cmd c) s = .next t ∧ (t.core c).state = 4 ∧ (t.core c).faultHalt = true := by
  have hcore := core_spdFault_halts (s := fresh s) (c := c) (k := taken (s.core c)) 1 hactive
  refine ⟨_, exec_illegal ho hissues hillegal, ?_⟩
  rw [hcore]
  exact ⟨rfl, rfl⟩

/-- R168: below level 3 that level is entered after the bundle. -/
theorem illegal_enters (htend : (s.core c).tend = false) (hactive : bit (s.core c).active 3 = false) (hld : (s.core c).getLd = 0)
    (hjump : (s.core c).jump = none) (hrti : (s.core c).rti = false) (hframe : (s.core c).frame = none) :
    exec (o.cmd c) s = .next ((fresh s).setCore c (((taken (s.core c)).faulted 1).nextBundle.enter 3 (s.core c).vbase)) := by
  have hruns : (s.core c).state = 3 ∧ (s.core c).ended = false := by
    simp only [Core.issues, Bool.and_eq_true, beq_iff_eq, Bool.not_eq_true'] at hissues
    exact hissues.1
  rw [exec_illegal ho hissues hillegal]
  exact congrArg Host.Outcome.next
    (spdFault_enters (k := taken (s.core c)) 1 hrti hjump hframe hld hactive htend hruns.1 hruns.2)

end

/-! ### Interrupts and their return -/

/-- R165, R166: the input that is due is taken. -/
theorem exec_interruptEntry {s : State} {c i : Nat} (hdue : (s.core c).due = some i) : exec (.interruptEntry c) s =
    .next ((fresh s).setCore c (({ s.core c with ipend := (s.core c).ipend &&& ~~~(1#32 <<< i) } : Core).enter ((s.core c).levelOf i)
      ((s.core c).vbase + BitVec.ofNat 16 (16 * (1 + i))))) := by
  change Host.Outcome.next ((fresh s).takeInterrupt c) = _
  unfold State.takeInterrupt
  dsimp only
  rw [fresh_core, hdue]

section
variable {s : State} {c w : Nat} (hi : Issues s c w) (hop : isOp 0x06 0x05 w = true)
include hi hop

theorem exec_rti (hactive : (s.core c).active ≠ 0) : exec (.rti c) s = .next (slotA s c { taken (s.core c) with rti := true }) :=
  congrArg Host.Outcome.next (zagil_slotA s c w _ Core.rtiOp _ hi hop (if_neg hactive) (slotB_of_issues_control hi hop :))

/-- R167: at base level RTI is illegal. -/
theorem exec_rti_base (hactive : (s.core c).active = 0) :
    exec (.rti c) s = .next (((fresh s).setCore c (taken (s.core c))).spdFault c 1) :=
  congrArg Host.Outcome.next (zagil_fault s c w _ Core.rtiOp 1 hi hop (if_pos hactive))

end

theorem sat_setLd (k : Core) (d : Nat) : (k.setLd d).sat = k.sat := by unfold Core.setLd; split <;> rfl
theorem ie_setLd (k : Core) (d : Nat) : (k.setLd d).ie = k.ie := by unfold Core.setLd; split <;> rfl
theorem active_setLd (k : Core) (d : Nat) : (k.setLd d).active = k.active := by unfold Core.setLd; split <;> rfl
theorem shadowOn_setLd (k : Core) (d : Nat) : (k.setLd d).shadowOn = k.shadowOn := by unfold Core.setLd; split <;> rfl

/-- R167: the return from level `l` restores the status it saved and keeps SAT set. -/
theorem returned_fields {k : Core} {l : Nat} (hl : k.topLevel = some l) : k.returned.pc = mget k.ipc l 0
    ∧ k.returned.active = (mget k.isr l (0 : BitVec 32)).toNat % 16 ∧ k.returned.ie = (mget k.isr l (0 : BitVec 32)).getLsbD 8
    ∧ k.returned.sat = (k.sat || (mget k.isr l (0 : BitVec 32)).getLsbD 16) ∧ k.returned.shadowOn = (k.shadowOn && l != 3) := by
  unfold Core.returned
  rw [hl]
  refine ⟨pc_setLd _ _, active_setLd _ _, ie_setLd _ _, ?_, shadowOn_setLd _ _⟩
  refine (Bool.or_comm _ _).trans ?_
  dsimp only [Core.setSr]
  rw [sat_setLd]
  rfl

/-- R167, R180: an RTI returns at the end of its bundle. -/
theorem endBundle_rti {k : Core} {l : Nat} (hrti : k.rti = true) (hl : k.topLevel = some l) : k.endBundle.pc = mget k.ipc l 0
    ∧ k.endBundle.active = (mget k.isr l (0 : BitVec 32)).toNat % 16 ∧ k.endBundle.ie = (mget k.isr l (0 : BitVec 32)).getLsbD 8
    ∧ k.endBundle.sat = (k.sat || (mget k.isr l (0 : BitVec 32)).getLsbD 16) ∧ k.endBundle.shadowOn = (k.shadowOn && l != 3) := by
  have hframed := eq_of_sansFrame (sansFrame_framed k)
  have hipc : (k.closedAt k.framed.pc).ipc = k.ipc := (congrArg Core.ipc hframed :)
  have hisr : (k.closedAt k.framed.pc).isr = k.isr := (congrArg Core.isr hframed :)
  have hsat : (k.closedAt k.framed.pc).sat = k.sat := (congrArg Core.sat hframed :)
  have hshadow : (k.closedAt k.framed.pc).shadowOn = k.shadowOn := (congrArg Core.shadowOn hframed :)
  have hlevel : (k.closedAt k.framed.pc).topLevel = k.topLevel := (congrArg Core.topLevel hframed :)
  have hfields := returned_fields (hlevel.trans hl)
  rw [hipc, hisr, hsat, hshadow] at hfields
  rw [endBundle_of_rti hrti]
  exact hfields

end Sys2Proof.Machine
end

section
namespace Sys2Proof.Proofs

open Machine Safety

/-- Settles O8: an illegal word below and at level 3, the input that is due, and RTI in slot A and at the end of its bundle. -/
theorem faultsAndInterruptsAreEntered : Obligations.FaultsAndInterruptsAreEntered := by
  refine ⟨fun s c o ho hissues hillegal hslot htend => ⟨fun hactive hld hjump hrti hframe => ?_, illegal_halts ho hissues hillegal⟩,
    fun s c i hdue => ?_, fun s c w hi hop => ⟨exec_rti hi hop, exec_rti_base hi hop⟩, fun k l hrti hl => endBundle_rti hrti hl⟩
  · refine ⟨_, illegal_enters ho hissues hillegal htend hactive hld hjump hrti hframe, rfl,
      fun d hd => State.core_setCore_ne _ _ _ _ hd, ?_⟩
    rw [State.core_setCore]
    dsimp only [Core.enter, Core.nextBundle, Core.prune, Core.faulted, taken]
    exact ⟨rfl, hslot, rfl, rfl, rfl, mget_mset _ _ _ _, rfl, Bool.or_true _, rfl, rfl, rfl, rfl⟩
  · refine ⟨_, exec_interruptEntry hdue, ?_⟩
    dsimp only [Core.enter, Core.prune]
    exact ⟨rfl, mget_mset _ _ _ _, mget_mset _ _ _ _, rfl, rfl, rfl, rfl⟩

end Sys2Proof.Proofs
end

section
/-! SUPPORT. Vectors by their lanes: a vector made of lanes, and the lanes of one that an instruction writes (06 R151; 07 R174, R175). -/

namespace Sys2Proof.Machine

open Safety

/-! ### Lanes -/

theorem lane_eq {b : Nat} (hb : 0 < b) (v i : Nat) : lane b v i = v / 2 ^ (b * i) % 2 ^ b := by
  rw [lane, bits, Nat.shiftRight_eq_div_pow, show b * i + b - 1 + 1 - b * i = b by omega]

theorem lane_lt {b : Nat} (hb : 0 < b) (v i : Nat) : lane b v i < 2 ^ b := by
  rw [lane_eq hb]
  exact Nat.mod_lt _ (Nat.two_pow_pos b)

theorem ofLanes_lt (b : Nat) (l : List Nat) : ofLanes b l < 2 ^ (b * l.length) := by
  induction l with
  | nil => exact Nat.one_pos
  | cons x l ih =>
    have hx := Nat.mod_lt x (Nat.two_pow_pos b)
    rw [ofLanes, List.length_cons, Nat.mul_succ, pow_add, Nat.mul_comm (2 ^ (b * l.length))]
    calc x % 2 ^ b + 2 ^ b * ofLanes b l < 2 ^ b * (ofLanes b l + 1) := by rw [Nat.mul_succ]; omega
      _ ≤ 2 ^ b * 2 ^ (b * l.length) := Nat.mul_le_mul_left _ ih

theorem lane_ofLanes {b : Nat} (hb : 0 < b) (l : List Nat) (i : Nat) (hi : i < l.length) : lane b (ofLanes b l) i = l[i] % 2 ^ b := by
  rw [lane_eq hb]
  induction l generalizing i with
  | nil => exact absurd hi (Nat.not_lt_zero i)
  | cons x l ih =>
    have hx := Nat.mod_lt x (Nat.two_pow_pos b)
    cases i with
    | zero => simp [ofLanes, Nat.add_mul_mod_self_left]
    | succ i =>
      rw [Nat.mul_succ, Nat.add_comm, pow_add, ← Nat.div_div_eq_div_mul, ofLanes, Nat.add_mul_div_left _ _ (Nat.two_pow_pos b),
        Nat.div_eq_of_lt hx, Nat.zero_add, ih i (Nat.lt_of_succ_lt_succ hi)]
      rfl

/-- A lane of two vectors in a row. -/
theorem lane_append {b n : Nat} (hb : 0 < b) {x : Nat} (hx : x < 2 ^ (b * n)) (y i : Nat) :
    lane b (x + 2 ^ (b * n) * y) i = if i < n then lane b x i else lane b y (i - n) := by
  simp only [lane_eq hb]
  split <;> rename_i hi
  · obtain ⟨m, rfl⟩ := Nat.exists_eq_add_of_lt hi
    have hsplit : 2 ^ (b * (i + m + 1)) * y = 2 ^ (b * i) * (2 ^ b * (2 ^ (b * m) * y)) := by ring
    rw [hsplit, Nat.add_mul_div_left _ _ (Nat.two_pow_pos _), Nat.add_mul_mod_self_left]
  · obtain ⟨m, rfl⟩ := Nat.exists_eq_add_of_le (Nat.le_of_not_lt hi)
    rw [Nat.add_sub_cancel_left, Nat.mul_add, pow_add, ← Nat.div_div_eq_div_mul, Nat.add_mul_div_left _ _ (Nat.two_pow_pos _),
      Nat.div_eq_of_lt hx, Nat.zero_add]

theorem laneW_pos (w8 : Bool) : 0 < laneW w8 := by cases w8 <;> decide

theorem laneW_mul_laneN (w8 : Bool) : laneW w8 * laneN w8 = 1024 := by cases w8 <;> rfl

/-- A lane of two registers in a row. -/
theorem lane_slide (w8 : Bool) (k : Core) (a b i : Nat) : lane (laneW w8) (k.vget a + 2 ^ 1024 * k.vget b) i =
    if i < laneN w8 then lane (laneW w8) (k.vget a) i else lane (laneW w8) (k.vget b) (i - laneN w8) := by
  have hslide := fun hfits => lane_append (n := laneN w8) (x := k.vget a) (laneW_pos w8) hfits (k.vget b) i
  rw [laneW_mul_laneN] at hslide
  exact hslide (BitVec.isLt _)

/-! ### Lanes that are written -/

section
variable (k : Core) (d : Nat) (w8 : Bool) (g : Nat → Bool) (f : Nat → Nat × Bool)

/-- What each lane takes, and whether it saturated. -/
def Core.laneResults : List (Nat × Bool) :=
  (List.range (laneN w8)).map (fun i => if g i then f i else (lane (laneW w8) (k.vget d) i, false))

theorem vget_vset (x : Nat) : (k.vset d x).vget d = x % 2 ^ 1024 := by
  unfold Core.vset Core.vget
  simp only [mget_mset, BitVec.toNat_ofNat]

theorem vget_vwrite : (k.vwrite d w8 g f).vget d = ofLanes (laneW w8) ((k.laneResults d w8 g f).map (·.1)) := by
  have hbits : laneW w8 * ((k.laneResults d w8 g f).map (·.1)).length = 1024 := by
    rw [List.length_map, Core.laneResults, List.length_map, List.length_range, laneW_mul_laneN]
  have hfits := ofLanes_lt (laneW w8) ((k.laneResults d w8 g f).map (·.1))
  rw [hbits] at hfits
  exact (vget_vset _ d _).trans (Nat.mod_eq_of_lt hfits)

/-- R175: a governed lane takes its result, wrapped; another keeps its value. -/
theorem lane_vwrite {i : Nat} (hi : i < laneN w8) : lane (laneW w8) ((k.vwrite d w8 g f).vget d) i =
    if g i then (f i).1 % 2 ^ laneW w8 else lane (laneW w8) (k.vget d) i := by
  have hlength : i < ((k.laneResults d w8 g f).map (·.1)).length := by simpa [Core.laneResults] using hi
  rw [vget_vwrite, lane_ofLanes (laneW_pos w8) _ i hlength]
  simp only [Core.laneResults, List.getElem_map, List.getElem_range]
  split
  · rfl
  · exact Nat.mod_eq_of_lt (lane_lt (laneW_pos w8) _ _)

/-- SAT is set when a governed lane saturates. -/
theorem sat_vwrite : (k.vwrite d w8 g f).sat = (k.sat || (List.range (laneN w8)).any (fun i => g i && (f i).2)) := by
  change (k.sat || (k.laneResults d w8 g f).any (·.2)) = _
  rw [Core.laneResults, List.any_map]
  congr 2
  funext i
  dsimp only [Function.comp]
  cases g i <;> rfl

theorem onlyV_vwrite : OnlyV k (k.vwrite d w8 g f) d :=
  ⟨rfl, fun _ hj => mget_mset_ne _ _ _ _ _ hj⟩

end

/-- R174: what a lane of `w` bits takes of a result that saturates. -/
theorem satW_eq (w : Nat) (u : Bool) (v : Int) : satW w u v = (low w (clamp w u v), clamp w u v != v) := by
  have hclamp : (if u then satU w v else satS w v) = clamp w u v := by
    have hpow : (0 : Int) < 2 ^ w := by positivity
    have hhalf : (0 : Int) < 2 ^ (w - 1) := by positivity
    unfold clamp satU satS clampI
    cases u
    · simp only [Bool.false_eq_true, if_false]
      omega
    · simp only [if_true]
      omega
  unfold satW
  dsimp only
  rw [hclamp]

theorem low_lt (n : Nat) (v : Int) : low n v < 2 ^ n := by
  have hlt := Int.emod_lt_of_pos v (b := (2 ^ n : Nat)) (by positivity)
  have hle := Int.emod_nonneg v (b := (2 ^ n : Nat)) (by positivity)
  unfold low
  omega

end Sys2Proof.Machine
end

section
/-! SUPPORT. The vector moves, comparisons and predicate operations as they issue (07 R184). -/

namespace Sys2Proof.Machine

open Safety

/-- The bits below `n` for which `p` holds, as a number. -/
theorem testBit_foldl_range (p : Nat → Bool) (n i : Nat) :
    ((List.range n).foldl (fun x i => if p i then x + 2 ^ i else x) 0).testBit i = (decide (i < n) && p i) := by
  have hrising : ((List.range n).filter p).SortedLT := (List.pairwise_lt_range.sublist List.filter_sublist).sortedLT
  rw [← List.foldl_filter, testBit_foldl_add_two_pow hrising]
  simp [List.mem_filter]

/-- Nothing saturates. -/
theorem any_saturated_false (n : Nat) (g : Nat → Bool) (f : Nat → Nat) :
    (List.range n).any (fun i => g i && (f i, false).2) = false := by simp

section
variable {s : State} {c w : Nat} {cmd : Instr} {F : Core → Nat → Except Nat Core} {fn : Nat} (hi : Issues s c w)
include hi

/-! ### Vectors -/

/-- An instruction that writes lanes of VD: what it writes, and what it leaves. -/
theorem exec_vwrite {w8 : Bool} {g : Nat → Bool} {f : Nat → Nat × Bool} {lanes : Nat → Nat} {st : Bool}
    (hexec : exec cmd s = .next (s.zagil c (isOp 0x10 fn) F)) (hop : isOp 0x10 fn w = true)
    (hF : F (taken (s.core c)) w = .ok ((taken (s.core c)).vwrite (zRd w) w8 g f))
    (hlanes : ∀ i, i < laneN w8 → (f i).1 % 2 ^ laneW w8 = lanes i)
    (hsat : (List.range (laneN w8)).any (fun i => g i && (f i).2) = st) :
    ∃ k', exec cmd s = .next (slotB s c k') ∧ OnlyV (taken (s.core c)) k' (zRd w) ∧ k'.sat = ((s.core c).sat || st)
      ∧ ∀ i, i < laneN w8 → lane (laneW w8) (k'.vget (zRd w)) i =
          if g i then lanes i else lane (laneW w8) ((s.core c).vget (zRd w)) i := by
  have ⟨_, _, hlegal, _⟩ := hi
  have hslot : (taken (s.core c)).slotB = true := slotB_of_legal_vector hlegal (zOpc_of_isOp hop)
  refine ⟨_, hexec.trans (congrArg _ (zagil_slotB s c w _ F _ hi hop hF hslot)), onlyV_vwrite _ _ _ _ _, ?_, fun i hlane => ?_⟩
  · rw [sat_vwrite, hsat]
    rfl
  · rw [lane_vwrite _ _ _ _ _ hlane, hlanes i hlane]
    rfl

/-! ### Predicates -/

/-- An instruction that writes PD. -/
theorem exec_setP {v : BitVec 128} (hexec : exec cmd s = .next (s.zagil c (isOp 0x11 fn) F)) (hop : isOp 0x11 fn w = true)
    (hF : F (taken (s.core c)) w = .ok ((taken (s.core c)).setP (zRd w) v)) :
    exec cmd s = .next (slotB s c ((taken (s.core c)).setP (zRd w) v)) := by
  have ⟨_, _, hlegal, _⟩ := hi
  have hslot : (taken (s.core c)).slotB = true := slotB_of_legal_pred hlegal (zOpc_of_isOp hop)
  refine hexec.trans (congrArg _ (zagil_slotB s c w _ F _ hi hop hF ?_))
  unfold Core.setP
  split <;> exact hslot

/-- A comparison sets the bits of the governed lanes where it holds, both bits of a 16-bit lane, and clears the others. -/
theorem exec_vcompare {f g : Int → Int → Bool} (hexec : exec cmd s = .next (s.zagil c (isOp 0x11 fn) (Core.vcompare f)))
    (hfg : ∀ a b, f a b = g a b) (hop : isOp 0x11 fn w = true) :
    ∃ v, exec cmd s = .next (slotB s c ((taken (s.core c)).setP (zRd w) v)) ∧ ∀ i, i < 128 →
      v.getLsbD i = ((s.core c).governs (zPr w) (zW w) (if zW w then i else i / 2)
        && g (laneI (laneW (zW w)) (zU w) ((s.core c).vget (zRa w)) (if zW w then i else i / 2))
          (laneI (laneW (zW w)) (zU w) ((s.core c).vget (zRb w)) (if zW w then i else i / 2))) := by
  refine ⟨_, exec_setP hi hexec hop rfl, fun i hbit => ?_⟩
  rw [BitVec.getLsbD_ofNat, testBit_foldl_range, decide_eq_true hbit, Bool.true_and, Bool.true_and, ← hfg]
  rfl

/-- A predicate operation by its bits. -/
theorem exec_plogic {f : BitVec 128 → BitVec 128 → BitVec 128} {fbit : Bool → Bool → Bool}
    (hexec : exec cmd s = .next (s.zagil c (isOp 0x11 fn) (Core.plogic f))) (hop : isOp 0x11 fn w = true)
    (hf : ∀ a b i, i < 128 → (f a b).getLsbD i = fbit (a.getLsbD i) (b.getLsbD i)) :
    ∃ v, exec cmd s = .next (slotB s c ((taken (s.core c)).setP (zRd w) v)) ∧ ∀ i, i < 128 →
      v.getLsbD i = fbit (((s.core c).getP (zRa w)).getLsbD i) (((s.core c).getP (zRb w)).getLsbD i) :=
  ⟨_, exec_setP hi hexec hop rfl, fun i hbit => hf _ _ i hbit⟩

end

end Sys2Proof.Machine
end

section
namespace Sys2Proof.Proofs

open Machine Safety

/-- Settles O12: each move by what its lanes take, each comparison and predicate operation by its bits. -/
theorem vectorMovesAndPredicatesAreWritten : Obligations.VectorMovesAndPredicatesAreWritten := by
  refine ⟨?_, ?_⟩
  · intro s c w hi k b g va vb written half
    refine ⟨fun hop => ?_, fun hop => ?_, fun hop => ?_, fun hop => ?_, fun hop => ?_⟩
    · refine exec_vwrite hi (F := Core.vselect) rfl hop rfl (fun i _ => ?_) (any_saturated_false _ _ _)
      have hchosen : (if g i then lane b va i else lane b vb i) < 2 ^ b := by
        split <;> exact lane_lt (laneW_pos _) _ _
      exact Nat.mod_eq_of_lt hchosen
    · refine exec_vwrite hi (F := Core.vslide) rfl hop rfl (fun i _ => ?_) (any_saturated_false _ _ _)
      refine (Nat.mod_eq_of_lt (lane_lt (laneW_pos _) _ _)).trans ?_
      exact lane_slide (zW w) k (zRa w) (zRb w) (i + zImm w)
    · exact exec_vwrite hi (F := Core.vbroadcast) rfl hop rfl (fun i _ => Nat.mod_mod _ _) (any_saturated_false _ _ _)
    · have hsat : ∀ j, satW 8 (zU w) (rneShr (half j) (zImm w)) = (low 8 (clamp 8 (zU w) (rneShr (half j) (zImm w))),
          clamp 8 (zU w) (rneShr (half j) (zImm w)) != rneShr (half j) (zImm w)) := fun j => satW_eq _ _ _
      refine exec_vwrite hi (w8 := true) (f := fun j => satW 8 (zU w) (rneShr (half j) (zImm w))) (F := Core.vpackOp) rfl hop rfl
        (fun j _ => ?_) ?_
      · rw [hsat]
        exact Nat.mod_eq_of_lt (low_lt _ _)
      · simp only [hsat]
        rfl
    · exact exec_vwrite hi (w8 := false) (F := Core.vunpackOp) rfl hop rfl (fun j _ => Nat.mod_eq_of_lt (low_lt _ _))
        (any_saturated_false _ _ _)
  · intro s c w hi k b x y compares logic
    refine ⟨exec_vcompare hi (g := fun a b => decide (a = b)) rfl fun _ _ => beq_eq_decide _ _,
      exec_vcompare hi (g := fun a b => decide (a < b)) rfl fun _ _ => rfl,
      exec_vcompare hi (g := fun a b => decide (a ≤ b)) rfl fun _ _ => rfl, fun hop => ?_, fun hop => ?_, fun hop => ?_, fun hop => ?_,
      fun v => ⟨rfl, rfl⟩⟩
    · exact exec_plogic hi rfl hop fun a b i _ => BitVec.getLsbD_and
    · exact exec_plogic hi rfl hop fun a b i _ => BitVec.getLsbD_or
    · exact exec_plogic hi rfl hop fun a b i _ => BitVec.getLsbD_xor
    · exact exec_plogic hi (f := fun a b => a &&& ~~~b) (fbit := fun a b => a && !b) rfl hop fun a b i hbit => by simp [hbit]

end Sys2Proof.Proofs
end

section
/-! SUPPORT. Scalar arithmetic as it issues: each operation of the machine words is its exact result, wrapped (07 R174, R176). -/

namespace Sys2Proof.Machine

open Safety

/-! ### Exact results, wrapped -/

section
variable (a b : BitVec 64) (n : Nat)

theorem add_eq_ofInt : a + b = BitVec.ofInt 64 (a.toInt + b.toInt) := by
  rw [BitVec.ofInt_add, BitVec.ofInt_toInt, BitVec.ofInt_toInt]

theorem sub_eq_ofInt : a - b = BitVec.ofInt 64 (a.toInt - b.toInt) := by
  apply BitVec.eq_of_toInt_eq
  rw [BitVec.toInt_sub, BitVec.toInt_ofInt]

theorem mul_eq_ofInt : a * b = BitVec.ofInt 64 (a.toInt * b.toInt) := by
  rw [BitVec.ofInt_mul, BitVec.ofInt_toInt, BitVec.ofInt_toInt]

theorem shiftLeft_eq_ofNat : a <<< n = BitVec.ofNat 64 (a.toNat * 2 ^ n) := by
  apply BitVec.eq_of_toNat_eq
  rw [BitVec.toNat_shiftLeft, BitVec.toNat_ofNat, Nat.shiftLeft_eq]

theorem ushiftRight_eq_ofNat : a >>> n = BitVec.ofNat 64 (a.toNat / 2 ^ n) := by
  apply BitVec.eq_of_toNat_eq
  rw [BitVec.toNat_ushiftRight, BitVec.toNat_ofNat, Nat.shiftRight_eq_div_pow,
    Nat.mod_eq_of_lt ((Nat.div_le_self _ _).trans_lt a.isLt)]

theorem sshiftRight_eq_ofInt : a.sshiftRight n = BitVec.ofInt 64 (a.toInt / 2 ^ n) := by
  rw [BitVec.sshiftRight, Int.shiftRight_eq_div_pow]
  norm_cast

theorem ite_slt {α : Type} (x y : α) : (if a.slt b then x else y) = if a.toInt < b.toInt then x else y := by
  simp only [BitVec.slt_iff_toInt_lt]

theorem ite_ult {α : Type} (x y : α) : (if a.ult b then x else y) = if a.toNat < b.toNat then x else y := by
  simp only [BitVec.ult_iff_toNat_lt]

/-- The lesser of two words; words of one value are one word. -/
theorem ite_slt_min : (if b.slt a then b else a) = if a.toInt < b.toInt then a else b := by
  rw [ite_slt]
  split_ifs with hba hab hab
  · omega
  · rfl
  · rfl
  · exact BitVec.eq_of_toInt_eq (by omega)

end

/-! ### Issue -/

/-- A row of the scalar table: its command issues an operation that gives the row's result. -/
theorem exec_scalarOp_eq {o : ScalarOp} (ho : o ∈ scalarOps) :
    ∃ f, (∀ c s, exec (o.cmd c) s = .next (s.zagil c (isOp 0x01 o.fn) (Core.scalar f))) ∧ ∀ a b, f a b = o.f a b := by
  simp only [scalarOps, List.mem_cons, List.not_mem_nil, or_false] at ho
  rcases ho with rfl | rfl | rfl | rfl | rfl | rfl | rfl | rfl | rfl | rfl | rfl | rfl | rfl | rfl
  · exact ⟨_, fun _ _ => rfl, add_eq_ofInt⟩
  · exact ⟨_, fun _ _ => rfl, sub_eq_ofInt⟩
  · exact ⟨_, fun _ _ => rfl, fun _ _ => rfl⟩
  · exact ⟨_, fun _ _ => rfl, fun _ _ => rfl⟩
  · exact ⟨_, fun _ _ => rfl, fun _ _ => rfl⟩
  · exact ⟨_, fun _ _ => rfl, fun a b => shiftLeft_eq_ofNat a _⟩
  · exact ⟨_, fun _ _ => rfl, fun a b => ushiftRight_eq_ofNat a _⟩
  · exact ⟨_, fun _ _ => rfl, fun a b => sshiftRight_eq_ofInt a _⟩
  · exact ⟨_, fun _ _ => rfl, fun a b => ite_slt a b 1 0⟩
  · exact ⟨_, fun _ _ => rfl, fun a b => ite_ult a b 1 0⟩
  · exact ⟨_, fun _ _ => rfl, mul_eq_ofInt⟩
  · exact ⟨_, fun _ _ => rfl, fun _ _ => rfl⟩
  · exact ⟨_, fun _ _ => rfl, ite_slt_min⟩
  · exact ⟨_, fun _ _ => rfl, fun a b => ite_slt a b b a⟩

/-- R174: the signed reading of the low bits of a number. -/
theorem sx_eq_toInt {n : Nat} (hn : 0 < n) (v : Nat) : sx n v = (BitVec.ofNat n v).toInt := by
  have hpow : 2 ^ n = 2 * 2 ^ (n - 1) := by rw [← pow_succ', Nat.sub_add_cancel hn]
  rw [BitVec.toInt_eq_toNat_cond, sx, BitVec.toNat_ofNat]
  split <;> rename_i hv
  · rw [if_pos (by omega)]
  · rw [if_neg (by omega)]
    norm_cast

/-- Low bits that contain all that is kept. -/
theorem ofNat_mod_two_pow (n v : Nat) : BitVec.ofNat n (v % 2 ^ n) = BitVec.ofNat n v :=
  BitVec.eq_of_toNat_eq (by rw [BitVec.toNat_ofNat, BitVec.toNat_ofNat, Nat.mod_mod])

theorem ofNat_zImm (w : Nat) : BitVec.ofNat 32 (zImm w) = BitVec.ofNat 32 w := ofNat_mod_two_pow 32 w

/-- The second operand is the sign-extended immediate or a register. -/
theorem opB_eq_scalarB (k : Core) (w : Nat) : k.opB w = scalarB k w := by
  rw [Core.opB, sx_eq_toInt (by decide), ofNat_zImm]
  rfl

/-- The value that MOVHI writes: the immediate over the low word of the register. -/
theorem ofNat_append_setWidth (w : Nat) (x : BitVec 64) :
    BitVec.ofNat 64 (zImm w * 2 ^ 32 + x.toNat % 2 ^ 32) = BitVec.ofNat 32 w ++ x.setWidth 32 := by
  apply BitVec.eq_of_toNat_eq
  rw [BitVec.toNat_append, BitVec.toNat_ofNat, BitVec.toNat_ofNat, BitVec.toNat_setWidth,
    ← Nat.shiftLeft_add_eq_or_of_lt (Nat.mod_lt _ (Nat.two_pow_pos 32)), Nat.shiftLeft_eq]
  have himm : zImm w = w % 2 ^ 32 := rfl
  rw [himm]
  omega

/-- An instruction of slot A that writes S[RD]. -/
theorem exec_setS {s : State} {c w fn : Nat} {cmd : Instr} {F : Core → Nat → Except Nat Core} {v : BitVec 64} (hi : Issues s c w)
    (hexec : exec cmd s = .next (s.zagil c (isOp 0x01 fn) F)) (hop : isOp 0x01 fn w = true)
    (hF : F (taken (s.core c)) w = .ok ((taken (s.core c)).setS (zRd w) v)) :
    exec cmd s = .next (slotA s c ((taken (s.core c)).setS (zRd w) v)) := by
  have ⟨_, _, hlegal, _⟩ := hi
  have hslot : (taken (s.core c)).slotB = false := slotB_of_legal_scalar hlegal (zOpc_of_isOp hop)
  exact hexec.trans (congrArg _ (zagil_slotA s c w _ F _ hi hop hF ((slotB_setS _ _ _).trans hslot)))

end Sys2Proof.Machine
end

section
namespace Sys2Proof.Proofs

open Machine Safety

/-- Settles O2: each row of the table by its result, MOVI and MOVHI by the value they write, and S registers after a write. -/
theorem scalarArithmeticWritesRd : Obligations.ScalarArithmeticWritesRd := by
  refine ⟨⟨fun s c w o ho hi hop => ?_, fun s c w hi hop => ?_, fun s c w hi hop => ?_⟩, fun k v => ⟨rfl, rfl, fun i hne => ?_⟩⟩
  · obtain ⟨f, hexec, hf⟩ := exec_scalarOp_eq ho
    refine exec_setS hi (hexec c s) hop ?_
    rw [← hf, ← opB_eq_scalarB]
    rfl
  · refine exec_setS hi (F := Core.movi) rfl hop ?_
    rw [← opB_eq_scalarB]
    rfl
  · refine exec_setS hi (F := Core.movhi) rfl hop ?_
    rw [← ofNat_append_setWidth]
    rfl
  · exact ⟨getS_setS_same k v hne, fun j hj => getS_setS_ne k v hj⟩

end Sys2Proof.Proofs
end

section
/-! SUPPORT. The lane-by-lane vector instructions as they issue, and rounding half to even (07 R174, R184). -/

namespace Sys2Proof.Machine

open Safety

/-! ### Rounding -/

/-- R174: rne_shr is within half a step of the exact quotient, and even where it is half a step off. -/
theorem rneShr_nearest (v : Int) (n : Nat) : 2 * |rneShr v n * 2 ^ n - v| ≤ 2 ^ n
    ∧ (2 * |rneShr v n * 2 ^ n - v| = 2 ^ n → 0 < n → rneShr v n % 2 = 0) := by
  cases n with
  | zero => simp [rneShr]
  | succ n =>
    have hpow : (2 : Int) ^ (n + 1) = 2 * 2 ^ n := pow_succ' 2 n
    have hdiv := Int.mul_ediv_add_emod v (2 ^ (n + 1))
    have hnonneg := Int.emod_nonneg v (b := 2 ^ (n + 1)) (by positivity)
    have hlt := Int.emod_lt_of_pos v (b := 2 ^ (n + 1)) (by positivity)
    unfold rneShr
    simp only [Nat.add_one_ne_zero, if_false, Nat.add_sub_cancel]
    generalize v / 2 ^ (n + 1) = q at *
    generalize v % 2 ^ (n + 1) = r at *
    split
    · have hoff : (q + 1) * 2 ^ (n + 1) - v = 2 ^ (n + 1) - r := by linarith
      rw [hoff, abs_of_pos (by omega)]
      omega
    · have hoff : q * 2 ^ (n + 1) - v = -r := by linarith
      rw [hoff, abs_neg, abs_of_nonneg hnonneg]
      omega

/-! ### The bits of a lane -/

theorem low_natCast (n v : Nat) : low n v = v % 2 ^ n := by
  rw [low, ← Int.natCast_emod, Int.toNat_natCast]

theorem low_sub_two_pow (n : Nat) (v : Int) : low n (v - 2 ^ n) = low n v := by
  have hmod := Int.sub_emod_right v (2 ^ n)
  unfold low
  push_cast
  rw [hmod]

/-- A lane has the same bits, read signed or unsigned. -/
theorem low_laneI {b : Nat} (hb : 0 < b) (u : Bool) (v i : Nat) : low b (laneI b u v i) = lane b v i := by
  have hlane := Nat.mod_eq_of_lt (lane_lt hb v i)
  unfold laneI sx
  split_ifs
  · rw [low_natCast, hlane]
  · rw [low_natCast, Nat.mod_mod, hlane]
  · rw [low_sub_two_pow, low_natCast, Nat.mod_mod, hlane]

/-! ### Results -/

/-- What an instruction computes for lane `i` is what the table asks for: the lane's value, and whether it saturates. -/
def GivesLane (o : LaneOp) (k : Core) (w i : Nat) (r : Nat × Bool) : Prop :=
  r.1 % 2 ^ laneW (zW w) = o.lane k w i ∧ r.2 = o.saturates k w i

section
variable {o : LaneOp} {k : Core} {w i : Nat}

/-- A result that wraps. -/
theorem gives_wrapped (hsat : o.sat = false) {r : Nat} (hr : r % 2 ^ laneW (zW w) = low (laneW (zW w)) (o.exact k w i)) :
    GivesLane o k w i (r, false) := by
  simp [GivesLane, LaneOp.lane, LaneOp.saturates, hsat, hr]

theorem gives_low (hsat : o.sat = false) {v : Int} (hv : o.exact k w i = v) : GivesLane o k w i (low (laneW (zW w)) v, false) :=
  gives_wrapped hsat ((Nat.mod_eq_of_lt (low_lt _ _)).trans (congrArg _ hv.symm))

/-- A result that saturates. -/
theorem gives_satW (hsat : o.sat = true) {u : Bool} (hu : zU w = u) {v : Int} (hv : o.exact k w i = v) :
    GivesLane o k w i (satW (laneW (zW w)) u v) := by
  rw [satW_eq, ← hv, ← hu]
  refine ⟨?_, ?_⟩
  · rw [LaneOp.lane, hsat]
    exact Nat.mod_eq_of_lt (low_lt _ _)
  · rw [LaneOp.saturates, hsat]
    rfl

/-- A bitwise result. -/
theorem gives_bitwise {f : Nat → Nat → Nat} (hsat : o.sat = false) (hf : o.f = fun b _ => laneBits f b) :
    GivesLane o k w i (bitwise f (laneW (zW w)) (laneI (laneW (zW w)) true (k.vget (zRa w)) i)
      (laneI (laneW (zW w)) true (k.vget (zRb w)) i)) := by
  have hpos := laneW_pos (zW w)
  refine gives_wrapped hsat ?_
  rw [LaneOp.exact, hf]
  simp only [laneBits, low_natCast, low_laneI hpos]

end

theorem ite_neg_eq_natAbs (x : Int) : (if x < 0 then -x else x) = x.natAbs := by omega

/-! ### Issue -/

/-- U is 0 in a legal vector instruction that has no unsigned form (R184). -/
theorem zU_of_legal_vector {w : Nat} (hlegal : zLegalVector w = true) (hfn : zFn w ∉ [0x02, 0x03, 0x0C, 0x0D, 0x12, 0x13]) :
    zU w = false := by
  unfold zLegalVector at hlegal
  extract_lets e u lanes at hlegal
  split at hlegal <;> simp_all [u]

theorem zFn_of_isOp {opc fn w : Nat} (h : isOp opc fn w = true) : zFn w = fn := by
  simp only [isOp, Bool.and_eq_true, beq_iff_eq] at h
  exact h.2

theorem legalVector_of_legal {k : Core} {w : Nat} (hlegal : zLegal k w = true) (hopc : zOpc w = 0x10) : zLegalVector w = true := by
  simp only [zLegal, hopc, Bool.and_eq_true] at hlegal
  exact hlegal.2

/-- The exact result of an instruction that reads its lanes signed. -/
theorem exact_signed (o : LaneOp) (k : Core) (w i : Nat) (hu : zU w = false) : o.exact k w i =
    o.f (laneW (zW w)) (zImm w) (laneI (laneW (zW w)) false (k.vget (zRa w)) i) (laneI (laneW (zW w)) false (k.vget (zRb w)) i) := by
  rw [LaneOp.exact, hu]

/-- A row of the table: its command writes the governed lanes of VD with what the row gives. -/
theorem exec_laneOp_gives {o : LaneOp} (ho : o ∈ laneOps) {w : Nat} (hlegal : zLegalVector w = true) (hfn : zFn w = o.fn) :
    ∃ F, (∀ c s, exec (o.cmd c) s = .next (s.zagil c (isOp 0x10 o.fn) F))
      ∧ ∀ k, ∃ f, F k w = .ok (k.vwrite (zRd w) (zW w) (k.governs (zPr w) (zW w)) f) ∧ ∀ i, GivesLane o k w i (f i) := by
  have hsigned : o.fn ∉ [0x02, 0x03, 0x0C, 0x0D, 0x12, 0x13] → zU w = false := fun h => zU_of_legal_vector hlegal (hfn ▸ h)
  simp only [laneOps, List.mem_cons, List.not_mem_nil, or_false] at ho
  rcases ho with rfl | rfl | rfl | rfl | rfl | rfl | rfl | rfl | rfl | rfl | rfl | rfl | rfl | rfl | rfl
  · exact ⟨_, fun _ _ => rfl, fun k => ⟨_, rfl, fun i => gives_low rfl (exact_signed _ k w i (hsigned (by decide)))⟩⟩
  · exact ⟨_, fun _ _ => rfl, fun k => ⟨_, rfl, fun i => gives_low rfl (exact_signed _ k w i (hsigned (by decide)))⟩⟩
  · exact ⟨_, fun _ _ => rfl, fun k => ⟨_, rfl, fun i => gives_satW rfl rfl rfl⟩⟩
  · exact ⟨_, fun _ _ => rfl, fun k => ⟨_, rfl, fun i => gives_satW rfl rfl rfl⟩⟩
  · exact ⟨_, fun _ _ => rfl, fun k => ⟨_, rfl, fun i => gives_low rfl (exact_signed _ k w i (hsigned (by decide)))⟩⟩
  · have hu := hsigned (by decide)
    exact ⟨_, fun _ _ => rfl, fun k => ⟨_, rfl, fun i => gives_satW rfl hu (exact_signed _ k w i hu)⟩⟩
  · exact ⟨_, fun _ _ => rfl, fun k => ⟨_, rfl, fun i => gives_bitwise rfl rfl⟩⟩
  · exact ⟨_, fun _ _ => rfl, fun k => ⟨_, rfl, fun i => gives_bitwise rfl rfl⟩⟩
  · exact ⟨_, fun _ _ => rfl, fun k => ⟨_, rfl, fun i => gives_bitwise rfl rfl⟩⟩
  · exact ⟨_, fun _ _ => rfl, fun k => ⟨_, rfl, fun i => gives_low rfl (exact_signed _ k w i (hsigned (by decide)))⟩⟩
  · exact ⟨_, fun _ _ => rfl, fun k => ⟨_, rfl, fun i => gives_low rfl (exact_signed _ k w i (hsigned (by decide)))⟩⟩
  · refine ⟨_, fun _ _ => rfl, fun k => ⟨_, rfl, fun i => gives_wrapped rfl ?_⟩⟩
    rw [LaneOp.exact, low_natCast, low_laneI (laneW_pos _), low_laneI (laneW_pos _)]
  · exact ⟨_, fun _ _ => rfl, fun k => ⟨_, rfl, fun i => gives_low rfl (min_def_lt _ _).symm⟩⟩
  · exact ⟨_, fun _ _ => rfl, fun k => ⟨_, rfl, fun i => gives_low rfl (max_def_lt _ _).symm⟩⟩
  · have hu := hsigned (by decide)
    exact ⟨_, fun _ _ => rfl, fun k => ⟨_, rfl, fun i => gives_satW rfl hu ((exact_signed _ k w i hu).trans (ite_neg_eq_natAbs _))⟩⟩

end Sys2Proof.Machine
end

section
namespace Sys2Proof.Proofs

open Machine Safety

/-- Settles O11: each row of the table writes the lanes that it gives, and rounding is to the nearest multiple. -/
theorem vectorLanesAreWritten : Obligations.VectorLanesAreWritten := by
  refine ⟨fun s c w o ho hi hop => ?_, rneShr_nearest⟩
  have ⟨_, _, hlegal, _⟩ := hi
  obtain ⟨F, hexec, hF⟩ := exec_laneOp_gives ho (legalVector_of_legal hlegal (zOpc_of_isOp hop)) (zFn_of_isOp hop)
  obtain ⟨f, hF, hgives⟩ := hF (taken (s.core c))
  obtain ⟨k', hk', honly, hsat, hlanes⟩ := exec_vwrite hi (hexec c s) hop hF (fun i _ => (hgives i).1) rfl
  refine ⟨k', hk', honly, hlanes, hsat.trans ?_⟩
  simp only [(hgives _).2]
  rfl

end Sys2Proof.Proofs
end

section
/-! SUPPORT. The instructions of slot B as they issue: lanes of a V register or of an accumulator that are written (06 R151; 07 R171, R174,
R175). -/

namespace Sys2Proof.Machine

open Safety

/-! ### Issue in slot B -/

/-- OPC of the vector memory, multiply-accumulate, accumulator and exponent instructions (07 R171). -/
def slotBOpcodes : List Nat := [0x12, 0x13, 0x14, 0x15, 0x16, 0x17, 0x18]

/-- They are legal in slot B alone. -/
theorem slotB_of_legal_slotB {k : Core} {w : Nat} (hlegal : zLegal k w = true)
    (hopc : zOpc w ∈ slotBOpcodes) : k.slotB = true := by
  simp only [slotBOpcodes, List.mem_cons, List.not_mem_nil, or_false] at hopc
  rcases hopc with hopc | hopc | hopc | hopc | hopc | hopc | hopc <;>
  · simp only [zLegal, hopc, Bool.and_eq_true] at hlegal
    tauto

/-- The core but for its address registers: what the modify of a memory operand leaves unchanged. -/
def ButAddresses (k k1 : Core) : Prop := k1 = { k with a := k1.a, shadow := k1.shadow }

theorem butAddresses_refl (k : Core) : ButAddresses k k := rfl

theorem ButAddresses.trans {k k1 k2 : Core} (h1 : ButAddresses k k1) (h2 : ButAddresses k1 k2) : ButAddresses k k2 := by
  rw [ButAddresses, h2, h1]

section
variable {s : State} {c w : Nat} {cmd : Instr} {op : Nat → Bool} {F : Core → Nat → Except Nat Core} (hi : Issues s c w)
include hi

theorem exec_slotB {k' : Core} (hexec : exec cmd s = .next (s.zagil c op F)) (hop : op w = true)
    (hF : F (taken (s.core c)) w = .ok k') (hslot : k'.slotB = true) : exec cmd s = .next (slotB s c k') :=
  hexec.trans (congrArg _ (zagil_slotB s c w op F k' hi hop hF hslot))

variable {k1 : Core} (hopc : zOpc w ∈ slotBOpcodes) (hframe : ButAddresses (taken (s.core c)) k1)
include hopc hframe

theorem slotB_of_butAddresses : k1.slotB = true := by
  have ⟨_, _, hlegal, _⟩ := hi
  rw [hframe]
  exact slotB_of_legal_slotB hlegal hopc

/-- Lanes of VD that are written after a modify of addresses. -/
theorem exec_vlanes {w8 : Bool} {g : Nat → Bool} {f : Nat → Nat × Bool} (hexec : exec cmd s = .next (s.zagil c op F))
    (hop : op w = true) (hF : F (taken (s.core c)) w = .ok (k1.vwrite (zRd w) w8 g f)) :
    ∃ k', exec cmd s = .next (slotB s c k') ∧ OnlyV k1 k' (zRd w)
      ∧ (∀ i, i < laneN w8 → lane (laneW w8) (k'.vget (zRd w)) i =
          if g i then (f i).1 % 2 ^ laneW w8 else lane (laneW w8) ((s.core c).vget (zRd w)) i)
      ∧ k'.sat = ((s.core c).sat || (List.range (laneN w8)).any (fun i => g i && (f i).2)) := by
  have hv : k1.vget (zRd w) = (s.core c).vget (zRd w) := by rw [hframe]; rfl
  have hsat : k1.sat = (s.core c).sat := by rw [hframe]; rfl
  refine ⟨_, exec_slotB hi hexec hop hF (slotB_of_butAddresses hi hopc hframe :), onlyV_vwrite _ _ _ _ _, fun i hlane => ?_, ?_⟩
  · rw [lane_vwrite _ _ _ _ _ hlane, hv]
  · rw [sat_vwrite, hsat]

end

/-! ### Accumulators -/

/-- The core whose accumulator `d` takes these lanes, each with whether it saturated. -/
def Core.acPut (k : Core) (d : Nat) (r : Nat → Nat × Bool) : Core :=
  { k with
    sat := k.sat || ((List.range 64).map r).any (·.2)
    ac := mset k.ac d (BitVec.ofNat 3072 (ofLanes 48 (((List.range 64).map r).map (·.1)))) }

section
variable (k : Core) (d : Nat) (f : Nat → Option Int) (r : Nat → Nat × Bool)

theorem aget_acPut : (k.acPut d r).aget d = ofLanes 48 (((List.range 64).map r).map (·.1)) := by
  have hfits := ofLanes_lt 48 (((List.range 64).map r).map (·.1))
  rw [List.length_map, List.length_map, List.length_range] at hfits
  change (mget (mset k.ac d _) d (0 : BitVec 3072)).toNat = _
  rw [mget_mset, BitVec.toNat_ofNat, Nat.mod_eq_of_lt hfits]

theorem lane_acPut {j : Nat} (hj : j < 64) : lane 48 ((k.acPut d r).aget d) j = (r j).1 % 2 ^ 48 := by
  rw [aget_acPut, lane_ofLanes (by decide) _ j (by simpa using hj)]
  simp only [List.getElem_map, List.getElem_range]

theorem sat_acPut : (k.acPut d r).sat = (k.sat || (List.range 64).any (fun j => (r j).2)) := by
  unfold Core.acPut
  rw [List.any_map]
  rfl

theorem onlyAc_acPut : OnlyAc k (k.acPut d r) d := ⟨rfl, fun _ hj => mget_mset_ne _ _ _ _ _ hj⟩

/-- What a lane takes that is given a sum, or none. -/
def Core.acLane (j : Nat) (v : Option Int) : Nat × Bool := v.elim (lane 48 (k.aget d) j, false) (satW 48 false)

theorem acwrite_eq : k.acwrite d f = k.acPut d (fun j => k.acLane d j (f j)) :=
  congrArg (k.acPut d) (funext fun j => by cases f j <;> rfl)

theorem acwrite_congr {f f' : Nat → Option Int} (h : ∀ j, j < 64 → f j = f' j) : k.acwrite d f = k.acwrite d f' := by
  have hlanes : (List.range 64).map (fun j => k.acLane d j (f j)) = (List.range 64).map (fun j => k.acLane d j (f' j)) :=
    List.map_congr_left fun j hj => congrArg _ (h j (List.mem_range.mp hj))
  rw [acwrite_eq, acwrite_eq, Core.acPut, Core.acPut, hlanes]

/-- R174: a lane that is given a sum takes it, clamped to 48 bits; another keeps its value. -/
theorem lane_acwrite {j : Nat} (hj : j < 64) : lane 48 ((k.acwrite d f).aget d) j =
    (f j).elim (lane 48 (k.aget d) j) (fun v => low 48 (clamp 48 false v)) := by
  rw [acwrite_eq, lane_acPut _ _ _ hj]
  cases f j with
  | none => exact Nat.mod_eq_of_lt (lane_lt (by decide) _ _)
  | some v =>
    rw [Core.acLane, Option.elim_some, satW_eq]
    exact Nat.mod_eq_of_lt (low_lt _ _)

/-- SAT is set when a sum is clamped. -/
theorem sat_acwrite : (k.acwrite d f).sat =
    (k.sat || (List.range 64).any (fun j => (f j).elim false (fun v => clamp 48 false v != v))) := by
  have hlane : ∀ j, (k.acLane d j (f j)).2 = (f j).elim false (fun v => clamp 48 false v != v) := fun j => by
    cases f j with
    | none => rfl
    | some v => rw [Core.acLane, Option.elim_some, satW_eq]; rfl
  rw [acwrite_eq, sat_acPut]
  simp only [hlane]

theorem onlyAc_acwrite : OnlyAc k (k.acwrite d f) d := by
  rw [acwrite_eq]
  exact onlyAc_acPut k d _

end

/-- Lanes of ACd that are written after a modify of addresses. -/
theorem exec_acwrite {s : State} {c w : Nat} {cmd : Instr} {op : Nat → Bool} {F : Core → Nat → Except Nat Core} {k1 : Core}
    {f : Nat → Option Int} (hi : Issues s c w) (hopc : zOpc w ∈ slotBOpcodes)
    (hframe : ButAddresses (taken (s.core c)) k1) (hexec : exec cmd s = .next (s.zagil c op F)) (hop : op w = true)
    (hF : F (taken (s.core c)) w = .ok (k1.acwrite (zRd w) f)) :
    ∃ k', exec cmd s = .next (slotB s c k') ∧ OnlyAc k1 k' (zRd w)
      ∧ (∀ j, j < 64 → lane 48 (k'.aget (zRd w)) j =
          (f j).elim (lane 48 ((s.core c).aget (zRd w)) j) (fun v => low 48 (clamp 48 false v)))
      ∧ k'.sat = ((s.core c).sat || (List.range 64).any (fun j => (f j).elim false (fun v => clamp 48 false v != v))) := by
  have hac : k1.aget (zRd w) = (s.core c).aget (zRd w) := by rw [hframe]; rfl
  have hsat : k1.sat = (s.core c).sat := by rw [hframe]; rfl
  refine ⟨_, exec_slotB hi hexec hop hF (slotB_of_butAddresses hi hopc hframe :), onlyAc_acwrite _ _ _, fun j hj => ?_, ?_⟩
  · rw [lane_acwrite _ _ _ hj, hac]
  · rw [sat_acwrite, hsat]

end Sys2Proof.Machine
end

section
/-! SUPPORT. Multiply-accumulate as it issues: operands from registers, a broadcast, X and Y (07 R186 to R188). -/

namespace Sys2Proof.Machine

open Safety

theorem xyOperands_frame {k k1 : Core} {w second x y : Nat} (h : k.xyOperands w second = .ok (x, y, k1)) : ButAddresses k k1 := by
  unfold Core.xyOperands at h
  split at h
  · cases h
  · cases h
  split at h
  · cases h
  split at h
  · cases h
  split at h
  · cases h
  simp only [Except.ok.injEq, Prod.mk.injEq] at h
  obtain ⟨-, -, rfl⟩ := h
  exact ButAddresses.trans (mopModify_frame ‹_›) (mopModify_frame ‹_›)

/-- What a lane adds to: zero with Z, or itself; a term is subtracted with N. -/
theorem accumulate_eq (k : Core) (w j : Nat) (t : Int) : k.accumulate w j t =
    (if bit (zFn w) 0 then 0 else sx 48 (lane 48 (k.aget (zRd w)) j)) + (if bit (zFn w) 1 then -t else t) := by
  unfold Core.accumulate
  dsimp only
  split_ifs <;> ring

/-- A term is a sum over lanes of its operands, so it depends on these alone. -/
theorem macTerm_congr (g : Nat → Bool) (w8 u : Bool) (x : Nat) {y y' j : Nat} (hj : j < 64)
    (h : ∀ i, i < laneN w8 → lane (laneW w8) y i = lane (laneW w8) y' i) : macTerm g w8 u x y j = macTerm g w8 u x y' j := by
  have hlane : ∀ i, i < laneN w8 → laneI (laneW w8) u y i = laneI (laneW w8) u y' i := fun i hi => by
    rw [laneI, laneI, h i hi]
  cases w8 with
  | false =>
    have hterm : laneI 16 u y j = laneI 16 u y' j := hlane j hj
    simp only [macTerm, hterm, Bool.false_eq_true, if_false]
  | true =>
    have heven : laneI 8 u y (2 * j) = laneI 8 u y' (2 * j) := hlane (2 * j) (show 2 * j < 128 by omega)
    have hodd : laneI 8 u y (2 * j + 1) = laneI 8 u y' (2 * j + 1) := hlane (2 * j + 1) (show 2 * j + 1 < 128 by omega)
    simp only [macTerm, heven, hodd, if_true]

/-- Every lane of a broadcast is the low bits of the register. -/
theorem lane_replicate {b n : Nat} (hb : 0 < b) (v : Nat) {i : Nat} (hi : i < n) :
    lane b (ofLanes b (List.replicate n v)) i = v % 2 ^ b := by
  rw [lane_ofLanes hb _ i (by simpa using hi), List.getElem_replicate]

end Sys2Proof.Machine
end

section
namespace Sys2Proof.Proofs

open Machine Safety

/-- Settles O14: each form by its operands and its terms; every lane of a broadcast is the register, so any operand with such lanes gives
the same sums. -/
theorem multiplyAccumulates : Obligations.MultiplyAccumulates := by
  intro s c w hi k old sum into macOf cmacOf second
  have hinto : ∀ {cmd op F k1 term}, zOpc w ∈ slotBOpcodes → ButAddresses (taken k) k1 → exec cmd s = .next (s.zagil c op F) →
      op w = true → F (taken k) w = .ok (k1.acwrite (zRd w) (fun j => (term j).map (k.accumulate w j))) → into cmd k1 term := by
    intro cmd op F k1 term hopc hframe hexec hop hF
    obtain ⟨k', hk', honly, hlanes, hsat⟩ := exec_acwrite hi hopc hframe hexec hop hF
    refine ⟨k', hk', honly, fun j hj => ?_, hsat.trans ?_⟩
    · rw [hlanes j hj]
      cases term j with
      | none => rfl
      | some t => exact congrArg (fun v => low 48 (clamp 48 false v)) (accumulate_eq k w j t)
    · congr 2
      funext j
      cases term j with
      | none => rfl
      | some t => exact congrArg (fun v => clamp 48 false v != v) (accumulate_eq k w j t)
  have hcmac : ∀ x y j, (cmacOf x y j).map (k.accumulate w j) =
      if (k.getP (zPr w)).getLsbD (4 * (j / 2)) then some (k.accumulate w j (cmacTerm (bit (zFn w) 2) x y j)) else none :=
    fun x y j => Option.map_if
  refine ⟨fun hopc hxy hs => ?_, fun hopc hxy hs y hy => ?_, fun hopc hxy x y k1 hk1 => ?_, fun hopc hxy => ?_,
    fun hopc hxy x y k1 hk1 => ?_⟩
  · refine hinto (F := Core.macReg) (by rw [hopc]; decide) (butAddresses_refl _) rfl (by rw [hopc, hxy]; rfl) ?_
    rw [Core.macReg, hs]
    rfl
  · refine hinto (F := Core.macReg) (by rw [hopc]; decide) (butAddresses_refl _) rfl (by rw [hopc, hxy]; rfl) ?_
    rw [Core.macReg, hs]
    refine congrArg Except.ok (acwrite_congr _ _ fun j hj => congrArg _ (macTerm_congr _ _ _ _ hj fun i hlane => ?_))
    rw [hy i hlane]
    exact lane_replicate (laneW_pos _) _ hlane
  · refine hinto (F := Core.macMem) (by rw [hopc]; decide) (xyOperands_frame hk1) rfl (by rw [hopc, hxy]; rfl) ?_
    unfold Core.macMem
    rw [hk1]
    rfl
  · refine hinto (F := Core.cmacReg) (by rw [hopc]; decide) (butAddresses_refl _) rfl (by rw [hopc, hxy]; rfl) ?_
    simp only [hcmac]
    rfl
  · refine hinto (F := Core.cmacMem) (by rw [hopc]; decide) (xyOperands_frame hk1) rfl (by rw [hopc, hxy]; rfl) ?_
    simp only [hcmac]
    unfold Core.cmacMem
    rw [hk1]
    rfl

end Sys2Proof.Proofs
end

section
/-! SUPPORT. The accumulator instructions, SMOV, BEXP and BEXP.M as they issue (07 R189 to R191). -/

namespace Sys2Proof.Machine

open Safety

/-! ### The least of governed numbers -/

/-- `m` is the least of `f` over the numbers below `n` that `g` governs, and none where it governs none of them. -/
def LeastGoverned (g : Nat → Bool) (f : Nat → Nat) (n : Nat) : Option Nat → Prop
  | none => ∀ j, j < n → g j = false
  | some v => (∃ j, j < n ∧ g j = true ∧ v = f j) ∧ ∀ j, j < n → g j = true → v ≤ f j

section
variable {g : Nat → Bool} {f : Nat → Nat} {n : Nat} {m : Option Nat}

/-- A number that is not governed changes nothing. -/
theorem leastGoverned_succ_of_not (hm : LeastGoverned g f n m) (hg : g n = false) : LeastGoverned g f (n + 1) m := by
  cases m with
  | none => exact Nat.forall_lt_succ_right.mpr ⟨hm, hg⟩
  | some v =>
    obtain ⟨⟨j, hj, hleast⟩, hle⟩ := hm
    exact ⟨⟨j, hj.trans n.lt_succ_self, hleast⟩, Nat.forall_lt_succ_right.mpr ⟨hle, fun h => absurd h (by simp [hg])⟩⟩

/-- The least with one more governed number is the lesser of the two. -/
theorem leastGoverned_succ (hm : LeastGoverned g f n m) (hg : g n = true) :
    LeastGoverned g f (n + 1) (some (m.elim (f n) (min · (f n)))) := by
  cases m with
  | none =>
    refine ⟨⟨n, n.lt_succ_self, hg, rfl⟩, Nat.forall_lt_succ_right.mpr ⟨fun j hj h => absurd h (by simp [hm j hj]), fun _ => le_rfl⟩⟩
  | some v =>
    obtain ⟨⟨j, hj, hgj, hv⟩, hle⟩ := hm
    refine ⟨?_, Nat.forall_lt_succ_right.mpr ⟨fun i hi h => (min_le_left _ _).trans (hle i hi h), fun _ => min_le_right _ _⟩⟩
    rcases min_choice v (f n) with hmin | hmin
    · exact ⟨j, hj.trans n.lt_succ_self, hgj, hmin.trans hv⟩
    · exact ⟨n, n.lt_succ_self, hg, hmin⟩

/-- A fold that takes the lesser of what it has and each governed number in turn finds the least. -/
theorem leastGoverned_foldl {step : Option Nat → Nat → Option Nat}
    (hstep : ∀ m j, step m j = if g j then some (m.elim (f j) (min · (f j))) else m) (n : Nat) :
    LeastGoverned g f n ((List.range n).foldl step none) := by
  induction n with
  | zero => exact fun j hj => absurd hj (Nat.not_lt_zero j)
  | succ n ih =>
    rw [List.range_succ, List.foldl_append, List.foldl_cons, List.foldl_nil, hstep]
    split
    · exact leastGoverned_succ ih ‹_›
    · exact leastGoverned_succ_of_not ih (Bool.eq_false_of_not_eq_true ‹_›)

/-- R190: what BX takes of the least: with M the lesser of the two, else the least itself, or `top` where nothing is governed. -/
def exponentOf (withM : Bool) (bx top : Nat) (m : Option Nat) : Nat := if withM then m.elim bx (min bx) else m.getD top

theorem exponentOf_of_none_governed {withM : Bool} {bx top : Nat} (hm : LeastGoverned g f n m) (h : ∀ j, j < n → g j = false) :
    exponentOf withM bx top m = if withM then bx else top := by
  cases m with
  | none => rfl
  | some v =>
    obtain ⟨⟨j, hj, hgj, -⟩, -⟩ := hm
    exact absurd hgj (by simp [h j hj])

theorem exponentOf_of_governed {withM : Bool} {bx top : Nat} (hm : LeastGoverned g f n m) (h : ∃ j, j < n ∧ g j = true) :
    (∀ j, j < n → g j = true → exponentOf withM bx top m ≤ f j)
    ∧ ((∃ j, j < n ∧ g j = true ∧ exponentOf withM bx top m = f j) ∨ (withM = true ∧ exponentOf withM bx top m = bx))
    ∧ (withM = true → exponentOf withM bx top m ≤ bx) := by
  cases m with
  | none =>
    obtain ⟨j, hj, hgj⟩ := h
    exact absurd hgj (by simp [hm j hj])
  | some v =>
    obtain ⟨hleast, hle⟩ := hm
    cases withM with
    | false => exact ⟨hle, .inl hleast, fun h => by cases h⟩
    | true =>
      refine ⟨fun j hj hgj => (min_le_right _ _).trans (hle j hj hgj), ?_, fun _ => min_le_left _ _⟩
      rcases min_choice bx v with hmin | hmin
      · exact .inr ⟨rfl, hmin⟩
      · obtain ⟨j, hj, hgj, hv⟩ := hleast
        exact .inl ⟨j, hj, hgj, hmin.trans hv⟩

end

/-! ### Block exponents -/

theorem minNrsb_least (k : Core) (w : Nat) : LeastGoverned (fun j => k.governs (zPr w) (!bit (zFn w) 0 && zW w) j)
    (fun j => nrsb (if bit (zFn w) 0 then 48 else laneW (zW w))
      (lane (if bit (zFn w) 0 then 48 else laneW (zW w)) (if bit (zFn w) 0 then k.aget (zRa w) else k.vget (zRa w)) j))
    (if bit (zFn w) 0 then 64 else laneN (zW w)) (k.minNrsb w) :=
  leastGoverned_foldl (fun m j => by cases m <;> rfl) _

/-- BEXP and BEXP.M write BX alone. -/
theorem exec_blockExponent {s : State} {c w : Nat} (hi : Issues s c w) (hopc : zOpc w = 0x17) :
    exec (if bit (zFn w) 1 then .bexpM c else .bexp c) s = .next (slotB s c { taken (s.core c) with
      bx := exponentOf (bit (zFn w) 1) (s.core c).bx (bexpTop w) ((s.core c).minNrsb w) }) := by
  have ⟨_, _, hlegal, _⟩ := hi
  have hslot : (s.core c).slotB = true := slotB_of_legal_slotB hlegal (by rw [hopc]; decide)
  cases hm : bit (zFn w) 1 with
  | false => exact exec_slotB hi (F := Core.blockExp) rfl (by rw [hopc, hm]; rfl) rfl hslot
  | true =>
    refine exec_slotB hi (F := Core.blockExpMin) rfl (by rw [hopc, hm]; rfl) ?_ hslot
    have hmin : (taken (s.core c)).minNrsb w = (s.core c).minNrsb w := rfl
    unfold Core.blockExpMin
    rw [hmin]
    cases (s.core c).minNrsb w <;> rfl

/-! ### Accumulators and SMOV -/

/-- R191: what SMOV gives lane `i`: an accumulator lane, shifted by six signed bits of its own or of AS, with rounding. -/
def Core.scaled (k : Core) (w i : Nat) : Int :=
  let sh : Int := if bit (zImm w) 7 then (BitVec.ofNat 6 (zImm w)).toInt else (mget k.as_ (zRa w) (0 : BitVec 6)).toInt
  if 0 ≤ sh then k.acc (zRa w) (i % 64) * 2 ^ sh.toNat else rneShr (k.acc (zRa w) (i % 64)) (-sh).toNat

theorem scaledMove_eq (k : Core) (w : Nat) : k.scaledMove w = .ok (k.vwrite (zRd w) (zW w)
    (fun i => k.governs (zPr w) (zW w) i && (!zW w || decide (i / 64 = zImm w % 2)))
    (fun i => (low (laneW (zW w)) (clamp (laneW (zW w)) (zU w) (k.scaled w i)),
      clamp (laneW (zW w)) (zU w) (k.scaled w i) != k.scaled w i))) := by
  have himm : BitVec.ofNat 6 (bits (zImm w) 5 0) = BitVec.ofNat 6 (zImm w) := ofNat_mod_two_pow 6 (zImm w)
  have hamount : sx 6 (bits (zImm w) 5 0) = (BitVec.ofNat 6 (zImm w)).toInt := by rw [sx_eq_toInt (by decide), himm]
  unfold Core.scaledMove
  simp only [hamount, satW_eq]
  rfl

end Sys2Proof.Machine
end

section
namespace Sys2Proof.Proofs

open Machine Safety

/-- Settles O15: each accumulator instruction by the sum it writes, SMOV by its shifted lanes, and the block exponents by the least of the
governed lanes. -/
theorem accumulatorsAreWritten : Obligations.AccumulatorsAreWritten := by
  refine ⟨fun s c w hi => ?_, fun s c w hi hopc => ?_⟩
  · intro k g ac into
    have hinto : ∀ {cmd fn f F}, exec cmd s = .next (s.zagil c (isOp 0x16 fn) (Core.accOp F)) → isOp 0x16 fn w = true →
        (∀ j, F (taken (s.core c)) w j = f j) → into cmd f := by
      intro cmd fn f F hexec hop hf
      obtain ⟨k', hk', honly, hlanes, hsat⟩ :=
        exec_acwrite hi (by rw [zOpc_of_isOp hop]; decide) (butAddresses_refl _) hexec hop rfl
      refine ⟨k', hk', honly, fun j hj => ?_, hsat.trans ?_⟩
      · rw [hlanes j hj, hf]
        exact apply_ite (fun v : Option Int => v.elim _ _) _ _ _
      · simp only [hf]
        congr 2
        funext j
        change (if g j then some (f j) else none).elim _ _ = _
        cases g j <;> rfl
    refine ⟨fun hop => hinto rfl hop fun _ => rfl, fun hop => hinto rfl hop fun _ => rfl, fun hop => hinto rfl hop fun _ => rfl,
      fun hop => hinto rfl hop fun _ => rfl, fun hop => hinto rfl hop fun _ => rfl, fun hop => ?_⟩
    intro sh v b gov
    obtain ⟨k', hk', honly, hlanes, hsat⟩ :=
      exec_vlanes hi (cmd := .smov c) (F := Core.scaledMove) (by rw [zOpc_of_isOp hop]; decide) (butAddresses_refl _) rfl hop
        (scaledMove_eq _ _)
    refine ⟨k', hk', honly, fun i hlane => (hlanes i hlane).trans ?_, hsat⟩
    rw [Nat.mod_eq_of_lt (low_lt _ _)]
    rfl
  · intro k ac b n x g
    have hleast := minNrsb_least k w
    exact ⟨_, exec_blockExponent hi hopc, exponentOf_of_none_governed hleast, exponentOf_of_governed hleast⟩

end Sys2Proof.Proofs
end

section
/-! SUPPORT. Lanes of the bytes at a local address, the local vector loads and stores as they issue (06 R152; 07 R175, R185). -/

namespace Sys2Proof

/-! ### Some of the bytes of a number -/

theorem leNat_take (n : Nat) (bs : List Byte) : leNat (bs.take n) = leNat bs % 2 ^ (8 * n) := by
  induction bs generalizing n with
  | nil => simp [leNat]
  | cons b bs ih =>
    cases n with
    | zero => simp [leNat, Nat.mod_one]
    | succ n =>
      have hb := b.isLt
      have hrest : (b.toNat + 256 * leNat bs) / 2 ^ 8 = leNat bs := by omega
      rw [List.take_succ_cons, leNat, ih, leNat, Nat.mul_succ, Nat.add_comm (8 * n), pow_add, Nat.mod_mul, hrest]
      omega

theorem leNat_drop (n : Nat) (bs : List Byte) : leNat (bs.drop n) = leNat bs / 2 ^ (8 * n) := by
  induction bs generalizing n with
  | nil => simp [leNat]
  | cons b bs ih =>
    cases n with
    | zero => simp
    | succ n =>
      have hb := b.isLt
      rw [List.drop_succ_cons, ih, leNat, Nat.mul_succ, Nat.add_comm (8 * n), pow_add, ← Nat.div_div_eq_div_mul]
      congr 1
      omega

namespace Machine

open Safety

/-! ### Lanes of bytes -/

theorem drop_take_lbytes (k : Core) (a : Nat) {off n size : Nat} (h : off + n ≤ size) :
    ((k.lbytes a size).drop off).take n = k.lbytes (a + off) n := by
  apply List.ext_getElem
  · simp [Core.lbytes]
    omega
  · intro i _ _
    simp [Core.lbytes, Nat.add_assoc]

/-- Lanes of whole bytes are the bytes at their places. -/
theorem lane_lnum (k : Core) (w8 : Bool) (a : Nat) {m size : Nat} (hm : laneW w8 * m + laneW w8 ≤ 8 * size) :
    lane (laneW w8) (k.lnum a size) m = leNat (k.lbytes (a + laneW w8 * m / 8) (laneW w8 / 8)) := by
  obtain ⟨q, hq, hpos⟩ : ∃ q, laneW w8 = 8 * q ∧ 0 < q := by
    cases w8
    · exact ⟨2, rfl, by decide⟩
    · exact ⟨1, rfl, by decide⟩
  rw [hq] at hm ⊢
  have hplace : 8 * q * m / 8 = q * m := by rw [Nat.mul_assoc, Nat.mul_div_cancel_left _ (by decide)]
  rw [hplace, Nat.mul_div_cancel_left _ (by decide), ← drop_take_lbytes k a (size := size) (by rw [Nat.mul_assoc] at hm; omega), leNat_take,
    leNat_drop, lane_eq (by omega), Nat.mul_assoc]
  rfl

/-- A byte lane is a byte of a 16-bit lane. -/
theorem lane_byte_of_half (v i : Nat) : lane 8 v i = lane 8 (lane 16 v (i / 2)) (i % 2) := by
  have hsplit : 8 * i = 16 * (i / 2) + 8 * (i % 2) := by omega
  rw [lane_eq (by decide), lane_eq (by decide), lane_eq (by decide), hsplit, pow_add, ← Nat.div_div_eq_div_mul]
  generalize v / 2 ^ (16 * (i / 2)) = x
  rcases Nat.mod_two_eq_zero_or_one i with hi | hi <;> rw [hi] <;> omega

/-- The lanes that lie in the bytes [first, first + size) of a register, and where each of them lies. -/
theorem lane_in_bytes (w8 : Bool) {first size : Nat} (hfirst : 2 ∣ first) (hsize : 2 ∣ size) (i : Nat) :
    (8 * first / laneW w8 ≤ i ∧ i < 8 * first / laneW w8 + 8 * size / laneW w8 ↔
      8 * first ≤ laneW w8 * i ∧ laneW w8 * i < 8 * (first + size))
    ∧ laneW w8 * (i - 8 * first / laneW w8) = laneW w8 * i - 8 * first
    ∧ (laneW w8 * i < 8 * (first + size) → laneW w8 * i + laneW w8 ≤ 8 * (first + size)) := by
  cases w8 <;> simp only [laneW, Bool.false_eq_true, if_true, if_false] <;> omega

/-- Two bytes repeated: their number in each 16-bit lane, its low and high byte by turns in the byte lanes. -/
theorem lane_repeat2 (k : Core) (w8 : Bool) (a : Nat) {i : Nat} (hi : i < laneN w8) :
    lane (laneW w8) (repeat2 (k.lnum a 2)) i = if w8 then (k.lbyte (a + i % 2)).toNat else leNat (k.lbytes a 2) := by
  have hnum : k.lnum a 2 % 2 ^ 16 = leNat (k.lbytes a 2) := Nat.mod_eq_of_lt (leNat_lt (k.lbytes a 2))
  cases w8 with
  | false => exact (lane_replicate (by decide) _ hi).trans hnum
  | true =>
    have hbyte : lane 8 (leNat (k.lbytes a 2)) (i % 2) = leNat (k.lbytes (a + 8 * (i % 2) / 8) 1) :=
      lane_lnum k true a (size := 2) (show 8 * (i % 2) + 8 ≤ 8 * 2 by omega)
    have hhalf : i / 2 < 64 := by have hi : i < 128 := hi; omega
    change lane 8 (ofLanes 16 (List.replicate 64 (k.lnum a 2))) i = (k.lbyte (a + i % 2)).toNat
    rw [lane_byte_of_half, lane_replicate (by decide) _ hhalf, hnum, hbyte, Nat.mul_div_cancel_left _ (by decide)]
    simp [Core.lbytes, leNat]

/-! ### Stores -/

/-- The core with the bytes of [a, a + n) that `p` picks put into X and Y. -/
def Core.lputWhere (k : Core) (a : Nat) (p : Nat → Bool) (v : Nat → Byte) (n : Nat) : Core :=
  (List.range n).foldl (fun q i => if p i then q.lput1 (a + i) (v i) else q) k

section
variable (k : Core) (a : Nat) (p : Nat → Bool) (v : Nat → Byte) (n : Nat)

theorem lputWhere_succ : k.lputWhere a p v (n + 1) =
    if p n then (k.lputWhere a p v n).lput1 (a + n) (v n) else k.lputWhere a p v n := by
  rw [Core.lputWhere, List.range_succ, List.foldl_append]
  rfl

/-- It changes X and Y alone. -/
theorem lputWhere_frame : k.lputWhere a p v n = { k with x := (k.lputWhere a p v n).x, y := (k.lputWhere a p v n).y } := by
  induction n with
  | zero => rfl
  | succ n ih =>
    rw [lputWhere_succ]
    split
    · rw [ih]
      exact lput_frame _ _ [v n]
    · exact ih

variable {k} (h : k.LocalWf)
include h

theorem localWf_lputWhere : (k.lputWhere a p v n).LocalWf := by
  induction n with
  | zero => exact h
  | succ n ih =>
    rw [lputWhere_succ]
    split
    · exact localWf_lput1 ih _ _
    · exact ih

/-- A byte that is picked is read where it was put; every other byte of X and Y is as it was. -/
theorem lbyte_lputWhere (d : Nat) : (k.lputWhere a p v n).lbyte d =
    if a ≤ d ∧ d < a + n ∧ p (d - a) = true then v (d - a) else k.lbyte d := by
  induction n with
  | zero =>
    rw [if_neg (by omega)]
    rfl
  | succ n ih =>
    have hput : (k.lputWhere a p v (n + 1)).lbyte d =
        if d = a + n ∧ p n = true then v n else (k.lputWhere a p v n).lbyte d := by
      rw [lputWhere_succ]
      split
      · simp [lbyte_lput1 (localWf_lputWhere a p v n h), *]
      · simp [*]
    rw [hput, ih]
    by_cases hd : d = a + n
    · subst hd
      simp
    · simp only [hd, false_and, if_false, show d < a + (n + 1) ↔ d < a + n by omega]

end

/-! ### Issue -/

/-- A load whose address does not fault writes the governed lanes that lie in its bytes. -/
theorem vloadAt_ok {k k1 : Core} {w a first size : Nat} (hmop : k.mop (zMopX w) 0 size = .ok (a, k1)) : k.vloadAt w first size =
    .ok (k1.vwrite (zRd w) (zW w) (fun i => decide (8 * first / laneW (zW w) ≤ i ∧ i < 8 * first / laneW (zW w) + 8 * size / laneW (zW w))
      && k.governs (zPr w) (zW w) i) (fun i => (lane (laneW (zW w)) (k.lnum a size) (i - 8 * first / laneW (zW w)), false))) := by
  unfold Core.vloadAt
  rw [hmop]

section
variable {s : State} {c w fn a first size : Nat} {cmd : Instr} {F : Core → Nat → Except Nat Core} {k1 : Core} (hi : Issues s c w)
  (hop : isOp 0x12 fn w = true) (hexec : exec cmd s = .next (s.zagil c (isOp 0x12 fn) F))
  (hmop : (taken (s.core c)).mop (zMopX w) 0 size = .ok (a, k1))
include hi hop hexec hmop

/-- R185: a load of the lanes that lie in the bytes from `first`. -/
theorem exec_vloadAt (hF : F (taken (s.core c)) w = (taken (s.core c)).vloadAt w first size) (hfirst : 2 ∣ first) (hsize : 2 ∣ size) :
    ∃ k', exec cmd s = .next (slotB s c k') ∧ OnlyV k1 k' (zRd w) ∧ k'.sat = (s.core c).sat
      ∧ ∀ i, i < laneN (zW w) → lane (laneW (zW w)) (k'.vget (zRd w)) i =
          if 8 * first ≤ laneW (zW w) * i ∧ laneW (zW w) * i < 8 * (first + size) ∧ (s.core c).governs (zPr w) (zW w) i = true
          then leNat ((s.core c).lbytes (a + (laneW (zW w) * i / 8 - first)) (laneW (zW w) / 8))
          else lane (laneW (zW w)) ((s.core c).vget (zRd w)) i := by
  obtain ⟨k', hk', honly, hlanes, hsat⟩ := exec_vlanes hi (by rw [zOpc_of_isOp hop]; decide) (mop_frame hmop) hexec hop
    (hF.trans (vloadAt_ok hmop))
  refine ⟨k', hk', honly, ?_, fun i hlane => (hlanes i hlane).trans ?_⟩
  · rw [hsat, any_saturated_false, Bool.or_false]
  · have ⟨hrange, hplace, hend⟩ := lane_in_bytes (zW w) hfirst hsize i
    simp only [Bool.and_eq_true, decide_eq_true_eq, hrange, and_assoc]
    split <;> rename_i hin
    · refine Eq.trans ?_ (if_pos hin).symm
      obtain ⟨hlo, hhi, -⟩ := hin
      have hfits := hend hhi
      rw [Nat.mod_eq_of_lt (lane_lt (laneW_pos _) _ _), lane_lnum _ _ _ (by rw [hplace]; omega), hplace,
        show (laneW (zW w) * i - 8 * first) / 8 = laneW (zW w) * i / 8 - first by omega]
      rfl
    · exact (if_neg hin).symm

/-- R185: VLDB gives every 16-bit lane the two bytes, and every byte lane one of them. -/
theorem exec_vloadBroadcast (hF : F = Core.vloadBroadcast) (hsize : size = 2) :
    ∃ k', exec cmd s = .next (slotB s c k') ∧ OnlyV k1 k' (zRd w) ∧ k'.sat = (s.core c).sat
      ∧ ∀ i, i < laneN (zW w) → lane (laneW (zW w)) (k'.vget (zRd w)) i =
          if (s.core c).governs (zPr w) (zW w) i
          then (if zW w then ((s.core c).lbyte (a + i % 2)).toNat else leNat ((s.core c).lbytes a 2))
          else lane (laneW (zW w)) ((s.core c).vget (zRd w)) i := by
  subst hF hsize
  have hload : (taken (s.core c)).vloadBroadcast w = .ok (k1.vwrite (zRd w) (zW w) ((taken (s.core c)).governs (zPr w) (zW w))
      (fun i => (lane (laneW (zW w)) (repeat2 ((taken (s.core c)).lnum a 2)) i, false))) := by
    unfold Core.vloadBroadcast
    rw [hmop]
  obtain ⟨k', hk', honly, hlanes, hsat⟩ := exec_vlanes hi (by rw [zOpc_of_isOp hop]; decide) (mop_frame hmop) hexec hop hload
  refine ⟨k', hk', honly, ?_, fun i hlane => (hlanes i hlane).trans ?_⟩
  · rw [hsat, any_saturated_false, Bool.or_false]
  · dsimp only
    rw [Nat.mod_eq_of_lt (lane_lt (laneW_pos _) _ _), lane_repeat2 _ _ _ hlane]
    rfl

/-- R185: a store puts the bytes of governed lanes from byte `first` of the register. -/
theorem exec_vstoreAt (hF : F (taken (s.core c)) w = (taken (s.core c)).vstoreAt w first size) (hx : Memory.wf (s.core c).x = true)
    (hy : Memory.wf (s.core c).y = true) :
    ∃ k', exec cmd s = .next (slotB s c k') ∧ k' = { k1 with x := k'.x, y := k'.y }
      ∧ (∀ i, i < size → k'.lbyte (a + i) =
          if (s.core c).governs (zPr w) (zW w) (if zW w then first + i else (first + i) / 2)
          then BitVec.ofNat 8 (lane 8 ((s.core c).vget (zRa w)) (first + i)) else (s.core c).lbyte (a + i))
      ∧ ∀ d, d < a ∨ a + size ≤ d → k'.lbyte d = (s.core c).lbyte d := by
  have hframe := mop_frame hmop
  have hwf : k1.LocalWf := by rw [hframe]; exact ⟨hx, hy⟩
  have hbyte : ∀ d, k1.lbyte d = (s.core c).lbyte d := fun d => by rw [hframe]; rfl
  have hstore : (taken (s.core c)).vstoreAt w first size = .ok (k1.lputWhere a
      (fun i => (s.core c).governs (zPr w) (zW w) (if zW w then first + i else (first + i) / 2))
      (fun i => BitVec.ofNat 8 (lane 8 ((s.core c).vget (zRa w)) (first + i))) size) := by
    unfold Core.vstoreAt
    rw [hmop]
    rfl
  have hslot : k1.slotB = true := slotB_of_butAddresses hi (by rw [zOpc_of_isOp hop]; decide) hframe
  refine ⟨_, exec_slotB hi hexec hop (hF.trans hstore) (by rw [lputWhere_frame]; exact hslot), lputWhere_frame _ _ _ _ _,
    fun i hi => ?_, fun d hd => ?_⟩
  · simp [lbyte_lputWhere _ _ _ _ hwf, hbyte, hi]
  · rw [lbyte_lputWhere _ _ _ _ hwf, if_neg (by omega), hbyte]

end

end Machine
end Sys2Proof
end

section
namespace Sys2Proof.Proofs

open Machine Safety

/-- Settles O13: loads and stores of a whole register and of a half, and the broadcast. -/
theorem localVectorAccesses : Obligations.LocalVectorAccesses := by
  intro s c w a k1 hi k b g h loads stores
  refine ⟨fun hop hmop => ?_, fun hop hmop hx hy => ?_, fun hop hmop => ?_, fun hop hmop hx hy => ?_, fun hop hmop => ?_⟩
  · exact exec_vloadAt hi hop (F := Core.vload) rfl hmop rfl ⟨0, rfl⟩ ⟨64, rfl⟩
  · exact exec_vstoreAt hi hop (F := Core.vstore) rfl hmop rfl hx hy
  · exact exec_vloadAt hi hop (F := Core.vloadHalf) rfl hmop rfl ((by decide : 2 ∣ 64).mul_right _) ⟨32, rfl⟩
  · exact exec_vstoreAt hi hop (F := Core.vstoreHalf) rfl hmop rfl hx hy
  · exact exec_vloadBroadcast hi hop rfl hmop rfl rfl

end Sys2Proof.Proofs
end

section
/-! SUPPORT. The far accesses as they issue, and the runs of a block's flagged bytes (06 R152; 07 R175, R178, R185). -/

namespace Sys2Proof.Machine

open Safety

/-! ### Runs -/

/-- The runs hold byte `b` at address `x`. -/
def RunsHold (rs : List (Nat × List Byte)) (x : Nat) (b : Byte) : Prop := ∃ r ∈ rs, ∃ j, r.1 + j = x ∧ r.2[j]? = some b

theorem not_runsHold_nil (x : Nat) (b : Byte) : ¬ RunsHold [] x b := fun ⟨_, hr, _⟩ => absurd hr List.not_mem_nil

theorem runsHold_cons (r : Nat × List Byte) (rs : List (Nat × List Byte)) (x : Nat) (b : Byte) :
    RunsHold (r :: rs) x b ↔ (∃ j, r.1 + j = x ∧ r.2[j]? = some b) ∨ RunsHold rs x b := List.exists_mem_cons_iff ..

/-- A byte before a run of its neighbours. -/
theorem run_cons (a x : Nat) (b b' : Byte) (bs : List Byte) : (∃ j, a + j = x ∧ (b' :: bs)[j]? = some b) ↔
    (x = a ∧ b = b') ∨ ∃ j, a + 1 + j = x ∧ bs[j]? = some b := by
  constructor
  · rintro ⟨j, rfl, hj⟩
    cases j with
    | zero => exact .inl ⟨rfl, (Option.some.inj hj).symm⟩
    | succ j => exact .inr ⟨j, by omega, hj⟩
  · rintro (⟨rfl, rfl⟩ | ⟨j, rfl, hj⟩)
    · exact ⟨0, rfl, rfl⟩
    · exact ⟨j + 1, by omega, hj⟩

/-- A flagged byte joins the runs after it, as part of the first or as a run of its own. -/
theorem runsHold_flagged (a x : Nat) (b b' : Byte) (bs : List (Bool × Byte)) :
    RunsHold (runsOf a ((true, b') :: bs)) x b ↔ (x = a ∧ b = b') ∨ RunsHold (runsOf (a + 1) bs) x b := by
  have hsingle : (∃ j, a + j = x ∧ [b'][j]? = some b) ↔ x = a ∧ b = b' := by simp [run_cons]
  rw [runsOf]
  split
  · rw [runsHold_cons, hsingle, ‹runsOf (a + 1) bs = []›]
  · rename_i y run rest hrest
    rw [hrest]
    split <;> rename_i hy
    · subst hy
      rw [runsHold_cons, run_cons, runsHold_cons, or_assoc]
    · rw [runsHold_cons, hsingle]

/-- No run holds a byte before the block. -/
theorem not_runsHold_below (bs : List (Bool × Byte)) {a x : Nat} (hx : x < a) (b : Byte) : ¬ RunsHold (runsOf a bs) x b := by
  induction bs generalizing a with
  | nil => exact not_runsHold_nil x b
  | cons e bs ih =>
    obtain ⟨flag, b'⟩ := e
    cases flag with
    | false => exact ih (hx.trans a.lt_succ_self)
    | true =>
      rw [runsHold_flagged]
      exact not_or.mpr ⟨fun h => hx.ne h.1, ih (hx.trans a.lt_succ_self)⟩

/-- R175: the runs hold the flagged bytes at their addresses and no other. -/
theorem runsHold_iff (bs : List (Bool × Byte)) (a i : Nat) (b : Byte) : bs[i]? = some (true, b) ↔ RunsHold (runsOf a bs) (a + i) b := by
  induction bs generalizing a i with
  | nil => simp [runsOf, not_runsHold_nil]
  | cons e bs ih =>
    obtain ⟨flag, b'⟩ := e
    cases i with
    | zero =>
      have hbelow := not_runsHold_below bs (Nat.lt_succ_self a) b
      cases flag with
      | false => simp [runsOf, hbelow]
      | true => simp [runsHold_flagged, hbelow, eq_comm]
    | succ i =>
      have hplace : a + (i + 1) = a + 1 + i := by omega
      cases flag with
      | false => rw [hplace]; exact ih (a + 1) i
      | true =>
        rw [runsHold_flagged, hplace, ← ih, List.getElem?_cons_succ]
        exact (or_iff_right fun h => absurd h.1 (by omega)).symm

/-! ### Issue -/

@[simp] theorem core_coreMeter (s : State) (c a n d : Nat) : (s.coreMeter c a n).core d = s.core d := by
  unfold State.coreMeter
  repeat' split
  all_goals rfl

section
variable {s s' : State} {c w : Nat} {op : Nat → Bool} {f : State → Nat → Nat → Option Nat × State} (hi : Issues s c w) (hop : op w = true)
include hi hop

theorem zagilFar_fault {cause : Nat} (hf : f ((fresh s).setCore c (taken (s.core c))) c w = (some cause, s')) :
    s.zagilFar c op f = (s'.spdFault c cause).settle := congrArg State.settle (issue_fault hi hop hf)

variable (hf : f ((fresh s).setCore c (taken (s.core c))) c w = (none, s'))
include hf

theorem zagilFar_slotA (hslot : (s'.core c).slotB = false) :
    s.zagilFar c op f = (s'.setCore c { s'.core c with slotB := true }).settle := by
  refine congrArg State.settle ((issue_done hi hop hf).trans ?_)
  unfold State.slotDone
  exact if_neg (ne_true_of_eq_false hslot)

theorem zagilFar_slotB (hslot : (s'.core c).slotB = true) : s.zagilFar c op f = (s'.closeBundle c).settle := by
  refine congrArg State.settle ((issue_done hi hop hf).trans ?_)
  unfold State.slotDone
  exact if_pos hslot

end

/-! ### The effects -/

/-- R178: 48 bits of the sum of a register and the signed immediate. -/
theorem farAddr_eq (k : Core) (w : Nat) :
    (k.farAddr w : Int) = ((k.getS (zRa w)).toNat + (BitVec.ofNat 32 w).toInt) % 2 ^ 48 := by
  rw [Core.farAddr, sx_eq_toInt (by decide), ofNat_zImm, low]
  exact Int.toNat_of_nonneg (Int.emod_nonneg _ (by decide))

section
variable {s s2 : State} {c w x : Nat} {b : List Byte} {k : Core} (hk : s.core c = k)
include hk

theorem farLoad_unaligned (h : k.farAddr w % farSize w ≠ 0) : farLoad s c w = (some 2, s) := by
  subst hk
  exact if_pos h

theorem farStore_unaligned (h : k.farAddr w % farSize w ≠ 0) : farStore s c w = (some 2, s) := by
  subst hk
  exact if_pos h

theorem farVecLoad_unaligned (h : k.farVec w % 128 ≠ 0) : farVecLoad s c w = (some 2, s) := by
  subst hk
  exact if_pos h

theorem farVecStore_unaligned (h : k.farVec w % 128 ≠ 0) : farVecStore s c w = (some 2, s) := by
  subst hk
  exact if_pos h

theorem farLoad_answered (h : k.farAddr w % farSize w = 0)
    (hbus : s.busRead (.spindle c) (k.farAddr w) (farSize w) = (.ok, x, b, s2)) : farLoad s c w =
    (none, (s2.setCore c ((s2.core c).setS (zRd w) (extend (farSize w) (leNat b) (bit (zFn w) 3)))).coreMeter c
      (k.farAddr w) (farSize w)) := by
  subst hk
  unfold farLoad
  dsimp only
  rw [if_neg (not_not.mpr h), hbus]

theorem farStore_answered (h : k.farAddr w % farSize w = 0)
    (hbus : s.busWrite (.spindle c) (k.farAddr w) (leBytes (farSize w) (k.getS (zRd w)).toNat) = (.ok, x, s2)) :
    farStore s c w = (none, s2.coreMeter c (k.farAddr w) (farSize w)) := by
  subst hk
  unfold farStore
  dsimp only
  rw [if_neg (not_not.mpr h), hbus]

variable (h : k.farVec w % 128 = 0)
include h

theorem farVecLoad_answered (hbus : s.busRead (.spindle c) (k.farVec w) 128 = (.ok, x, b, s2)) : farVecLoad s c w =
    (none, (s2.setCore c ((s2.core c).vfill w (leNat b))).coreMeter c (k.farVec w) 128) := by
  subst hk
  unfold farVecLoad
  dsimp only
  rw [if_neg (not_not.mpr h), hbus]

theorem farVecStore_answered (hbus : s.busWriteRuns (.spindle c) (k.farVec w) (k.farStoreBytes w) = (.ok, s2)) :
    farVecStore s c w = (none, s2.coreMeter c (k.farVec w) 128) := by
  subst hk
  unfold farVecStore
  dsimp only
  rw [if_neg (not_not.mpr h), hbus]

theorem farVecStore_failed {st : Status} (hbus : s.busWriteRuns (.spindle c) (k.farVec w) (k.farStoreBytes w) = (st, s2))
    (hst : st ≠ .ok) : farVecStore s c w = (some (farCause st), s2) := by
  subst hk
  unfold farVecStore
  dsimp only
  rw [if_neg (not_not.mpr h), hbus]
  cases st with
  | ok => exact absurd rfl hst
  | _ => rfl

end

theorem slotB_vwrite (k : Core) (d : Nat) (w8 : Bool) (g : Nat → Bool) (f : Nat → Nat × Bool) : (k.vwrite d w8 g f).slotB = k.slotB := rfl

end Sys2Proof.Machine
end

section
namespace Sys2Proof.Proofs

open Machine Safety

/-- Settles O10: far scalar and vector accesses by their effects, the lanes of a load, the bytes of a store and their runs. -/
theorem farAccesses : Obligations.FarAccesses := by
  refine ⟨fun s c w hi hopc => ?_, fun s c w hi => ?_, fun k w x i hlane => ?_, fun k w i hbyte => ?_,
    fun a i bs b => runsHold_iff bs a i b⟩
  · intro s1 a n
    have hcore : s1.core c = taken (s.core c) := State.core_setCore _ _ _
    refine ⟨farAddr_eq _ _, fun ha => ?_, fun hload ha x b s2 hbus hslot => ?_, fun hstore ha x s2 hbus hslot => ?_⟩
    · cases hdir : bit (zFn w) 2 with
      | false => exact congrArg Host.Outcome.next (zagilFar_fault hi (by rw [hopc, hdir]; rfl) (farLoad_unaligned hcore ha))
      | true => exact congrArg Host.Outcome.next (zagilFar_fault hi (by rw [hopc, hdir]; rfl) (farStore_unaligned hcore ha))
    · have heffect := farLoad_answered hcore ha hbus
      exact congrArg Host.Outcome.next (zagilFar_slotA hi (by rw [hopc, hload]; rfl) heffect (by simp [hslot]))
    · have heffect := farStore_answered hcore ha hbus
      exact congrArg Host.Outcome.next (zagilFar_slotA hi (by rw [hopc, hstore]; rfl) heffect (by simp [hslot]))
  · intro s1 a
    have hcore : s1.core c = taken (s.core c) := State.core_setCore _ _ _
    refine ⟨fun hop ha => ?_, fun hop ha => ?_, fun hop ha x b s2 hbus hslot => ?_, fun hop ha s2 hbus hslot => ?_,
      fun hop ha st s2 hbus hst => ?_⟩
    · exact congrArg Host.Outcome.next (zagilFar_fault hi hop (farVecLoad_unaligned hcore ha))
    · exact congrArg Host.Outcome.next (zagilFar_fault hi hop (farVecStore_unaligned hcore ha))
    · have heffect := farVecLoad_answered hcore ha hbus
      exact congrArg Host.Outcome.next (zagilFar_slotB hi hop heffect (by simp [Core.vfill, slotB_vwrite, hslot]))
    · have heffect := farVecStore_answered hcore ha hbus
      exact congrArg Host.Outcome.next (zagilFar_slotB hi hop heffect (by simp [hslot]))
    · exact congrArg Host.Outcome.next (zagilFar_fault hi hop (farVecStore_failed hcore ha hbus hst))
  · rw [Core.vfill, lane_vwrite _ _ _ _ _ hlane, Nat.mod_eq_of_lt (lane_lt (laneW_pos _) _ _)]
    exact (apply_ite (fun v => lane (laneW (zW w)) v i) _ _ _).symm
  · simp [Core.farStoreBytes, hbyte]

end Sys2Proof.Proofs
end

section
/-! SUPPORT. The choice of a waiting job, the start of a staged one, and the report and release at a job's end (08 R197 to R201, R203, R211;
18 R407). -/

namespace Sys2Proof.Machine

open Safety

/-! ### Staging -/

/-- R197: one job goes before another into staging: the higher class, then the earlier slot. -/
def Job.Outranks (j k : Job) : Prop := j.cls < k.cls ∨ (j.cls = k.cls ∧ j.slotSeq < k.slotSeq)

/-- The choice of R197 among some jobs is one of them, and none of them goes before it. -/
theorem firstJob_of_ne_nil {l : List Job} (h : l ≠ []) : ∃ b, firstJob l = some b ∧ b ∈ l ∧ ∀ k ∈ l, ¬ k.Outranks b := by
  induction l with
  | nil => exact absurd rfl h
  | cons j l ih =>
    cases l with
    | nil => exact ⟨j, rfl, List.mem_singleton_self j, by simp [Job.Outranks]⟩
    | cons y l =>
      obtain ⟨x, hx, hmem, hbest⟩ := ih (List.cons_ne_nil y l)
      rw [firstJob, hx]
      dsimp only
      split <;> rename_i hlt
      · refine ⟨x, rfl, List.mem_cons_of_mem j hmem, List.forall_mem_cons.mpr ⟨?_, hbest⟩⟩
        unfold Job.Outranks
        omega
      · refine ⟨j, rfl, List.mem_cons_self, List.forall_mem_cons.mpr ⟨by simp [Job.Outranks], fun k hk => ?_⟩⟩
        have hkx := hbest k hk
        unfold Job.Outranks at hkx ⊢
        omega

/-- A job that goes before all others is the choice. -/
theorem firstJob_eq_some {l : List Job} {j : Job} (hj : j ∈ l) (hbest : ∀ k ∈ l, k ≠ j → j.Outranks k) : firstJob l = some j := by
  obtain ⟨b, hb, hmem, hnone⟩ := firstJob_of_ne_nil (List.ne_nil_of_mem hj)
  by_cases hbj : b = j
  · exact hbj ▸ hb
  · exact absurd (hbest b hmem hbj) (hnone j hj)

theorem whlStage_takes {s : State} {a : Nat} {j : Job} (hformed : (s.arr a).formed = true)
    (hroom : (s.arr a).staged.length < (s.arr a).depth)
    (hfirst : firstJob (s.jobs.filter (fun j => j.kind == 1 && j.phase == .admitted && j.unit == a)) = some j) :
    s.whlStage a = (s.setArr a { s.arr a with staged := (s.arr a).staged ++ [j.id] }).updJob j.id (fun j => { j with phase := .staged }) := by
  unfold State.whlStage
  dsimp only
  rw [if_pos ⟨hformed, hroom⟩, hfirst]

/-! ### Start -/

/-- R407: units that all count, and that no report has been latched for, pass their checks and change nothing. -/
theorem startChecks_pass {s : State} {l : List Nat} (h : ∀ t ∈ l, s.counts (14 + t) = true ∧ (s.unitSt (14 + t)).latch = false) :
    l.foldl (fun acc t => (acc.1 && (acc.2.startCheck (14 + t)).1, (acc.2.startCheck (14 + t)).2)) (true, s) = (true, s) := by
  induction l with
  | nil => rfl
  | cons t l ih =>
    obtain ⟨⟨hcounts, hlatch⟩, hrest⟩ := List.forall_mem_cons.mp h
    rw [List.foldl_cons, startCheck_passes hcounts hlatch]
    exact ih hrest

/-- R198: the first staged job leaves staging and runs; its descriptor is read in this state. -/
def State.whlTaken (s : State) (a id : Nat) (rest : List Nat) : State :=
  (s.setArr a { s.arr a with staged := rest }).updJob id (fun j => { j with phase := .running })

/-- R203: a job is put on the array whose port is `port`; a streamed one takes the rows that wait there. -/
def State.whlPut (s : State) (a port : Nat) (streamed : Bool) (r : WhlRun) : State :=
  if streamed then (s.putRun a { r with streaming := true }).drainPort port else s.putRun a r

section
variable {s s2 : State} {a id : Nat} {rest : List Nat} {j : Job} (ce : List (Nat × Nat)) (ue : List Nat)
  (hrun : (s.arr a).run = none) (hstaged : (s.arr a).staged = id :: rest) (hjob : s.job? id = some j)
  (htiles : ∀ t ∈ arrayTiles (s.arr a).shape (s.arr a).first, s.counts (14 + t) = true ∧ (s.unitSt (14 + t)).latch = false)
include hrun hstaged hjob htiles

/-- R201: a descriptor that cannot be read ends the job with the failure's cause. -/
theorem whlStart_unread {e : WStop}
    (hread : (s.whlTaken a id rest).whlRead (84 + (s.arr a).first) { run := { job := id, hank := j.hank } } j.desc 128 = (.error e, s2)) :
    s.whlStart a ce ue = s2.whlFinish a 0 (({ job := id, hank := j.hank } : WhlRun).stop e) := by
  have hjob' : (s.setArr a { s.arr a with staged := rest }).job? id = some j := hjob
  have hchecks := startChecks_pass (s := s.setArr a { s.arr a with staged := rest }) htiles
  unfold State.whlTaken at hread
  unfold State.whlStart
  simp only [hrun, hstaged] at hjob' hchecks hread ⊢
  simp only [hjob', hchecks, hread]
  rfl

/-- R198, R201: a descriptor that has been read is checked; the job ends with the cause of the first check it fails, or runs on its tiles,
with the scale source of the context it names or without one. -/
theorem whlStart_read {b : List Byte} {w : Work}
    (hread : (s.whlTaken a id rest).whlRead (84 + (s.arr a).first) { run := { job := id, hank := j.hank } } j.desc 128 = (.ok (b, w), s2)) :
    s.whlStart a ce ue =
      let tiles := arrayTiles (s.arr a).shape (s.arr a).first
      let port := 0x3000 + 16 * (s.arr a).first
      let r := { w.run with desc := b, ue := ue.any tiles.contains }
      let d := parseWhl b
      let cause := s2.whlCheck a j.ply j.desc j.hank d
      let s3 := (s2.whlZero a j.hank).sramErrors tiles ce ue
      let s4 := s3.claimCtx j.ply d.ctx j.hank
      if cause ≠ 0 then s2.whlFinish a 0 ({ w.run with desc := b }.stop { cause := cause })
      else if d.fo ≤ 6 ∧ d.ctx ≠ 0xFFFF then
        s4.whlPut a port d.aStream { r with ctx := some (256 * j.ply + d.ctx), src := (s4.ctx j.ply d.ctx).source }
      else s3.whlPut a port d.aStream { r with ctx := none, src := .const 0 } := by
  have hjob' : (s.setArr a { s.arr a with staged := rest }).job? id = some j := hjob
  have hchecks := startChecks_pass (s := s.setArr a { s.arr a with staged := rest }) htiles
  unfold State.whlTaken at hread
  unfold State.whlStart
  simp only [hrun, hstaged] at hjob' hchecks hread ⊢
  simp only [hjob', hchecks, hread]
  by_cases hnamed : (parseWhl b).fo ≤ 6 ∧ (parseWhl b).ctx ≠ 0xFFFF
  · simp only [if_pos hnamed]
    rfl
  · simp only [if_neg hnamed]
    rfl

end

/-! ### The commands -/

theorem exec_whorlJobStart {s t : State} {a : Nat} {ce : List (Nat × Nat)} {ue : List Nat} (h : (fresh s).whlStart a ce ue = t) :
    exec (.whorlJobStart a ce ue) s = .next t.takeReports := h ▸ rfl

theorem exec_whorlJobEnd {s t : State} {a cycles : Nat} (h : (fresh s).whlEnd a cycles = t) :
    exec (.whorlJobEnd a cycles) s = .next t.takeReports := h ▸ rfl

/-! ### Report and release -/

theorem whlCause_ne_zero (st : Status) : whlCause st ≠ 0 := by cases st <;> decide

section
variable (s : State) (a cycles : Nat) (r : WhlRun)

/-- R200, R201: a report written leaves the job's values as they are; the report of a job without a cause may fail to be written. -/
theorem whlReported_fst : (s.whlReported a cycles r).1 = r
    ∨ r.cause = 0 ∧ ∃ st addr, (s.whlReported a cycles r).1 = { r with keep := none, cause := whlCause st, failAddr := addr } := by
  by_cases hcause : r.cause = 0
  · exact (ite_eq_or_eq ..).imp id fun h => ⟨hcause, _, _, h⟩
  · exact .inl (if_pos (.inr hcause))

theorem job_whlReported : (s.whlReported a cycles r).1.job = r.job := by
  rcases whlReported_fst s a cycles r with h | ⟨-, st, addr, h⟩ <;> rw [h]

@[simp] theorem arr_setTiles (f : State → Nat → Tile) (l : List Nat) :
    (l.foldl (fun s t => s.setTile t (f s t)) s).arr a = s.arr a :=
  foldl_keeps (State.arr · a) (f := fun s t => s.setTile t (f s t)) (fun _ _ => rfl) l s

@[simp] theorem arr_updJob (id : Nat) (f : Job → Job) : (s.updJob id f).arr a = s.arr a := rfl

/-- R199, R201: the array a job leaves is free, and without resident weights unless the job ended with no cause. -/
theorem arr_whlRelease : ((s.whlRelease a cycles r).arr a).run = none ∧ (r.cause ≠ 0 → ((s.whlRelease a cycles r).arr a).resident = none) := by
  unfold State.whlRelease
  dsimp only
  rw [arr_updJob]
  split <;> simp +contextual

/-! ### The end of a job -/

section
variable {s a cycles r}

theorem whlReported_of_cause (hcause : r.cause ≠ 0) : (s.whlReported a cycles r).1 = r :=
  (whlReported_fst s a cycles r).resolve_right fun h => hcause h.1

/-- R200, R201: a job that would end served stops with a cause when its report cannot be written. -/
theorem cause_whlReported_of_ne (h : (s.whlReported a cycles r).1 ≠ r) : (s.whlReported a cycles r).1.cause ≠ 0 := by
  obtain ⟨-, st, addr, hfst⟩ := (whlReported_fst s a cycles r).resolve_left h
  rw [hfst]
  exact whlCause_ne_zero st

theorem whlFinish_halts (hcause : (s.whlReported a cycles r).1.cause ≠ 0) : s.whlFinish a cycles r =
    ((s.whlReported a cycles r).2.whlRelease a cycles (s.whlReported a cycles r).1).updJob r.job
      (fun j => { j with phase := .halted, excused := true }) := by
  unfold State.whlFinish
  dsimp only
  rw [if_neg hcause, job_whlReported]

/-- R201, R202: a job that is stopped leaves its array free and without resident weights. -/
theorem arr_whlFinish_of_cause (hcause : r.cause ≠ 0) :
    ((s.whlFinish a cycles r).arr a).run = none ∧ ((s.whlFinish a cycles r).arr a).resident = none := by
  have hstops : (s.whlReported a cycles r).1.cause ≠ 0 := by rwa [whlReported_of_cause hcause]
  obtain ⟨hfree, hresident⟩ := arr_whlRelease (s.whlReported a cycles r).2 a cycles (s.whlReported a cycles r).1
  rw [whlFinish_halts hstops, arr_updJob]
  exact ⟨hfree, hresident hstops⟩

/-- R199, R211: a job that ends served, its report written, leaves the array the weights it keeps. -/
theorem whlFinish_serves (hcause : r.cause = 0) (hreported : (s.whlReported a cycles r).1 = r) :
    let s1 := (s.whlReported a cycles r).2.whlRelease a cycles (s.whlReported a cycles r).1
    s.whlFinish a cycles r = (match r.keep with
      | some k => s1.setArr a { s1.arr a with resident := some k }
      | none => s1).serve r.job := by
  unfold State.whlFinish
  dsimp only
  rw [hreported]
  exact if_pos hcause

theorem whlEnd_stopped (hrun : (s.arr a).run = some r) (hcause : r.cause ≠ 0) : s.whlEnd a cycles = s.whlFinish a 0 r := by
  unfold State.whlEnd
  rw [hrun]
  exact if_pos hcause

/-- R203: a running job whose rows are at hand, or whose rows at hand stop it, does its work and ends; another goes on. -/
theorem whlEnd_running (hrun : (s.arr a).run = some r) (hcause : r.cause = 0) : s.whlEnd a cycles =
    let p := s.whlPackets a r
    let q := p.2.whlRun a r p.1 false
    if r.streaming = true ∧ p.1.length < (parseWhl r.desc).aRows * (parseWhl r.desc).heads ∧ q.1.cause = 0 then s
    else q.2.whlFinish a cycles q.1 := by
  unfold State.whlEnd
  rw [hrun]
  exact if_neg (not_not.mpr hcause)

end

end

end Sys2Proof.Machine
end

section
namespace Sys2Proof.Proofs

open Machine Safety

/-- Settles O30: a job taken into staging, its start by the read and the checks of its descriptor, and its end by its cause and its report. -/
theorem whorlJobsRun : Obligations.WhorlJobsRun := by
  refine ⟨fun s a j => ?_, fun s a id ce ue rest j => ?_, fun s a cycles r hrun => ?_, fun s a cycles r => ?_⟩
  · intro x waits hformed hroom hwaits hbest
    have hmem : ∀ k, k ∈ s.jobs.filter (fun j => j.kind == 1 && j.phase == .admitted && j.unit == a) ↔ waits k := by
      simp [waits, and_assoc]
    have hfirst := firstJob_eq_some ((hmem j).mpr hwaits) fun k hk => hbest k ((hmem k).mp hk)
    exact congrArg Host.Outcome.next (whlStage_takes (s := fresh s) hformed hroom hfirst)
  · intro x tiles hrun hstaged hjob htiles s1 r0 go
    refine ⟨fun e s2 hread => ?_, fun b w s2 hread => ?_⟩
    · exact exec_whorlJobStart (whlStart_unread (s := fresh s) ce ue hrun hstaged hjob htiles hread)
    · have hstart := whlStart_read (s := fresh s) ce ue hrun hstaged hjob htiles hread
      refine ⟨fun hcause => ?_, fun hcause hfo hctx => ?_, fun hcause hno => ?_⟩
      · exact exec_whorlJobStart (hstart.trans (if_pos hcause))
      · exact exec_whorlJobStart (hstart.trans ((if_neg (not_not.mpr hcause)).trans (if_pos ⟨hfo, hctx⟩)))
      · have hnamed : ¬((parseWhl b).fo ≤ 6 ∧ (parseWhl b).ctx ≠ 0xFFFF) := by omega
        exact exec_whorlJobStart (hstart.trans ((if_neg (not_not.mpr hcause)).trans (if_neg hnamed)))
  · refine ⟨fun hcause => ?_, fun hcause hlacks => ?_, fun hcause hready => ?_⟩
    · exact exec_whorlJobEnd (whlEnd_stopped (s := fresh s) hrun hcause)
    · exact exec_whorlJobEnd ((whlEnd_running (s := fresh s) hrun hcause).trans (if_pos hlacks))
    · exact exec_whorlJobEnd ((whlEnd_running (s := fresh s) hrun hcause).trans (if_neg hready))
  · refine ⟨fun hcause => ?_, whlFinish_serves, fun _ hne => ?_⟩
    · obtain ⟨hfree, hresident⟩ := arr_whlFinish_of_cause (s := s) (a := a) (cycles := cycles) hcause
      have hreported := whlReported_of_cause (s := s) (a := a) (cycles := cycles) hcause
      exact ⟨hreported, whlFinish_halts (by rwa [hreported]), hfree, hresident⟩
    · exact ⟨cause_whlReported_of_ne hne, whlFinish_halts (cause_whlReported_of_ne hne)⟩

end Sys2Proof.Proofs
end

section
/-! SUPPORT. Output-stage tables, the headroom loop and the registers of contexts and conversions: what each leaves (09 R232, R238, R240;
17 R398). -/

namespace Sys2Proof.Machine

open Safety

/-! ### Output-stage tables -/

/-- The end of a part's swap writes the boot records alone. -/
theorem arrays_swapped (s : State) (part : Nat) : (s.swapped part).arrays = s.arrays := by
  unfold State.swapped State.startTrial
  dsimp only
  split <;> rfl

/-- R398: an armed array without a job takes the tables of the active slot and keeps no resident weights; the rest of the swap is no
array's. -/
theorem arr_tableSwap {s : State} {a : Nat} (harmed : (s.arr a).swapArmed = true) (hfree : (s.arr a).run = none) (b : Nat) :
    (s.tableSwap a).arr b = (s.setArr a { s.arr a with
      swapArmed := false, resident := none, tables := some (imgVersion (s.activeImage 5)) }).arr b := by
  have hswaps : (s.arr a).swapArmed = true ∧ (s.arr a).run.isNone = true := ⟨harmed, by rw [hfree]; rfl⟩
  unfold State.tableSwap
  simp only [if_pos hswaps]
  split
  · rw [State.arr, arrays_swapped]
    rfl
  · rfl

/-! ### Contexts -/

section
variable (s : State) (p c : Nat)

@[simp] theorem State.ctx_setCtx (x : Ctx) : (s.setCtx p c x).ctx p c = x := mget_mset ..

@[simp] theorem State.setCtx_setCtx (x y : Ctx) : (s.setCtx p c x).setCtx p c y = s.setCtx p c y := by simp [State.setCtx]

/-- Counting an override writes the ply's record alone. -/
@[simp] theorem ctx_overrode (q : Nat) : (s.overrode q).ctx p c = s.ctx p c := by
  unfold State.overrode
  dsimp only
  split <;> rfl

@[simp] theorem ctx_served : s.served.ctx p c = s.ctx p c := rfl

end

/-- A clamp between ordered bounds. -/
theorem clampI_eq_max_min {lo hi : Int} (h : lo ≤ hi) (v : Int) : clampI lo hi v = max lo (min hi v) := by
  unfold clampI
  split <;> [omega; (split <;> omega)]

/-! ### The headroom loop -/

/-- R232: the context `y` of a window that has been judged at tick `t`, with a new window begun. -/
def State.endWindow (s : State) (p c t : Nat) (y : Ctx) : State :=
  s.setCtx p c { y with judged := some t, winNarrowed := 0, winClipped := 0 }

/-- R232: a change of H that the journal takes is one entry and the new H. -/
theorem changeH_of_hasRoom {s : State} (hr : HasRoom s) (p c : Nat) (h : Int) (x : Ctx) :
    ((s.changeH p c h x).ctx p c).h = h ∧ (s.changeH p c h x).lea.head = s.lea.head + 1 := by
  unfold State.changeH
  simp only [change_of_hasRoom hr, State.ctx_setCtx]
  exact ⟨trivial, head_jRing s _⟩

section
variable {s : State} {p c : Nat}

theorem exec_headroomLoop (hp : (mget? s.plies p).isSome = true) (hc : c < 256) :
    exec (.headroomLoop p c) s = .next ((fresh s).headroom p c (s.ply p).tick) := if_pos ⟨hp, hc⟩

/-- R232: the judgement of a window that ends at tick `t`, by its narrowed values and its clipped share. -/
theorem headroom_at_window {t : Nat} (hnew : (s.ctx p c).judged ≠ some t) (hloop : (s.ctx p c).loop = true)
    (hwindow : t % (s.qloop p).window = 0) :
    let x := s.ctx p c
    let l := s.qloop p
    let moved := fun h => (s.setCtx p c { x with judged := some t }).changeH p c h { x with judged := some t }
    s.headroom p c t =
      if x.winNarrowed < 4096 then s.endWindow p c t x
      else if x.target * x.winNarrowed < x.winClipped * 1000000 then
        if x.h = l.hmax then s.endWindow p c t { x with streak := 0 } else moved (x.h + 1)
      else if x.winClipped * 4000000 ≤ x.target * x.winNarrowed then
        if x.streak < 3 then s.endWindow p c t { x with streak := x.streak + 1 }
        else if x.h = l.hmin then s.endWindow p c t { x with streak := 0 }
        else moved (x.h - 1)
      else s.endWindow p c t { x with streak := 0 } := by
  have hdue : ¬((!(s.ctx p c).loop) = true ∨ t % (s.qloop p).window ≠ 0) := by simp [hloop, hwindow]
  unfold State.headroom
  simp only [if_neg hnew, State.ctx_setCtx, State.setCtx_setCtx, if_neg hdue]
  rfl

end

/-! ### The context's configuration word -/

/-- R240: the context `x` after QNT_CTX_CFG is written with `v`: H clamped to the loop's range, and pinned if it changes (log 42). -/
def Ctx.configured (x : Ctx) (l : QLoop) (v : Nat) : Ctx :=
  { x with
    mode := min 2 (bits v 17 16)
    h := clampI l.hmin l.hmax (sx 4 (bits v 15 12))
    loop := decide (clampI l.hmin l.hmax (sx 4 (bits v 15 12)) = x.h) && bit v 18
    fixedT := if bits v 7 0 = 0 ∨ bits v 7 0 = 0xFF then 0x7F else bits v 7 0 }

/-- R240: hank 0's write that the journal takes is the context's new configuration. -/
theorem ctx_writeCtxCfg {s : State} {who : Requester} (h0 : s.reqHank who = 0) (hr : HasRoom s) (p c v : Nat) :
    (s.writeCtxCfg who p c v).ctx p c = (s.ctx p c).configured (s.qloop p) v := by
  unfold State.writeCtxCfg State.jWrite
  simp only [if_neg (not_not.mpr h0), change_of_hasRoom hr, ctx_served, ctx_overrode, State.ctx_setCtx]
  rfl

theorem exec_ctxHWrite {s : State} {who : Requester} {p c : Nat} (v : Word) (hp : p < 16) (hc : c < 256) (hh : s.reqHank who ≠ noHank) :
    exec (.ctxHWrite who p c v) s = .next ((fresh s).writeCtxCfg who p c v.toNat) :=
  (if_pos ⟨hp, hc⟩).trans (congrArg Host.Outcome.next (asHank_of_hank (s := fresh s) hh _))

/-! ### Conversions -/

/-- R238: the faults of a conversion's registers that GO answers with code 2. -/
abbrev Cvt.malformed (v : Cvt) : Prop :=
  v.src % 64 ≠ 0 ∨ v.dst % 64 ≠ 0 ∨ 4 * mib < (v.rowsM1 + 1) * (v.lenM1 + 1) * srcBytes (bits v.cfg 26 24)
    ∨ bits v.cfg 23 20 = 0 ∨ 6 < bits v.cfg 23 20 ∨ bits v.cfg 19 18 = 3 ∨ 2 < bits v.cfg 26 24

/-- R238: what a conversion that has written its rows with code `code` and counts `a` will report. -/
def CvtAcc.run (a : CvtAcc) (code : Nat) (ctx : Option Nat) : CvtRun :=
  { code := code, clips := a.clips, invalid := a.invalid, ctx := ctx, jobMax := a.big, narrowed := a.narrowed }

section
variable {s : State} {h : Nat} {v : Cvt} (p : Nat)

theorem cvtGo_busy (hv : (s.hank h).cvt = v) (hbusy : v.run.isSome = true) : s.cvtGo h p = s.cvtRefuse h 1 := if_pos (hv ▸ hbusy)

section
variable (hv : (s.hank h).cvt = v) (hidle : v.run = none) (hwell : ¬v.malformed)
include hv hidle hwell

/-- R238: a well-formed conversion that names a context it may not use is refused; another runs, on the context it claims or on a constant
scale. -/
theorem cvtGo_wellFormed :
    let k := bits v.cfg 15 8
    let s1 := if bit v.cfg 16 then s.claimCtx p k h else s
    let src := if bit v.cfg 16 then (s1.ctx p k).source else .const ((bits v.cfg 7 0 : Int) - 127)
    let q := s1.cvtRows h v src v.cfg (v.rowsM1 + 1) 0 {}
    s.cvtGo h p =
      if bit v.cfg 16 ∧ ((hankRec? s.img h p).isNone ∨ !(s.ctx p k).usable h) then s.cvtRefuse h 3
      else q.2.2.setCvt h { (q.2.2.hank h).cvt with run := some (q.2.1.run q.1 (if bit v.cfg 16 then some (256 * p + k) else none)) } := by
  have hfree : ¬v.run.isSome = true := by simp [hidle]
  unfold State.cvtGo
  simp only [hv]
  rw [if_neg hfree, if_neg hwell]
  rfl

section
variable {code : Nat} {a : CvtAcc} {s1 : State}

/-- R238: a conversion without a context runs at the constant scale of its CFG. -/
theorem cvtGo_const (hctx : bit v.cfg 16 = false)
    (hrows : s.cvtRows h v (.const ((bits v.cfg 7 0 : Int) - 127)) v.cfg (v.rowsM1 + 1) 0 {} = (code, a, s1)) :
    s.cvtGo h p = s1.setCvt h { (s1.hank h).cvt with run := some (a.run code none) } := by
  refine ((cvtGo_wellFormed p hv hidle hwell).trans (if_neg fun hbad => ?_)).trans ?_
  · simp [hctx] at hbad
  · simp only [hctx, Bool.false_eq_true, if_false, hrows]

/-- R238, R240: a conversion that names a context it may use claims it and runs on its scale. -/
theorem cvtGo_ctx (hctx : bit v.cfg 16 = true) (hrec : (hankRec? s.img h p).isSome = true)
    (husable : (s.ctx p (bits v.cfg 15 8)).usable h = true)
    (hrows : (s.claimCtx p (bits v.cfg 15 8) h).cvtRows h v ((s.claimCtx p (bits v.cfg 15 8) h).ctx p (bits v.cfg 15 8)).source
      v.cfg (v.rowsM1 + 1) 0 {} = (code, a, s1)) :
    s.cvtGo h p = s1.setCvt h { (s1.hank h).cvt with run := some (a.run code (some (256 * p + bits v.cfg 15 8))) } := by
  refine ((cvtGo_wellFormed p hv hidle hwell).trans (if_neg fun hbad => ?_)).trans ?_
  · simp [husable, Option.isSome_iff_ne_none.mp hrec] at hbad
  · simp only [hctx, if_true, hrows]

end

/-- R238: a conversion that names a context it may not use is refused with code 3. -/
theorem cvtGo_refused (hctx : bit v.cfg 16 = true)
    (hnot : ¬((hankRec? s.img h p).isSome = true ∧ (s.ctx p (bits v.cfg 15 8)).usable h = true)) : s.cvtGo h p = s.cvtRefuse h 3 := by
  have hbad : (hankRec? s.img h p).isNone = true ∨ (!(s.ctx p (bits v.cfg 15 8)).usable h) = true := by
    rw [not_and_or] at hnot
    simpa using hnot
  exact (cvtGo_wellFormed p hv hidle hwell).trans (if_pos ⟨hctx, hbad⟩)

end

end

theorem exec_cvtGo {s t : State} {who : Requester} {p : Nat} (hh : s.reqHank who ≠ noHank) (hgo : (fresh s).cvtGo (s.qntBank who) p = t) :
    exec (.cvtGo who p) s = .next t.served :=
  hgo ▸ congrArg Host.Outcome.next (asHank_of_hank (s := fresh s) hh _)

/-- R224, R238: a conversion's end shows its counts, adds them to the device's and its context's, and pulses its event. -/
theorem cvtDone_run {s : State} {h : Nat} {r : CvtRun} (hrun : (s.hank h).cvt.run = some r) :
    let v := (s.hank h).cvt
    let u := (s.setCvt h { v with run := none, done := true, code := r.code, clips := r.clips, invalid := r.invalid }).quantCounts
      r.clips r.invalid
    s.cvtDone h = (match r.ctx with
      | some k => u.endCtx (k / 256) (k % 256) r.jobMax r.narrowed r.clips false
      | none => u).hankPulse h v.event := by
  unfold State.cvtDone
  dsimp only
  split
  case h_1 hnone => exact absurd (hrun.symm.trans hnone) (Option.some_ne_none r)
  case h_2 r' hsome =>
    obtain rfl : r' = r := Option.some.inj (hsome.symm.trans hrun)
    rfl

end Sys2Proof.Machine
end

section
namespace Sys2Proof.Proofs

open Machine Safety

/-- Settles O31: the table swap by its arrays, the loop by the outcomes of a window, the configuration word by the context it leaves, and
GO and the end of a conversion by their outcomes. -/
theorem scalesFollowTheirLoopsAndCommands : Obligations.ScalesFollowTheirLoopsAndCommands := by
  refine ⟨fun s a harmed hfree => ?_, fun s p c hp hc => ?_, fun s who p c => ?_⟩
  · have harr := arr_tableSwap (s := fresh s) harmed hfree
    have hself := (harr a).trans (State.arr_setArr _ _ _)
    exact ⟨_, rfl, congrArg WArray.tables hself, congrArg WArray.resident hself, congrArg WArray.swapArmed hself,
      fun b hb => (harr b).trans (State.arr_setArr_ne _ _ _ _ hb)⟩
  · intro x l t judged go hnew hloop hwindow
    have hgo : go = _ := (exec_headroomLoop hp hc).trans
      (congrArg Host.Outcome.next (headroom_at_window (s := fresh s) hnew hloop hwindow))
    have hfull (hmany : 4096 ≤ x.winNarrowed) : go = _ := hgo.trans (congrArg Host.Outcome.next (if_neg (not_lt.mpr hmany)))
    have hnotOver (hunder : x.winClipped * 4000000 ≤ x.target * x.winNarrowed) : ¬x.target * x.winNarrowed < x.winClipped * 1000000 := by
      omega
    have hmoves : ∀ h, HasRoom s → go = .next (((fresh s).setCtx p c { x with judged := some t }).changeH p c h
        { x with judged := some t }) → ∃ t', go = .next t' ∧ (t'.ctx p c).h = h ∧ t'.lea.head = s.lea.head + 1 :=
      fun h hr hnext => ⟨_, hnext, changeH_of_hasRoom (s := (fresh s).setCtx p c { x with judged := some t }) hr p c h _⟩
    refine ⟨fun hfew => ?_, fun hmany hover hmax => ?_, fun hmany hover hmax hr => ?_, fun hmany hunder hstreak => ?_,
      fun hmany hunder hstreak hmin hr => ?_⟩
    · exact hgo.trans (congrArg Host.Outcome.next (if_pos hfew))
    · exact (hfull hmany).trans (congrArg Host.Outcome.next ((if_pos hover).trans (if_pos hmax)))
    · exact hmoves _ hr ((hfull hmany).trans (congrArg Host.Outcome.next ((if_pos hover).trans (if_neg hmax))))
    · exact (hfull hmany).trans (congrArg Host.Outcome.next ((if_neg (hnotOver hunder)).trans ((if_pos hunder).trans (if_pos hstreak))))
    · have hlong : ¬x.streak < 3 := hstreak.symm ▸ lt_irrefl 3
      exact hmoves _ hr ((hfull hmany).trans (congrArg Host.Outcome.next ((if_neg (hnotOver hunder)).trans
        ((if_pos hunder).trans ((if_neg hlong).trans (if_neg hmin))))))
  · intro h v
    refine ⟨fun value hp hc h0 hr hlo => ?_, fun hbusy hh => ?_, fun hidle hh hsrc hdst hfmt hto hto6 hgrp hsize => ?_, fun r hrun => ?_⟩
    · have hctx := ctx_writeCtxCfg (s := fresh s) h0 hr p c value.toNat
      have hh : s.reqHank who ≠ noHank := by rw [h0]; decide
      refine ⟨_, exec_ctxHWrite value hp hc hh, ?_⟩
      rw [hctx]
      refine ⟨rfl, clampI_eq_max_min hlo _, rfl, fun hmoved => ?_⟩
      exact Bool.and_eq_false_imp.mpr fun hsame => absurd (of_decide_eq_true hsame) hmoved
    · exact exec_cvtGo hh (cvtGo_busy (s := fresh s) p rfl hbusy)
    · intro k may starts
      have hwell : ¬v.malformed := by unfold Cvt.malformed; omega
      refine ⟨fun hctx code a s1 hrows => ?_, fun hctx hnot => ?_, fun hctx hmay code a s1 hrows => ?_⟩
      · exact exec_cvtGo hh (cvtGo_const (s := fresh s) p rfl hidle hwell hctx hrows)
      · exact exec_cvtGo hh (cvtGo_refused (s := fresh s) p rfl hidle hwell hctx hnot)
      · exact exec_cvtGo hh (cvtGo_ctx (s := fresh s) p rfl hidle hwell hctx hmay.1 hmay.2 hrows)
    · exact congrArg Host.Outcome.next (cvtDone_run (s := fresh s) hrun)

end Sys2Proof.Proofs
end

section
/-! SUPPORT. The flow of a camera: the end of a gap's wait, and the access unit at the head of its queue (10 R244, R246 to R248, R250). -/

namespace Sys2Proof.Machine

open Safety

/-- A registry record found under a camera number is that camera's. -/
theorem cam_of_cam? {s : State} {c : Nat} {r : CamRec} (h : s.cam? c = some r) : r.cam = c := by
  simpa using List.find?_some h

/-! ### Gaps (R244) -/

theorem exec_gapWaitExpiry {s : State} {c : Nat} {r : CamRec} (h : s.cam? c = some r) : exec (.gapWaitExpiry c) s =
    if (s.flow c).held = [] then .next (fresh s) else .next (((fresh s).skipGap c ((s.ply r.ply).state == 3)).gapStart c) := by
  have hcam : ({ s with out := [] } : State).cam? c = some r := h
  change execGapWaitExpiry c s = _
  simp only [execGapWaitExpiry, hcam]
  rfl

/-- R244: a gap of `d` numbers from `e` on is lost, and what is held behind it is released. -/
theorem skipGap_lost {s : State} {c e d : Nat} (hnext : (s.flow c).next = some e) (hnearest : (s.flow c).nearest e = some d) (hd : d ≠ 0)
    (held : Bool) :
    s.skipGap c held = (s.setFlow c { (s.flow c).lose with next := some ((e + d) % 65536) }).releaseRun c held 65 := by
  obtain ⟨n, rfl⟩ := Nat.exists_eq_succ_of_ne_zero hd
  unfold State.skipGap
  simp only [hnext, hnearest]

/-! ### Admission (R246 to R248, R250) -/

theorem exec_auAdmit {s : State} {c : Nat} {r : CamRec} (h : s.cam? c = some r) (info : AuInfo) :
    exec (.auAdmit c info) s = .next ((fresh s).auAdmit r info) := by
  have hcam : ({ s with out := [] } : State).cam? c = some r := h
  change execAuAdmit c info s = _
  simp only [execAuAdmit, hcam]
  rfl

/-- R246: the NAL units of an access unit that decode is given. -/
def AccessUnit.kept (au : AccessUnit) (codec : Nat) : List (List Byte) := au.frags.filter (fun p => !nalSkipped codec p)

section
variable {s : State} {r : CamRec} {info : AuInfo} {f : Flow} {au : AccessUnit} {rest : List AccessUnit}
  (hf : s.flow r.cam = f) (hqueue : f.queue = au :: rest) (hinfo : au.info = none)
include hf hqueue hinfo

/-- R246: an access unit of skipped NAL units alone is no picture. -/
theorem auAdmit_skipped (hkept : au.kept r.codec = []) (hfrags : au.frags ≠ []) (hgap : au.gap = false) :
    s.auAdmit r info = s.popAu r.cam := by
  subst hf
  have hskip : au.kept r.codec = [] ∧ au.frags ≠ [] ∧ (!au.gap) = true := ⟨hkept, hfrags, by rw [hgap]; rfl⟩
  have hnew : ¬au.info.isSome = true := by simp [hinfo]
  unfold State.auAdmit
  simp only [hqueue, if_neg hnew]
  exact if_pos hskip

/-- R246 to R248, R250: what becomes of a picture, by the first rule that speaks of it. -/
theorem auAdmit_picture (hpicture : au.kept r.codec ≠ [] ∨ au.frags = [] ∨ au.gap = true) :
    let u := s.popAu r.cam
    s.auAdmit r info =
      if f.discard && !r.rap info then u.reason r.cam 0x09
      else if tooLarge r info || f.badParams.contains info.paramSet then
        (u.setFlow r.cam { u.flow r.cam with badParams := kins f.badParams info.paramSet, discard := false }).reject r au info 0x04
      else if !auSupported r.codec info au then
        let v := (u.setFlow r.cam { u.flow r.cam with discard := false }).reject r au info 0x05
        if info.isRef && r.codec != 3 then v.corruptRef r else v
      else if f.st = 1 ∧ !r.rap info then u.reject r au info 0x08
      else s.setFlow r.cam { f with
        queue := { au with info := some info, frags := au.kept r.codec } :: rest, discard := false
        st := if r.rap info then 2 else f.st } := by
  subst hf
  have hkeep : ¬(au.kept r.codec = [] ∧ au.frags ≠ [] ∧ (!au.gap) = true) := by
    rintro ⟨hkept, hfrags, hgap⟩
    rcases hpicture with h | h | h
    · exact h hkept
    · exact hfrags h
    · simp [h] at hgap
  have hnew : ¬au.info.isSome = true := by simp [hinfo]
  unfold State.auAdmit
  simp only [hqueue, if_neg hnew]
  exact if_neg hkeep

end

/-- R247: a picture over the registry's size, or one whose parameter set has been rejected for that. -/
theorem oversize_iff {r : CamRec} {f : Flow} {info : AuInfo} : (tooLarge r info || f.badParams.contains info.paramSet) = true ↔
    ceil16 r.maxW < info.width ∨ ceil16 r.maxH < info.height ∨ info.paramSet ∈ f.badParams := by
  simp [tooLarge, or_assoc]

end Sys2Proof.Machine
end

section
namespace Sys2Proof.Proofs

open Machine Safety

/-- Settles O32: the gap by the flow that the wait leaves, the access unit by the rules of admission in their order. -/
theorem accessUnitsAreAdmittedOrRejected : Obligations.AccessUnitsAreAdmittedOrRejected := by
  refine ⟨fun s c r hr => ⟨fun hnone => ?_, fun e d hheld hnext hnearest hd => ?_⟩, fun s c info r au rest => ?_⟩
  · exact (exec_gapWaitExpiry hr).trans (if_pos hnone)
  · rw [exec_gapWaitExpiry hr, if_neg hheld, skipGap_lost (s := fresh s) hnext hnearest hd]
    rfl
  · intro f keep u hr hqueue hinfo
    rw [exec_auAdmit hr]
    have hpicture := auAdmit_picture (s := fresh s) (r := r) (info := info) rfl hqueue hinfo
    have hclear (h : f.discard = false ∨ r.rap info = true) : ¬(f.discard && !r.rap info) = true := by
      rcases h with h | h <;> simp [h]
    refine ⟨fun hkeep hfrags hgap => ?_, fun hdiscard hpic hrap => ?_, fun hdiscard hpic hlarge => ?_, fun hdiscard hpic hw hh hparams => ?_⟩
    · exact congrArg Host.Outcome.next (auAdmit_skipped (s := fresh s) rfl hqueue hinfo hkeep hfrags hgap)
    · have hover : (f.discard && !r.rap info) = true := by simp [hdiscard, hrap]
      exact congrArg Host.Outcome.next ((hpicture hpic).trans (if_pos hover))
    · exact congrArg Host.Outcome.next (((hpicture hpic).trans (if_neg (hclear hdiscard))).trans (if_pos (oversize_iff.mpr hlarge)))
    · have hsize : ¬(tooLarge r info || f.badParams.contains info.paramSet) = true := by
        rw [oversize_iff, not_or, not_or, not_lt, not_lt]
        exact ⟨hw, hh, hparams⟩
      have hjudged := ((hpicture hpic).trans (if_neg (hclear hdiscard))).trans (if_neg hsize)
      have hsup (hok : auSupported r.codec info au = true) : ¬(!auSupported r.codec info au) = true := by simp [hok]
      refine ⟨fun hno => ?_, fun hok hwaits hrap => ?_, fun hok hopen => ?_⟩
      · have hun : (!auSupported r.codec info au) = true := by rw [hno]; rfl
        exact congrArg Host.Outcome.next (hjudged.trans (if_pos hun))
      · have hpoint : f.st = 1 ∧ (!r.rap info) = true := ⟨hwaits, by rw [hrap]; rfl⟩
        exact congrArg Host.Outcome.next ((hjudged.trans (if_neg (hsup hok))).trans (if_pos hpoint))
      · have hpoint : ¬(f.st = 1 ∧ (!r.rap info) = true) := by
          rintro ⟨hst, hrap⟩
          rcases hopen with h | h
          · exact h hst
          · simp [h] at hrap
        exact congrArg Host.Outcome.next ((hjudged.trans (if_neg (hsup hok))).trans (if_neg hpoint))

end Sys2Proof.Proofs
end

section
/-! SUPPORT. The start and the end of a decode (10 R248 to R251). -/

namespace Sys2Proof.Machine

open Safety

/-! ### The buffer that a start takes (04 R113) -/

theorem crd_scrub (s : State) (lo hi : Nat) : (s.scrub lo hi).crd = s.crd := (congrArg State.crd (sansFab_scrub s lo hi) :)

/-- A pool that would grant a request takes a buffer of its own and writes nothing of the flows. -/
theorem crd_poolAlloc1 {s : State} {who : Requester} {p q cls : Nat} (h : s.canAlloc who p q cls = true) :
    (s.poolAlloc1 who p q cls).2.crd = s.crd := by
  simp only [State.canAlloc, Bool.and_eq_true, bne_iff_ne] at h
  obtain ⟨⟨⟨⟨hwoven, h0⟩, hrec⟩, hmay⟩, hlimit⟩ := h
  obtain ⟨i, -, -, hgiven⟩ := poolServe_given (r := oneReq who p q cls) rfl rfl hwoven h0 hrec hmay hlimit
  exact (congrArg (fun a : Nat × State => a.2.crd) hgiven :).trans (crd_scrub _ _ _)

/-! ### The order of starts (R251) -/

theorem minBy_eq_argmin {α : Type} (key : α → Nat) (l : List α) : minBy key l = l.argmin key := by
  induction l with
  | nil => rfl
  | cons x xs ih =>
    rw [minBy, ih, List.argmin_cons]
    cases xs.argmin key with
    | none => rfl
    | some y => simp only [← not_lt, ite_not]

/-- An element whose key lies below every other element's is chosen. -/
theorem minBy_eq_of_lt {α : Type} {key : α → Nat} {l : List α} {x : α} (hx : x ∈ l) (hlt : ∀ y ∈ l, y ≠ x → key x < key y) :
    minBy key l = some x := by
  rw [minBy_eq_argmin]
  cases hm : l.argmin key with
  | none => exact absurd (List.argmin_eq_none.mp hm ▸ hx) List.not_mem_nil
  | some m =>
    by_contra hne
    exact List.not_lt_of_mem_argmin hx hm (hlt m (List.argmin_mem hm) fun h => hne (congrArg some h))

/-- R251: a covered access unit that arrived before every other covered one is the next to start. -/
theorem minBy_startKey {rr : Nat} {l : List (CamRec × AccessUnit × Nat × Bool)} {x : CamRec × AccessUnit × Nat × Bool} (hx : x ∈ l)
    (hcovered : x.2.2.2 = true)
    (hfirst : ∀ y ∈ l, y ≠ x → y.2.2.2 = true → x.2.1.arrival * 2 ^ 64 + x.2.1.order < y.2.1.arrival * 2 ^ 64 + y.2.1.order)
    (hbound : x.2.1.arrival * 2 ^ 64 + x.2.1.order < 2 ^ 160) : minBy (startKey rr) l = some x := by
  refine minBy_eq_of_lt hx fun y hy hne => ?_
  have hkey : startKey rr x = x.2.1.arrival * 2 ^ 64 + x.2.1.order := if_pos hcovered
  rw [hkey]
  unfold startKey
  split
  case isTrue hcov => exact hfirst y hy hne hcov
  case isFalse => exact hbound.trans_le (Nat.le_add_right _ _)

/-- R251: a flow that an engine may start finds a frame buffer. -/
theorem canAlloc_of_mem_startable {s : State} {e : Nat} {x : CamRec × AccessUnit × Nat × Bool} (hx : x ∈ s.startable e) :
    s.canAlloc (.carding x.1.owner) x.1.ply (framePool s.img x.1.ply) 0 = true := by
  obtain ⟨r, -, hr⟩ := List.mem_filterMap.mp hx
  dsimp only at hr
  split at hr
  case h_2 => contradiction
  split at hr
  case h_2 => contradiction
  split at hr
  case isFalse => contradiction
  case isTrue hmay =>
    obtain rfl := Option.some.inj hr
    exact (Bool.and_eq_true_iff.mp hmay).2

/-! ### A start (R251) -/

/-- R251: the start of a covered access unit takes it from its flow, charges its macroblocks to its hank and makes the engine one busier. -/
theorem decodeStart_covered {s : State} {e : Nat} {x : CamRec × AccessUnit × Nat × Bool} (he : e < nDecode s.variant)
    (hengine : s.counts (24 + e) = true) (hstage : s.counts 23 = true) (hswap : (mget s.crd.engines e {}).swap ≠ 2)
    (hroom : (mget s.crd.engines e {}).busy < nDecCtx s.variant / nDecode s.variant)
    (hnext : minBy (startKey (mget s.crd.engines e {}).rr) (s.startable e) = some x) (hcovered : x.2.2.2 = true)
    (hcrd : (s.poolAlloc1 (.carding x.1.owner) x.1.ply (framePool s.img x.1.ply) 0).2.crd = s.crd) :
    let b := (s.poolAlloc1 (.carding x.1.owner) x.1.ply (framePool s.img x.1.ply) 0).1 % 2 ^ 26
    let t := s.decodeStart e
    let g := mget s.crd.engines e {}
    t.flow x.1.cam = { s.flow x.1.cam with
      queue := (s.flow x.1.cam).queue.drop 1, bufs := (s.flow x.1.cam).bufs ++ [b]
      dec := (s.flow x.1.cam).dec ++ [{ au := x.2.1, engine := e, buf := b }] }
    ∧ mget t.crd.engines e {} = { g with busy := g.busy + 1 }
    ∧ mget t.crd.charged (4096 * x.1.ply + x.1.owner) 0 = mget s.crd.charged (4096 * x.1.ply + x.1.owner) 0 + x.2.2.1 := by
  have hstarts : ¬(nDecode s.variant ≤ e ∨ (!s.counts (24 + e)) = true ∨ (!s.counts 23) = true ∨ (mget s.crd.engines e {}).swap = 2
      ∨ nDecCtx s.variant / nDecode s.variant ≤ (mget s.crd.engines e {}).busy) := by
    simp [hengine, hstage, hswap, he, hroom]
  obtain ⟨r, au, mb, covered⟩ := x
  unfold State.decodeStart
  simp only [if_neg hstarts, hnext]
  dsimp only at hcovered hcrd
  subst hcovered
  simp [State.flow, State.setFlow, hcrd]

/-! ### The end of a decode (R249 to R251) -/

theorem exec_pictureDecoded {s : State} {c : Nat} {r : CamRec} (h : s.cam? c = some r) (d : Decoded) :
    exec (.pictureDecoded c d) s = .next ((fresh s).pictureDecoded r d) := by
  have hcam : ({ s with out := [] } : State).cam? c = some r := h
  change execPictureDecoded c d s = _
  simp only [execPictureDecoded, hcam]
  rfl

/-- The picture that a flow `f` shows of a decode `x` in which nothing is patched. -/
def Decoding.pic (x : Decoding) (d : Decoded) (f : Flow) (rap : Bool) : Pic :=
  { w := d.width, h := d.height, luma := d.luma, cb := d.cb, cr := d.cr, c422 := d.c422, capture := x.au.capture, noSr := x.au.noSr
    concealed := !rap && d.uses.any f.tainted.contains, frameNo := f.frameNo + 1, buf := x.buf }

/-- R249, R251: the decode `x` of camera `c` has left its engine, with its macroblocks and its frame counted and the decodes `rest` to come. -/
def State.decodeEnded (s : State) (c : Nat) (x : Decoding) (rest : List Decoding) (info : AuInfo) (concealed : Nat) : State :=
  let f := s.flow c
  let g := mget s.crd.engines x.engine {}
  let g := { g with busy := g.busy - 1, mb := (g.mb + macroblocks info.width info.height) % 2 ^ 64 }
  ({ s with crd := { s.crd with engines := mset s.crd.engines x.engine g } } : State).setFlow c
    { f with dec := rest, frameNo := f.frameNo + 1, frames := satAdd 32 f.frames 1, concealed := satAdd 32 f.concealed concealed }

/-- R249, R250: a picture whose coding is in error is offered as corrupt, and as a reference it is lost. -/
def State.showCorrupt (s : State) (r : CamRec) (d : Decoded) (p : Pic) : State :=
  let u := (s.reason r.cam 0x06).roiStage r p (some 0x06)
  if d.isRef && r.codec != 3 then u.corruptRef r
  else (u.setFlow r.cam { u.flow r.cam with refs := (u.flow r.cam).refs.filter (fun b => !(d.unref.contains b)) }).releaseBufs r

/-- R249: a whole picture, decoded into buffer `b`, is offered as it is, and the flow keeps it. -/
def State.showWhole (s : State) (r : CamRec) (d : Decoded) (b : Nat) (p : Pic) (rap : Bool) : State :=
  let u := s.roiStage r p none
  (u.setFlow r.cam { u.flow r.cam with
    prev := some p, lastGood := if r.stale then some p else none
    refs := (u.flow r.cam).refs.filter (fun i => !(d.unref.contains i)) ++ (if d.isRef && r.codec != 3 then [b] else [])
    tainted := (if rap then [] else (u.flow r.cam).tainted) ++ (if d.isRef && r.codec != 3 && p.concealed then [b] else []) }).releaseBufs r

/-- R249 to R251: the end of a decode that met no bus error and in which nothing is patched. -/
theorem pictureDecoded_unpatched {s : State} {r : CamRec} {d : Decoded} {x : Decoding} {rest : List Decoding} {info : AuInfo}
    (hdec : (s.flow r.cam).dec = x :: rest) (hinfo : x.au.info = some info) (hbus : d.busReason = 0)
    (hplain : d.syntaxError = true ∨ d.missing = []) :
    let p := x.pic d (s.flow r.cam) (r.rap info)
    s.pictureDecoded r d =
      if d.syntaxError then (s.decodeEnded r.cam x rest info 0).showCorrupt r d p
      else (s.decodeEnded r.cam x rest info (b2n p.concealed)).showWhole r d x.buf p (r.rap info) := by
  unfold State.pictureDecoded
  extract_lets -underBinder p c f
  split
  case h_1 hnone => exact absurd (hdec.symm.trans hnone) (List.cons_ne_nil x rest)
  case h_2 x' rest' hsome =>
    obtain ⟨rfl, rfl⟩ := List.cons.inj (hdec.symm.trans hsome)
    extract_lets -underBinder size rap g0 g crd s1 bad patched old cw q isRef s2
    have hbad : bad = if d.syntaxError then some 0x06 else none := by
      rcases hplain with h | h <;> simp [bad, hbus, h]
    have hpatched : patched = false := by
      rcases hplain with h | h <;> simp [patched, hbad, h]
    have hsize : size = (info.width, info.height) := by simp [size, hinfo]
    have hrap : rap = r.rap info := by simp [rap, hinfo]
    have hq : q = p := by simp [q, p, hpatched, Decoding.pic, hrap, f, c]
    have hs2 : s2 = s.decodeEnded c x rest info (b2n (p.concealed && bad.isNone)) := by
      simp only [s2, s1, g, g0, crd, hq, hsize]
      rfl
    rw [hbad] at hs2 ⊢
    rw [hq, hs2, hrap]
    -- With its value `p` would be unfolded in every field of the flow.
    clear_value p
    cases d.syntaxError with
    | true =>
      simp only [if_true, Option.isNone_some, Bool.and_false]
      rfl
    | false =>
      simp only [Bool.false_eq_true, if_false, Option.isNone_none, Bool.and_true]
      rfl

end Sys2Proof.Machine
end

section
namespace Sys2Proof.Proofs

open Machine Safety

/-- Settles O33: the start by the least key among the flows that may start, the end by what the decode gave. -/
theorem picturesAreDecodedInOrder : Obligations.PicturesAreDecodedInOrder := by
  refine ⟨fun s e x => ?_, fun s c d r x rest info hr => ?_⟩
  · intro g he hengine hstage hswap hroom hx hcovered hfirst hbound
    have hnext := minBy_startKey (rr := g.rr) hx hcovered hfirst hbound
    have hcrd := crd_poolAlloc1 (canAlloc_of_mem_startable (s := fresh s) hx)
    obtain ⟨hflow, hbusy, hcharged⟩ := decodeStart_covered (s := fresh s) he hengine hstage hswap hroom hnext hcovered hcrd
    exact ⟨_, _, rfl, congrArg Flow.queue hflow, congrArg Flow.bufs hflow, congrArg Flow.dec hflow, congrArg Engine.busy hbusy, hcharged⟩
  · intro hdec hinfo hbus c f g g' p decoded
    rw [exec_pictureDecoded hr]
    have hended := pictureDecoded_unpatched (s := fresh s) hdec hinfo hbus
    refine ⟨fun hsyntax => ?_, fun hsyntax hmissing => ?_⟩
    · exact congrArg Host.Outcome.next ((hended (.inl hsyntax)).trans (if_pos hsyntax))
    · exact congrArg Host.Outcome.next ((hended (.inr hmissing)).trans (if_neg (Bool.not_eq_true _ ▸ hsyntax)))

end Sys2Proof.Proofs
end

section
/-! SUPPORT. The sampling-rate loop, augmentation rings and batch queues (10 R254, R259, R260, R263, R264, R268). -/

namespace Sys2Proof.Machine

open Safety

/-! ### The sampling-rate loop (R254) -/

theorem exec_samplingRateLoop {s : State} {c i h : Nat} {r : CamRec} (hr : s.cam? c = some r) (hi : r.subs[i]? = some h) (h0 : h ≠ 0) :
    exec (.samplingRateLoop c i) s = .next ((fresh s).rateLoop r i h (s.ply r.ply).tick) := by
  have hcam : ({ s with out := [] } : State).cam? c = some r := hr
  change execSamplingRateLoop c i s = _
  simp only [execSamplingRateLoop, hcam, hi, if_neg h0]
  rfl

/-- A change of a divider that the journal takes is one entry and the new divider. -/
theorem setDivider_of_hasRoom {s : State} (hroom : HasRoom s) (r : CamRec) (i h old new : Nat) :
    let t := s.setDivider r i h old new
    mget (t.flow r.cam).div i 1 = new ∧ (t.flow r.cam).quiet = (s.flow r.cam).quiet ∧ t.lea.head = s.lea.head + 1 := by
  unfold State.setDivider
  simp only [change_of_hasRoom hroom, State.flow_setFlow, mget_mset]
  exact ⟨trivial, (congrArg (fun u : State => (u.flow r.cam).quiet) (sansRecords_jRing s _) :), head_jRing s _⟩

/-- Subscriber `i` of a camera has been judged at tick `t`, after `q` quiet boundaries. -/
def State.judged (s : State) (r : CamRec) (i t q : Nat) : State :=
  s.setFlow r.cam { s.flow r.cam with judged := mset (s.flow r.cam).judged i t, quiet := mset (s.flow r.cam).quiet i q }

section
variable {s : State} {r : CamRec} {i t : Nat}

theorem div_judged (q : Nat) : ((s.judged r i t q).flow r.cam).div = (s.flow r.cam).div := by
  rw [State.judged, State.flow_setFlow]

theorem quiet_judged (q : Nat) : mget ((s.judged r i t q).flow r.cam).quiet i 0 = q := by
  rw [State.judged, State.flow_setFlow, mget_mset]

/-- R254: the divider goes to `new` if the judgement `may` move it, and stays if not. -/
theorem judged_moves {may : Prop} [Decidable may] (hroom : HasRoom s) (h q new : Nat) :
    let d := mget (s.flow r.cam).div i 1
    let u := if may then (s.judged r i t q).setDivider r i h d new else s.judged r i t q
    mget (u.flow r.cam).div i 1 = (if may then new else d) ∧ mget (u.flow r.cam).quiet i 0 = q
      ∧ u.lea.head = s.lea.head + (if may then 1 else 0) := by
  intro d u
  by_cases hmay : may
  · have hu : u = (s.judged r i t q).setDivider r i h d new := if_pos hmay
    obtain ⟨hdiv, hquiet, hhead⟩ := setDivider_of_hasRoom (s := s.judged r i t q) hroom r i h d new
    rw [hu, if_pos hmay, if_pos hmay, hquiet]
    exact ⟨hdiv, quiet_judged q, hhead⟩
  · have hu : u = s.judged r i t q := if_neg hmay
    rw [hu, if_neg hmay, if_neg hmay, div_judged]
    exact ⟨rfl, quiet_judged q, rfl⟩

variable (hon : s.rateOn r.ply = true) (hpin : mget (s.flow r.cam).pin i 0 = 0) (hnew : mget? (s.flow r.cam).judged i ≠ some t)
include hon hpin hnew

/-- R254: one judgement, by the entries of the latched table and the quiet boundaries before. -/
theorem rateLoop_judges (h : Nat) :
    let f := s.flow r.cam
    let d := mget f.div i 1
    let q := mget f.quiet i 0 + 1
    let quiet := policyN s.img 0x0613 r.ply 30
    s.rateLoop r i h t =
      if policyN s.img 0x0612 r.ply 1 ≤ (f.table i).entries.length then
        if 1 < d then (s.judged r i t 0).setDivider r i h d (d - 1) else s.judged r i t 0
      else if quiet ≤ q ∧ d < policyN s.img 0x0611 r.ply 4 then
        (s.judged r i t (if quiet ≤ q then 0 else q)).setDivider r i h d (d + 1)
      else s.judged r i t (if quiet ≤ q then 0 else q) := by
  have hdue : ¬(!s.rateOn r.ply || mget (s.flow r.cam).pin i 0 != 0 || mget? (s.flow r.cam).judged i == some t) = true := by
    simp [hon, hpin, hnew]
  unfold State.rateLoop
  exact if_neg hdue

/-- R254: a table of many entries asks for the next lower divider. -/
theorem rateLoop_busy (h : Nat) (hmany : policyN s.img 0x0612 r.ply 1 ≤ ((s.flow r.cam).table i).entries.length) :
    let d := mget (s.flow r.cam).div i 1
    s.rateLoop r i h t = if 1 < d then (s.judged r i t 0).setDivider r i h d (d - 1) else s.judged r i t 0 :=
  (rateLoop_judges hon hpin hnew h).trans (if_pos hmany)

variable (hfew : ((s.flow r.cam).table i).entries.length < policyN s.img 0x0612 r.ply 1)
include hfew

/-- R254: one more quiet boundary, before the last, is counted. -/
theorem rateLoop_quiet (h : Nat) (hshort : mget (s.flow r.cam).quiet i 0 + 1 < policyN s.img 0x0613 r.ply 30) :
    s.rateLoop r i h t = s.judged r i t (mget (s.flow r.cam).quiet i 0 + 1) := by
  refine ((rateLoop_judges hon hpin hnew h).trans (if_neg hfew.not_ge)).trans ((if_neg fun hmoves => hshort.not_ge hmoves.1).trans ?_)
  rw [if_neg hshort.not_ge]

/-- R254: the last quiet boundary asks for the next higher divider. -/
theorem rateLoop_lastQuiet (h : Nat) (hlong : policyN s.img 0x0613 r.ply 30 ≤ mget (s.flow r.cam).quiet i 0 + 1) :
    let d := mget (s.flow r.cam).div i 1
    s.rateLoop r i h t = if d < policyN s.img 0x0611 r.ply 4 then (s.judged r i t 0).setDivider r i h d (d + 1) else s.judged r i t 0 := by
  refine ((rateLoop_judges hon hpin hnew h).trans (if_neg hfew.not_ge)).trans ?_
  simp only [hlong, true_and, if_true]

end

/-! ### Augmentation (R259, R260) -/

theorem augAllowed_iff (s : State) (h : Nat) : s.augAllowed h = true ↔
    (s.ply (s.hank h).card.augPly).training = true ∧ ∃ r, hankRec? s.img h (s.hank h).card.augPly = some r ∧ bit r.flags 1 = true := by
  unfold State.augAllowed
  dsimp only
  rw [Bool.and_eq_true]
  cases hankRec? s.img h (s.hank h).card.augPly <;> simp

theorem exec_augDoorbell {s t : State} {who : Requester} {count : Nat} (h : s.reqHank who ≠ noHank)
    (ht : (fresh s).augDoorbell (s.crdBank who) count = t) : exec (.augDoorbell who count) s = .next t.served := by
  subst ht
  exact congrArg Host.Outcome.next (asHank_of_hank (s := fresh s) h _)

/-- R259, R260: a record that is due and is read leaves the ring, and what it names is made. -/
theorem augRecord_made {s s1 : State} {h a : Nat} {b : List Byte} (hallowed : s.augAllowed h = true) (hpending : 0 < (s.hank h).card.augPending)
    (hring : ringSize (s.hank h).card.augLog2 ≠ 0) (hunit : s.counts 26 = true)
    (hread : (s.setHank h { s.hank h with card := { (s.hank h).card with
      augPending := (s.hank h).card.augPending - 1, augTaken := ((s.hank h).card.augTaken + 1) % 65536 } }).engRead h cardReq
        ((s.hank h).card.augBase + 64 * ((s.hank h).card.augTaken % ringSize (s.hank h).card.augLog2)) 64 = (.ok, a, b, s1)) :
    s.augRecord h = s1.augSampleOf h b := by
  have hdue : ¬((s.hank h).card.augPending = 0 ∨ ringSize (s.hank h).card.augLog2 = 0 ∨ (!s.counts 26) = true
      ∨ (!s.augAllowed h) = true) := by
    simp [hallowed, hpending.ne', hring, hunit]
  unfold State.augRecord
  simp only [if_neg hdue, hread]
  exact if_pos trivial

/-! ### Batch queues (R263, R264, R268) -/

@[simp] theorem State.queue_setQueue (s : State) (h k : Nat) (q : BatchQ) : (s.setQueue h k q).queue h k = q := by
  simp [State.queue, State.setQueue]

theorem exec_bqCfgWrite {s t : State} {who : Requester} {k : Nat} {v : Word} (h : s.reqHank who ≠ noHank) (hk : k < 16)
    (ht : (fresh s).bqCfg (s.crdBank who) k v.toNat = t) : exec (.bqCfgWrite who k v) s = .next t.served := by
  have hcmd : exec (.bqCfgWrite who k v) s = .next ((fresh s).bqCfg (s.crdBank who) (k % 16) v.toNat).served :=
    congrArg Host.Outcome.next (asHank_of_hank (s := fresh s) h _)
  rw [hcmd, Nat.mod_eq_of_lt hk, ht]

section
variable {s : State} {h k v : Nat}

theorem bqCfg_disabled (hq : (s.queue h k).enable = false) : s.bqCfg h k v = s.setQueue h k { s.queue h k with
    event := v / 2 ^ 16, size := v / 256 % 256 + 1, ply := v / 16 % 16, modeTick := bit v 1, enable := bit v 0 } :=
  if_neg (by simp [hq])

theorem bqCfg_enabled (hq : (s.queue h k).enable = true) (hv : bit v 0 = true) : s.bqCfg h k v = s :=
  (if_pos hq).trans (if_pos hv)

/-- R263: clearing ENABLE closes the open batch. -/
theorem bqCfg_disables (hq : (s.queue h k).enable = true) (hv : bit v 0 = false) : ((s.bqCfg h k v).queue h k).enable = false := by
  have hcloses : s.bqCfg h k v = _ := (if_pos hq).trans (if_neg (by simp [hv]))
  rw [hcloses, State.queue_setQueue]

/-- R264, R268: the oldest closed batch's record is written while the ring has room. -/
theorem batchWrite_room {b : List Byte} {rest : List (List Byte)} (hclosed : (s.queue h k).closed = b :: rest)
    (hroom : (s.queue h k).room = true) :
    let q := s.queue h k
    s.batchWrite h k = ((s.setQueue h k { q with closed := rest, head := (q.head + 1) % 65536 }).engWrite h cardReq
      (q.ring + q.head % ringSize q.log2 * b.length) b).2.2.hankPulse h q.event := by
  have hfull : ¬(!(s.queue h k).room) = true := by simp [hroom]
  unfold State.batchWrite
  simp only [hclosed, if_neg hfull]

theorem exec_batchRecordWrite (hk : k < 16) : exec (.batchRecordWrite h k) s = .next ((fresh s).batchWrite h k) := by
  have hcmd : exec (.batchRecordWrite h k) s = .next ((fresh s).batchWrite h (k % 16)) := rfl
  rwa [Nat.mod_eq_of_lt hk] at hcmd

end

end Sys2Proof.Machine
end

section
namespace Sys2Proof.Proofs

open Machine Safety

/-- Settles O34: the loop by its one judgement of a boundary, augmentation by what the hank may do, the queue by its ENABLE. -/
theorem samplesAreTakenAndBatched : Obligations.SamplesAreTakenAndBatched := by
  refine ⟨fun s c i h r hr hi h0 hon hroom => ?_, fun s who count hwho => ?_, fun s who k v hk hwho => ?_⟩
  · intro f d hpin hnew
    rw [exec_samplingRateLoop hr hi h0]
    refine ⟨fun hmany => ?_, fun hfew hshort => ?_, fun hfew hlong => ?_⟩
    · exact ⟨_, congrArg Host.Outcome.next (rateLoop_busy (s := fresh s) hon hpin hnew h hmany), judged_moves (s := fresh s) hroom h 0 (d - 1)⟩
    · exact ⟨_, congrArg Host.Outcome.next (rateLoop_quiet (s := fresh s) hon hpin hnew hfew h hshort), congrArg (mget · i 1) (div_judged _),
        quiet_judged _⟩
    · exact ⟨_, congrArg Host.Outcome.next (rateLoop_lastQuiet (s := fresh s) hon hpin hnew hfew h hlong),
        judged_moves (s := fresh s) hroom h 0 (d + 1)⟩
  · intro h k may
    have hallowed : (fresh s).augAllowed h = true ↔ may := augAllowed_iff (fresh s) h
    refine ⟨fun hmay => ?_, fun hmay => ?_, fun hmay hpending hring hunit a b s1 hread => ?_⟩
    · exact exec_augDoorbell hwho (if_pos (hallowed.mpr hmay))
    · exact exec_augDoorbell hwho (if_neg (mt hallowed.mp hmay))
    · exact congrArg Host.Outcome.next (augRecord_made (s := fresh s) (hallowed.mpr hmay) hpending hring hunit hread)
  · intro h q
    refine ⟨fun hq => ?_, fun hq hv => ?_, fun hq hv => ?_, fun b rest hclosed hroom => ?_⟩
    · exact exec_bqCfgWrite hwho hk (bqCfg_disabled (s := fresh s) hq)
    · exact exec_bqCfgWrite hwho hk (bqCfg_enabled (s := fresh s) hq hv)
    · exact ⟨_, exec_bqCfgWrite hwho hk rfl, bqCfg_disables (s := fresh s) hq hv⟩
    · exact (exec_batchRecordWrite hk).trans (congrArg Host.Outcome.next (batchWrite_room (s := fresh s) hclosed hroom))

end Sys2Proof.Proofs
end

section
namespace Sys2Proof.Proofs

open Machine

/-- Settles O1: the two branches of `step`, by the queue's shape. -/
theorem stepRunsFrontCommand : Obligations.StepRunsFrontCommand := by
  refine ⟨fun s c rest h => ?_, fun s h => ?_⟩ <;> rw [step, h]

end Sys2Proof.Proofs
end

section
/-! SUPPORT. What leaves main memory as it is, and what keeps it canonical: the two functions that write it, `State.scrub` and `State.putBytes`, and
all that calls them (05). -/

namespace Sys2Proof.Machine

open Safety

/-! ### Functions that leave main memory as it is, in the order of the model -/

theorem mem_foldl {α : Type} {f : State → α → State} (h : ∀ s x, (f s x).mem = s.mem) (l : List α) (s : State) :
    (l.foldl f s).mem = s.mem := foldl_keeps State.mem h l s

theorem mem_of_sansReads {s t : State} (h : t.sansReads = s.sansReads) : t.mem = s.mem := (congrArg State.mem h :)

theorem mem_of_sansRecords {s t : State} (h : t.sansRecords = s.sansRecords) : t.mem = s.mem := (congrArg State.mem h :)

section
variable (s : State)

/-! #### Ops -/

@[simp] theorem mem_draw : (s.draw).2.mem = s.mem := by rfl

@[simp] theorem mem_turnAway (who : Requester) : (s.turnAway who).mem = s.mem := by
  unfold State.turnAway
  split <;> rfl

theorem mem_asHank {f : State → State} (who : Requester) (h : (f s).mem = s.mem) : (s.asHank who f).mem = s.mem := by
  unfold State.asHank
  split
  · simp
  · exact h

@[simp] theorem mem_pend (c i : Nat) : (s.pend c i).mem = s.mem := by rfl

@[simp] theorem mem_deliver (e : Nat) : (s.deliver e).mem = s.mem := by
  grind [State.deliver, !State.setFn_mem, !State.emit_mem, !mem_pend]

@[simp] theorem mem_pulseN (e n : Nat) : (s.pulseN e n).mem = s.mem := by
  unfold State.pulseN
  split <;> simp

@[simp] theorem mem_pulse (e : Nat) : (s.pulse e).mem = s.mem := by
  simp [State.pulse]

@[simp] theorem mem_jRing (e : JEntry) : (s.jRing e).mem = s.mem := by
  grind [State.jRing, !mem_pulse]

@[simp] theorem mem_jFact (e : JEntry) : (s.jFact e).mem = s.mem := by
  grind [State.jFact, !mem_jRing]

@[simp] theorem mem_programArea (e : Nat) : (s.programArea e).mem = s.mem := by rfl

@[simp] theorem mem_programEpoch (e : Nat) (ok : Bool) : (s.programEpoch e ok).mem = s.mem := by
  grind [State.programEpoch, !mem_programArea]

@[simp] theorem mem_beginEpoch (e : Nat) (ok : Bool) (oldSeq count : Nat) : (s.beginEpoch e ok oldSeq count).mem = s.mem := by
  simp [State.beginEpoch]

@[simp] theorem mem_jRoll : s.jRoll.mem = s.mem := by
  unfold State.jRoll
  split <;> simp

@[simp] theorem mem_fact (e : JEntry) : (s.fact e).mem = s.mem := by
  simp [State.fact]

@[simp] theorem mem_change (es : List JEntry) : (s.change es).2.mem = s.mem := by
  grind [State.change, !mem_jRing, !mem_jRoll, mem_foldl]

@[simp] theorem mem_refusal (e : JEntry) : (s.refusal e).mem = s.mem := by
  grind [State.refusal, !mem_jRing, !mem_jRoll]

@[simp] theorem mem_retier : s.retier.mem = s.mem := by
  grind [State.retier, !mem_pulse, !mem_fact]

@[simp] theorem mem_writeUnit (i st auth : Nat) : (s.writeUnit i st auth).mem = s.mem := by
  simp [State.writeUnit]

@[simp] theorem mem_report (i cause : Nat) : (s.report i cause).mem = s.mem := by rfl

/-! #### Memory -/

@[simp] theorem mem_tagTouch (line : Nat) (dirty : Bool) : (s.tagTouch line dirty).mem = s.mem := by
  grind [State.tagTouch]

@[simp] theorem mem_tagUpdate (lo hi : Nat) : (s.tagUpdate lo hi).mem = s.mem := by
  grind [State.tagUpdate, !mem_tagTouch, mem_foldl]

@[simp] theorem mem_accessError (h a kind : Nat) : (s.accessError h a kind).mem = s.mem := by rfl

@[simp] theorem mem_decodeError (req a : Nat) : (s.decodeError req a).mem = s.mem := by rfl

@[simp] theorem mem_countError (a kind req : Nat) : (s.countError a kind req).mem = s.mem := by
  unfold State.countError
  split <;> rfl

@[simp] theorem mem_correctedError (a req : Nat) : (s.correctedError a req).mem = s.mem := by
  grind [State.correctedError, !mem_pulse, !mem_report, !mem_countError]

@[simp] theorem mem_unlog (lo hi : Nat) : (s.unlog lo hi).mem = s.mem := by rfl

@[simp] theorem mem_uncorrectable (a req : Nat) : (s.uncorrectable a req).mem = s.mem := by
  grind [State.uncorrectable, !mem_pulse, !mem_report, !mem_countError]

@[simp] theorem mem_flip (a kind : Nat) : (s.flip a kind).mem = s.mem := by
  unfold State.flip
  split <;> rfl

@[simp] theorem mem_mend (lo hi : Nat) : (s.mend lo hi).mem = s.mem := by rfl

@[simp] theorem mem_corrected (a u req : Nat) : (s.corrected a u req).mem = s.mem := by
  simp [State.corrected]

@[simp] theorem mem_correctAll (a req : Nat) (us : List Nat) : (s.correctAll a req us).mem = s.mem := by
  simp [State.correctAll, mem_foldl]

@[simp] theorem mem_tagRebuild (a req : Nat) : (s.tagRebuild a req).mem = s.mem := mem_of_sansReads (sansReads_tagRebuild ..)

@[simp] theorem mem_tagFetch (a req : Nat) : (s.tagFetch a req).mem = s.mem := by
  grind [State.tagFetch, !mem_tagTouch, !mem_correctAll, !mem_tagRebuild]

@[simp] theorem mem_heldBytes (a n : Nat) : (s.heldBytes a n).2.mem = s.mem := by
  grind [State.heldBytes, !mem_draw]

@[simp] theorem mem_poisoned (n : Nat) : (s.poisoned n).2.2.mem = s.mem := by rfl

@[simp] theorem mem_memRead (h req a n : Nat) : (s.memRead h req a n).2.2.mem = s.mem := by
  grind [State.memRead, !State.setHank_mem, !mem_accessError, !mem_uncorrectable, !mem_correctAll, !mem_tagFetch, !mem_heldBytes,
    !mem_poisoned]

@[simp] theorem mem_engRead (h req a n : Nat) : (s.engRead h req a n).2.2.2.mem = s.mem := mem_of_sansReads (sansReads_engRead ..)

@[simp] theorem mem_engBytes (h req a n : Nat) : (s.engBytes h req a n).2.mem = s.mem := by
  simp [State.engBytes]

/-! #### RegBase -/

@[simp] theorem mem_denyReg (who : Requester) (block off rd : Nat) : (s.denyReg who block off rd).mem = s.mem := by rfl

@[simp] theorem mem_served : s.served.mem = s.mem := by rfl

@[simp] theorem mem_servedWord (w : Nat) : (s.servedWord w).mem = s.mem := by rfl

@[simp] theorem mem_jWrite (who : Requester) (block off hank old new : Nat) : (s.jWrite who block off hank old new).2.mem = s.mem := by
  simp [State.jWrite]

@[simp] theorem mem_overrode (p : Nat) : (s.overrode p).mem = s.mem := by
  unfold State.overrode
  split <;> rfl

/-! #### Clock -/

@[simp] theorem mem_timeFact (old : Nat) : (s.timeFact old).mem = s.mem := by
  simp [State.timeFact]

@[simp] theorem mem_timeStep (d : Int) : (s.timeStep d).mem = s.mem := by
  simp [State.timeStep]

@[simp] theorem mem_timeSlew (d : Int) (add : Bool) : (s.timeSlew d add).mem = s.mem := by rfl

@[simp] theorem mem_correct (d : Int) (add : Bool) : (s.correct d add).mem = s.mem := by
  grind [State.correct, !mem_timeStep, !mem_timeSlew]

@[simp] theorem mem_setSync (st : Nat) : (s.setSync st).mem = s.mem := by
  simp [State.setSync]

@[simp] theorem mem_ptpSync (d : Int) : (s.ptpSync d).mem = s.mem := by
  grind [State.ptpSync, !mem_correct, !mem_setSync]

@[simp] theorem mem_phaseAdj (who : Requester) (v : Nat) : (s.phaseAdj who v).mem = s.mem := by
  grind [State.phaseAdj, !mem_denyReg, !mem_served, !mem_correct]

/-! #### Hanks -/

@[simp] theorem mem_hnkEnd (h code : Nat) : (s.hnkEnd h code).mem = s.mem := by rfl

@[simp] theorem mem_hnkBusy (h : Nat) : (s.hnkBusy h).mem = s.mem := by rfl

@[simp] theorem mem_hnkDone (h : Nat) : (s.hnkDone h).mem = s.mem := by
  grind [State.hnkDone, !State.setHank_mem]

@[simp] theorem mem_voidGrant (g : Nat) : (s.voidGrant g).mem = s.mem := by
  grind [State.voidGrant, !mem_fact, !mem_tagUpdate]

@[simp] theorem mem_voidGrants (p : Grant → Bool) : (s.voidGrants p).mem = s.mem := by
  simp [State.voidGrants, mem_foldl]

@[simp] theorem mem_voidRange (lo hi : Nat) : (s.voidRange lo hi).mem = s.mem := by
  simp [State.voidRange]

@[simp] theorem mem_startScrub (slot : Nat) (waiter : Option Nat) : (s.startScrub slot waiter).mem = s.mem := by
  simp [State.startScrub]

@[simp] theorem mem_regionDestroy (who : Requester) (slot : Nat) : (s.regionDestroy who slot).mem = s.mem := by
  grind [State.regionDestroy, !mem_change, !mem_hnkEnd, !mem_hnkBusy, !mem_startScrub]

theorem mem_of_change {t : State} {es : List JEntry} {b : Bool} (h : s.change es = (b, t)) : t.mem = s.mem := by
  rw [← mem_change s es, h]

@[simp] theorem mem_grant (who : Requester) (peer : Nat) : (s.grant who peer).mem = s.mem := by
  unfold State.grant
  extract_lets h k base len inMem free mine
  split_ifs
  iterate 5 exact mem_hnkEnd ..
  split
  rename_i n s1 hd
  have h1 : s1.mem = s.mem := by rw [← mem_draw s, hd]
  extract_lets g
  split <;> rename_i hc
  · rw [mem_hnkEnd, mem_of_change s1 hc, h1]
  · rw [mem_hnkEnd, State.setHank_mem, mem_tagUpdate, ← h1]
    exact (mem_of_change s1 hc :)

@[simp] theorem mem_revoke (who : Requester) (g : Nat) : (s.revoke who g).mem = s.mem := by
  grind [State.revoke, !mem_change, !mem_tagUpdate, !mem_hnkEnd, !mem_hnkBusy]

@[simp] theorem mem_revokeComplete (g : Nat) : (s.revokeComplete g).mem = s.mem := by
  grind [State.revokeComplete, !mem_hnkDone]

@[simp] theorem mem_poolWaitAdd (h p q cls : Nat) : (s.poolWaitAdd h p q cls).mem = s.mem := by
  grind [State.poolWaitAdd, !State.setPool_mem, !mem_accessError]

@[simp] theorem mem_poolScrubDone (p q i : Nat) : (s.poolScrubDone p q i).mem = s.mem := by
  grind [State.poolScrubDone, !State.setPool_mem, !mem_pulse]

/-! #### Streams -/

@[simp] theorem mem_consume (e n : Nat) : (s.consume e n).2.mem = s.mem := by rfl

@[simp] theorem mem_clearPort (e : Nat) : (s.clearPort e).mem = s.mem := by
  unfold State.clearPort
  exact mem_foldl (by intros; rfl) _ _

@[simp] theorem mem_grantFlit (n : Nat) (r : Route) (forced : Bool) : (s.grantFlit n r forced).mem = s.mem := by
  unfold State.grantFlit
  split
  · rfl
  · exact mem_foldl (f := fun s m => s.setRoute m { s.route m with passed := (s.route m).passed + 1 }) (fun _ _ => rfl) _ _

@[simp] theorem mem_grantFlits (x1 : Nat) : (State.grantFlits x1 s).mem = s.mem := by
  fun_induction State.grantFlits x1 s <;> grind [!mem_grantFlit]

@[simp] theorem mem_arbitrate : s.arbitrate.mem = s.mem := by
  simp [State.arbitrate]

@[simp] theorem mem_sendPacket (e h : Nat) (bs : List Byte) : (s.sendPacket e h bs).mem = s.mem := by
  unfold State.sendPacket
  exact (mem_arbitrate _).trans (mem_foldl (by intros; rfl) _ _)

/-! #### TokPass -/

@[simp] theorem mem_tokRead (h a n : Nat) : (s.tokRead h a n).2.mem = s.mem := by
  grind [State.tokRead, !mem_engRead]

@[simp] theorem mem_openDict (h a : Nat) (fold : Bool) : (s.openDict h a fold).2.mem = s.mem := by
  grind [State.openDict, !mem_tokRead]

@[simp] theorem mem_readNode (h : Nat) (d : Dict) (n : Nat) : (s.readNode h d n).2.mem = s.mem := by
  grind [State.readNode, !mem_tokRead]

@[simp] theorem mem_findEdge (h : Nat) (d : Dict) (first x : Nat) (x1 : Nat) (x2 : Int) (x3 : Int) :
    (s.findEdge h d first x x1 x2 x3).2.mem = s.mem := by
  fun_induction s.findEdge h d first x x1 x2 x3 <;> grind [!mem_tokRead]

@[simp] theorem mem_walk (h : Nat) (d : Dict) (node : Node) (len : Nat) (best : Option (Nat × Nat)) (x1 : List (Byte × ByteKind)) :
    (s.walk h d node len best x1).2.mem = s.mem := by
  fun_induction s.walk h d node len best x1 <;> grind [!mem_readNode, !mem_findEdge]

@[simp] theorem mem_scan (h : Nat) (d : Dict) (root : Node) (m : TokMode) (x1 : Nat) (x2 : List (Byte × ByteKind)) (x3 : Toks) :
    (s.scan h d root m x1 x2 x3).2.mem = s.mem := by
  fun_induction s.scan h d root m x1 x2 x3 <;> grind [!mem_walk]

@[simp] theorem mem_stringOf (r : TokRun) (packets : List Packet) (i : Nat) : (s.stringOf r packets i).2.mem = s.mem := by
  grind [State.stringOf, !mem_tokRead]

@[simp] theorem mem_tokCount (invalid bytes : Nat) : (s.tokCount invalid bytes).mem = s.mem := by rfl

@[simp] theorem mem_tokPackets (r : TokRun) : (s.tokPackets r).2.mem = s.mem := by
  unfold State.tokPackets
  split <;> rfl

/-! #### Contexts -/

@[simp] theorem mem_setCtx (p c : Nat) (x : Ctx) : (s.setCtx p c x).mem = s.mem := by rfl

@[simp] theorem mem_claimCtx (p c h : Nat) : (s.claimCtx p c h).mem = s.mem := by rfl

@[simp] theorem mem_endCtx (p c jobMax narrowed clips : Nat) (stopped : Bool) :
    (s.endCtx p c jobMax narrowed clips stopped).mem = s.mem := by rfl

@[simp] theorem mem_quantCounts (clips invalid : Nat) : (s.quantCounts clips invalid).mem = s.mem := by rfl

/-! #### WhlPass -/

@[simp] theorem mem_whlRead (req : Nat) (w : Work) (a n : Nat) : (s.whlRead req w a n).2.mem = s.mem := by
  grind [State.whlRead, !mem_engRead]

@[simp] theorem mem_loadB (req : Nat) (d : WDesc) (x1 : Nat) (x2 : Nat) (x3 : Work) : (s.loadB req d x1 x2 x3).2.mem = s.mem := by
  fun_induction s.loadB req d x1 x2 x3 <;> grind [!mem_whlRead]

@[simp] theorem mem_loadParams (req : Nat) (d : WDesc) (w : Work) : (s.loadParams req d w).2.mem = s.mem := by
  grind [State.loadParams, !mem_whlRead]

@[simp] theorem mem_loadA (req : Nat) (d : WDesc) (h m : Nat) (w : Work) : (s.loadA req d h m w).2.mem = s.mem := by
  grind [State.loadA, !mem_whlRead]

@[simp] theorem mem_loadAs (req : Nat) (d : WDesc) (h : Nat) (x1 : List Nat) (x2 : Work) : (s.loadAs req d h x1 x2).2.mem = s.mem := by
  fun_induction s.loadAs req d h x1 x2 <;> grind [!mem_loadA]

@[simp] theorem mem_drawRow (x1 : List (Option Int)) : (s.drawRow x1).2.mem = s.mem := by
  fun_induction s.drawRow x1 <;> grind [!mem_draw]

@[simp] theorem mem_requant (w : Work) (d : WDesc) (n : Nat) (x : Int) : (s.requant w d n x).2.mem = s.mem := by
  grind [State.requant, !mem_draw]

@[simp] theorem mem_rowZ (d : WDesc) (shape first h m : Nat) (w : Work) (x1 : Nat) (x2 : Nat) (x3 : List Int) :
    (s.rowZ d shape first h m w x1 x2 x3).2.2.mem = s.mem := by
  fun_induction s.rowZ d shape first h m w x1 x2 x3 <;> grind [!mem_requant]

@[simp] theorem mem_rowAct (w : Work) (d : WDesc) (tables : Nat) (zs : List Int) : (s.rowAct w d tables zs).2.mem = s.mem := by
  grind [State.rowAct, !mem_drawRow]

@[simp] theorem mem_oldOrNew (a : Nat) (bs : List Byte) : (s.oldOrNew a bs).2.mem = s.mem := by rfl

@[simp] theorem mem_whlPackets (a : Nat) (r : WhlRun) : (s.whlPackets a r).2.mem = s.mem := by
  unfold State.whlPackets
  split <;> rfl

/-! #### Jobs -/

@[simp] theorem mem_setJobs (l : List Job) : (s.setJobs l).mem = s.mem := by rfl

@[simp] theorem mem_updJob (id : Nat) (f : Job → Job) : (s.updJob id f).mem = s.mem := by rfl

@[simp] theorem mem_dropJob (id : Nat) : (s.dropJob id).mem = s.mem := by rfl

@[simp] theorem mem_admitJob (id : Nat) : (s.admitJob id).mem = s.mem := by rfl

@[simp] theorem mem_hankPulse (h e : Nat) : (s.hankPulse h e).mem = s.mem := by
  grind [State.hankPulse, !mem_pulse, !mem_accessError]

@[simp] theorem mem_countEnd (j : Job) (st : JobStatus) : (s.countEnd j st).mem = s.mem := by
  unfold State.countEnd
  split <;> rfl

@[simp] theorem mem_rhoNote (j : Job) : (s.rhoNote j).mem = s.mem := by rfl

@[simp] theorem mem_whlCounts (r : WhlRun) : (s.whlCounts r).mem = s.mem := by
  unfold State.whlCounts
  dsimp only
  have h := mem_foldl (f := fun (s : State) (e : Nat × Nat) => s.setTile e.1 { s.tile e.1 with accSat := satAdd 32 (s.tile e.1).accSat e.2
    })
    (fun _ _ => rfl) r.satTile (s.quantCounts r.clips r.invalid)
  split <;> simp [h]

@[simp] theorem mem_whlRelease (a cycles : Nat) (r : WhlRun) : (s.whlRelease a cycles r).mem = s.mem := by
  unfold State.whlRelease
  dsimp only
  rw [mem_updJob]
  split
  · rw [mem_foldl (by intros; rfl)]
    simp
  · rw [mem_foldl (by intros; rfl), mem_foldl (by intros; rfl)]
    simp

@[simp] theorem mem_tokRelease (r : TokRun) : (s.tokRelease r).mem = s.mem := by
  unfold State.tokRelease
  split <;> simp

@[simp] theorem mem_tombstone (j : Job) (peer lenOut reason : Nat) : (s.tombstone j peer lenOut reason).mem = s.mem := by rfl

@[simp] theorem mem_fillSlots (x1 : Nat) : (s.fillSlots x1).mem = s.mem := by
  fun_induction s.fillSlots x1 <;> grind [!mem_admitJob]

/-! #### Journal -/

@[simp] theorem mem_jAck (source : Option Nat) (v : Nat) : (s.jAck source v).mem = s.mem := by
  unfold State.jAck
  dsimp only
  repeat' split
  all_goals simp

@[simp] theorem mem_answer (from_ : Authority) (status holder : Nat) (data : List Nat) :
    (s.answer from_ status holder data).mem = s.mem := by rfl

@[simp] theorem mem_startFlush : s.startFlush.mem = s.mem := by
  grind [State.startFlush]

@[simp] theorem mem_endFlush : s.endFlush.mem = s.mem := by rfl

@[simp] theorem mem_failFlush : s.failFlush.mem = s.mem := by rfl

/-! #### Audio -/

@[simp] theorem mem_setVoice (v : Nat) (x : Voice) : (s.setVoice v x).mem = s.mem := by rfl

@[simp] theorem mem_setAmp (a : Nat) (x : Amp) : (s.setAmp a x).mem = s.mem := by rfl

@[simp] theorem mem_queueVoice (v : Nat) (d : Voice1) : (s.queueVoice v d).mem = s.mem := by
  grind [State.queueVoice, !mem_setVoice]

@[simp] theorem mem_queueAt (v h addr : Nat) : (s.queueAt v h addr).mem = s.mem := by
  grind [State.queueAt, !mem_engRead, !mem_setVoice, !mem_queueVoice]

@[simp] theorem mem_endClip (v : Nat) : (s.endClip v).mem = s.mem := by
  grind [State.endClip, !mem_hankPulse, !mem_setVoice]

@[simp] theorem mem_voiceCmd (who : Requester) (v hi : Nat) : (s.voiceCmd who v hi).mem = s.mem := by
  grind [State.voiceCmd, !mem_denyReg, !mem_served, !mem_queueAt]

@[simp] theorem mem_voiceHalt (who : Requester) (v w : Nat) : (s.voiceHalt who v w).mem = s.mem := by
  grind [State.voiceHalt, !mem_denyReg, !mem_served, !mem_setVoice]

@[simp] theorem mem_voiceSample (late : List Nat) (v : Nat) : (s.voiceSample late v).2.mem = s.mem := by
  grind [State.voiceSample, !mem_engRead, !mem_setVoice]

@[simp] theorem mem_audioFrame (late : List Nat) : (s.audioFrame late).mem = s.mem := by
  unfold State.audioFrame
  generalize List.range 4 = l
  split
  · refine (foldl_keeps (fun acc : List Int × State => acc.2.mem) (fun acc v => mem_voiceSample acc.2 late v) _ _).trans ?_
    refine mem_foldl (fun s v => ?_) _ _
    split <;> simp
  · rfl

@[simp] theorem mem_ampFact (a kind old : Nat) : (s.ampFact a kind old).mem = s.mem := by
  simp [State.ampFact]

@[simp] theorem mem_ampMute (a : Nat) : (s.ampMute a).mem = s.mem := by
  simp [State.ampMute]

@[simp] theorem mem_ampFault (a : Nat) : (s.ampFault a).mem = s.mem := by
  grind [State.ampFault, !mem_setAmp, !mem_ampFact, !mem_ampMute]

@[simp] theorem mem_ampRetry (a : Nat) (high : Bool) : (s.ampRetry a high).mem = s.mem := by
  grind [State.ampRetry, !mem_setAmp, !mem_ampFact]

@[simp] theorem mem_ampClear (from_ : Authority) (a : Nat) (low : Bool) : (s.ampClear from_ a low).2.mem = s.mem := by
  grind [State.ampClear, !mem_change, !mem_setAmp, !mem_ampMute]

/-! #### Arbiter -/

@[simp] theorem mem_acceptOne (u : Nat) : (s.acceptOne u).mem = s.mem := by
  grind [State.acceptOne]

@[simp] theorem mem_enqueue (w : MemWork) : (s.enqueue w).mem = s.mem := by
  simp [State.enqueue]

@[simp] theorem mem_grantMem (u i : Nat) (w : MemWork) : (s.grantMem u i w).mem = s.mem := by
  simp [State.grantMem]

@[simp] theorem mem_scrubRead (a : Nat) : (s.scrubRead a).mem = s.mem := by
  grind [State.scrubRead, !mem_uncorrectable, !mem_correctAll]

@[simp] theorem mem_passEnd (a : Nat) (passDone : Bool) : (s.passEnd a passDone).mem = s.mem := by
  grind [State.passEnd, !State.setDram_mem]

/-! #### Batch -/

theorem mem_closeSlot (q : BatchQ) (acc : BatchOut × State) (i : Nat) : (closeSlot q acc i).2.mem = acc.2.mem := by
  unfold closeSlot
  split <;> rfl

@[simp] theorem mem_setQueue (h k : Nat) (q : BatchQ) : (s.setQueue h k q).mem = s.mem := by rfl

@[simp] theorem mem_closeBatch (h k code tick : Nat) : (s.closeBatch h k code tick).mem = s.mem := by
  unfold State.closeBatch
  exact foldl_keeps (fun acc : BatchOut × State => acc.2.mem) (mem_closeSlot _) _ _

@[simp] theorem mem_closeFull (h k : Nat) (x1 : Nat) : (s.closeFull h k x1).mem = s.mem := by
  fun_induction s.closeFull h k x1 <;> grind [!mem_closeBatch]

@[simp] theorem mem_closeAll (h k code tick : Nat) (x1 : Nat) : (s.closeAll h k code tick x1).mem = s.mem := by
  fun_induction s.closeAll h k code tick x1 <;> grind [!mem_closeBatch]

@[simp] theorem mem_closeTick (h k tick : Nat) (x1 : Nat) : (s.closeTick h k tick x1).mem = s.mem := by
  fun_induction s.closeTick h k tick x1 <;> grind [!mem_closeBatch]

@[simp] theorem mem_fillSample (h k id index pool flags tag : Nat) (aug : Bool) :
    (s.fillSample h k id index pool flags tag aug).mem = s.mem := by
  grind [State.fillSample, !mem_setQueue, !mem_closeFull]

@[simp] theorem mem_fillStale (h k orig reason id index pool flags tag : Nat) :
    (s.fillStale h k orig reason id index pool flags tag).mem = s.mem := by
  simp [State.fillStale]

@[simp] theorem mem_claimAwait (h k id reason tag : Nat) (aug : Bool) : (s.claimAwait h k id reason tag aug).mem = s.mem := by rfl

@[simp] theorem mem_closePlyBatches (p code tick : Nat) : (s.closePlyBatches p code tick).mem = s.mem := by
  unfold State.closePlyBatches
  refine mem_foldl (fun s e => mem_foldl (fun s q => ?_) _ _) _ _
  split <;> simp

@[simp] theorem mem_tickPlyBatches (p tick : Nat) : (s.tickPlyBatches p tick).mem = s.mem := by
  unfold State.tickPlyBatches
  refine mem_foldl (fun s e => mem_foldl (fun s q => ?_) _ _) _ _
  split <;> simp

@[simp] theorem mem_dropDecoding (c : Nat) : (s.dropDecoding c).mem = s.mem := by
  simp [State.dropDecoding, mem_foldl]

/-! #### Islands -/

@[simp] theorem mem_rho (p : Nat) (spindle : Bool) : (s.rho p spindle).2.mem = s.mem := by
  grind [State.rho, !mem_draw]

@[simp] theorem mem_command (i mv : Nat) : (s.command i mv).mem = s.mem := by rfl

@[simp] theorem mem_raise (i op ply load rho : Nat) : (s.raise i op ply load rho).mem = s.mem := by
  simp [State.raise]

@[simp] theorem mem_lower (i op : Nat) : (s.lower i op).mem = s.mem := by rfl

@[simp] theorem mem_lowerAsked (i op ply load rho : Nat) : (s.lowerAsked i op ply load rho).mem = s.mem := by
  grind [State.lowerAsked, !mem_change, !mem_lower]

@[simp] theorem mem_decideIsland (i op ply load rho : Nat) : (s.decideIsland i op ply load rho).mem = s.mem := by
  grind [State.decideIsland, !State.setIsl_mem, !mem_raise, !mem_lowerAsked]

@[simp] theorem mem_pointFact (kind i old new : Nat) : (s.pointFact kind i old new).mem = s.mem := by
  unfold State.pointFact
  split <;> simp

@[simp] theorem mem_forceDown (i op : Nat) : (s.forceDown i op).mem = s.mem := by
  grind [State.forceDown, !State.setIsl_mem, !mem_lower, !mem_pointFact]

@[simp] theorem mem_applyCaps : s.applyCaps.mem = s.mem := by
  simp [State.applyCaps, mem_foldl]

@[simp] theorem mem_appDecide : s.appDecide.mem = s.mem := by
  unfold State.appDecide
  split <;> simp

/-! #### Units -/

@[simp] theorem mem_loseTile (t : Nat) : (s.loseTile t).mem = s.mem := by
  unfold State.loseTile
  refine mem_foldl (fun s e => ?_) _ _
  exact mem_foldl (by intros; rfl) _ _

@[simp] theorem mem_startCheck (i : Nat) : (s.startCheck i).2.mem = s.mem := by
  grind [State.startCheck, !mem_fact, !State.setUnit_mem, !mem_writeUnit]

/-! #### Weave -/

@[simp] theorem mem_wrpEnd (code auth : Nat) : (s.wrpEnd code auth).mem = s.mem := by
  simp [State.wrpEnd]

@[simp] theorem mem_wrpSeq : s.wrpSeq.mem = s.mem := by rfl

@[simp] theorem mem_wrpRefuse (from_ : Authority) (ply code new : Nat) : (s.wrpRefuse from_ ply code new).mem = s.mem := by
  unfold State.wrpRefuse
  split <;> simp

@[simp] theorem mem_wrpOverridden (from_ : Authority) (ply new auth : Nat) : (s.wrpOverridden from_ ply new auth).mem = s.mem := by
  simp [State.wrpOverridden]

@[simp] theorem mem_imageSource : (s.imageSource).2.mem = s.mem := by
  grind [State.imageSource, !mem_engRead]

@[simp] theorem mem_formArray (a : Nat) : (s.formArray a).mem = s.mem := by
  unfold State.formArray
  dsimp only
  repeat' split
  · rfl
  all_goals exact mem_foldl (by intros; rfl) _ _

@[simp] theorem mem_formRoute (n : Nat) : (s.formRoute n).mem = s.mem := by
  grind [State.formRoute, !State.setRoute_mem]

@[simp] theorem mem_formPly (p : Nat) : (s.formPly p).mem = s.mem := by
  simp [State.formPly, mem_foldl]

@[simp] theorem mem_chainArrays (m : Image) (p : Nat) : (s.chainArrays m p).mem = s.mem := by
  unfold State.chainArrays
  dsimp only
  rw [mem_foldl (by intro s r; exact mem_formArray ..)]
  refine mem_foldl (fun s e => ?_) _ _
  exact mem_foldl (by intros; rfl) _ _

@[simp] theorem mem_programRoutes (m : Image) (p : Nat) : (s.programRoutes m p).mem = s.mem := by
  simp [State.programRoutes, mem_foldl]

@[simp] theorem mem_placePool (m : Image) (r : PoolRec) (places : List Placement) : (s.placePool m r places).mem = s.mem := by
  grind [State.placePool, !State.setPool_mem, !mem_draw]

@[simp] theorem mem_applyHank (fresh : Bool) (r : HankRec) : (s.applyHank fresh r).mem = s.mem := by
  unfold State.applyHank
  split <;> rfl

@[simp] theorem mem_unbindHank (h : Nat) : (s.unbindHank h).mem = s.mem := by
  simp [State.unbindHank, mem_foldl]

@[simp] theorem mem_forgetHank (h : Nat) : (s.forgetHank h).mem = s.mem := by rfl

@[simp] theorem mem_hankFacts (h origin : Nat) : (s.hankFacts h origin).mem = s.mem := by
  simp [State.hankFacts]

@[simp] theorem mem_resetContexts (m : Image) (p : Nat) : (s.resetContexts m p).mem = s.mem := by rfl

@[simp] theorem mem_projectChan (m : Image) (n scope : Nat) : (s.projectChan m n scope).mem = s.mem := by rfl

@[simp] theorem mem_plyReset (m : Image) (r : PlyRec) (same : Bool) : (s.plyReset m r same).mem = s.mem := by
  simp [State.plyReset, mem_foldl]

@[simp] theorem mem_projectCore (m : Image) : (s.projectCore m).mem = s.mem := by
  unfold State.projectCore
  dsimp only
  rw [mem_foldl (by intro s n; exact mem_projectChan ..), mem_foldl (by intros; rfl)]

@[simp] theorem mem_projectLinks (m : Image) : (s.projectLinks m).mem = s.mem := by rfl

@[simp] theorem mem_projectPower (m : Image) : (s.projectPower m).mem = s.mem := by
  unfold State.projectPower
  exact mem_foldl (by intros; rfl) _ _

@[simp] theorem mem_projectSteward (m : Image) : (s.projectSteward m).mem = s.mem := by rfl

@[simp] theorem mem_projectDevice (m : Image) : (s.projectDevice m).mem = s.mem := by
  simp [State.projectDevice]

@[simp] theorem mem_raiseRollback (m : Image) : (s.raiseRollback m).mem = s.mem := by rfl

@[simp] theorem mem_weaveDone (places : List Placement) : (s.weaveDone places).mem = s.mem := by
  unfold State.weaveDone
  split
  · rfl
  · rw [mem_retier, mem_wrpEnd, mem_raiseRollback, mem_appDecide, mem_projectDevice, mem_foldl (by intros; rfl),
      mem_programRoutes, mem_foldl (by intros; simp), mem_foldl (by intros; rfl), mem_foldl (by intros; simp),
      mem_foldl (by intros; simp), mem_foldl (by intros; simp)]

@[simp] theorem mem_reweaveCmd (from_ : Authority) (p : Nat) : (s.reweaveCmd from_ p).mem = s.mem := by
  grind [State.reweaveCmd, !mem_change, !mem_wrpEnd, !mem_wrpSeq, !mem_wrpRefuse, !mem_wrpOverridden, !mem_imageSource]

@[simp] theorem mem_clearPending : s.clearPending.mem = s.mem := by rfl

@[simp] theorem mem_cancelCmd (from_ : Authority) (p : Nat) : (s.cancelCmd from_ p).mem = s.mem := by
  grind [State.cancelCmd, !mem_change, !mem_wrpEnd, !mem_wrpSeq, !mem_wrpRefuse, !mem_wrpOverridden, !mem_clearPending]

/-! #### Power -/

@[simp] theorem mem_resumeDecision (i : Nat) : (s.resumeDecision i).mem = s.mem := by
  unfold State.resumeDecision
  split <;> simp

@[simp] theorem mem_dropEntry (i : Nat) (old : Island) (x : Island) : (s.dropEntry i old x).mem = s.mem := by
  simp [State.dropEntry]

@[simp] theorem mem_confirm (i vout monitor : Nat) (statusOk : Bool) : (s.confirm i vout monitor statusOk).mem = s.mem := by
  grind [State.confirm, !State.setIsl_mem, !mem_fact, !mem_resumeDecision, !mem_dropEntry]

@[simp] theorem mem_loseLink (i : Nat) : (s.loseLink i).mem = s.mem := by
  grind [State.loseLink, !State.setIsl_mem, !mem_fact]

@[simp] theorem mem_checkMonitor (i mon : Nat) : (s.checkMonitor i mon).mem = s.mem := by
  grind [State.checkMonitor, !State.setIsl_mem, !mem_report, !mem_dropEntry]

@[simp] theorem mem_retryLink (i : Nat) (ok : Bool) : (s.retryLink i ok).mem = s.mem := by
  grind [State.retryLink, !State.setIsl_mem, !mem_command]

@[simp] theorem mem_thermal (sites : List Nat) : (s.thermal sites).mem = s.mem := by
  grind [State.thermal, !mem_pulse, !mem_fact]

@[simp] theorem mem_throttle : s.throttle.mem = s.mem := by
  grind [State.throttle, !mem_fact, !mem_applyCaps]

@[simp] theorem mem_trip (site temp : Nat) : (s.trip site temp).mem = s.mem := by
  grind [State.trip, !mem_fact, !mem_forceDown, mem_foldl]

@[simp] theorem mem_powerSample (r : PowerReading) : (s.powerSample r).mem = s.mem := by
  unfold State.powerSample
  refine mem_foldl (fun s i => ?_) _ _
  split <;> rfl

@[simp] theorem mem_tdpStep : s.tdpStep.mem = s.mem := by
  grind [State.tdpStep, !mem_applyCaps]

@[simp] theorem mem_enterHold (origin : Nat) : (s.enterHold origin).mem = s.mem := by
  grind [State.enterHold, !mem_fact, !mem_wrpEnd, !mem_clearPending]

@[simp] theorem mem_pwrEnd (code auth : Nat) : (s.pwrEnd code auth).mem = s.mem := by rfl

@[simp] theorem mem_pwrIdle : s.pwrIdle.mem = s.mem := by rfl

@[simp] theorem mem_enterDormant : s.enterDormant.mem = s.mem := by
  grind [State.enterDormant, !mem_fact, !mem_startFlush, !mem_pwrEnd, !mem_pwrIdle]

@[simp] theorem mem_appDown : s.appDown.mem = s.mem := by
  grind [State.appDown, !State.setIsl_mem, !mem_lower, !mem_pointFact]

@[simp] theorem mem_zeroUnits : s.zeroUnits.mem = s.mem := by rfl

@[simp] theorem mem_leaveHold : s.leaveHold.mem = s.mem := by
  simp [State.leaveHold, mem_foldl]

@[simp] theorem mem_endTrip : s.endTrip.mem = s.mem := by
  unfold State.endTrip
  split <;> rfl

@[simp] theorem mem_holdLeft (confirmed : List Nat) : (s.holdLeft confirmed).mem = s.mem := by
  unfold State.holdLeft
  extract_lets s1 s2 _ s3 s4
  have h1 : s1.mem = s.mem := by
    refine mem_foldl (fun s i => ?_) _ _
    dsimp only
    split_ifs <;> simp
  have h3 : s4.mem = s.mem := by
    unfold s4
    rw [mem_pwrEnd, mem_pwrIdle, mem_appDecide]
    exact (mem_zeroUnits s1).trans h1
  split
  · exact (mem_enterHold ..).trans h3
  · exact h3

@[simp] theorem mem_powerOrder (from_ : Authority) (cmd aux : Nat) : (s.powerOrder from_ cmd aux).2.mem = s.mem := by
  unfold State.powerOrder
  dsimp only
  repeat' split
  all_goals grind [!mem_change, !mem_refusal, !mem_endTrip, !mem_leaveHold, !mem_pwrIdle, !mem_enterHold, !mem_enterDormant]

@[simp] theorem mem_pwrResult (x1 : Verdict) : (s.pwrResult x1).mem = s.mem := by
  unfold State.pwrResult
  dsimp only
  repeat' split
  all_goals simp

@[simp] theorem mem_pwrCommand (from_ : Authority) (cmd : Nat) : (s.pwrCommand from_ cmd).mem = s.mem := by
  unfold State.pwrCommand
  split <;> simp

/-! #### Steward -/

@[simp] theorem mem_danger (e : JEntry) : (s.danger e).2.mem = s.mem := by
  grind [State.danger, !mem_change]

@[simp] theorem mem_dangerAfter : s.dangerAfter.mem = s.mem := by
  unfold State.dangerAfter
  split <;> simp

@[simp] theorem mem_mr4 (readings : List (Nat × Bool)) : (s.mr4 readings).mem = s.mem := by
  grind [State.mr4, !mem_fact, !mem_applyCaps]

@[simp] theorem mem_hotRelease : s.hotRelease.mem = s.mem := by
  unfold State.hotRelease
  split <;> simp

@[simp] theorem mem_setFan (f : Nat) (x : Fan) : (s.setFan f x).mem = s.mem := by rfl

@[simp] theorem mem_fanUpdate (rpm : List Nat) : (s.fanUpdate rpm).mem = s.mem := by
  unfold State.fanUpdate
  refine mem_foldl (fun s f => ?_) _ _
  split <;> simp

@[simp] theorem mem_fanFails (f : Nat) : (s.fanFails f).mem = s.mem := by
  unfold State.fanFails
  split <;> simp

@[simp] theorem mem_wdKick (who : Requester) (v : Nat) : (s.wdKick who v).mem = s.mem := by
  grind [State.wdKick, !mem_denyReg, !mem_served]

@[simp] theorem mem_wdClocks : s.wdClocks.mem = s.mem := by
  unfold State.wdClocks
  refine mem_foldl (fun s i => ?_) _ _
  dsimp only
  split <;> simp

@[simp] theorem mem_wdExpire : s.wdExpire.mem = s.mem := by
  simp [State.wdExpire]

@[simp] theorem mem_wdRelease (who : Requester) (sites confirmed : List Nat) : (s.wdRelease who sites confirmed).mem = s.mem := by
  unfold State.wdRelease
  dsimp only
  repeat' split
  · simp
  · rw [mem_served]
    refine mem_foldl (fun s i => ?_) _ _
    split <;> rfl
  · simp

/-! #### Rtp -/

@[simp] theorem mem_reasonN (c r n : Nat) : (s.reasonN c r n).mem = s.mem := by rfl

@[simp] theorem mem_reason (c r : Nat) : (s.reason c r).mem = s.mem := by rfl

@[simp] theorem mem_auEnd (c : Nat) (held : Bool) : (s.auEnd c held).mem = s.mem := by
  grind [State.auEnd, !State.setFlow_mem, !mem_reasonN, !mem_reason]

@[simp] theorem mem_auTake (c : Nat) (held : Bool) (p : Pkt) : (s.auTake c held p).mem = s.mem := by
  grind [State.auTake, !State.setFlow_mem, !mem_auEnd]

@[simp] theorem mem_releaseRun (c : Nat) (held : Bool) (x1 : Nat) : (s.releaseRun c held x1).mem = s.mem := by
  fun_induction s.releaseRun c held x1 <;> grind [!mem_auTake, State.setFlow_mem]

@[simp] theorem mem_skipGap (c : Nat) (held : Bool) : (s.skipGap c held).mem = s.mem := by
  grind [State.skipGap, !State.setFlow_mem, !mem_releaseRun]

@[simp] theorem mem_releaseAll (c : Nat) (held : Bool) (x1 : Nat) : (s.releaseAll c held x1).mem = s.mem := by
  fun_induction s.releaseAll c held x1 <;> grind [!mem_skipGap]

@[simp] theorem mem_gapStart (c : Nat) : (s.gapStart c).mem = s.mem := by rfl

@[simp] theorem mem_reorder (c : Nat) (held : Bool) (p : Pkt) : (s.reorder c held p).mem = s.mem := by
  grind [State.reorder, !State.setFlow_mem, !mem_reason, !mem_releaseRun, !mem_skipGap, !mem_releaseAll, !mem_gapStart]

@[simp] theorem mem_rtcp (r : CamRec) (bytes : List Byte) : (s.rtcp r bytes).mem = s.mem := by
  unfold State.rtcp
  split <;> rfl

/-! #### Carding -/

@[simp] theorem mem_latchRoi (r : CamRec) (i h : Nat) : (s.latchRoi r i h).mem = s.mem := by
  unfold State.latchRoi
  dsimp only
  repeat' split
  all_goals simp

@[simp] theorem mem_latchPly (p : Nat) : (s.latchPly p).mem = s.mem := by
  unfold State.latchPly
  exact mem_foldl (fun s r => mem_foldl (fun _ _ => mem_latchRoi ..) _ _) _ _

@[simp] theorem mem_setDivider (r : CamRec) (i h old new : Nat) : (s.setDivider r i h old new).mem = s.mem := by
  unfold State.setDivider
  grind [!mem_change, State.setFlow_mem]

@[simp] theorem mem_rateLoop (r : CamRec) (i h t : Nat) : (s.rateLoop r i h t).mem = s.mem := by
  grind [State.rateLoop, !State.setFlow_mem, !mem_setDivider]

@[simp] theorem mem_ratePly (p t : Nat) : (s.ratePly p t).mem = s.mem := by
  simp [State.ratePly, mem_foldl]

theorem mem_way (u : State) (h n a : Nat) (l : List (Nat × Nat × Nat × Nat)) : (match (Status.ok, l, u) with
    | (.ok, l, s) =>
      let r := s.engRead h n a 64
      (r.1, l ++ [(leAt r.2.2.1 0 8, leAt r.2.2.1 8 8, leAt r.2.2.1 16 2, leAt r.2.2.1 18 2)], r.2.2.2)
    | x => x).2.2.mem = u.mem := by
  have hr := mem_engRead u h n a 64
  revert hr
  dsimp -proj only
  generalize u.engRead h n a 64 = r
  exact fun hr => hr

@[simp] theorem mem_cacheWays (h id : Nat) : (s.cacheWays h id).2.2.mem = s.mem := by
  have h2 := mem_engRead
  obtain ⟨f, hf⟩ : ∃ f, f = State.cacheWays := ⟨_, rfl⟩
  rw [← hf]
  delta State.cacheWays at hf
  generalize State.engRead = read at h2 hf
  as_aux_lemma =>
    subst hf
    refine foldl_keeps (fun acc : Status × List (Nat × Nat × Nat × Nat) × State => acc.2.2.mem) (fun acc w => ?_) _ _
    obtain ⟨st, l, u⟩ := acc
    cases st
    · exact h2 ..
    all_goals rfl

@[simp] theorem mem_queueTakes (c h k : Nat) : (s.queueTakes c h k).2.mem = s.mem := by
  grind [State.queueTakes, !mem_reason]

@[simp] theorem mem_popAu (c : Nat) : (s.popAu c).mem = s.mem := by rfl

@[simp] theorem mem_augDoorbell (h count : Nat) : (s.augDoorbell h count).mem = s.mem := by
  unfold State.augDoorbell
  split <;> rfl

@[simp] theorem mem_cacheLookup (h id : Nat) : (s.cacheLookup h id).2.mem = s.mem := by
  have h1 := mem_cacheWays
  have h2 := mem_engRead
  obtain ⟨f, hf⟩ : ∃ f, f = State.cacheLookup := ⟨_, rfl⟩
  rw [← hf]
  delta State.cacheLookup at hf
  generalize State.cacheWays = ways at h1 hf
  generalize State.engRead = read at h2 hf
  as_aux_lemma =>
    subst hf
    beta_reduce
    have h3 := h1 s h id
    split <;> rename_i heq <;> rw [heq] at h3 <;> rw [← show _ = s.mem from h3]
    split
    · rfl
    · extract_lets e r
      split <;> exact h2 ..

@[simp] theorem mem_bqCfg (h k v : Nat) : (s.bqCfg h k v).mem = s.mem := by
  grind [State.bqCfg, !mem_setQueue, !mem_closeAll]

/-! #### Swap -/

@[simp] theorem mem_runSlot (part : Nat) (b : Bool) : (s.runSlot part b).mem = s.mem := by rfl

@[simp] theorem mem_setVersion (part : Nat) : (s.setVersion part).mem = s.mem := by rfl

@[simp] theorem mem_startTrial (part : Nat) : (s.startTrial part).mem = s.mem := by
  unfold State.startTrial
  dsimp only
  split <;> rfl

@[simp] theorem mem_swapped (part : Nat) : (s.swapped part).mem = s.mem := by
  simp [State.swapped]

@[simp] theorem mem_formatChange (part e : Nat) : (s.formatChange part e).mem = s.mem := by
  unfold State.formatChange
  dsimp only
  split
  · rfl
  · exact mem_foldl (by intros; rfl) _ _

@[simp] theorem mem_setSwap (e v : Nat) : (s.setSwap e v).mem = s.mem := by rfl

@[simp] theorem mem_engineSwaps : s.engineSwaps.mem = s.mem := by
  grind [State.engineSwaps, !mem_swapped, !mem_formatChange, !mem_setSwap]

@[simp] theorem mem_backSwap : s.backSwap.mem = s.mem := by
  grind [State.backSwap, !mem_swapped, !mem_formatChange, mem_foldl]

@[simp] theorem mem_armTables (p : Nat) : (s.armTables p).mem = s.mem := by rfl

@[simp] theorem mem_tableSwap (a : Nat) : (s.tableSwap a).mem = s.mem := by
  grind [State.tableSwap, !State.setArr_mem, !mem_swapped]

/-! #### Firmware -/

@[simp] theorem mem_writeDir : s.writeDir.mem = s.mem := by rfl

@[simp] theorem mem_setDir (part : Nat) (d : DirEntry) : (s.setDir part d).mem = s.mem := by rfl

@[simp] theorem mem_bootEnd (code auth : Nat) : (s.bootEnd code auth).mem = s.mem := by rfl

@[simp] theorem mem_bootDone (from_ : Authority) (code : Nat) : (s.bootDone from_ code).mem = s.mem := by rfl

@[simp] theorem mem_bootSeq : s.bootSeq.mem = s.mem := by rfl

@[simp] theorem mem_orderSwap (part : Nat) : (s.orderSwap part).mem = s.mem := by
  unfold State.orderSwap
  split
  · exact mem_foldl (by intro s e; exact mem_setSwap ..) _ _
  all_goals rfl

@[simp] theorem mem_commitPart (part : Nat) : (s.commitPart part).mem = s.mem := by
  unfold State.commitPart
  split <;> rfl

@[simp] theorem mem_revertPart (part : Nat) (left : SlotState) : (s.revertPart part left).mem = s.mem := by
  simp [State.revertPart]

@[simp] theorem mem_failTrial (part : Nat) : (s.failTrial part).mem = s.mem := by
  grind [State.failTrial, !mem_fact, !mem_setDir, !mem_revertPart]

@[simp] theorem mem_stageSource (part : Nat) : (s.stageSource part).2.mem = s.mem := by
  grind [State.stageSource, !mem_engRead]

@[simp] theorem mem_stageBytes (from_ : Authority) (part : Nat) (b : List Byte) : (s.stageBytes from_ part b).mem = s.mem := by
  grind [State.stageBytes, !mem_change, !mem_setDir, !mem_bootDone]

@[simp] theorem mem_stageCmd (from_ : Authority) (part : Nat) : (s.stageCmd from_ part).mem = s.mem := by
  grind [State.stageCmd, !mem_answer, !mem_bootDone, !mem_bootSeq, !mem_stageSource, !mem_stageBytes]

@[simp] theorem mem_stageEnd (ok : Bool) : (s.stageEnd ok).mem = s.mem := by
  grind [State.stageEnd, !mem_setDir, !mem_bootEnd]

@[simp] theorem mem_partFact (part code old new : Nat) : (s.partFact part code old new).mem = s.mem := by
  simp [State.partFact]

@[simp] theorem mem_loadPart (part : Nat) : (s.loadPart part).mem = s.mem := by
  unfold State.loadPart
  dsimp only
  repeat' split
  · simp
  · simp
  · refine (mem_foldl (fun s i => ?_) _ _).trans (by simp)
    split <;> simp

@[simp] theorem mem_recovery (env : Option BootEnv) : (s.recovery env).mem = s.mem := by
  unfold State.recovery
  rw [mem_retier, mem_partFact]
  exact mem_foldl (by intros; rfl) _ _

@[simp] theorem mem_restartSteward : s.restartSteward.mem = s.mem := by
  grind [State.restartSteward, !mem_loadPart, !mem_recovery]

@[simp] theorem mem_activatePart (part : Nat) : (s.activatePart part).mem = s.mem := by
  grind [State.activatePart, !mem_setVersion, !mem_setDir, !mem_orderSwap, !mem_restartSteward]

@[simp] theorem mem_activateCmd (from_ : Authority) (part : Nat) : (s.activateCmd from_ part).mem = s.mem := by
  unfold State.activateCmd
  grind [!mem_change, !mem_answer, !mem_bootDone, !mem_activatePart, !mem_bootSeq]

@[simp] theorem mem_commitCmd (from_ : Authority) (part : Nat) : (s.commitCmd from_ part).mem = s.mem := by
  grind [State.commitCmd, !mem_change, !mem_answer, !mem_bootDone, !mem_bootSeq, !mem_commitPart]

@[simp] theorem mem_revertCmd (from_ : Authority) (part : Nat) : (s.revertCmd from_ part).mem = s.mem := by
  unfold State.revertCmd
  grind [!mem_change, !mem_answer, !mem_bootDone, !mem_revertPart, !mem_bootSeq]

@[simp] theorem mem_setOwner (i : Nat) (o : OwnerSlot) : (s.setOwner i o).mem = s.mem := by rfl

@[simp] theorem mem_enrollCmd (from_ : Authority) (key serial r v : Nat) : (s.enrollCmd from_ key serial r v).mem = s.mem := by
  grind [State.enrollCmd, !mem_change, !mem_answer, !mem_bootDone, !mem_bootSeq, !mem_setOwner]

@[simp] theorem mem_revokeCmd (from_ : Authority) (slot id serial signer r v : Nat) :
    (s.revokeCmd from_ slot id serial signer r v).mem = s.mem := by
  grind [State.revokeCmd, !mem_change, !mem_answer, !mem_bootDone, !mem_bootSeq, !mem_setOwner]

@[simp] theorem mem_trialTest (part : Nat) (passed : Bool) : (s.trialTest part passed).mem = s.mem := by
  grind [State.trialTest, !mem_fact, !mem_commitPart, !mem_failTrial]

@[simp] theorem mem_watchdogRestart : s.watchdogRestart.mem = s.mem := by
  unfold State.watchdogRestart
  simp

/-! #### Pcie -/

@[simp] theorem mem_updPci (f : Pci → Pci) : (s.updPci f).mem = s.mem := by rfl

@[simp] theorem mem_resetFn (f : Nat) : (s.resetFn f).mem = s.mem := by rfl

@[simp] theorem mem_setVfs (n : Nat) : (s.setVfs n).mem = s.mem := by rfl

@[simp] theorem mem_flr (f : Nat) : (s.flr f).mem = s.mem := by
  grind [State.flr, !mem_resetFn, !mem_setVfs]

@[simp] theorem mem_linkDown : s.linkDown.mem = s.mem := by
  unfold State.linkDown
  split <;> rfl

@[simp] theorem mem_signal (f v : Nat) : (s.signal f v).mem = s.mem := by rfl

@[simp] theorem mem_sendMsix (f v : Nat) (cfg : Option Bool) : (s.sendMsix f v cfg).mem = s.mem := by
  grind [State.sendMsix, !State.setFn_mem, !State.emit_mem]

@[simp] theorem mem_postReq (f tail : Nat) : (s.postReq f tail).mem = s.mem := by
  grind [State.postReq, !State.setFn_mem]

@[simp] theorem mem_reply (f : Nat) (req : List Byte) (status auth : Nat) (payload : List Byte) :
    (s.reply f req status auth payload).mem = s.mem := by rfl

@[simp] theorem mem_writeReply (f : Nat) : (s.writeReply f).mem = s.mem := by
  grind [State.writeReply, !State.setFn_mem, !mem_signal, mem_foldl]

@[simp] theorem mem_linkUp (width rate : Nat) : (s.linkUp width rate).mem = s.mem := by
  unfold State.linkUp
  split <;> rfl

/-! #### Boot -/

@[simp] theorem mem_chooseDir : (s.chooseDir).2.mem = s.mem := by
  grind [State.chooseDir]

@[simp] theorem mem_reloadJournal : s.reloadJournal.mem = s.mem := by rfl

@[simp] theorem mem_startJournal (ok : Bool) : (s.startJournal ok).mem = s.mem := by
  simp [State.startJournal]

@[simp] theorem mem_setRole : s.setRole.mem = s.mem := by
  grind [State.setRole, !mem_fact]

@[simp] theorem mem_islandsUp (confirmed : List Nat) : (s.islandsUp confirmed).mem = s.mem := by
  unfold State.islandsUp
  refine mem_foldl (fun s i => ?_) _ _
  dsimp only
  repeat' split
  all_goals simp

@[simp] theorem mem_trainDram (env : BootEnv) : (s.trainDram env).mem = s.mem := by
  unfold State.trainDram
  obtain ⟨d, r, e⟩ := s.dramConfig env
  dsimp only
  refine mem_foldl (fun s i => ?_) _ _
  rw [apply_ite State.mem, mem_writeUnit]
  exact ite_self _

@[simp] theorem mem_loadParts : s.loadParts.mem = s.mem := by
  unfold State.loadParts
  dsimp only
  split <;> simp

@[simp] theorem mem_bootSteward (env : BootEnv) : (s.bootSteward env).mem = s.mem := by
  unfold State.bootSteward
  dsimp only
  split <;> simp

@[simp] theorem mem_bootCold (env : BootEnv) : (s.bootCold env).mem = s.mem := by
  grind [State.bootCold, !mem_fact, !mem_loadPart, !mem_recovery, !mem_chooseDir, !mem_startJournal, !mem_bootSteward]

@[simp] theorem mem_recoveryImage (b : List Byte) : (s.recoveryImage b).mem = s.mem := by
  unfold State.recoveryImage
  extract_lets code d bad _ _ s3 s4 s5 _ s6 s7
  have h1 : s5.mem = s.mem := mem_answer ..
  have h2 : s7.mem = s.mem := (mem_foldl (by intros; rfl) _ _).trans h1
  clear_value s5 s7
  split_ifs
  · rfl
  · simp
  · split <;> simp [h1, h2]

@[simp] theorem mem_leaveForReset (confirmed : List Nat) : (s.leaveForReset confirmed).mem = s.mem := by
  grind [State.leaveForReset, !mem_leaveHold, !mem_holdLeft]

/-! #### BobChan -/

@[simp] theorem mem_chanFail (n cause : Nat) (at_ : Option (Bool × Nat)) : (s.chanFail n cause at_).mem = s.mem := by rfl

@[simp] theorem mem_chanForeign (n e : Nat) : (s.chanForeign n e).mem = s.mem := by rfl

@[simp] theorem mem_chanHalt (n : Nat) : (s.chanHalt n).mem = s.mem := by
  grind [State.chanHalt, !State.setChan_mem, !mem_updJob, !mem_hankPulse]

@[simp] theorem mem_chanMeter (n a k : Nat) : (s.chanMeter n a k).mem = s.mem := by
  unfold State.chanMeter
  split <;> rfl

@[simp] theorem mem_chanBegin (n h cls addr : Nat) (job : Option Nat) : (s.chanBegin n h cls addr job).mem = s.mem := by
  unfold State.chanBegin
  grind [!mem_engRead, !mem_chanMeter, !mem_chanFail, State.setChan_mem, !mem_updJob]

@[simp] theorem mem_chanResume (n : Nat) : (s.chanResume n).mem = s.mem := by
  grind [State.chanResume, !State.setChan_mem, !mem_updJob]

@[simp] theorem mem_chanAbort (n : Nat) : (s.chanAbort n).mem = s.mem := by
  grind [State.chanAbort, !State.setChan_mem, !mem_updJob]

@[simp] theorem mem_chanStart (n : Nat) : (s.chanStart n).mem = s.mem := by
  grind [State.chanStart, !mem_startCheck, !mem_chanBegin]

@[simp] theorem mem_chanCommand (who : Requester) (n v : Nat) : (s.chanCommand who n v).mem = s.mem := by
  grind [State.chanCommand, !mem_denyReg, !mem_served, !mem_chanResume, !mem_chanAbort, !mem_chanStart]

@[simp] theorem mem_evtPulseWrite (who : Requester) (v : Nat) : (s.evtPulseWrite who v).mem = s.mem := by
  grind [State.evtPulseWrite, !State.emit_mem, !mem_pulseN, !mem_accessError, !mem_served, !mem_answer]

/-! #### Ptp -/

@[simp] theorem mem_ptpAnnounce (m : List Byte) : (s.ptpAnnounce m).mem = s.mem := by
  unfold State.ptpAnnounce
  extract_lets k src followed take set
  clear_value k src followed take
  split
  · split <;> rfl
  · split <;> rfl

@[simp] theorem mem_ptpMeasured (t1 t2 : Int) : (s.ptpMeasured t1 t2).mem = s.mem := by
  simp [State.ptpMeasured]

@[simp] theorem mem_ptpMessage (m : List Byte) : (s.ptpMessage m).mem = s.mem := by
  grind [State.ptpMessage, !mem_ptpAnnounce, !mem_ptpMeasured]

@[simp] theorem mem_ptpSent (p : Nat) (m : List Byte) : (s.ptpSent p m).mem = s.mem := by
  unfold State.ptpSent
  split <;> rfl

/-! #### Ether -/

@[simp] theorem mem_ethUpd (p : Nat) (f : Eth → Eth) : (s.ethUpd p f).mem = s.mem := by rfl

@[simp] theorem mem_toQueue (f : EthFrame) : (s.toQueue f).mem = s.mem := by
  unfold State.toQueue
  split <;> rfl

@[simp] theorem mem_ethSend (p : Nat) (bytes : List Byte) (ptpEvent oneStep : Bool) : (s.ethSend p bytes ptpEvent oneStep).mem = s.mem := by
  grind [State.ethSend, !State.emit_mem, !mem_ptpSent, !mem_ethUpd]

@[simp] theorem mem_popStamp (p : Nat) : (s.popStamp p).mem = s.mem := by rfl

/-! #### Manage -/

@[simp] theorem mem_install (from_ : Authority) (object index value dur : Nat) : (s.install from_ object index value dur).mem = s.mem := by rfl

@[simp] theorem mem_refuseHeld (from_ : Authority) (object index value by_ : Nat) :
    (s.refuseHeld from_ object index value by_).2.mem = s.mem := by
  simp [State.refuseHeld]

@[simp] theorem mem_overrideCmd (from_ : Authority) (aux object index value dur : Nat) (dangerous : Bool) (held : Option Nat) :
    (s.overrideCmd from_ aux object index value dur dangerous held).2.mem = s.mem := by
  unfold State.overrideCmd
  grind [!mem_change, !mem_danger, !mem_refuseHeld, !mem_install]

@[simp] theorem mem_dropOverride (object index : Nat) : (s.dropOverride object index).mem = s.mem := by
  unfold State.dropOverride
  split <;> simp

@[simp] theorem mem_statusCmd : (s.statusCmd).2.mem = s.mem := by
  unfold State.statusCmd
  split <;> rfl

@[simp] theorem mem_unitReturn (from_ : Authority) (aux i dur : Nat) : (s.unitReturn from_ aux i dur).2.mem = s.mem := by
  unfold State.unitReturn
  grind [!mem_danger, !mem_refuseHeld, !mem_install, State.setUnit_mem]

@[simp] theorem mem_powerCmd (from_ : Authority) (aux value dur : Nat) : (s.powerCmd from_ aux value dur).2.mem = s.mem := by
  grind [State.powerCmd, !mem_powerOrder, !mem_pwrResult, !mem_install]

@[simp] theorem mem_pinCmd (from_ : Authority) (aux i value dur : Nat) : (s.pinCmd from_ aux i value dur).2.mem = s.mem := by
  grind [State.pinCmd, !mem_appDecide, !mem_overrideCmd]

@[simp] theorem mem_tdpCmd (from_ : Authority) (aux value dur : Nat) : (s.tdpCmd from_ aux value dur).2.mem = s.mem := by
  grind [State.tdpCmd, !mem_overrideCmd]

@[simp] theorem mem_fanCmd (from_ : Authority) (aux f value dur : Nat) : (s.fanCmd from_ aux f value dur).2.mem = s.mem := by
  unfold State.fanCmd
  split <;> simp

@[simp] theorem mem_releaseCmd (from_ : Authority) (aux object index : Nat) : (s.releaseCmd from_ aux object index).2.mem = s.mem := by
  grind [State.releaseCmd, !mem_change, !mem_refuseHeld, !mem_dropOverride]

@[simp] theorem mem_warplockCmd (from_ : Authority) (aux dur : Nat) : (s.warplockCmd from_ aux dur).2.mem = s.mem := by
  simp [State.warplockCmd]

theorem mem_managed {f : State → MReply × State} (from_ : Authority) (h : (f s).2.mem = s.mem) : (s.managed from_ f).2.mem = s.mem := by
  unfold State.managed
  split
  · exact h
  · rfl

@[simp] theorem mem_mgmtOut (from_ : Authority) (r : MReply × State) : (mgmtOut from_ r).mem = r.2.mem := by
  unfold mgmtOut
  split <;> simp

@[simp] theorem mem_login (key r v : Nat) : (s.login key r v).mem = s.mem := by
  grind [State.login, !mem_draw, !mem_answer]

@[simp] theorem mem_closeSession : s.closeSession.mem = s.mem := by rfl

/-! #### Mailbox -/

@[simp] theorem mem_writeRoute (origin hank e v : Nat) : (s.writeRoute origin hank e v).2.mem = s.mem := by
  grind [State.writeRoute, !mem_change]

@[simp] theorem mem_writeEvmap (origin hank e v : Nat) : (s.writeEvmap origin hank e v).2.mem = s.mem := by
  grind [State.writeEvmap, !mem_change]

@[simp] theorem mem_routeEvent (f core : Nat) (p : List Byte) : (s.routeEvent f core p).2.mem = s.mem := by
  grind [State.routeEvent, !mem_writeRoute, !mem_writeEvmap]

@[simp] theorem mem_playPrompt (f voice : Nat) (p : List Byte) : (s.playPrompt f voice p).2.mem = s.mem := by
  grind [State.playPrompt, !mem_queueVoice]

@[simp] theorem mem_publish (f : Nat) (dropped : Bool) (p : List Byte) : (s.publish f dropped p).2.mem = s.mem := by
  grind [State.publish, !State.emit_mem, !mem_engRead]

/-! #### Quant -/

@[simp] theorem mem_changeH (p c : Nat) (h : Int) (x : Ctx) : (s.changeH p c h x).mem = s.mem := by
  grind [State.changeH, !mem_change, !mem_setCtx]

@[simp] theorem mem_headroom (p c t : Nat) : (s.headroom p c t).mem = s.mem := by
  grind [State.headroom, !mem_setCtx, !mem_changeH]

@[simp] theorem mem_headroomPly (p t : Nat) : (s.headroomPly p t).mem = s.mem := by
  simp [State.headroomPly, mem_foldl]

@[simp] theorem mem_writeCtxCfg (who : Requester) (p c v : Nat) : (s.writeCtxCfg who p c v).mem = s.mem := by
  grind [State.writeCtxCfg, !mem_denyReg, !mem_served, !mem_jWrite, !mem_overrode, !mem_setCtx]

@[simp] theorem mem_setCvt (h : Nat) (c : Cvt) : (s.setCvt h c).mem = s.mem := by rfl

@[simp] theorem mem_cvtRefuse (h code : Nat) : (s.cvtRefuse h code).mem = s.mem := by rfl

@[simp] theorem mem_cvtDone (h : Nat) : (s.cvtDone h).mem = s.mem := by
  grind [State.cvtDone, !mem_endCtx, !mem_quantCounts, !mem_hankPulse, !mem_setCvt]

/-! #### Ticks -/

@[simp] theorem mem_overrunFacts (e : JEntry) (hs : List Nat) (x1 : Nat) : (s.overrunFacts e hs x1).mem = s.mem := by
  fun_induction s.overrunFacts e hs x1 <;> grind [!mem_fact]

@[simp] theorem mem_overrunNow (p closing : Nat) (l : List Job) : (s.overrunNow p closing l).mem = s.mem := by
  simp [State.overrunNow]

@[simp] theorem mem_setBudget (p t : Nat) : (s.setBudget p t).mem = s.mem := by rfl

@[simp] theorem mem_select (j : Job) (charge : Bool) : (s.select j charge).mem = s.mem := by
  grind [State.select, !State.setPly_mem, !mem_updJob]

@[simp] theorem mem_passReserved (t : Nat) (j : Job) : (State.passReserved t s j).mem = s.mem := by
  grind [State.passReserved, !mem_select]

@[simp] theorem mem_passShare (x1 : Nat × Nat) (x2 : List Job) : (s.passShare x1 x2).mem = s.mem := by
  fun_induction s.passShare x1 x2 <;> grind [!mem_select]

@[simp] theorem mem_passFit (j : Job) : (s.passFit j).mem = s.mem := by
  grind [State.passFit, !mem_select]

@[simp] theorem mem_countDrain (p : Nat) : (s.countDrain p).mem = s.mem := by
  grind [State.countDrain]

@[simp] theorem mem_meter (p : Nat) (ms : List Meter) : (s.meter p ms).mem = s.mem := by
  simp [State.meter, mem_foldl]

@[simp] theorem mem_aim (p closing t : Nat) (all : Bool) : (s.aim p closing t all).mem = s.mem := by rfl

/-! #### RegsA -/

theorem mem_jSet {f : State → State} (hf : ∀ s, (f s).mem = s.mem) (who : Requester) (block off hank old new : Nat) :
    (s.jSet who block off hank old new f).mem = s.mem := by
  grind [State.jSet, !mem_jWrite]

theorem mem_jProj {f : State → State} (hf : ∀ s, (f s).mem = s.mem) (who : Requester) (block off p old new : Nat) :
    (s.jProj who block off p old new f).mem = s.mem := mem_jSet s (fun s => (mem_overrode ..).trans (hf s)) ..

@[simp] theorem mem_peakWrite (v : Nat) : (s.peakWrite v).mem = s.mem := by rfl

@[simp] theorem mem_reserveWrite (who : Requester) (v : Nat) : (s.reserveWrite who v).mem = s.mem := by
  grind [State.reserveWrite, !mem_jSet]

@[simp] theorem mem_pinWrite (who : Requester) (off v : Nat) : (s.pinWrite who off v).mem = s.mem := by
  grind [State.pinWrite, !mem_peakWrite, !mem_reserveWrite]

@[simp] theorem mem_drainWrite (who : Requester) (p v : Nat) : (s.drainWrite who p v).mem = s.mem := by
  grind [State.drainWrite, !State.setPly_mem, !mem_jProj]

@[simp] theorem mem_tckPlyWrite (who : Requester) (p off v : Nat) : (s.tckPlyWrite who p off v).mem = s.mem := by
  grind [State.tckPlyWrite, !State.setPly_mem, !mem_jSet, !mem_jProj]

@[simp] theorem mem_servoWrite (who : Requester) (off v : Nat) : (s.servoWrite who off v).mem = s.mem := by
  grind [State.servoWrite, !mem_jSet]

@[simp] theorem mem_rsvWrite (who : Requester) (key v : Nat) : (s.rsvWrite who key v).mem = s.mem := by
  grind [State.rsvWrite, !mem_jProj]

/-! #### RegsB -/

@[simp] theorem mem_sknWrite (who : Requester) (off v : Nat) : (s.sknWrite who off v).mem = s.mem := by
  grind [State.sknWrite, !mem_jSet]

@[simp] theorem mem_fabWrite (who : Requester) (off v : Nat) : (s.fabWrite who off v).mem = s.mem := by
  grind [State.fabWrite, !State.setRoute_mem, !mem_jProj]

@[simp] theorem mem_dramWrite (who : Requester) (i off v : Nat) : (s.dramWrite who i off v).mem = s.mem := by
  grind [State.dramWrite, !State.setDram_mem, !mem_jSet]

@[simp] theorem mem_spdWrite (who : Requester) (c off v : Nat) : (s.spdWrite who c off v).mem = s.mem := by
  grind [State.spdWrite, !State.setCore_mem, !mem_jSet]

@[simp] theorem mem_whlRegWrite (who : Requester) (t off v : Nat) : (s.whlRegWrite who t off v).mem = s.mem := by
  grind [State.whlRegWrite, !State.setArr_mem, !mem_jSet, !mem_jProj]

/-! #### RegsC -/

@[simp] theorem mem_ctxWrite (who : Requester) (p c r v : Nat) : (s.ctxWrite who p c r v).mem = s.mem := by
  grind [State.ctxWrite, !mem_setCtx, !mem_jProj]

@[simp] theorem mem_loopWrite (who : Requester) (p v : Nat) : (s.loopWrite who p v).mem = s.mem := by
  grind [State.loopWrite, !mem_jProj]

@[simp] theorem mem_pinDivs (who : Requester) (c v : Nat) : (s.pinDivs who c v).mem = s.mem := by
  grind [State.pinDivs, !State.setFlow_mem, !mem_jProj]

@[simp] theorem mem_crdWrite (who : Requester) (off v : Nat) : (s.crdWrite who off v).mem = s.mem := by
  grind [State.crdWrite, !mem_jSet, !mem_pinDivs]

@[simp] theorem mem_queueWrite (h k r v : Nat) : (s.queueWrite h k r v).mem = s.mem := by
  grind [State.queueWrite, !mem_setQueue, !mem_bqCfg]

@[simp] theorem mem_backWrite (who : Requester) (off v : Nat) : (s.backWrite who off v).mem = s.mem := by
  grind [State.backWrite, !State.setHank_mem, !mem_augDoorbell, !mem_queueWrite]

/-! #### RegsD -/

@[simp] theorem mem_bobWrite (who : Requester) (n r v : Nat) : (s.bobWrite who n r v).mem = s.mem := by
  grind [State.bobWrite, !State.setChan_mem, !mem_jProj]

@[simp] theorem mem_evtWrite (who : Requester) (off v : Nat) : (s.evtWrite who off v).mem = s.mem := by
  grind [State.evtWrite, !mem_writeRoute]

@[simp] theorem mem_bindWrite (who : Requester) (n v : Nat) : (s.bindWrite who n v).mem = s.mem := by
  grind [State.bindWrite, !mem_jSet]

@[simp] theorem mem_pciWrite (who : Requester) (off v : Nat) : (s.pciWrite who off v).mem = s.mem := by
  grind [State.pciWrite, !mem_writeEvmap, !mem_bindWrite]

@[simp] theorem mem_ethWrite (who : Requester) (p off v : Nat) : (s.ethWrite who p off v).mem = s.mem := by
  grind [State.ethWrite, !State.setEth_mem, !mem_jSet]

@[simp] theorem mem_audWrite (who : Requester) (off v : Nat) : (s.audWrite who off v).mem = s.mem := by
  grind [State.audWrite, !mem_setVoice, !mem_ampClear, !mem_jSet]

/-! #### RegsE -/

theorem mem_pwrSet {f : State → State} (hf : ∀ s, (f s).mem = s.mem) (who : Requester) (off v old new : Nat) :
    (s.pwrSet who off v old new f).mem = s.mem := by
  grind [State.pwrSet, !mem_danger, mem_jSet]

@[simp] theorem mem_islandWrite (who : Requester) (i v : Nat) : (s.islandWrite who i v).mem = s.mem := by
  grind [State.islandWrite, !State.setIsl_mem, !mem_appDecide, !mem_pwrSet]

@[simp] theorem mem_govWrite (who : Requester) (p v : Nat) : (s.govWrite who p v).mem = s.mem := by
  grind [State.govWrite, !State.setPly_mem, !mem_jProj]

@[simp] theorem mem_pwrWrite (who : Requester) (off v : Nat) : (s.pwrWrite who off v).mem = s.mem := by
  grind [State.pwrWrite, !mem_appDecide, !mem_pwrCommand, !mem_jSet, !mem_pwrSet, !mem_islandWrite, !mem_govWrite]

@[simp] theorem mem_policyWrite (v : Nat) : (s.policyWrite v).mem = s.mem := by
  grind [State.policyWrite, !mem_change, !mem_danger]

@[simp] theorem mem_stwWrite (who : Requester) (off v : Nat) : (s.stwWrite who off v).mem = s.mem := by
  grind [State.stwWrite, !mem_setFan, !mem_jSet, !mem_policyWrite]

@[simp] theorem mem_siteRead (i : Nat) : (s.siteRead i).mem = s.mem := by rfl

@[simp] theorem mem_leaWrite (who : Requester) (off v : Nat) : (s.leaWrite who off v).mem = s.mem := by
  grind [State.leaWrite, !mem_jAck, !mem_startFlush, !mem_jSet]

@[simp] theorem mem_certSource (n : Nat) : (s.certSource n).2.mem = s.mem := by
  grind [State.certSource, !mem_engRead]

@[simp] theorem mem_bootKeyCmd (a : Authority) (op slot : Nat) : (s.bootKeyCmd a op slot).mem = s.mem := by
  grind [State.bootKeyCmd, !mem_bootDone, !mem_enrollCmd, !mem_revokeCmd, !mem_certSource]

@[simp] theorem mem_bootCmd (a : Authority) (v : Nat) : (s.bootCmd a v).mem = s.mem := by
  unfold State.bootCmd
  split <;> simp

@[simp] theorem mem_bootWrite (who : Requester) (off v : Nat) : (s.bootWrite who off v).mem = s.mem := by
  grind [State.bootWrite, !mem_bootCmd]

/-! #### Registers -/

@[simp] theorem mem_latch (who : Requester) (b off : Nat) : (s.latch who b off).mem = s.mem := by rfl

@[simp] theorem mem_rearm (who : Requester) (b : Nat) : (s.rearm who b).mem = s.mem := by
  grind [State.rearm, !State.setHank_mem, !State.setDram_mem]

/-! #### Bus -/

@[simp] theorem mem_popAnswer : (s.popAnswer).2.2.mem = s.mem := by
  unfold State.popAnswer
  split <;> rfl

@[simp] theorem mem_spdBytes (who : Requester) (a c off n : Nat) : (s.spdBytes who a c off n).2.2.mem = s.mem := by
  grind [State.spdBytes, !mem_accessError]

@[simp] theorem mem_spdPut (who : Requester) (a c off : Nat) (bs : List Byte) : (s.spdPut who a c off bs).2.mem = s.mem := by
  grind [State.spdPut, !mem_accessError, !mem_spdWrite, mem_foldl]

/-! #### Bobbin -/

@[simp] theorem mem_bobNext (n : Nat) : (s.bobNext n).mem = s.mem := by rfl

@[simp] theorem mem_moveData (n src dst a : Nat) (b : List Byte) : (s.moveData n src dst a b).2.mem = s.mem := by
  grind [State.moveData, !mem_draw]

@[simp] theorem mem_moveDone (n src dst len : Nat) (drain : Bool) : (s.moveDone n src dst len drain).mem = s.mem := by rfl

@[simp] theorem mem_takeTally (n e k : Nat) : (s.takeTally n e k).mem = s.mem := by rfl

@[simp] theorem mem_serveChan (e n : Nat) : (s.serveChan e n).mem = s.mem := by
  grind [State.serveChan, !State.setChan_mem, !mem_takeTally]

@[simp] theorem mem_serveEvent (e : Nat) : (s.serveEvent e).mem = s.mem := by
  unfold State.serveEvent
  exact mem_foldl (fun _ _ => mem_serveChan ..) _ _

/-! #### Fabric -/

@[simp] theorem mem_deliverFlit (n : Nat) (hs : List Nat) (f : Flit) : (s.deliverFlit n hs f).mem = s.mem := by
  unfold State.deliverFlit
  split <;> rfl

@[simp] theorem mem_drainFlits (n : Nat) (x1 : Nat) : (State.drainFlits n x1 s).mem = s.mem := by
  fun_induction State.drainFlits n x1 s <;> simp [*]

@[simp] theorem mem_drainRoute (n : Nat) : (s.drainRoute n).mem = s.mem := by
  simp [State.drainRoute]

@[simp] theorem mem_drainPort (e : Nat) : (s.drainPort e).mem = s.mem := by
  simp [State.drainPort, mem_foldl]

@[simp] theorem mem_creditFault (n : Nat) : (s.creditFault n).mem = s.mem := by
  grind [State.creditFault, !State.setRoute_mem, !mem_pulse, !mem_report, mem_foldl]

@[simp] theorem mem_bufferFlit (f : Flit) (n : Nat) : (s.bufferFlit f n).mem = s.mem := by
  grind [State.bufferFlit, !State.setRoute_mem, !mem_drainRoute, !mem_creditFault]

@[simp] theorem mem_flitArrive (f : Flit) : (s.flitArrive f).mem = s.mem := by
  grind [State.flitArrive, !State.setRoute_mem, !mem_creditFault, !mem_bufferFlit]

@[simp] theorem mem_creditReturn (n count : Nat) : (s.creditReturn n count).mem = s.mem := by
  grind [State.creditReturn, !State.setRoute_mem, !mem_arbitrate, !mem_creditFault]

/-! #### Requests -/

@[simp] theorem mem_flips (r : MemReq) : (s.flips r).mem = s.mem := by
  simp [State.flips, mem_foldl]

/-! #### SpindleCore -/

@[simp] theorem mem_haltCore (c : Nat) : (s.haltCore c).mem = s.mem := by
  grind [State.haltCore, !State.setCore_mem, !mem_updJob]

@[simp] theorem mem_closeBundle (c : Nat) : (s.closeBundle c).mem = s.mem := by
  grind [State.closeBundle, !State.setCore_mem, !mem_haltCore]

@[simp] theorem mem_spdFault (c cause : Nat) : (s.spdFault c cause).mem = s.mem := by
  grind [State.spdFault, !State.setCore_mem, !mem_haltCore, !mem_closeBundle]

@[simp] theorem mem_slotDone (c : Nat) : (s.slotDone c).mem = s.mem := by
  grind [State.slotDone, !State.setCore_mem, !mem_closeBundle]

theorem mem_issue {eff : State → Nat → Nat → Option Nat × State} (he : ∀ s c w,
    (eff s c w).2.mem = s.mem) (c : Nat) (legal : Core → Nat → Bool)
    (op : Nat → Bool) : (s.issue c legal op eff).mem = s.mem := by
  grind [State.issue, !mem_spdFault, !mem_slotDone, State.setCore_mem]

@[simp] theorem mem_coreMeter (c a n : Nat) : (s.coreMeter c a n).mem = s.mem := by
  grind [State.coreMeter, !mem_updJob]

@[simp] theorem mem_coreImage (c a n : Nat) : (s.coreImage c a n).2.mem = s.mem := by
  grind [State.coreImage, !mem_engRead, !mem_coreMeter]

@[simp] theorem mem_loadFault (c : Nat) : (s.loadFault c).mem = s.mem := by
  simp [State.loadFault]

@[simp] theorem mem_taskStart (c : Nat) (j : Job) : (s.taskStart c j).mem = s.mem := by
  unfold State.taskStart
  extract_lets k s1 differ k1 s2
  have h1 : s2.mem = s.mem := rfl
  rw [← h1]
  clear_value s2
  have hc (u : State) (a n : Nat) : (u.coreImage c a n).2.mem = u.mem := mem_coreImage ..
  split <;> rename_i heq0 <;> have h2 := hc s2 j.desc 64 <;> rw [heq0] at h2
  · simpa using h2
  split
  · simpa using h2
  extract_lets u
  have h3 : u.mem = s2.mem := h2
  clear_value u
  grind [!mem_coreImage, State.setCore_mem, mem_loadFault]

@[simp] theorem mem_takeInterrupt (c : Nat) : (s.takeInterrupt c).mem = s.mem := by
  grind [State.takeInterrupt, !State.setCore_mem]

/-! #### Tray -/

@[simp] theorem mem_setLink (a : Nat) (l : Link) : (s.setLink a l).mem = s.mem := by rfl

@[simp] theorem mem_setPeerRec (a : Nat) (p : Peer) : (s.setPeerRec a p).mem = s.mem := by rfl

@[simp] theorem mem_putFrame (dst ty seq : Nat) (payload : List Nat) : (s.putFrame dst ty seq payload).mem = s.mem := by rfl

@[simp] theorem mem_sendFrame (dst ty : Nat) (payload : List Nat) : (s.sendFrame dst ty payload).mem = s.mem := by rfl

theorem mem_resendOr {f : State → State} (dst : Nat) (h : (f s).mem = s.mem) : (s.resendOr dst f).mem = s.mem := by
  grind [State.resendOr, !mem_putFrame, !mem_setLink]

@[simp] theorem mem_isolate (role : Bool) : (s.isolate role).mem = s.mem := by
  simp [State.isolate]

@[simp] theorem mem_hear (h : Ebvar) : (s.hear h).2.mem = s.mem := by
  grind [State.hear, !mem_setLink, !mem_isolate]

@[simp] theorem mem_ackAgain (h : Ebvar) (ty : Nat) : (s.ackAgain h ty).mem = s.mem := by
  grind [State.ackAgain, !mem_putFrame, !mem_resendOr]

theorem mem_onFrame {f : State → State} (hf : ∀ s, (f s).mem = s.mem) (role ty : Nat) (h : Ebvar) :
    (s.onFrame role ty h f).mem = s.mem := by
  grind [State.onFrame, !mem_hear, !mem_ackAgain]

@[simp] theorem mem_pollPeers : s.pollPeers.mem = s.mem := by
  unfold State.pollPeers
  split
  · rfl
  · exact mem_foldl (fun s a => mem_resendOr s a (by simp)) _ _

@[simp] theorem mem_discoverPeers : s.discoverPeers.mem = s.mem := by
  grind [State.discoverPeers, !mem_sendFrame, mem_foldl]

@[simp] theorem mem_stageChunk (part off total : Nat) (data : List Byte) : (s.stageChunk part off total data).2.mem = s.mem := by
  unfold State.stageChunk
  grind [!mem_setDir, !mem_stageBytes, !mem_bootSeq]

@[simp] theorem mem_bootOp (op part off total : Nat) (data : List Byte) : (s.bootOp op part off total data).2.mem = s.mem := by
  unfold State.bootOp
  split <;> simp

@[simp] theorem mem_setRelay (r : RelayRun) : (s.setRelay r).mem = s.mem := by rfl

@[simp] theorem mem_relayNext (j : Job) (r : RelayRun) : (s.relayNext j r).mem = s.mem := by
  grind [State.relayNext, !mem_engBytes, !mem_sendFrame, !mem_setRelay]

@[simp] theorem mem_relayReply (f : RelayFrame) (status detail delivered : Nat) (data : List Byte) :
    (s.relayReply f status detail delivered data).mem = s.mem := by rfl

@[simp] theorem mem_relayAdmit (f : RelayFrame) : (s.relayAdmit f).2.mem = s.mem := by
  grind [State.relayAdmit]

/-! #### Whorl -/

@[simp] theorem mem_whlStage (a : Nat) : (s.whlStage a).mem = s.mem := by
  grind [State.whlStage, !State.setArr_mem, !mem_updJob]

@[simp] theorem mem_sramErrors (tiles : List Nat) (ce : List (Nat × Nat)) (ue : List Nat) : (s.sramErrors tiles ce ue).mem = s.mem := by
  unfold State.sramErrors
  dsimp only
  rw [mem_foldl (by intros; rfl), mem_foldl (by intros; rfl)]

@[simp] theorem mem_whlZero (a h : Nat) : (s.whlZero a h).mem = s.mem := by
  unfold State.whlZero
  dsimp only
  rw [mem_foldl (by intros; rfl)]
  split <;> rfl

@[simp] theorem mem_putRun (a : Nat) (r : WhlRun) : (s.putRun a r).mem = s.mem := by rfl

/-! #### Operands -/

@[simp] theorem mem_onCore (f : Core → Nat → Except Nat Core) (c w : Nat) : (onCore f s c w).2.mem = s.mem := by
  unfold onCore
  split <;> rfl

@[simp] theorem mem_zagil (c : Nat) (op : Nat → Bool) (f : Core → Nat → Except Nat Core) : (s.zagil c op f).mem = s.mem := by
  grind [State.zagil, !mem_issue, !mem_onCore]

/-! #### ZagilScalar -/

@[simp] theorem mem_evpOp (c w : Nat) : (evpOp s c w).2.mem = s.mem := by
  grind [evpOp, !mem_pulse, !mem_accessError]

end

/-! ### Functions that write main memory, and keep it canonical -/

/-- A fold keeps a canonical memory when each of its steps does, wherever the accumulator holds the state. -/
theorem wf_foldlAt {α β : Type} (view : β → State) {f : β → α → β} (h : ∀ b x,
    Memory.wf (view b).mem = true → Memory.wf (view (f b x)).mem = true)
    (l : List α) (b : β) (hb : Memory.wf (view b).mem = true) : Memory.wf (view (l.foldl f b)).mem = true := by
  induction l generalizing b with
  | nil => exact hb
  | cons x l ih => exact ih _ (h b x hb)

theorem wf_foldl {α : Type} {f : State → α → State} (h : ∀ s x,
    Memory.wf s.mem = true → Memory.wf (f s x).mem = true) (l : List α) (s : State)
    (hs : Memory.wf s.mem = true) : Memory.wf (l.foldl f s).mem = true := wf_foldlAt (fun s => s) h l s hs

theorem wf_ite {c : Prop} [Decidable c] {a b : State} (ha : Memory.wf a.mem = true) (hb : Memory.wf b.mem = true) :
    Memory.wf (if c then a else b).mem = true := by
  split
  · exact ha
  · exact hb

section
variable {s : State} (hw : Memory.wf s.mem = true)
include hw

/-! #### Memory -/

theorem wf_scrub (lo hi : Nat) : Memory.wf (s.scrub lo hi).mem = true := by
  rw [mem_scrub]
  exact memClear_wf _ _ _ hw

theorem wf_putBytes (a : Nat) (bs : List Byte) : Memory.wf (s.putBytes a bs).mem = true := by
  unfold State.putBytes
  extract_lets s1
  have h1 : Memory.wf s1.mem = true := by
    unfold s1
    split
    · exact hw
    · rw [mem_tagUpdate, mem_mend]
      exact memClear_wf _ _ _ hw
  rw [mem_mend, mem_unlog]
  exact memPuts_wf _ _ _ h1

theorem wf_memWrite (h req a : Nat) (bs : List Byte) : Memory.wf (s.memWrite h req a bs).2.mem = true := by
  grind [State.memWrite, !mem_accessError, !mem_unlog, !mem_uncorrectable, !mem_mend, !mem_correctAll, !mem_tagFetch, !wf_putBytes]

theorem wf_engWrite (h req a : Nat) (bs : List Byte) : Memory.wf (s.engWrite h req a bs).2.2.mem = true := by
  unfold State.engWrite
  refine wf_foldlAt (fun acc : Status × Nat × State => acc.2.2) (fun acc p ha => ?_) _ _ hw
  obtain ⟨st, x, u⟩ := acc
  replace ha : Memory.wf u.mem = true := ha
  cases st
  case ok => grind [!wf_memWrite, !mem_accessError, !mem_decodeError, State.setCore_mem]
  all_goals exact ha

/-! #### Hanks -/

theorem wf_regionCreate (who : Requester) (slot : Nat) : Memory.wf (s.regionCreate who slot).mem = true := by
  grind [State.regionCreate, !mem_draw, !mem_change, !wf_scrub, !mem_hnkEnd]

theorem wf_regionScrubDone (slot : Nat) : Memory.wf (s.regionScrubDone slot).mem = true := by
  grind [State.regionScrubDone, !wf_scrub, !mem_hnkDone]

theorem wf_poolServe (f0 : Nat) (r : PoolReq) : Memory.wf (s.poolServe f0 r).2.mem = true := by
  grind [State.poolServe, !State.setPool_mem, !mem_draw, !wf_scrub, !mem_poolWaitAdd]

theorem wf_poolCycle (rs : List PoolReq) : Memory.wf (s.poolCycle rs).2.mem = true := by
  unfold State.poolCycle
  refine wf_foldlAt (fun acc : NMap Nat × State => acc.2) (fun acc key ha => ?_) _ _ hw
  exact wf_foldlAt (fun acc : NMap Nat × State => acc.2) (fun acc r hb => wf_poolServe hb ..) _ _ ha

theorem wf_poolAlloc1 (who : Requester) (p q cls : Nat) : Memory.wf (s.poolAlloc1 who p q cls).2.mem = true := by
  grind [State.poolAlloc1, !wf_poolServe]

theorem wf_poolFree (h p q i : Nat) : Memory.wf (s.poolFree h p q i).mem = true := by
  grind [State.poolFree, !State.setHank_mem, !State.setPool_mem, !wf_scrub, !mem_voidRange]

theorem wf_poolRelease (p q : Nat) : Memory.wf (s.poolRelease p q).mem = true := by
  grind [State.poolRelease, !wf_scrub, !mem_voidRange]

theorem wf_freeAll (h : Nat) : Memory.wf (s.freeAll h).mem = true := by
  unfold State.freeAll
  refine wf_foldl (fun s e hs => ?_) _ _ hw
  exact wf_foldl (fun s b hb => wf_poolFree hb ..) _ _ hs

/-! #### TokPass -/

theorem wf_runStrings (d : Dict) (root : Node) (packets : List Packet) (x1 : Nat) (x2 : Nat) (x3 : TokRun) :
    Memory.wf (s.runStrings d root packets x1 x2 x3).2.mem = true := by
  fun_induction s.runStrings d root packets x1 x2 x3 <;> grind [!wf_engWrite, !mem_sendPacket, !mem_scan, !mem_stringOf, !mem_tokCount]

theorem wf_runTok (r : TokRun) (packets : List Packet) (stopped : Bool) : Memory.wf (s.runTok r packets stopped).2.mem = true := by
  unfold State.runTok
  extract_lets r1
  have h1 : Memory.wf (s.readNode r1.hank r1.dict 0).2.mem = true := by rw [mem_readNode]; exact hw
  split <;> rename_i heq <;> rw [heq] at h1
  · exact h1
  · split
    · exact h1
    · refine wf_runStrings ?_ ..
      dsimp only
      split
      · rw [mem_draw]; exact h1
      · exact h1

theorem wf_tokHalfway (r : TokRun) : Memory.wf (s.tokHalfway r).2.mem = true := by
  grind [State.tokHalfway, !wf_runTok, !mem_tokPackets]

/-! #### WhlPass -/

theorem wf_whlWrite (req h : Nat) (w : Work) (meets : Bool) (a : Nat) (bs : List Byte) :
    Memory.wf (s.whlWrite req h w meets a bs).2.mem = true := by
  grind [State.whlWrite, !wf_engWrite, !mem_oldOrNew]

theorem wf_whlRow (p : WPlace) (d : WDesc) (h m : Nat) (w : Work) : Memory.wf (s.whlRow p d h m w).2.mem = true := by
  grind [State.whlRow, !mem_sendPacket, !mem_loadAs, !mem_rowZ, !mem_rowAct, !wf_whlWrite]

theorem wf_whlRows (p : WPlace) (d : WDesc) (x1 : Nat) (x2 : Nat) (x3 : Work) : Memory.wf (s.whlRows p d x1 x2 x3).2.mem = true := by
  fun_induction s.whlRows p d x1 x2 x3 <;> grind [!wf_whlRow]

theorem wf_whlRun (a : Nat) (run : WhlRun) (packets : List Packet) (stopped : Bool) :
    Memory.wf (s.whlRun a run packets stopped).2.mem = true := by
  grind [State.whlRun, !mem_draw, !mem_loadB, !mem_loadParams, !wf_whlRows]

theorem wf_whlHalfway (a : Nat) (r : WhlRun) : Memory.wf (s.whlHalfway a r).2.mem = true := by
  grind [State.whlHalfway, !wf_whlRun, !mem_whlPackets]

/-! #### Jobs -/

theorem wf_writeRecord (j : Job) (st : JobStatus) (detail : Nat) : Memory.wf (s.writeRecord j st detail).mem = true := by
  grind [State.writeRecord, !State.setHank_mem, !wf_engWrite, !mem_hankPulse, !mem_countEnd]

theorem wf_complete (id : Nat) (st : JobStatus) (detail : Nat) : Memory.wf (s.complete id st detail).mem = true := by
  grind [State.complete, !mem_dropJob, !wf_writeRecord]

theorem wf_serve (id : Nat) : Memory.wf (s.serve id).mem = true := by
  grind [State.serve, !mem_served, !mem_rhoNote, !wf_complete]

theorem wf_writeReport (h req addr : Nat) (bs : List Byte) : Memory.wf (s.writeReport h req addr bs).2.2.mem = true := by
  grind [State.writeReport, !wf_engWrite]

theorem wf_whlReported (a cycles : Nat) (r : WhlRun) : Memory.wf (s.whlReported a cycles r).2.mem = true := by
  grind [State.whlReported, !wf_writeReport]

theorem wf_whlStop (a : Nat) (r : WhlRun) : Memory.wf (s.whlStop a r).mem = true := by
  grind [State.whlStop, !mem_draw, !wf_whlHalfway, !wf_whlReported, !mem_whlRelease]

theorem wf_whlUnstarted (j : Job) : Memory.wf (s.whlUnstarted j).mem = true := by
  unfold State.whlUnstarted
  exact wf_writeReport (by rw [mem_engBytes]; exact hw) ..

theorem wf_tokReported (r : TokRun) : Memory.wf (s.tokReported r).2.mem = true := by
  grind [State.tokReported, !wf_writeReport]

theorem wf_tokStop (r : TokRun) : Memory.wf (s.tokStop r).mem = true := by
  grind [State.tokStop, !wf_tokHalfway, !wf_tokReported, !mem_tokRelease]

theorem wf_tokUnstarted (j : Job) : Memory.wf (s.tokUnstarted j).mem = true := by
  unfold State.tokUnstarted
  exact wf_writeReport (by rw [mem_engBytes]; exact hw) ..

theorem wf_stopUnits (j : Job) : Memory.wf (s.stopUnits j).2.mem = true := by
  grind [State.stopUnits, !State.setCore_mem, !State.setChan_mem, !State.setArr_mem, !mem_draw, !mem_updJob, !wf_whlStop, !wf_whlUnstarted,
    !wf_tokStop, !wf_tokUnstarted, !mem_tombstone]

theorem wf_dropStop (id : Nat) : Memory.wf (s.dropStop id).mem = true := by
  grind [State.dropStop, !mem_updJob, !wf_complete, !wf_stopUnits]

theorem wf_writeResult (h entry code detail : Nat) : Memory.wf (s.writeResult h entry code detail).mem = true := by
  unfold State.writeResult
  exact wf_engWrite hw ..

theorem wf_refuse (entry : Nat) (j : Job) (st : JobStatus) (detail : Nat) : Memory.wf (s.refuse entry j st detail).mem = true := by
  grind [State.refuse, !mem_countEnd, !wf_writeRecord, !wf_writeResult]

theorem wf_accept (entry : Nat) (j : Job) : Memory.wf (s.accept entry j).mem = true := by
  grind [State.accept, !mem_accessError, !wf_writeResult]

theorem wf_submitEntry (h entry : Nat) : Memory.wf (s.submitEntry h entry).mem = true := by
  unfold State.submitEntry
  extract_lets r e s1 kind cls fate p pl j0 k
  have h1 : Memory.wf s1.mem = true := by
    unfold s1 r
    rw [mem_engBytes]
    exact hw
  clear_value s1 e kind cls fate p pl k
  split
  · exact wf_refuse h1 ..
  split
  · exact wf_refuse h1 ..
  split
  · exact wf_refuse h1 ..
  split
  · exact wf_refuse h1 ..
  split
  · exact wf_refuse h1 ..
  split
  · exact wf_refuse h1 ..
  rename_i d s2 u ok j _ _ _ _ _ _ _ _
  have h2 : Memory.wf s2.mem = true := by
    unfold s2 d
    rw [mem_engRead]
    exact h1
  clear_value s2 j ok u
  split_ifs
  · exact wf_accept h2 ..
  · exact wf_refuse h2 ..
  · exact wf_refuse h2 ..
  · exact wf_refuse h2 ..
  · exact wf_accept h2 ..

theorem wf_takeEntries (h : Nat) (x1 : Nat) : Memory.wf (s.takeEntries h x1).mem = true := by
  fun_induction s.takeEntries h x1 <;> grind [!State.setHank_mem, !wf_submitEntry]

theorem wf_doorbell (h count : Nat) : Memory.wf (s.doorbell h count).mem = true := by
  grind [State.doorbell, !wf_takeEntries]

/-! #### Arbiter -/

theorem wf_perform (own : Bool) (x1 : MemWork) : Memory.wf (s.perform own x1).mem = true := by
  cases x1 with
  | request r h b =>
    unfold State.perform
    dsimp only
    rw [State.emit_mem]
    split
    iterate 2
      rw [if_neg (by decide)]
      split
      · exact wf_memWrite hw ..
      · rw [mem_memRead]; exact hw
    rw [if_pos (by decide), mem_decodeError]
    exact hw
  | scrub a d =>
    rw [State.perform, mem_passEnd, mem_scrubRead]
    exact hw
  | tagLine l =>
    rw [State.perform, mem_mend, mem_unlog]
    exact hw

theorem wf_serveOne (own : Bool) (u : Nat) : Memory.wf (s.serveOne own u).mem = true := by
  grind [State.serveOne, !mem_grantMem, !wf_perform]

theorem wf_arrive (w : MemWork) (held : Bool) : Memory.wf (s.arrive w held).mem = true := by
  grind [State.arrive, !mem_enqueue, !wf_serveOne]

theorem wf_serveTick : Memory.wf s.serveTick.mem = true := by
  unfold State.serveTick
  exact wf_foldl (fun s u hs => wf_serveOne hs ..) _ _ hw

theorem wf_serveTicks (x1 : Nat) : Memory.wf (State.serveTicks x1 s).mem = true := by
  fun_induction State.serveTicks x1 s <;> grind [!wf_serveTick]

theorem wf_drainMemory : Memory.wf s.drainMemory.mem = true := by
  unfold State.drainMemory
  extract_lets s1 ls s2
  have h1 : Memory.wf s1.mem = true := wf_serveTicks hw ..
  have h2 : Memory.wf s2.mem = true := by
    unfold s2
    clear_value s1
    exact wf_foldl (fun s (e : Nat × Bool) hs => wf_perform (s := s) hs false (.tagLine e.1)) _ _ h1
  exact h2

/-! #### Batch -/

theorem wf_freeBufs (r : CamRec) (l : List Nat) : Memory.wf (s.freeBufs r l).mem = true := by
  unfold State.freeBufs
  exact wf_foldl (fun s e hs => wf_poolFree hs ..) _ _ hw

theorem wf_flowReset (c : Nat) (keep : Bool) : Memory.wf (s.flowReset c keep).mem = true := by
  grind [State.flowReset, !State.setFlow_mem, !wf_freeBufs, !mem_dropDecoding]

/-! #### Units -/

theorem wf_startDrain (i target auth : Nat) : Memory.wf (s.startDrain i target auth).mem = true := by
  unfold State.startDrain
  refine wf_foldl (fun s j hs => wf_complete (wf_stopUnits hs ..) ..) _ _ ?_
  rw [mem_writeUnit, State.setUnit_mem]
  exact hw

theorem wf_loseBank (b : Nat) : Memory.wf (s.loseBank b).mem = true := by
  generalize hx : s.loseBank b = x
  unfold State.loseBank at hx
  extract_lets lo hi s1 at hx
  have h1 : Memory.wf s1.mem = true := by
    unfold s1
    rw [mem_voidRange]
    exact wf_scrub hw ..
  clear_value s1 lo hi
  rw [← hx]
  exact wf_foldl (fun s e hs => wf_poolRelease hs ..) _ _ h1

theorem wf_leaveService (i st auth : Nat) : Memory.wf (s.leaveService i st auth).mem = true := by
  generalize hx : s.leaveService i st auth = x
  unfold State.leaveService at hx
  extract_lets s1 _ s2 at hx
  have h2 : Memory.wf s2.mem = true := by
    unfold s2 s1
    split <;> simpa using hw
  clear_value s2
  generalize List.range (nBanks s2.variant) = l at hx
  split_ifs at hx <;> rw [← hx]
  · exact wf_loseBank h2 ..
  · exact wf_foldl (fun s b hs => wf_loseBank hs b) _ _ h2
  · rw [mem_loseTile]; exact h2
  · exact h2

theorem wf_takeReport (i cause : Nat) : Memory.wf (s.takeReport i cause).mem = true := by
  grind [State.takeReport, !mem_fact, !State.setUnit_mem, !mem_writeUnit, !wf_startDrain]

theorem wf_takeReports : Memory.wf s.takeReports.mem = true := by
  unfold State.takeReports
  extract_lets l s1
  refine wf_foldl (fun s r hs => ?_) _ _ hw
  split
  · exact wf_takeReport hs ..
  · exact hs

theorem wf_drainStop (i : Nat) (j : Job) : Memory.wf (s.drainStop i j).mem = true := by
  grind [State.drainStop, !State.setCore_mem, !mem_updJob, !wf_stopUnits]

/-! #### Weave -/

theorem wf_destroyHank (r : HankRec) (origin : Nat) : Memory.wf (s.destroyHank r origin).mem = true := by
  grind [State.destroyHank, !mem_voidGrants, !mem_startScrub, !wf_freeAll, !mem_unbindHank, !mem_forgetHank, !mem_hankFacts, mem_foldl]

theorem wf_quarantineNamed (m : Image) : Memory.wf (s.quarantineNamed m).mem = true := by
  unfold State.quarantineNamed
  refine wf_foldl (fun s b hs => ?_) _ _ hw
  dsimp only
  split
  · exact wf_leaveService hs ..
  · exact hs

theorem wf_loadWarp (from_ : Authority) : Memory.wf (s.loadWarp from_).mem = true := by
  grind [State.loadWarp, !mem_change, !mem_wrpSeq, !mem_wrpRefuse, !mem_wrpOverridden, !mem_imageSource, !wf_quarantineNamed]

theorem wf_flowUnpool (c : Nat) : Memory.wf (s.flowUnpool c).mem = true := by
  grind [State.flowUnpool, !State.setFlow_mem, !wf_freeBufs, !mem_dropDecoding]

theorem wf_reweaveFlows (new : Image) (p : Nat) : Memory.wf (s.reweaveFlows new p).mem = true := by
  unfold State.reweaveFlows
  extract_lets old same cams
  refine wf_foldl (fun s c hs => ?_) _ _ hw
  split
  · extract_lets s1
    rw [State.setFlow_mem]
    unfold s1
    split
    · exact hs
    · exact wf_flowUnpool hs ..
  · exact wf_flowReset hs ..

theorem wf_applyReweave (d : Pending) (places : List Placement) (tick : Nat) : Memory.wf (s.applyReweave d places tick).mem = true := by
  unfold State.applyReweave
  extract_lets p old m gone s1 s2 s3 s4 s5 fresh _ s6 s7 s8 u _ s9 s10
  have h1 : Memory.wf s1.mem = true := wf_foldl (fun s r hs => wf_foldl (fun s j hj => wf_complete hj ..) _ _ hs) _ _ hw
  have h3 : Memory.wf s3.mem = true := wf_reweaveFlows (by unfold s2; rw [mem_closePlyBatches]; exact h1) ..
  have h4 : Memory.wf s4.mem = true := wf_foldl (fun s r hs => wf_poolRelease hs ..) _ _ h3
  have h5 : Memory.wf s5.mem = true := wf_foldl (fun s r hs => wf_destroyHank hs ..) _ _ h4
  have h7 : Memory.wf s7.mem = true := wf_foldl (fun s r hs => by rw [mem_applyHank]; exact hs) _ _ h5
  have h8 : s8.mem = s7.mem := by
    refine mem_foldl (fun s r => ?_) _ _
    split
    · rfl
    · exact mem_placePool ..
  rw [← h8] at h7
  clear_value s8
  rw [mem_retier, mem_fact, mem_raiseRollback]
  unfold s9
  split
  · show Memory.wf u.mem = true
    unfold u
    rw [mem_programRoutes, mem_chainArrays]
    exact h7
  · dsimp only
    rw [State.setPly_mem, mem_programRoutes, mem_chainArrays, mem_plyReset]
    exact h7

theorem wf_reweaveStep (d : Pending) (places : List Placement) (tick : Nat) : Memory.wf (s.reweaveStep d places tick).mem = true := by
  grind [State.reweaveStep, !mem_fact, !mem_wrpEnd, !mem_clearPending, !wf_applyReweave]

theorem wf_granuleStep (places : List Placement) : Memory.wf (s.granuleStep places).mem = true := by
  grind [State.granuleStep, !wf_reweaveStep]

/-! #### Power -/

theorem wf_recordRequests (p tile spindle : Nat) (overran : Bool) : Memory.wf (s.recordRequests p tile spindle overran).2.mem = true := by
  unfold State.recordRequests
  have h1 : (s.rho p false).2.mem = s.mem := mem_rho ..
  generalize s.rho p false = a at h1
  obtain ⟨rt, s1⟩ := a
  have h2 : (s1.rho p true).2.mem = s1.mem := mem_rho ..
  dsimp only
  generalize s1.rho p true = b at h2
  obtain ⟨rs, s2⟩ := b
  rw [← show s1.mem = s.mem from h1, ← show s2.mem = s1.mem from h2] at hw
  generalize List.range 4 = l
  dsimp only
  rw [State.setPly_mem]
  refine wf_foldl (fun s i hs => ?_) _ _ hw
  split
  · exact hs
  · exact hs

theorem wf_govern (p tile spindle : Nat) (overran : Bool) : Memory.wf (s.govern p tile spindle overran).mem = true := by
  unfold State.govern
  have h1 := wf_recordRequests hw p tile spindle overran
  generalize s.recordRequests p tile spindle overran = a at h1
  obtain ⟨⟨rt, rs⟩, s1⟩ := a
  replace h1 : Memory.wf s1.mem = true := h1
  dsimp only
  split
  · exact h1
  · refine wf_foldl (fun s i hs => ?_) _ _ h1
    split_ifs <;> simpa using hs

theorem wf_holdEntered : Memory.wf s.holdEntered.mem = true := by
  grind [State.holdEntered, !State.setIsl_mem, !wf_drainMemory, !mem_command, !mem_pointFact, !mem_pwrEnd, !mem_pwrIdle, !mem_enterDormant,
    !mem_appDown, !mem_zeroUnits, mem_foldl]

omit hw in
theorem wf_powerOff : Memory.wf s.powerOff.mem = true := by rfl

/-! #### Rtp -/

theorem wf_rtp (r : CamRec) (arrival : Nat) (bytes : List Byte) : Memory.wf (s.rtp r arrival bytes).mem = true := by
  grind [State.rtp, !State.setFlow_mem, !wf_flowReset, !mem_reason, !mem_reorder]

/-! #### Carding -/

theorem wf_cacheInsert (h id w ht : Nat) (data : List Byte) : Memory.wf (s.cacheInsert h id w ht data).mem = true := by
  have h1 := mem_cacheWays
  have h2 := @wf_engWrite
  obtain ⟨f, hf⟩ : ∃ f, f = State.cacheInsert := ⟨_, rfl⟩
  rw [← hf]
  delta State.cacheInsert at hf
  generalize State.cacheWays = ways at h1 hf
  generalize State.engWrite = write at h2 hf
  as_aux_lemma =>
    subst hf
    dsimp only
    split
    · exact hw
    · have h3 := h1 s h id
      split <;> rename_i heq <;> rw [heq] at h3 <;> rw [← show _ = s.mem from h3] at hw
      · exact h2 (by rw [State.setHank_mem]; exact hw) ..
      · exact hw

theorem wf_storeSample (h p pool : Nat) (bytes : List Byte) : Memory.wf (s.storeSample h p pool bytes).2.mem = true := by
  grind [State.storeSample, !wf_engWrite, !wf_poolAlloc1, !wf_poolFree]

theorem wf_makeSample (r : CamRec) (h : Nat) (t : Roi) (p : Pic) (region : Nat) (x : Nat × Nat × Nat × Nat) :
    Memory.wf (s.makeSample r h t p region x).2.mem = true := by
  grind [State.makeSample, !State.setFlow_mem, !wf_cacheInsert, !wf_storeSample]

theorem wf_substitute (r : CamRec) (h : Nat) (t : Roi) (id region tag reason : Nat) (x : Nat × Nat × Nat × Nat) :
    Memory.wf (s.substitute r h t id region tag reason x).mem = true := by
  grind [State.substitute, !mem_fillStale, !mem_claimAwait, !wf_makeSample]

theorem wf_oneSample (r : CamRec) (h : Nat) (t : Roi) (p : Pic) (bad : Option Nat) (e : Nat × (Nat × Nat × Nat × Nat) × Nat) :
    Memory.wf (s.oneSample r h t p bad e).mem = true := by
  grind [State.oneSample, !mem_fillSample, !mem_reason, !wf_makeSample, !mem_queueTakes, !wf_substitute]

theorem wf_roiStage (r : CamRec) (p : Pic) (bad : Option Nat) : Memory.wf (s.roiStage r p bad).mem = true := by
  unfold State.roiStage
  refine wf_foldl (fun s k hs => ?_) _ _ hw
  dsimp only
  exact wf_foldl (fun s e he => wf_oneSample he ..) _ _ hs

theorem wf_reject (r : CamRec) (au : AccessUnit) (info : AuInfo) (reason : Nat) : Memory.wf (s.reject r au info reason).mem = true := by
  grind [State.reject, !mem_reason, !wf_roiStage]

theorem wf_releaseBufs (r : CamRec) : Memory.wf (s.releaseBufs r).mem = true := by
  grind [State.releaseBufs, !State.setFlow_mem, !wf_freeBufs]

theorem wf_corruptRef (r : CamRec) : Memory.wf (s.corruptRef r).mem = true := by
  grind [State.corruptRef, !State.setFlow_mem, !wf_reject, !mem_popAu, !wf_releaseBufs]

theorem wf_auAdmit (r : CamRec) (info : AuInfo) : Memory.wf (s.auAdmit r info).mem = true := by
  grind [State.auAdmit, !State.setFlow_mem, !mem_reason, !wf_reject, !mem_popAu, !wf_corruptRef]

theorem wf_decodeStart (e : Nat) : Memory.wf (s.decodeStart e).mem = true := by
  grind [State.decodeStart, !State.setPly_mem, !State.setFlow_mem, !wf_poolAlloc1]

theorem wf_pictureDecoded (r : CamRec) (d : Decoded) : Memory.wf (s.pictureDecoded r d).mem = true := by
  grind [State.pictureDecoded, !State.setFlow_mem, !mem_reason, !wf_roiStage, !wf_releaseBufs, !wf_corruptRef]

theorem wf_augSampleOf (h : Nat) (b : List Byte) : Memory.wf (s.augSampleOf h b).mem = true := by
  have h1 := mem_cacheLookup
  have h2 := @wf_storeSample
  obtain ⟨f, hf⟩ : ∃ f, f = State.augSampleOf := ⟨_, rfl⟩
  rw [← hf]
  delta State.augSampleOf at hf
  generalize State.cacheLookup = look at h1 hf
  generalize State.storeSample = store at h2 hf
  as_aux_lemma =>
    subst hf
    beta_reduce
    extract_lets r p c q skip
    have hs (u : State) (k : Nat) (hu : Memory.wf u.mem = true) : Memory.wf (skip u k).mem = true := by
      unfold skip
      rw [mem_claimAwait, mem_reason]
      exact hu
    clear_value skip q c p
    split
    · rw [mem_reason]; exact hw
    have hq : (s.queueTakes c h r.batch).2.mem = s.mem := mem_queueTakes ..
    split <;> rename_i s1 heq <;> rw [heq] at hq <;> rw [← show s1.mem = s.mem from hq] at hw
    · exact hw
    split
    · exact hs _ _ hw
    have h3 := h1 s1 h r.id
    split <;> rename_i heq <;> rw [heq] at h3 <;> rw [← show _ = s1.mem from h3] at hw
    · exact hs _ _ hw
    split
    · exact hs _ _ hw
    have h4 := h2 hw h p r.pool
    split
    rename_i bytes clips _
    replace h4 := h4 bytes
    split <;> rename_i heq <;> rw [heq] at h4
    · exact hs _ _ h4
    · dsimp only
      rw [mem_fillSample, State.setFlow_mem]
      exact h4

theorem wf_augRecord (h : Nat) : Memory.wf (s.augRecord h).mem = true := by
  grind [State.augRecord, !State.setHank_mem, !mem_engRead, !wf_augSampleOf]

theorem wf_batchWrite (h k : Nat) : Memory.wf (s.batchWrite h k).mem = true := by
  grind [State.batchWrite, !wf_engWrite, !mem_hankPulse, !mem_setQueue]

/-! #### Boot -/

omit hw in
theorem wf_cold : Memory.wf s.cold.mem = true := by rfl

theorem wf_loadSlot (b : Bool) : Memory.wf (s.loadSlot b).2.mem = true := by
  grind [State.loadSlot, !mem_draw, !wf_engWrite, !wf_loadWarp]

theorem wf_bootWarp : Memory.wf s.bootWarp.mem = true := by
  have hl {u : State} (hu : Memory.wf u.mem = true) (b v) (t : State) (h : u.loadSlot b = (v, t)) : Memory.wf t.mem = true := by
    have := wf_loadSlot hu b
    rwa [h] at this
  unfold State.bootWarp
  extract_lets d old
  split <;> rename_i s1 h1 <;> have h1 := hl hw _ _ _ h1
  · exact h1
  extract_lets code s2
  split_ifs
  · exact wf_loadSlot (by rw [mem_failTrial]; exact h1) _
  · split <;> rename_i s3 h3 <;> have h3 := hl h1 _ _ _ h3 <;> rw [mem_partFact] <;> exact h3
  · rw [mem_partFact]; exact h1

theorem wf_servicesReady : Memory.wf s.servicesReady.mem = true := by
  grind [State.servicesReady, !mem_retier, !mem_appDecide, !wf_bootWarp]

omit hw in
theorem wf_warmRegs : Memory.wf s.warmRegs.mem = true := by rfl

omit hw in
theorem wf_warmReset (confirmed : List Nat) : Memory.wf (s.warmReset confirmed).mem = true := by
  unfold State.warmReset
  extract_lets old s1 s2 s3 _ s4
  have h1 : Memory.wf s1.mem = true := wf_warmRegs
  have h2 : s2.mem = s1.mem := by
    unfold s2
    split
    · rfl
    · rw [mem_pulse, mem_fact]
  have h4 : s4.mem = s1.mem := by
    unfold s4
    rw [mem_loadParts]
    exact (mem_islandsUp ..).trans h2
  clear_value s4
  rw [← h4] at h1
  exact h1

theorem wf_resetCmd (from_ : Authority) (aux : Nat) (confirmed : List Nat) : Memory.wf (s.resetCmd from_ aux confirmed).2.mem = true := by
  grind [State.resetCmd, !mem_refusal, !mem_endTrip, !mem_danger, !wf_warmReset, !mem_leaveForReset]

/-! #### BobChan -/

theorem wf_chanTake (n : Nat) : Memory.wf (s.chanTake n).mem = true := by
  grind [State.chanTake, !mem_updJob, !wf_complete, !mem_startCheck, !mem_chanBegin]

/-! #### Ether -/

theorem wf_ethDeliver (f : EthFrame) (vlan etype : Nat) (p : List Byte) : Memory.wf (s.ethDeliver f vlan etype p).mem = true := by
  grind [State.ethDeliver, !State.emit_mem, !wf_rtp, !mem_rtcp, !mem_ptpMessage, !mem_ethUpd, !mem_toQueue]

theorem wf_ethReceive (f : EthFrame) : Memory.wf (s.ethReceive f).mem = true := by
  grind [State.ethReceive, !mem_ethUpd, !wf_ethDeliver]

/-! #### Manage -/

theorem wf_unitCmd (from_ : Authority) (aux i req dur : Nat) : Memory.wf (s.unitCmd from_ aux i req dur).2.mem = true := by
  grind [State.unitCmd, !wf_startDrain, !wf_leaveService, !mem_overrideCmd, !mem_unitReturn]

theorem wf_managed {f : State → MReply × State} (from_ : Authority) (h : Memory.wf (f s).2.mem = true) :
    Memory.wf (s.managed from_ f).2.mem = true := by
  unfold State.managed
  split
  · exact h
  · exact hw

theorem wf_manage (op : Nat) (a : MgmtArgs) (aux : Nat) : Memory.wf (s.manage op a aux).2.mem = true := by
  unfold State.manage
  split
  · rw [mem_statusCmd]; exact hw
  · exact wf_managed hw _ (wf_unitCmd hw ..)
  iterate 4 exact wf_managed hw _ (by simpa using hw)
  · exact wf_resetCmd hw ..
  iterate 2 exact wf_managed hw _ (by simpa using hw)
  · rw [mem_ampClear]; exact hw
  · exact hw

/-! #### Mailbox -/

theorem wf_mailManage (req : List Byte) (op : Nat) (p : List Byte) : Memory.wf (s.mailManage req op p).mem = true := by
  grind [State.mailManage, !State.setFn_mem, !State.setUnit_mem, !mem_reply, !wf_manage]

theorem wf_mail {serve : State → List Byte → Reply × State} (hs : ∀ u p,
    Memory.wf u.mem = true → Memory.wf (serve u p).2.mem = true) (f op : Nat) : Memory.wf (s.mail f op serve).mem = true := by
  unfold State.mail
  extract_lets page
  split
  · exact hw
  split
  · exact hw
  extract_lets rop n p
  split_ifs
  · rw [mem_reply]; exact hw
  · rw [mem_reply]; exact hw
  · rw [mem_reply]; exact hs _ _ hw
  · exact hw
  · exact wf_mailManage hw ..
  · exact wf_mailManage hw ..
  · rw [mem_reply]; exact hw
  · rw [mem_reply]; exact hw

theorem wf_selftestAnswer (index auth status : Nat) : Memory.wf (s.selftestAnswer index auth status).mem = true := by
  grind [State.selftestAnswer, !State.setFn_mem, !State.emit_mem, !mem_reply]

/-! #### Quant -/

theorem wf_cvtRows (h : Nat) (c : Cvt) (src : ScaleSrc) (cfg : Nat) (x1 : Nat) (x2 : Nat) (x3 : CvtAcc) :
    Memory.wf (s.cvtRows h c src cfg x1 x2 x3).2.2.mem = true := by
  fun_induction s.cvtRows h c src cfg x1 x2 x3 <;> grind [!mem_engRead, !wf_engWrite]

theorem wf_cvtGo (h p : Nat) : Memory.wf (s.cvtGo h p).mem = true := by
  grind [State.cvtGo, !mem_claimCtx, !wf_cvtRows, !mem_setCvt, !mem_cvtRefuse]

/-! #### Ticks -/

theorem wf_writeSummary (p closing time skipped : Nat) (overran : Bool) :
    Memory.wf (s.writeSummary p closing time skipped overran).mem = true := by
  grind [State.writeSummary, !State.setPly_mem, !wf_engWrite]

theorem wf_jobFate (all : Bool) (j : Job) : Memory.wf (s.jobFate all j).mem = true := by
  grind [State.jobFate, !mem_updJob, !wf_complete, !wf_dropStop]

theorem wf_shed (p t : Nat) (x1 : Nat) : Memory.wf (s.shed p t x1).mem = true := by
  fun_induction s.shed p t x1 <;> grind [!wf_dropStop]

theorem wf_holdPly (p tick : Nat) : Memory.wf (s.holdPly p tick).mem = true := by
  unfold State.holdPly
  rw [mem_closePlyBatches]
  exact wf_foldl (fun s r hs => wf_flowReset hs ..) _ _ hw

theorem wf_plyState (p st tick : Nat) : Memory.wf (s.plyState p st tick).mem = true := by
  grind [State.plyState, !State.setPly_mem, !mem_fact, !mem_retier, !wf_holdPly]

theorem wf_endQueued (p : Nat) : Memory.wf (s.endQueued p).mem = true := by
  unfold State.endQueued
  exact wf_foldl (fun s j hs => wf_complete hs ..) _ _ hw

theorem wf_preSelect (t age : Nat) (j : Job) : Memory.wf (s.preSelect t age j).mem = true := by
  grind [State.preSelect, !State.setPly_mem, !mem_updJob, !wf_complete, !wf_shed]

theorem wf_passDrop (j : Job) : Memory.wf (s.passDrop j).mem = true := by
  grind [State.passDrop, !wf_complete, !wf_shed]

theorem wf_admission (p t : Nat) : Memory.wf (s.admission p t).mem = true := by
  unfold State.admission
  extract_lets queued age s1 live s2 wl hs weight total bt bs s3 s4 s5 s6
  have h1 : Memory.wf s1.mem = true := wf_foldl (fun s j hs => wf_preSelect hs ..) _ _ hw
  rw [mem_fillSlots]
  have h2 : s2.mem = s1.mem := mem_foldl (by intro s j; exact mem_passReserved ..) _ _
  have h3 : s3.mem = s2.mem := by
    unfold s3
    split
    · rfl
    · exact mem_foldl (by intro s j; exact mem_passShare ..) _ _
  have h4 : s4.mem = s3.mem := mem_foldl (by intro s j; exact mem_passFit ..) _ _
  have h5 : s5.mem = s4.mem := mem_foldl (by intro s j; exact mem_passFit ..) _ _
  refine wf_foldl (fun s j hs => wf_passDrop hs ..) _ _ ?_
  rw [h5, h4, h3, h2]
  exact h1

theorem wf_openTick (p closing t : Nat) (overran hold drain : Bool) : Memory.wf (s.openTick p closing t overran hold drain).mem = true := by
  grind [State.openTick, !mem_tickPlyBatches, !mem_formPly, !wf_govern, !wf_plyState, !wf_endQueued, !mem_setBudget, !wf_admission]

theorem wf_boundary (p : Nat) (places : List Placement) (meters : List Meter) : Memory.wf (s.boundary p places meters).mem = true := by
  generalize hx : s.boundary p places meters = x
  unfold State.boundary at hx
  extract_lets pl t b skipped closing s1 s2 hold s3 drain dropAll late overran s4 _ s5 _ s6 s7 s8 s9 s10 s11 s12 s13 drain' at hx
  by_cases hc : (!s.ticking || (plyRec? s.img p).isNone) = true
  · rw [if_pos hc] at hx
    rw [← hx]
    exact hw
  rw [if_neg hc] at hx
  have h3 : Memory.wf s3.mem = true := by
    unfold s3 s2
    rw [mem_countDrain, mem_aim, mem_meter]
    exact hw
  have h5 : Memory.wf s5.mem = true := by
    unfold s5
    rw [State.setPly_mem]
    exact wf_writeSummary h3 ..
  have h7 : Memory.wf s7.mem = true := by
    unfold s7
    split
    · rw [mem_overrunNow]; exact h5
    · exact h5
  have h9 : Memory.wf s9.mem = true := by
    unfold s9 s8
    rw [mem_armTables, mem_backSwap, mem_engineSwaps, mem_headroomPly, mem_ratePly, mem_latchPly]
    exact h7
  have h10 : Memory.wf s10.mem = true := by
    unfold s10
    split
    · exact wf_endQueued h9 ..
    · exact h9
  have h11 : Memory.wf s11.mem = true := by
    unfold s11
    clear_value s10
    exact wf_foldl (fun s j hs => wf_jobFate hs ..) _ _ h10
  have h13 : Memory.wf s13.mem = true := by
    unfold s13 s12
    clear_value s11
    split
    · split
      · exact wf_reweaveStep (wf_shed h11 ..) ..
      · exact wf_shed h11 ..
    · exact wf_shed h11 ..
  clear_value s13
  rw [← hx]
  exact wf_openTick h13 ..

theorem wf_plyBoundary (p : Nat) (places : List Placement) (meters : List Meter) :
    Memory.wf (s.plyBoundary p places meters).mem = true := by
  generalize hx : s.plyBoundary p places meters = x
  unfold State.plyBoundary at hx
  split_ifs at hx
  · rw [← hx]; exact hw
  · rw [← hx]; exact hw
  extract_lets b _ s1 low s2 s3 _ at hx
  have h1 : Memory.wf s1.mem = true := by
    unfold s1
    split <;> exact hw
  have h2 : Memory.wf s2.mem = true := by
    clear_value s1
    exact wf_foldl (fun s q hs => wf_boundary hs ..) _ _ h1
  have h3 : Memory.wf s3.mem = true := by
    clear_value s2
    exact wf_boundary h2 ..
  clear_value s3
  rw [← hx]
  exact h3

/-! #### RegsA -/

theorem wf_wrpWrite (who : Requester) (off v : Nat) : Memory.wf (s.wrpWrite who off v).mem = true := by
  grind [State.wrpWrite, !wf_loadWarp, !mem_reweaveCmd, !mem_cancelCmd, !mem_drainWrite]

theorem wf_tckQWrite (h off v : Nat) : Memory.wf (s.tckQWrite h off v).mem = true := by
  grind [State.tckQWrite, !State.setHank_mem, !wf_doorbell]

theorem wf_tckWrite (who : Requester) (off v : Nat) : Memory.wf (s.tckWrite who off v).mem = true := by
  grind [State.tckWrite, !wf_tckQWrite, !mem_tckPlyWrite, !mem_servoWrite]

theorem wf_hnkBankWrite (who : Requester) (h off v : Nat) : Memory.wf (s.hnkBankWrite who h off v).mem = true := by
  grind [State.hnkBankWrite, !State.setHank_mem, !mem_overrode, !wf_regionCreate, !mem_regionDestroy, !mem_grant, !mem_revoke, !mem_jSet]

theorem wf_hnkWrite (who : Requester) (off v : Nat) : Memory.wf (s.hnkWrite who off v).mem = true := by
  grind [State.hnkWrite, !wf_poolFree, !mem_rsvWrite, !wf_hnkBankWrite]

/-! #### RegsC -/

theorem wf_qntWrite (who : Requester) (off v : Nat) : Memory.wf (s.qntWrite who off v).mem = true := by
  grind [State.qntWrite, !mem_setCvt, !wf_cvtGo, !mem_ctxWrite, !mem_loopWrite]

/-! #### Registers -/

theorem wf_readWord (who : Requester) (b off : Nat) : Memory.wf (s.readWord who b off).mem = true := by
  grind [State.readWord, !mem_draw, !mem_servedWord, !wf_poolAlloc1, !mem_popStamp, !mem_siteRead, !mem_latch, !mem_rearm]

theorem wf_asHank {f : State → State} (who : Requester) (h : Memory.wf (f s).mem = true) : Memory.wf (s.asHank who f).mem = true := by
  unfold State.asHank
  split
  · rw [mem_turnAway]; exact hw
  · exact h

theorem wf_regRead (who : Requester) (b off : Nat) : Memory.wf (s.regRead who b off).mem = true := by
  unfold State.regRead
  refine wf_asHank hw _ ?_
  split
  · exact wf_readWord hw ..
  · rw [mem_servedWord]; exact hw
  · split <;> simpa using hw

theorem wf_plainWrite (who : Requester) (b off v : Nat) : Memory.wf (s.plainWrite who b off v).mem = true := by
  unfold State.plainWrite
  repeat' with_reducible refine wf_ite ?_ ?_
  all_goals simp [hw, wf_wrpWrite hw, wf_tckWrite hw, wf_hnkWrite hw, wf_qntWrite hw]

theorem wf_writeWord (who : Requester) (b off v : Nat) : Memory.wf (s.writeWord who b off v).mem = true := by
  grind [State.writeWord, !mem_served, !mem_phaseAdj, !mem_voiceCmd, !mem_voiceHalt, !mem_wdKick, !mem_wdRelease, !mem_chanCommand,
    !mem_evtPulseWrite, !mem_writeCtxCfg, !wf_plainWrite]

theorem wf_regWrite (who : Requester) (b off v : Nat) : Memory.wf (s.regWrite who b off v).mem = true := by
  unfold State.regWrite
  refine wf_asHank hw _ ?_
  split
  · split
    · simpa using hw
    · exact wf_writeWord hw ..
  · simpa using hw
  · split_ifs <;> simpa using hw

/-! #### Bus -/

theorem wf_regBytes (who : Requester) (b off n : Nat) : Memory.wf (s.regBytes who b off n).2.2.mem = true := by
  unfold State.regBytes
  extract_lets r
  refine wf_foldlAt (fun acc : Status × List Byte × State => acc.2.2) (fun acc w ha => ?_) _ _ hw
  dsimp only
  rw [mem_popAnswer]
  exact wf_regRead ha ..

theorem wf_regProbe (who : Requester) (b off : Nat) : Memory.wf (s.regProbe who b off).2.mem = true := by
  grind [State.regProbe, !wf_regWrite, !mem_popAnswer]

theorem wf_regPut (who : Requester) (b off : Nat) (bs : List Byte) : Memory.wf (s.regPut who b off bs).2.mem = true := by
  unfold State.regPut
  split
  · exact wf_regProbe hw ..
  refine wf_foldlAt (fun acc : Status × State => acc.2) (fun acc w ha => ?_) _ _ hw
  dsimp only
  rw [mem_popAnswer]
  exact wf_regWrite ha ..

theorem wf_read1 (who : Requester) (a n : Nat) : Memory.wf (s.read1 who a n).2.2.mem = true := by
  grind [State.read1, !mem_accessError, !mem_decodeError, !mem_memRead, !wf_regBytes, !mem_spdBytes]

theorem wf_write1 (who : Requester) (a : Nat) (bs : List Byte) : Memory.wf (s.write1 who a bs).2.mem = true := by
  grind [State.write1, !State.setCore_mem, !mem_accessError, !mem_decodeError, !wf_memWrite, !wf_regPut, !mem_spdPut]

theorem wf_busRead (who : Requester) (a n : Nat) : Memory.wf (s.busRead who a n).2.2.2.mem = true := by
  unfold State.busRead
  refine wf_foldlAt (fun acc : Status × Nat × List Byte × State => acc.2.2.2) (fun acc p ha => ?_) _ _ hw
  obtain ⟨st, x, bs, u⟩ := acc
  cases st
  · exact wf_read1 (s := u) ha ..
  all_goals exact ha

theorem wf_busWrite (who : Requester) (a : Nat) (bs : List Byte) : Memory.wf (s.busWrite who a bs).2.2.mem = true := by
  unfold State.busWrite
  refine wf_foldlAt (fun acc : Status × Nat × State => acc.2.2) (fun acc p ha => ?_) _ _ hw
  obtain ⟨st, x, u⟩ := acc
  cases st
  · exact wf_write1 (s := u) ha ..
  all_goals exact ha

theorem wf_writeRun (who : Requester) (p : Nat × List Byte) : Memory.wf (s.writeRun who p).2.mem = true := by
  grind [State.writeRun, !wf_write1]

theorem wf_busWriteRuns (who : Requester) (a : Nat) (bs : List (Bool × Byte)) : Memory.wf (s.busWriteRuns who a bs).2.mem = true := by
  unfold State.busWriteRuns
  refine wf_foldlAt (fun acc : Status × State => acc.2) (fun acc p ha => ?_) _ _ hw
  obtain ⟨st, u⟩ := acc
  cases st
  · have h1 := wf_writeRun (s := u) ha who p
    have h2 := wf_writeRun hw who p
    dsimp only
    generalize u.writeRun who p = a at h1
    generalize s.writeRun who p = b at h2
    split
    · exact h1
    · exact h2
  all_goals exact ha

/-! #### Bobbin -/

theorem wf_chanRead (n a k : Nat) : Memory.wf (s.chanRead n a k).2.2.2.mem = true := by
  grind [State.chanRead, !mem_chanMeter, !wf_busRead]

theorem wf_chanWrite (n a : Nat) (bs : List Byte) : Memory.wf (s.chanWrite n a bs).2.2.mem = true := by
  grind [State.chanWrite, !mem_chanMeter, !wf_busWrite]

theorem wf_bobFetch (n : Nat) : Memory.wf (s.bobFetch n).2.mem = true := by
  grind [State.bobFetch, !wf_chanRead]

theorem wf_bobRun {f : State → BobIns → Option State} (hf : ∀ u i t,
    Memory.wf u.mem = true → f u i = some t → Memory.wf t.mem = true) (n : Nat) : Memory.wf (s.bobRun n f).mem = true := by
  unfold State.bobRun
  split
  · have h1 := wf_bobFetch hw n
    split <;> rename_i heq <;> rw [heq] at h1
    · simpa using h1
    · simpa using h1
    · rename_i i _ t _
      cases ht : f t i with
      | none => exact hw
      | some u => exact hf _ _ _ h1 ht
  · exact hw

theorem wf_moveBlock (n src dst off : Nat) : Memory.wf (s.moveBlock n src dst off).2.mem = true := by
  unfold State.moveBlock
  have h1 := wf_chanRead hw n (src + off) 64
  generalize s.chanRead n (src + off) 64 = a at h1
  obtain ⟨st, x, b, s1⟩ := a
  replace h1 : Memory.wf s1.mem = true := h1
  cases st
  case ok =>
    dsimp only
    have h2 : (s1.moveData n src dst (dst + off) b).2.mem = s1.mem := mem_moveData ..
    generalize s1.moveData n src dst (dst + off) b = a at h2
    obtain ⟨b, s2⟩ := a
    rw [← show s2.mem = s1.mem from h2] at h1
    dsimp only
    have h3 := wf_chanWrite h1 n (dst + off) b
    generalize s2.chanWrite n (dst + off) b = a at h3
    obtain ⟨st, y, s3⟩ := a
    cases st <;> exact h3
  all_goals exact h1

theorem wf_moveBlocks (n src dst : Nat) (x1 : Nat) (x2 : Nat) : Memory.wf (s.moveBlocks n src dst x1 x2).2.mem = true := by
  fun_induction s.moveBlocks n src dst x1 x2 <;> grind [!wf_moveBlock]

theorem wf_moveFrom (n src dst len off : Nat) (drain : Bool) : Memory.wf (s.moveFrom n src dst len off drain).mem = true := by
  grind [State.moveFrom, !State.setChan_mem, !wf_moveBlocks, !mem_moveDone]

theorem wf_bobMove (n : Nat) : Memory.wf (s.bobMove n).mem = true := by
  grind [State.bobMove, !State.setChan_mem, !mem_chanFail, !wf_bobRun, !wf_moveFrom]

theorem wf_reissue (n : Nat) (b : BadAccess) : Memory.wf (s.reissue n b).2.mem = true := by
  grind [State.reissue, !wf_chanWrite, !wf_moveBlock]

theorem wf_moveRetry (n : Nat) (b : BadAccess) : Memory.wf (s.moveRetry n b).mem = true := by
  grind [State.moveRetry, !State.setChan_mem, !wf_moveFrom, !wf_reissue]

theorem wf_resumeMove (n : Nat) : Memory.wf (s.resumeMove n).mem = true := by
  grind [State.resumeMove, !State.setChan_mem, !wf_moveRetry]

theorem wf_settle : Memory.wf s.settle.mem = true := by
  unfold State.settle
  generalize List.range 64 = l
  exact wf_takeReports (wf_foldl (fun s n hs => wf_resumeMove hs n) l s hw)

theorem wf_busError (n : Nat) : Memory.wf (s.busError n).mem = true := by
  grind [State.busError, !State.setChan_mem, !mem_chanFail, !wf_moveRetry]

theorem wf_bobLoop (n : Nat) : Memory.wf (s.bobLoop n).mem = true := by
  grind [State.bobLoop, !State.setChan_mem, !wf_bobRun]

theorem wf_bobWait (n : Nat) : Memory.wf (s.bobWait n).mem = true := by
  grind [State.bobWait, !State.setChan_mem, !mem_chanForeign, !wf_bobRun, !mem_serveEvent]

theorem wf_bobPace (n : Nat) : Memory.wf (s.bobPace n).mem = true := by
  grind [State.bobPace, !State.setChan_mem, !mem_chanForeign, !wf_bobRun, !mem_takeTally, !mem_serveEvent]

theorem wf_bobSignal (n : Nat) : Memory.wf (s.bobSignal n).mem = true := by
  grind [State.bobSignal, !mem_pulse, !mem_signal, !mem_chanForeign, !wf_bobRun, !mem_bobNext]

theorem wf_bobEnd (n : Nat) : Memory.wf (s.bobEnd n).mem = true := by
  grind [State.bobEnd, !State.setChan_mem, !mem_updJob, !mem_hankPulse, !wf_serve, !wf_bobRun]

theorem wf_stopMove (n src dst : Nat) (x1 : Nat) (x2 : Nat) : Memory.wf (s.stopMove n src dst x1 x2).mem = true := by
  fun_induction s.stopMove n src dst x1 x2 <;> grind [!State.setChan_mem, !wf_moveBlock]

theorem wf_chanStopDone (n : Nat) : Memory.wf (s.chanStopDone n).mem = true := by
  grind [State.chanStopDone, !State.setChan_mem, !mem_updJob, !wf_complete, !wf_stopMove]

/-! #### Fabric -/

theorem wf_patrol (a ecc : Nat) (passDone held : Bool) : Memory.wf (s.patrol a ecc passDone held).mem = true := by
  grind [State.patrol, !mem_flip, !wf_scrub, !mem_passEnd, !wf_arrive]

/-! #### Requests -/

theorem wf_pageWrite (f off : Nat) (bs : List Byte) : Memory.wf (s.pageWrite f off bs).mem = true := by
  grind [State.pageWrite, !State.setFn_mem, !wf_putBytes, !mem_postReq]

theorem wf_barRead (f a n : Nat) : Memory.wf (s.barRead f a n).2.mem = true := by
  unfold State.barRead
  refine wf_foldlAt (fun acc : List Byte × State => acc.2) (fun acc p ha => ?_) _ _ hw
  exact wf_read1 ha ..

theorem wf_barWrite (f a : Nat) (bs : List Byte) : Memory.wf (s.barWrite f a bs).mem = true := by
  unfold State.barWrite
  exact wf_foldl (fun acc p ha => wf_write1 ha ..) _ _ hw

theorem wf_barAccess (f bar off len : Nat) (data : Option (List Byte)) : Memory.wf (s.barAccess f bar off len data).mem = true := by
  unfold State.barAccess
  extract_lets n
  clear_value n
  split_ifs
  · exact hw
  · cases data with
    | none => simpa using hw
    | some d => simpa using wf_pageWrite hw ..
  · simpa using hw
  · simpa using hw
  · cases data with
    | none => simpa using wf_barRead hw ..
    | some d => simpa using wf_barWrite hw ..

theorem wf_request (r : MemReq) : Memory.wf (s.request r).mem = true := by
  unfold State.request
  refine wf_asHank hw _ ?_
  split
  iterate 2 exact wf_arrive (by rw [mem_flips]; exact hw) ..
  split
  · rw [State.emit_mem]; exact wf_write1 hw ..
  · rw [State.emit_mem]; exact wf_read1 hw ..

/-! #### SpindleCore -/

theorem wf_coreTake (c : Nat) : Memory.wf (s.coreTake c).mem = true := by
  grind [State.coreTake, !wf_complete, !mem_startCheck, !mem_taskStart]

theorem wf_taskDone (c cycles : Nat) : Memory.wf (s.taskDone c cycles).mem = true := by
  grind [State.taskDone, !State.setCore_mem, !mem_updJob, !wf_serve]

/-! #### Tokenizer -/

theorem wf_tokFinish (r : TokRun) : Memory.wf (s.tokFinish r).mem = true := by
  grind [State.tokFinish, !mem_updJob, !wf_serve, !wf_tokReported, !mem_tokRelease]

theorem wf_tokStart : Memory.wf s.tokStart.mem = true := by
  generalize hx : s.tokStart = x
  unfold State.tokStart at hx
  split at hx
  · rename_i j _ _
    split at hx <;> rename_i s1 heq <;> have h1 := mem_startCheck s 27 <;> rw [heq] at h1 <;> rw [← show s1.mem = s.mem from h1] at hw
    · rw [← hx]; exact wf_complete hw ..
    extract_lets s2 _ s3 d s4 r at hx
    have h4 : Memory.wf s4.mem = true := by
      unfold s4 d
      rw [mem_tokRead]
      show Memory.wf s2.mem = true
      unfold s2
      rw [mem_updJob]
      exact hw
    clear_value s4 r
    split at hx
    · rw [← hx]; exact wf_tokFinish h4 ..
    rename_i b _
    extract_lets r at hx
    clear_value r
    split at hx
    · rw [← hx]; exact wf_tokFinish h4 ..
    have h5 : (s4.openDict j.hank (leAt b 8 8) (tokMode b).fold).2.mem = s4.mem := mem_openDict ..
    split at hx <;> rename_i s5 heq <;> rw [heq] at h5 <;> rw [← show s5.mem = s4.mem from h5] at h4
    · rw [← hx]; exact wf_tokFinish h4 ..
    extract_lets r at hx
    split at hx <;> rw [← hx]
    · rw [mem_drainPort]; exact h4
    · exact h4
  · rw [← hx]; exact hw

theorem wf_tokEnd : Memory.wf s.tokEnd.mem = true := by
  grind [State.tokEnd, !wf_runTok, !mem_tokPackets, !wf_tokFinish]

/-! #### Tray -/

theorem wf_loseRelay (j : Job) : Memory.wf (s.loseRelay j).mem = true := by
  grind [State.loseRelay, !mem_engBytes, !wf_complete, !mem_tombstone]

theorem wf_setPeer (a st : Nat) : Memory.wf (s.setPeer a st).mem = true := by
  unfold State.setPeer
  extract_lets p
  split
  · exact hw
  rename_i s1 s2 s3 _
  have h2 : Memory.wf s2.mem = true := by simpa [s2, s1] using hw
  rw [mem_retier]
  unfold s3
  split
  · exact wf_foldl (fun s j hs => wf_loseRelay hs ..) _ _ h2
  · exact h2

theorem wf_peerAnswer (a : Nat) (id : PeerId) : Memory.wf (s.peerAnswer a id).mem = true := by
  grind [State.peerAnswer, !mem_setPeerRec, !wf_setPeer]

theorem wf_missPoll (a : Nat) : Memory.wf (s.missPoll a).mem = true := by
  grind [State.missPoll, !mem_setPeerRec, !wf_setPeer]

theorem wf_dropStages (p : RelayStage → Bool) : Memory.wf (s.dropStages p).mem = true := by
  unfold State.dropStages
  extract_lets gone s1
  exact wf_foldl (fun s x hs => wf_complete hs ..) _ _ hw

theorem wf_polled (epoch : Nat) : Memory.wf (s.polled epoch).mem = true := by
  grind [State.polled, !mem_setPeerRec, !mem_sendFrame, !wf_dropStages]

theorem wf_loseMaster : Memory.wf s.loseMaster.mem = true := by
  grind [State.loseMaster, !wf_dropStages]

theorem wf_forwarded (op object value dur origin : Nat) (data : List Byte) :
    Memory.wf (s.forwarded op object value dur origin data).mem = true := by
  grind [State.forwarded, !State.emit_mem, !mem_jAck, !mem_answer, !wf_manage, !mem_sendFrame, !mem_bootOp]

theorem wf_relayStart (id : Nat) : Memory.wf (s.relayStart id).mem = true := by
  grind [State.relayStart, !mem_engRead, !mem_updJob, !wf_complete, !mem_relayNext]

theorem wf_relayAcked (f : RelayAckFrame) : Memory.wf (s.relayAcked f).mem = true := by
  grind [State.relayAcked, !wf_engWrite, !wf_complete, !wf_serve, !mem_setRelay, !mem_relayNext]

theorem wf_relayWork (f : RelayFrame) (x : RelayStage) : Memory.wf (s.relayWork f x).mem = true := by
  grind [State.relayWork, !wf_engWrite, !mem_engBytes, !mem_hankPulse, !wf_serve, !mem_relayReply]

theorem wf_relayDo (f : RelayFrame) (x : RelayStage) : Memory.wf (s.relayDo f x).mem = true := by
  grind [State.relayDo, !wf_relayWork]

theorem wf_relayGo (x : RelayStage) : Memory.wf (s.relayGo x).mem = true := by
  unfold State.relayGo
  extract_lets s1 _ s2
  have h2 : Memory.wf s2.mem = true := by
    show Memory.wf s1.mem = true
    unfold s1
    rw [mem_updJob]
    exact hw
  refine wf_foldl (fun s f hs => ?_) _ _ h2
  split
  · exact wf_relayWork hs ..
  · exact hs

theorem wf_relayJobStart (id : Nat) : Memory.wf (s.relayJobStart id).mem = true := by
  grind [State.relayJobStart, !wf_relayStart, !wf_relayGo]

theorem wf_relayed (f : RelayFrame) : Memory.wf (s.relayed f).mem = true := by
  grind [State.relayed, !mem_relayReply, !mem_relayAdmit, !wf_relayDo]

/-! #### Whorl -/

theorem wf_whlFinish (a cycles : Nat) (r : WhlRun) : Memory.wf (s.whlFinish a cycles r).mem = true := by
  grind [State.whlFinish, !State.setArr_mem, !mem_updJob, !wf_serve, !wf_whlReported, !mem_whlRelease]

theorem wf_whlStart (a : Nat) (ce : List (Nat × Nat)) (ue : List Nat) : Memory.wf (s.whlStart a ce ue).mem = true := by
  generalize hx : s.whlStart a ce ue = x
  unfold State.whlStart at hx
  extract_lets y tiles at hx
  split at hx
  · rename_i id rest _ _
    extract_lets s1 c s2 at hx
    have h1 : Memory.wf s1.mem = true := hw
    split at hx
    · rw [← hx]; exact h1
    rename_i j _
    have hc : Memory.wf c.2.mem = true := by
      refine wf_foldlAt (fun acc : Bool × State => acc.2) (fun acc t ha => ?_) _ _ h1
      rw [mem_startCheck]
      exact ha
    extract_lets r at hx
    split at hx
    · rw [← hx]; exact wf_complete hc ..
    have h2 : Memory.wf s2.mem = true := by
      unfold s2
      rw [mem_updJob]
      exact hc
    clear_value s2 r
    have h3 : (s2.whlRead (84 + y.first) { run := r } j.desc 128).2.mem = s2.mem := mem_whlRead ..
    split at hx <;> rename_i s3 heq <;> rw [heq] at h3 <;> rw [← show s3.mem = s2.mem from h3] at h2
    · rw [← hx]; exact wf_whlFinish h2 ..
    extract_lets _ r' d cause s4 r1 s5 r2 at hx
    have h5 : s5.mem = s3.mem := by
      unfold s5 s4
      split <;> simp
    split at hx
    · rw [← hx]; exact wf_whlFinish h2 ..
    rw [← h5] at h2
    split at hx <;> rw [← hx]
    · rw [mem_drainPort, mem_putRun]; exact h2
    · rw [mem_putRun]; exact h2
  · rw [← hx]; exact hw

theorem wf_whlEnd (a cycles : Nat) : Memory.wf (s.whlEnd a cycles).mem = true := by
  grind [State.whlEnd, !wf_whlRun, !mem_whlPackets, !wf_whlFinish]

/-! #### ZagilFar -/

theorem wf_farLoad (c w : Nat) : Memory.wf (farLoad s c w).2.mem = true := by
  grind [farLoad, !State.setCore_mem, !wf_busRead, !mem_coreMeter]

theorem wf_farStore (c w : Nat) : Memory.wf (farStore s c w).2.mem = true := by
  grind [farStore, !wf_busWrite, !mem_coreMeter]

theorem wf_farVecLoad (c w : Nat) : Memory.wf (farVecLoad s c w).2.mem = true := by
  grind [farVecLoad, !State.setCore_mem, !wf_busRead, !mem_coreMeter]

theorem wf_farVecStore (c w : Nat) : Memory.wf (farVecStore s c w).2.mem = true := by
  grind [farVecStore, !wf_busWriteRuns, !mem_coreMeter]

theorem wf_issue {eff : State → Nat → Nat → Option Nat × State} (he : ∀ u c w, Memory.wf u.mem = true → Memory.wf (eff u c w).2.mem = true)
    (c : Nat) (legal : Core → Nat → Bool) (op : Nat → Bool) : Memory.wf (s.issue c legal op eff).mem = true := by
  unfold State.issue
  extract_lets k w s1
  have h1 : Memory.wf s1.mem = true := hw
  split
  · split
    · rw [mem_spdFault]; exact h1
    split
    · exact hw
    split
    · rw [mem_slotDone]; exact h1
    have h2 := he s1 c w h1
    split <;> rename_i heq <;> rw [heq] at h2
    · rw [mem_slotDone]; exact h2
    · rw [mem_spdFault]; exact h2
  · exact hw

theorem wf_zagilFar {f : State → Nat → Nat → Option Nat × State} (hf : ∀ s c w,
    Memory.wf s.mem = true → Memory.wf (f s c w).2.mem = true) (c : Nat) (op : Nat → Bool) : Memory.wf (s.zagilFar c op f).mem = true := by
  unfold State.zagilFar
  exact wf_settle (wf_issue (s := { s with out := [] }) hw hf ..)

end

/-! ### Every command keeps main memory canonical -/

/-- The memory that an outcome leaves, if it leaves one, is canonical. -/
def KeepsCanonical (o : Host.Outcome State Fault Refusal) : Prop := ∀ t, o = .next t → Memory.wf t.mem = true

theorem keeps_next {t : State} (ht : Memory.wf t.mem = true) : KeepsCanonical (.next t) := by
  rintro _ ⟨⟩
  exact ht

theorem keeps_ite {c : Prop} [Decidable c] {a b : Host.Outcome State Fault Refusal} (ha : KeepsCanonical a) (hb : KeepsCanonical b) :
    KeepsCanonical (if c then a else b) := by
  split
  · exact ha
  · exact hb

theorem wf_of_mem {s t : State} (h : t.mem = s.mem) (hw : Memory.wf s.mem = true) : Memory.wf t.mem = true := by
  rwa [h]

section
variable {s : State} (hw : Memory.wf s.mem = true)
include hw

theorem wf_onFrame {f : State → State} (hf : ∀ u, Memory.wf u.mem = true → Memory.wf (f u).mem = true) (role ty : Nat) (h : Ebvar) :
    Memory.wf (s.onFrame role ty h f).mem = true := by
  unfold State.onFrame
  split
  · exact hw
  have h1 : (s.hear h).2.mem = s.mem := mem_hear ..
  split <;> rename_i heq <;> rw [heq] at h1 <;> rw [← show _ = s.mem from h1] at hw
  · exact hw
  · exact wf_of_mem (mem_ackAgain ..) hw
  · exact hf _ hw

theorem wf_idle : Memory.wf s.idle.mem = true := by
  unfold State.idle
  extract_lets s1
  split
  · exact wf_takeReports (wf_serveTick hw)
  · exact hw

theorem keeps_execNop (core : Nat) : KeepsCanonical (execNop core s) :=
  keeps_next (wf_of_mem (mem_zagil ..) hw)

theorem keeps_execAdd (core : Nat) : KeepsCanonical (execAdd core s) :=
  keeps_next (wf_of_mem (mem_zagil ..) hw)

theorem keeps_execSub (core : Nat) : KeepsCanonical (execSub core s) :=
  keeps_next (wf_of_mem (mem_zagil ..) hw)

theorem keeps_execAnd (core : Nat) : KeepsCanonical (execAnd core s) :=
  keeps_next (wf_of_mem (mem_zagil ..) hw)

theorem keeps_execOr (core : Nat) : KeepsCanonical (execOr core s) :=
  keeps_next (wf_of_mem (mem_zagil ..) hw)

theorem keeps_execXor (core : Nat) : KeepsCanonical (execXor core s) :=
  keeps_next (wf_of_mem (mem_zagil ..) hw)

theorem keeps_execSll (core : Nat) : KeepsCanonical (execSll core s) :=
  keeps_next (wf_of_mem (mem_zagil ..) hw)

theorem keeps_execSrl (core : Nat) : KeepsCanonical (execSrl core s) :=
  keeps_next (wf_of_mem (mem_zagil ..) hw)

theorem keeps_execSra (core : Nat) : KeepsCanonical (execSra core s) :=
  keeps_next (wf_of_mem (mem_zagil ..) hw)

theorem keeps_execSlt (core : Nat) : KeepsCanonical (execSlt core s) :=
  keeps_next (wf_of_mem (mem_zagil ..) hw)

theorem keeps_execSltu (core : Nat) : KeepsCanonical (execSltu core s) :=
  keeps_next (wf_of_mem (mem_zagil ..) hw)

theorem keeps_execMul (core : Nat) : KeepsCanonical (execMul core s) :=
  keeps_next (wf_of_mem (mem_zagil ..) hw)

theorem keeps_execMulh (core : Nat) : KeepsCanonical (execMulh core s) :=
  keeps_next (wf_of_mem (mem_zagil ..) hw)

theorem keeps_execMin (core : Nat) : KeepsCanonical (execMin core s) :=
  keeps_next (wf_of_mem (mem_zagil ..) hw)

theorem keeps_execMax (core : Nat) : KeepsCanonical (execMax core s) :=
  keeps_next (wf_of_mem (mem_zagil ..) hw)

theorem keeps_execMovi (core : Nat) : KeepsCanonical (execMovi core s) :=
  keeps_next (wf_of_mem (mem_zagil ..) hw)

theorem keeps_execMovhi (core : Nat) : KeepsCanonical (execMovhi core s) :=
  keeps_next (wf_of_mem (mem_zagil ..) hw)

theorem keeps_execLocalScalarLoad (core : Nat) : KeepsCanonical (execLocalScalarLoad core s) :=
  keeps_next (wf_of_mem (mem_zagil ..) hw)

theorem keeps_execLocalScalarStore (core : Nat) : KeepsCanonical (execLocalScalarStore core s) :=
  keeps_next (wf_of_mem (mem_zagil ..) hw)

theorem keeps_execAmod (core : Nat) : KeepsCanonical (execAmod core s) :=
  keeps_next (wf_of_mem (mem_zagil ..) hw)

theorem keeps_execFarScalarLoad (core : Nat) : KeepsCanonical (execFarScalarLoad core s) :=
  keeps_next (wf_zagilFar hw (fun _ _ _ h => wf_farLoad h ..) ..)

theorem keeps_execFarScalarStore (core : Nat) : KeepsCanonical (execFarScalarStore core s) :=
  keeps_next (wf_zagilFar hw (fun _ _ _ h => wf_farStore h ..) ..)

theorem keeps_execBr (core : Nat) : KeepsCanonical (execBr core s) :=
  keeps_next (wf_of_mem (mem_zagil ..) hw)

theorem keeps_execBrr (core : Nat) : KeepsCanonical (execBrr core s) :=
  keeps_next (wf_of_mem (mem_zagil ..) hw)

theorem keeps_execCall (core : Nat) : KeepsCanonical (execCall core s) :=
  keeps_next (wf_of_mem (mem_zagil ..) hw)

theorem keeps_execCallr (core : Nat) : KeepsCanonical (execCallr core s) :=
  keeps_next (wf_of_mem (mem_zagil ..) hw)

theorem keeps_execRet (core : Nat) : KeepsCanonical (execRet core s) :=
  keeps_next (wf_of_mem (mem_zagil ..) hw)

theorem keeps_execRti (core : Nat) : KeepsCanonical (execRti core s) :=
  keeps_next (wf_of_mem (mem_zagil ..) hw)

theorem keeps_execRep (core : Nat) : KeepsCanonical (execRep core s) :=
  keeps_next (wf_of_mem (mem_zagil ..) hw)

theorem keeps_execRepr (core : Nat) : KeepsCanonical (execRepr core s) :=
  keeps_next (wf_of_mem (mem_zagil ..) hw)

theorem keeps_execTend (core : Nat) : KeepsCanonical (execTend core s) :=
  keeps_next (wf_of_mem (mem_zagil ..) hw)

theorem keeps_execFence (core : Nat) : KeepsCanonical (execFence core s) :=
  keeps_next (wf_of_mem (mem_zagil ..) hw)

theorem keeps_execWaiti (core : Nat) : KeepsCanonical (execWaiti core s) :=
  keeps_next (wf_of_mem (mem_zagil ..) hw)

theorem keeps_execMovcRead (core : Nat) : KeepsCanonical (execMovcRead core s) :=
  keeps_next (wf_of_mem (mem_zagil ..) hw)

theorem keeps_execMovcWrite (core : Nat) : KeepsCanonical (execMovcWrite core s) :=
  keeps_next (wf_of_mem (mem_zagil ..) hw)

theorem keeps_execSkip (core : Nat) : KeepsCanonical (execSkip core s) :=
  keeps_next (wf_of_mem (mem_zagil ..) hw)

theorem keeps_execVadd (core : Nat) : KeepsCanonical (execVadd core s) :=
  keeps_next (wf_of_mem (mem_zagil ..) hw)

theorem keeps_execVsub (core : Nat) : KeepsCanonical (execVsub core s) :=
  keeps_next (wf_of_mem (mem_zagil ..) hw)

theorem keeps_execVadds (core : Nat) : KeepsCanonical (execVadds core s) :=
  keeps_next (wf_of_mem (mem_zagil ..) hw)

theorem keeps_execVsubs (core : Nat) : KeepsCanonical (execVsubs core s) :=
  keeps_next (wf_of_mem (mem_zagil ..) hw)

theorem keeps_execVmul (core : Nat) : KeepsCanonical (execVmul core s) :=
  keeps_next (wf_of_mem (mem_zagil ..) hw)

theorem keeps_execVmulq (core : Nat) : KeepsCanonical (execVmulq core s) :=
  keeps_next (wf_of_mem (mem_zagil ..) hw)

theorem keeps_execVand (core : Nat) : KeepsCanonical (execVand core s) :=
  keeps_next (wf_of_mem (mem_zagil ..) hw)

theorem keeps_execVor (core : Nat) : KeepsCanonical (execVor core s) :=
  keeps_next (wf_of_mem (mem_zagil ..) hw)

theorem keeps_execVxor (core : Nat) : KeepsCanonical (execVxor core s) :=
  keeps_next (wf_of_mem (mem_zagil ..) hw)

theorem keeps_execVsll (core : Nat) : KeepsCanonical (execVsll core s) :=
  keeps_next (wf_of_mem (mem_zagil ..) hw)

theorem keeps_execVsra (core : Nat) : KeepsCanonical (execVsra core s) :=
  keeps_next (wf_of_mem (mem_zagil ..) hw)

theorem keeps_execVsrl (core : Nat) : KeepsCanonical (execVsrl core s) :=
  keeps_next (wf_of_mem (mem_zagil ..) hw)

theorem keeps_execVmin (core : Nat) : KeepsCanonical (execVmin core s) :=
  keeps_next (wf_of_mem (mem_zagil ..) hw)

theorem keeps_execVmax (core : Nat) : KeepsCanonical (execVmax core s) :=
  keeps_next (wf_of_mem (mem_zagil ..) hw)

theorem keeps_execVabs (core : Nat) : KeepsCanonical (execVabs core s) :=
  keeps_next (wf_of_mem (mem_zagil ..) hw)

theorem keeps_execVsel (core : Nat) : KeepsCanonical (execVsel core s) :=
  keeps_next (wf_of_mem (mem_zagil ..) hw)

theorem keeps_execVsld (core : Nat) : KeepsCanonical (execVsld core s) :=
  keeps_next (wf_of_mem (mem_zagil ..) hw)

theorem keeps_execVbcast (core : Nat) : KeepsCanonical (execVbcast core s) :=
  keeps_next (wf_of_mem (mem_zagil ..) hw)

theorem keeps_execVpack (core : Nat) : KeepsCanonical (execVpack core s) :=
  keeps_next (wf_of_mem (mem_zagil ..) hw)

theorem keeps_execVunpk (core : Nat) : KeepsCanonical (execVunpk core s) :=
  keeps_next (wf_of_mem (mem_zagil ..) hw)

theorem keeps_execVcmpeq (core : Nat) : KeepsCanonical (execVcmpeq core s) :=
  keeps_next (wf_of_mem (mem_zagil ..) hw)

theorem keeps_execVcmplt (core : Nat) : KeepsCanonical (execVcmplt core s) :=
  keeps_next (wf_of_mem (mem_zagil ..) hw)

theorem keeps_execVcmple (core : Nat) : KeepsCanonical (execVcmple core s) :=
  keeps_next (wf_of_mem (mem_zagil ..) hw)

theorem keeps_execPand (core : Nat) : KeepsCanonical (execPand core s) :=
  keeps_next (wf_of_mem (mem_zagil ..) hw)

theorem keeps_execPor (core : Nat) : KeepsCanonical (execPor core s) :=
  keeps_next (wf_of_mem (mem_zagil ..) hw)

theorem keeps_execPxor (core : Nat) : KeepsCanonical (execPxor core s) :=
  keeps_next (wf_of_mem (mem_zagil ..) hw)

theorem keeps_execPandn (core : Nat) : KeepsCanonical (execPandn core s) :=
  keeps_next (wf_of_mem (mem_zagil ..) hw)

theorem keeps_execVld (core : Nat) : KeepsCanonical (execVld core s) :=
  keeps_next (wf_of_mem (mem_zagil ..) hw)

theorem keeps_execVst (core : Nat) : KeepsCanonical (execVst core s) :=
  keeps_next (wf_of_mem (mem_zagil ..) hw)

theorem keeps_execVldh (core : Nat) : KeepsCanonical (execVldh core s) :=
  keeps_next (wf_of_mem (mem_zagil ..) hw)

theorem keeps_execVsth (core : Nat) : KeepsCanonical (execVsth core s) :=
  keeps_next (wf_of_mem (mem_zagil ..) hw)

theorem keeps_execVldb (core : Nat) : KeepsCanonical (execVldb core s) :=
  keeps_next (wf_of_mem (mem_zagil ..) hw)

theorem keeps_execVldf (core : Nat) : KeepsCanonical (execVldf core s) :=
  keeps_next (wf_zagilFar hw (fun _ _ _ h => wf_farVecLoad h ..) ..)

theorem keeps_execVstf (core : Nat) : KeepsCanonical (execVstf core s) :=
  keeps_next (wf_zagilFar hw (fun _ _ _ h => wf_farVecStore h ..) ..)

theorem keeps_execMac (core : Nat) : KeepsCanonical (execMac core s) :=
  keeps_next (wf_of_mem (mem_zagil ..) hw)

theorem keeps_execMacxy (core : Nat) : KeepsCanonical (execMacxy core s) :=
  keeps_next (wf_of_mem (mem_zagil ..) hw)

theorem keeps_execCmac (core : Nat) : KeepsCanonical (execCmac core s) :=
  keeps_next (wf_of_mem (mem_zagil ..) hw)

theorem keeps_execCmacxy (core : Nat) : KeepsCanonical (execCmacxy core s) :=
  keeps_next (wf_of_mem (mem_zagil ..) hw)

theorem keeps_execAcclr (core : Nat) : KeepsCanonical (execAcclr core s) :=
  keeps_next (wf_of_mem (mem_zagil ..) hw)

theorem keeps_execVtoac (core : Nat) : KeepsCanonical (execVtoac core s) :=
  keeps_next (wf_of_mem (mem_zagil ..) hw)

theorem keeps_execAcadd (core : Nat) : KeepsCanonical (execAcadd core s) :=
  keeps_next (wf_of_mem (mem_zagil ..) hw)

theorem keeps_execAcsub (core : Nat) : KeepsCanonical (execAcsub core s) :=
  keeps_next (wf_of_mem (mem_zagil ..) hw)

theorem keeps_execAcmov (core : Nat) : KeepsCanonical (execAcmov core s) :=
  keeps_next (wf_of_mem (mem_zagil ..) hw)

theorem keeps_execBexp (core : Nat) : KeepsCanonical (execBexp core s) :=
  keeps_next (wf_of_mem (mem_zagil ..) hw)

theorem keeps_execBexpM (core : Nat) : KeepsCanonical (execBexpM core s) :=
  keeps_next (wf_of_mem (mem_zagil ..) hw)

theorem keeps_execSmov (core : Nat) : KeepsCanonical (execSmov core s) :=
  keeps_next (wf_of_mem (mem_zagil ..) hw)
end

section
variable {s : State} (ho : Memory.wf ({ s with out := [] } : State).mem = true)
include ho

theorem keeps_execJobSlotAcquire : KeepsCanonical (execJobSlotAcquire s) := by
  unfold execJobSlotAcquire
  dsimp only
  split
  · exact keeps_next (wf_of_mem (mem_admitJob ..) ho)
  · exact keeps_next ho

theorem keeps_execWakeNQualified (lowNs : Nat) : KeepsCanonical (execWakeNQualified lowNs s) := by
  unfold execWakeNQualified
  refine keeps_ite (keeps_next ho) (keeps_ite (keeps_ite (keeps_next ho) (keeps_next ho)) (keeps_ite (keeps_next ho) (keeps_ite ?_
    (keeps_next ho))))
  exact keeps_next (wf_of_mem ((mem_leaveHold ..).trans (mem_fact ..)) ho)

theorem keeps_execGapWaitExpiry (flow : Nat) : KeepsCanonical (execGapWaitExpiry flow s) := by
  unfold execGapWaitExpiry
  dsimp only
  split
  · exact keeps_ite (keeps_next ho) (keeps_next (wf_of_mem ((mem_gapStart ..).trans (mem_skipGap ..)) ho))
  · exact keeps_next ho

theorem keeps_execAuAdmit (flow : Nat) (info : AuInfo) : KeepsCanonical (execAuAdmit flow info s) := by
  unfold execAuAdmit
  dsimp only
  split
  · exact keeps_next (wf_auAdmit ho ..)
  · exact keeps_next ho

theorem keeps_execPictureDecoded (flow : Nat) (d : Decoded) : KeepsCanonical (execPictureDecoded flow d s) := by
  unfold execPictureDecoded
  dsimp only
  split
  · exact keeps_next (wf_pictureDecoded ho ..)
  · exact keeps_next ho

theorem keeps_execSamplingRateLoop (flow sub : Nat) : KeepsCanonical (execSamplingRateLoop flow sub s) := by
  unfold execSamplingRateLoop
  dsimp only
  split
  · split
    · exact keeps_ite (keeps_next ho) (keeps_next (wf_of_mem (mem_rateLoop ..) ho))
    · exact keeps_next ho
  · exact keeps_next ho

theorem keeps_execClipEnd (voice : Nat) : KeepsCanonical (execClipEnd voice s) := by
  unfold execClipEnd
  refine keeps_next ?_
  split
  · exact wf_ite (wf_of_mem (mem_endClip ..) ho) ho
  · exact ho

theorem keeps_execForcedHold : KeepsCanonical (execForcedHold s) := by
  unfold execForcedHold
  refine keeps_ite (keeps_next ho) (keeps_ite (keeps_next ho) (keeps_next ?_))
  refine wf_of_mem ((mem_enterHold ..).trans ((mem_foldl (by intros; rfl) _ _).trans (mem_fact ..))) ho

theorem keeps_execOverrideExpiry (object index : Nat) : KeepsCanonical (execOverrideExpiry object index s) := by
  unfold execOverrideExpiry
  dsimp only
  split
  · exact keeps_next ho
  · exact keeps_next (wf_of_mem ((mem_dropOverride ..).trans (mem_fact ..)) ho)

theorem keeps_execSelftestDone (index : Nat) (passed : Bool) : KeepsCanonical (execSelftestDone index passed s) := by
  unfold execSelftestDone
  extract_lets s1 u
  have h1 : Memory.wf s1.mem = true := ho
  clear_value s1
  split
  · exact keeps_next h1
  refine keeps_ite (keeps_next (wf_selftestAnswer ?_ ..)) (keeps_ite (keeps_next (wf_selftestAnswer ?_ ..)) (keeps_next (wf_selftestAnswer
    ?_ ..)))
  · exact h1
  · exact wf_of_mem (mem_writeUnit ..) h1
  · exact wf_ite h1 (wf_of_mem (mem_writeUnit ..) h1)

theorem keeps_execRegisterWrite (who : Requester) (block off : Nat) (value : Word) :
    KeepsCanonical (execRegisterWrite who block off value s) :=
  keeps_next (wf_settle (wf_regWrite ho ..))

theorem keeps_execPeakWrite (who : Requester) (value : Word) : KeepsCanonical (execPeakWrite who value s) :=
  keeps_next (wf_regWrite ho ..)

theorem keeps_execJobReserveWrite (who : Requester) (value : Word) : KeepsCanonical (execJobReserveWrite who value s) :=
  keeps_next (wf_regWrite ho ..)

theorem keeps_execDrainTicksWrite (who : Requester) (ply : Nat) (value : Word) : KeepsCanonical (execDrainTicksWrite who ply value s) :=
  keeps_next (wf_regWrite ho ..)

theorem keeps_execLatchingLowRead (who : Requester) (block off : Nat) : KeepsCanonical (execLatchingLowRead who block off s) :=
  keeps_next (wf_ite (wf_regRead ho ..) ho)

theorem keeps_execErrLatchRearmRead (who : Requester) (block off : Nat) : KeepsCanonical (execErrLatchRearmRead who block off s) :=
  keeps_next (wf_ite (wf_regRead ho ..) ho)

theorem keeps_execPorNAssert (lowNs : Nat) : KeepsCanonical (execPorNAssert lowNs s) :=
  keeps_ite (keeps_next wf_cold) (keeps_next ho)

theorem keeps_execPorNRelease (env : BootEnv) : KeepsCanonical (execPorNRelease env s) :=
  keeps_next (wf_of_mem (mem_bootCold ..) ho)

theorem keeps_execServicesReady : KeepsCanonical (execServicesReady s) :=
  keeps_next (wf_servicesReady ho ..)

theorem keeps_execRecoveryImage (image : List Byte) : KeepsCanonical (execRecoveryImage image s) :=
  keeps_next (wf_of_mem (mem_recoveryImage ..) ho)

theorem keeps_execVddWakeRise : KeepsCanonical (execVddWakeRise s) :=
  keeps_ite (keeps_next ho) (keeps_next ho)

theorem keeps_execFunctionLevelReset (fn : Nat) : KeepsCanonical (execFunctionLevelReset fn s) :=
  keeps_next (wf_of_mem (mem_flr ..) ho)

theorem keeps_execPerst : KeepsCanonical (execPerst s) :=
  keeps_next (wf_of_mem ((mem_updPci ..).trans (mem_linkDown ..)) ho)

theorem keeps_execPcieLinkDown : KeepsCanonical (execPcieLinkDown s) :=
  keeps_next (wf_of_mem (mem_linkDown ..) ho)

theorem keeps_execReset (from_ : Authority) (confirmed : List Nat) : KeepsCanonical (execReset from_ confirmed s) :=
  keeps_next (wf_of_mem (mem_answer ..) (wf_resetCmd ho ..))

theorem keeps_execLoad (from_ : Authority) : KeepsCanonical (execLoad from_ s) :=
  keeps_next (wf_ite (wf_of_mem (mem_answer ..) ho) (wf_loadWarp ho ..))

theorem keeps_execWeaveComplete (places : List Placement) : KeepsCanonical (execWeaveComplete places s) :=
  keeps_next (wf_of_mem (mem_weaveDone ..) ho)

theorem keeps_execReweave (from_ : Authority) (ply : Nat) : KeepsCanonical (execReweave from_ ply s) :=
  keeps_next (wf_ite (wf_of_mem (mem_answer ..) ho) (wf_of_mem (mem_reweaveCmd ..) ho))

theorem keeps_execCancel (from_ : Authority) (ply : Nat) : KeepsCanonical (execCancel from_ ply s) :=
  keeps_next (wf_ite (wf_of_mem (mem_answer ..) ho) (wf_of_mem (mem_cancelCmd ..) ho))

theorem keeps_execPlyBoundary (ply : Nat) (input : BoundaryInput) : KeepsCanonical (execPlyBoundary ply input s) :=
  keeps_next (wf_plyBoundary ho ..)

theorem keeps_execSubmitDoorbell (who : Requester) (count : Nat) : KeepsCanonical (execSubmitDoorbell who count s) :=
  keeps_next (wf_asHank ho _ (wf_doorbell ho ..))

theorem keeps_execMemoryRequest (r : MemReq) : KeepsCanonical (execMemoryRequest r s) :=
  keeps_next (wf_ite (wf_settle (wf_request ho ..)) ho)

theorem keeps_execRegionCreate (who : Requester) (slot : Nat) : KeepsCanonical (execRegionCreate who slot s) :=
  keeps_next (wf_asHank ho _ (wf_regionCreate ho ..))

theorem keeps_execRegionDestroy (who : Requester) (slot : Nat) : KeepsCanonical (execRegionDestroy who slot s) :=
  keeps_next (wf_asHank ho _ (wf_of_mem (mem_regionDestroy ..) ho))

theorem keeps_execRegionScrubDone (slot : Nat) : KeepsCanonical (execRegionScrubDone slot s) :=
  keeps_next (wf_regionScrubDone ho ..)

theorem keeps_execGrant (who : Requester) (peer : Nat) : KeepsCanonical (execGrant who peer s) :=
  keeps_next (wf_asHank ho _ (wf_of_mem (mem_grant ..) ho))

theorem keeps_execRevoke (who : Requester) (index : Nat) : KeepsCanonical (execRevoke who index s) :=
  keeps_next (wf_asHank ho _ (wf_of_mem (mem_revoke ..) ho))

theorem keeps_execRevokeComplete (index : Nat) : KeepsCanonical (execRevokeComplete index s) :=
  keeps_next (wf_of_mem (mem_revokeComplete ..) ho)

theorem keeps_execPoolAllocate (reqs : List (Requester × Nat × Nat × Nat)) : KeepsCanonical (execPoolAllocate reqs s) :=
  keeps_next (wf_of_mem (mem_foldl (by intros; rfl) _ _) (wf_poolCycle ho ..))

theorem keeps_execPoolFree (who : Requester) (ply pool index : Nat) : KeepsCanonical (execPoolFree who ply pool index s) :=
  keeps_next (wf_asHank ho _ (wf_poolFree ho ..))

theorem keeps_execPoolBufferScrubDone (ply pool index : Nat) : KeepsCanonical (execPoolBufferScrubDone ply pool index s) :=
  keeps_next (wf_of_mem (mem_poolScrubDone ..) ho)

theorem keeps_execMr4Poll (readings : List (Nat × Bool)) : KeepsCanonical (execMr4Poll readings s) :=
  keeps_next (wf_of_mem (mem_mr4 ..) ho)

theorem keeps_execDramHotRelease : KeepsCanonical (execDramHotRelease s) :=
  keeps_next (wf_of_mem (mem_hotRelease ..) ho)

theorem keeps_execPatrolScrub (addr ecc : Nat) (read : ScrubRead) : KeepsCanonical (execPatrolScrub addr ecc read s) :=
  keeps_next (wf_takeReports (wf_patrol ho ..))

theorem keeps_execFlitArrival (f : Flit) : KeepsCanonical (execFlitArrival f s) :=
  keeps_next (wf_takeReports (wf_of_mem (mem_flitArrive ..) ho))

theorem keeps_execCreditReturn (route count : Nat) : KeepsCanonical (execCreditReturn route count s) :=
  keeps_next (wf_takeReports (wf_of_mem (mem_creditReturn ..) ho))

theorem keeps_execSpindleTaskStart (core : Nat) : KeepsCanonical (execSpindleTaskStart core s) :=
  keeps_next (wf_takeReports (wf_coreTake ho ..))

theorem keeps_execSpindleTaskComplete (core cycles : Nat) : KeepsCanonical (execSpindleTaskComplete core cycles s) :=
  keeps_next (wf_taskDone ho ..)

theorem keeps_execInterruptEntry (core : Nat) : KeepsCanonical (execInterruptEntry core s) :=
  keeps_next (wf_of_mem (mem_takeInterrupt ..) ho)

theorem keeps_execEvp (core : Nat) : KeepsCanonical (execEvp core s) :=
  keeps_next (wf_of_mem (mem_issue _ (by intros; exact mem_evpOp ..) ..) ho)

theorem keeps_execWhorlJobStage (array : Nat) : KeepsCanonical (execWhorlJobStage array s) :=
  keeps_next (wf_of_mem (mem_whlStage ..) ho)

theorem keeps_execWhorlJobStart (array : Nat) (ce : List (Nat × Nat)) (ue : List Nat) : KeepsCanonical (execWhorlJobStart array ce ue s) :=
  keeps_next (wf_takeReports (wf_whlStart ho ..))

theorem keeps_execWhorlJobEnd (array cycles : Nat) : KeepsCanonical (execWhorlJobEnd array cycles s) :=
  keeps_next (wf_takeReports (wf_whlEnd ho ..))

theorem keeps_execOutputTableSwap (array : Nat) : KeepsCanonical (execOutputTableSwap array s) :=
  keeps_next (wf_of_mem (mem_tableSwap ..) ho)

theorem keeps_execHeadroomLoop (ply ctx : Nat) : KeepsCanonical (execHeadroomLoop ply ctx s) :=
  keeps_ite (keeps_next (wf_of_mem (mem_headroom ..) ho)) (keeps_next ho)

theorem keeps_execCtxHWrite (who : Requester) (ply ctx : Nat) (value : Word) : KeepsCanonical (execCtxHWrite who ply ctx value s) :=
  keeps_ite (keeps_next (wf_of_mem (mem_asHank _ _ (mem_writeCtxCfg ..)) ho)) (keeps_next ho)

theorem keeps_execCvtGo (who : Requester) (ply : Nat) : KeepsCanonical (execCvtGo who ply s) :=
  keeps_next (wf_asHank ho _ (wf_of_mem (mem_served ..) (wf_cvtGo ho ..)))

theorem keeps_execConversionDone (hank : Nat) : KeepsCanonical (execConversionDone hank s) :=
  keeps_next (wf_of_mem (mem_cvtDone ..) ho)

theorem keeps_execEthFrameReceive (f : EthFrame) : KeepsCanonical (execEthFrameReceive f s) :=
  keeps_next (wf_ethReceive ho ..)

theorem keeps_execDecodeStart (engine : Nat) : KeepsCanonical (execDecodeStart engine s) :=
  keeps_next (wf_decodeStart ho ..)

theorem keeps_execAugDoorbell (who : Requester) (count : Nat) : KeepsCanonical (execAugDoorbell who count s) :=
  keeps_next (wf_asHank ho _ (wf_of_mem ((mem_served ..).trans (mem_augDoorbell ..)) ho))

theorem keeps_execAugRecord (hank : Nat) : KeepsCanonical (execAugRecord hank s) :=
  keeps_next (wf_augRecord ho ..)

theorem keeps_execBqCfgWrite (who : Requester) (queue : Nat) (value : Word) : KeepsCanonical (execBqCfgWrite who queue value s) :=
  keeps_next (wf_asHank ho _ (wf_of_mem ((mem_served ..).trans (mem_bqCfg ..)) ho))

theorem keeps_execBatchRecordWrite (hank queue : Nat) : KeepsCanonical (execBatchRecordWrite hank queue s) :=
  keeps_next (wf_batchWrite ho ..)

theorem keeps_execTokenizerJobStart : KeepsCanonical (execTokenizerJobStart s) :=
  keeps_next (wf_takeReports (wf_tokStart ho ..))

theorem keeps_execTokenizerJobEnd : KeepsCanonical (execTokenizerJobEnd s) :=
  keeps_next (wf_takeReports (wf_tokEnd ho ..))

theorem keeps_execBobbinProgramStart (ch : Nat) : KeepsCanonical (execBobbinProgramStart ch s) :=
  keeps_next (wf_settle (wf_chanTake ho ..))

theorem keeps_execMove (ch : Nat) : KeepsCanonical (execMove ch s) :=
  keeps_next (wf_settle (wf_bobMove ho ..))

theorem keeps_execLoop (ch : Nat) : KeepsCanonical (execLoop ch s) :=
  keeps_next (wf_settle (wf_bobLoop ho ..))

theorem keeps_execWait (ch : Nat) : KeepsCanonical (execWait ch s) :=
  keeps_next (wf_settle (wf_bobWait ho ..))

theorem keeps_execPace (ch : Nat) : KeepsCanonical (execPace ch s) :=
  keeps_next (wf_settle (wf_bobPace ho ..))

theorem keeps_execSignal (ch : Nat) : KeepsCanonical (execSignal ch s) :=
  keeps_next (wf_settle (wf_bobSignal ho ..))

theorem keeps_execEnd (ch : Nat) : KeepsCanonical (execEnd ch s) :=
  keeps_next (wf_settle (wf_bobEnd ho ..))

theorem keeps_execChannelWaitSatisfied (event : Nat) : KeepsCanonical (execChannelWaitSatisfied event s) :=
  keeps_next (wf_of_mem (mem_serveEvent ..) ho)

theorem keeps_execMoveDrainDone (ch : Nat) : KeepsCanonical (execMoveDrainDone ch s) :=
  keeps_next (wf_ite (wf_of_mem (State.setChan_mem ..) ho) ho)

theorem keeps_execBobbinBusError (ch : Nat) : KeepsCanonical (execBobbinBusError ch s) :=
  keeps_next (wf_settle (wf_busError ho ..))

theorem keeps_execChannelHalt (ch : Nat) : KeepsCanonical (execChannelHalt ch s) :=
  keeps_next (wf_of_mem (mem_chanHalt ..) ho)

theorem keeps_execChannelStopDone (ch : Nat) : KeepsCanonical (execChannelStopDone ch s) :=
  keeps_next (wf_settle (wf_chanStopDone ho ..))

theorem keeps_execResume (who : Requester) (ch : Nat) : KeepsCanonical (execResume who ch s) :=
  keeps_next (wf_settle (wf_asHank ho _ (wf_of_mem (mem_chanCommand ..) ho)))

theorem keeps_execAbort (who : Requester) (ch : Nat) : KeepsCanonical (execAbort who ch s) :=
  keeps_next (wf_settle (wf_asHank ho _ (wf_of_mem (mem_chanCommand ..) ho)))

theorem keeps_execStart (who : Requester) (ch : Nat) : KeepsCanonical (execStart who ch s) :=
  keeps_next (wf_settle (wf_asHank ho _ (wf_of_mem (mem_chanCommand ..) ho)))

theorem keeps_execEvtPulse (who : Requester) (value : Word) : KeepsCanonical (execEvtPulse who value s) :=
  keeps_next (wf_asHank ho _ (wf_of_mem (mem_evtPulseWrite ..) ho))

theorem keeps_execMsixMessage (fn vector : Nat) (enabled : Option Bool) : KeepsCanonical (execMsixMessage fn vector enabled s) :=
  keeps_next (wf_of_mem (mem_sendMsix ..) ho)

theorem keeps_execBarAccess (fn bar off len : Nat) (data : Option (List Byte)) : KeepsCanonical (execBarAccess fn bar off len data s) :=
  keeps_next (wf_settle (wf_barAccess ho ..))

theorem keeps_execMailboxRequestPost (fn tail : Nat) : KeepsCanonical (execMailboxRequestPost fn tail s) :=
  keeps_next (wf_of_mem (mem_postReq ..) ho)

theorem keeps_execMailboxReply (fn : Nat) : KeepsCanonical (execMailboxReply fn s) :=
  keeps_next (wf_of_mem (mem_writeReply ..) ho)

theorem keeps_execPing (fn : Nat) : KeepsCanonical (execPing fn s) :=
  keeps_next (wf_mail ho (fun _ _ h => h) ..)

theorem keeps_execRouteEvent (fn appCore : Nat) : KeepsCanonical (execRouteEvent fn appCore s) :=
  keeps_next (wf_mail ho (fun _ _ h => wf_of_mem (mem_routeEvent ..) h) ..)

theorem keeps_execPlayPrompt (fn voice : Nat) : KeepsCanonical (execPlayPrompt fn voice s) :=
  keeps_next (wf_mail ho (fun _ _ h => wf_of_mem (mem_playPrompt ..) h) ..)

theorem keeps_execPublish (fn : Nat) (dropped : Bool) : KeepsCanonical (execPublish fn dropped s) :=
  keeps_next (wf_mail ho (fun _ _ h => wf_of_mem (mem_publish ..) h) ..)

theorem keeps_execFrameTransmit (port : Nat) (bytes : List Byte) (ptpEvent oneStep : Bool) :
    KeepsCanonical (execFrameTransmit port bytes ptpEvent oneStep s) :=
  keeps_next (wf_of_mem (mem_ethSend ..) ho)

theorem keeps_execTxtsPop (_who : Requester) (port : Nat) : KeepsCanonical (execTxtsPop _who port s) :=
  keeps_next (wf_of_mem (mem_popStamp ..) ho)

theorem keeps_execPhaseAdjWrite (who : Requester) (value : Word) : KeepsCanonical (execPhaseAdjWrite who value s) :=
  keeps_next (wf_asHank ho _ (wf_of_mem (mem_phaseAdj ..) ho))

theorem keeps_execPtpSyncLoss : KeepsCanonical (execPtpSyncLoss s) :=
  keeps_next (wf_ite (wf_of_mem (mem_setSync ..) ho) ho)

theorem keeps_execHoldoverExpired : KeepsCanonical (execHoldoverExpired s) :=
  keeps_next (wf_ite ho ho)

theorem keeps_execVoiceQueue (who : Requester) (voice : Nat) (value : Word) : KeepsCanonical (execVoiceQueue who voice value s) :=
  keeps_next (wf_asHank ho _ (wf_of_mem (mem_voiceCmd ..) ho))

theorem keeps_execVoiceStop (who : Requester) (voice : Nat) (value : Word) : KeepsCanonical (execVoiceStop who voice value s) :=
  keeps_next (wf_asHank ho _ (wf_of_mem (mem_voiceHalt ..) ho))

theorem keeps_execAmpFault (amp : Nat) : KeepsCanonical (execAmpFault amp s) :=
  keeps_next (wf_of_mem (mem_ampFault ..) ho)

theorem keeps_execAmpRetry (amp : Nat) (inputHigh : Bool) : KeepsCanonical (execAmpRetry amp inputHigh s) :=
  keeps_next (wf_of_mem (mem_ampRetry ..) ho)

theorem keeps_execAmpRetryClean (amp : Nat) : KeepsCanonical (execAmpRetryClean amp s) :=
  keeps_next (wf_ite (wf_of_mem (mem_setAmp ..) ho) ho)

theorem keeps_execClear (from_ : Authority) (amp : Nat) (inputLow : Bool) : KeepsCanonical (execClear from_ amp inputLow s) :=
  keeps_next (wf_of_mem ((mem_answer ..).trans (mem_ampClear ..)) ho)

theorem keeps_execRegulatorConfirm (island vout monitor : Nat) (statusOk : Bool) :
    KeepsCanonical (execRegulatorConfirm island vout monitor statusOk s) :=
  keeps_ite (keeps_next (wf_of_mem (mem_confirm ..) ho)) (keeps_next ho)

theorem keeps_execLinkLost (island : Nat) : KeepsCanonical (execLinkLost island s) :=
  keeps_next (wf_of_mem (mem_loseLink ..) ho)

theorem keeps_execConfirmTimeout (island : Nat) : KeepsCanonical (execConfirmTimeout island s) :=
  keeps_ite (keeps_next (wf_of_mem (mem_loseLink ..) ho)) (keeps_next ho)

theorem keeps_execMonitorCheck (island monitor : Nat) : KeepsCanonical (execMonitorCheck island monitor s) :=
  keeps_ite (keeps_next (wf_takeReports (wf_of_mem (mem_checkMonitor ..) ho))) (keeps_next ho)

theorem keeps_execPmbusRetry (island : Nat) (ok : Bool) : KeepsCanonical (execPmbusRetry island ok s) :=
  keeps_next (wf_of_mem (mem_retryLink ..) ho)

theorem keeps_execThermalSample (sites : List Nat) : KeepsCanonical (execThermalSample sites s) :=
  keeps_next (wf_of_mem (mem_thermal ..) ho)

theorem keeps_execThrottleStep : KeepsCanonical (execThrottleStep s) :=
  keeps_next (wf_of_mem (mem_throttle ..) ho)

theorem keeps_execThermalTrip (site temp : Nat) : KeepsCanonical (execThermalTrip site temp s) :=
  keeps_ite (keeps_next (wf_of_mem (mem_trip ..) ho)) (keeps_next ho)

theorem keeps_execPowerSample (r : PowerReading) : KeepsCanonical (execPowerSample r s) :=
  keeps_next (wf_of_mem (mem_powerSample ..) ho)

theorem keeps_execTdpCapStep : KeepsCanonical (execTdpCapStep s) :=
  keeps_next (wf_of_mem (mem_tdpStep ..) ho)

theorem keeps_execRun (from_ : Authority) : KeepsCanonical (execRun from_ s) :=
  keeps_next (wf_of_mem (mem_pwrCommand ..) ho)

theorem keeps_execHold (from_ : Authority) : KeepsCanonical (execHold from_ s) :=
  keeps_next (wf_of_mem (mem_pwrCommand ..) ho)

theorem keeps_execDormant (from_ : Authority) : KeepsCanonical (execDormant from_ s) :=
  keeps_next (wf_of_mem (mem_pwrCommand ..) ho)

theorem keeps_execHoldEntryComplete : KeepsCanonical (execHoldEntryComplete s) :=
  keeps_ite (keeps_next (wf_holdEntered ho)) (keeps_next ho)

theorem keeps_execHoldExitComplete (confirmed : List Nat) : KeepsCanonical (execHoldExitComplete confirmed s) :=
  keeps_ite (keeps_next (wf_of_mem (mem_holdLeft ..) ho)) (keeps_next ho)

theorem keeps_execFanCurveUpdate (rpm : List Nat) : KeepsCanonical (execFanCurveUpdate rpm s) :=
  keeps_next (wf_of_mem (mem_fanUpdate ..) ho)

theorem keeps_execFanFault (fan : Nat) : KeepsCanonical (execFanFault fan s) :=
  keeps_next (wf_of_mem (mem_fanFails ..) ho)

theorem keeps_execFanFaultClear (fan : Nat) : KeepsCanonical (execFanFaultClear fan s) :=
  keeps_next (wf_ite (wf_of_mem (mem_setFan ..) ho) ho)

theorem keeps_execWatchdogKick (who : Requester) (value : Word) : KeepsCanonical (execWatchdogKick who value s) :=
  keeps_next (wf_asHank ho _ (wf_of_mem (mem_wdKick ..) ho))

theorem keeps_execWatchdogExpiry : KeepsCanonical (execWatchdogExpiry s) :=
  keeps_next (wf_of_mem (mem_watchdogRestart ..) ho)

theorem keeps_execWdogRelease (who : Requester) (sites confirmed : List Nat) : KeepsCanonical (execWdogRelease who sites confirmed s) :=
  keeps_next (wf_asHank ho _ (wf_of_mem (mem_wdRelease ..) ho))

theorem keeps_execDangerAfterReading : KeepsCanonical (execDangerAfterReading s) :=
  keeps_next (wf_of_mem (mem_dangerAfter ..) ho)

theorem keeps_execPollCycle : KeepsCanonical (execPollCycle s) :=
  keeps_next (wf_of_mem (mem_pollPeers ..) ho)

theorem keeps_execDiscoverRound : KeepsCanonical (execDiscoverRound s) :=
  keeps_next (wf_of_mem (mem_discoverPeers ..) ho)

theorem keeps_execPollMissed (peer : Nat) : KeepsCanonical (execPollMissed peer s) :=
  keeps_next (wf_missPoll ho ..)

theorem keeps_execPoll (h : Ebvar) (epoch : Nat) : KeepsCanonical (execPoll h epoch s) :=
  keeps_next (wf_onFrame ho (fun _ h => wf_ite h (wf_polled h ..)) ..)

theorem keeps_execReply (h : Ebvar) (id : PeerId) : KeepsCanonical (execReply h id s) :=
  keeps_next (wf_onFrame ho (fun _ h => wf_peerAnswer h ..) ..)

theorem keeps_execDiscover (h : Ebvar) : KeepsCanonical (execDiscover h s) :=
  keeps_next (wf_onFrame ho (fun _ h => wf_ite h (wf_of_mem (mem_sendFrame ..) h)) ..)

theorem keeps_execAnnounce (h : Ebvar) (id : PeerId) : KeepsCanonical (execAnnounce h id s) :=
  keeps_next (wf_onFrame ho (fun _ h => wf_peerAnswer h ..) ..)

theorem keeps_execMgmt (h : Ebvar) (op object value durationS origin : Nat) (data : List Byte) :
    KeepsCanonical (execMgmt h op object value durationS origin data s) :=
  keeps_next (wf_onFrame ho (fun _ h => wf_forwarded h ..) ..)

theorem keeps_execMgmtRpl (h : Ebvar) (op status : Nat) (data : List Byte) : KeepsCanonical (execMgmtRpl h op status data s) :=
  keeps_next (wf_onFrame ho (fun _ h => wf_of_mem (mem_answer ..) h) ..)

theorem keeps_execRelay (f : RelayFrame) : KeepsCanonical (execRelay f s) :=
  keeps_next (wf_onFrame ho (fun _ h => wf_relayed h ..) ..)

theorem keeps_execRelayAck (f : RelayAckFrame) : KeepsCanonical (execRelayAck f s) :=
  keeps_next (wf_onFrame ho (fun _ h => wf_relayAcked h ..) ..)

theorem keeps_execRelayJobStart (job : Nat) : KeepsCanonical (execRelayJobStart job s) :=
  keeps_next (wf_relayJobStart ho ..)

theorem keeps_execMasterLost : KeepsCanonical (execMasterLost s) :=
  keeps_next (wf_loseMaster ho ..)

theorem keeps_execLogin (key r_ s_ : Nat) : KeepsCanonical (execLogin key r_ s_ s) :=
  keeps_next (wf_of_mem (mem_login ..) ho)

theorem keeps_execLogout : KeepsCanonical (execLogout s) :=
  keeps_next (wf_of_mem (mem_closeSession ..) ho)

theorem keeps_execSessionTimeout : KeepsCanonical (execSessionTimeout s) :=
  keeps_next (wf_of_mem (mem_closeSession ..) ho)

theorem keeps_execStatus (from_ : Authority) : KeepsCanonical (execStatus from_ s) :=
  keeps_next (wf_of_mem ((mem_mgmtOut ..).trans (mem_statusCmd ..)) ho)

theorem keeps_execUnit (a : MgmtArgs) : KeepsCanonical (execUnit a s) :=
  keeps_next (wf_of_mem (mem_mgmtOut ..) (wf_manage ho ..))

theorem keeps_execPower (a : MgmtArgs) : KeepsCanonical (execPower a s) :=
  keeps_next (wf_of_mem (mem_mgmtOut ..) (wf_manage ho ..))

theorem keeps_execPin (a : MgmtArgs) : KeepsCanonical (execPin a s) :=
  keeps_next (wf_of_mem (mem_mgmtOut ..) (wf_manage ho ..))

theorem keeps_execTdp (a : MgmtArgs) : KeepsCanonical (execTdp a s) :=
  keeps_next (wf_of_mem (mem_mgmtOut ..) (wf_manage ho ..))

theorem keeps_execFan (a : MgmtArgs) : KeepsCanonical (execFan a s) :=
  keeps_next (wf_of_mem (mem_mgmtOut ..) (wf_manage ho ..))

theorem keeps_execRelease (a : MgmtArgs) : KeepsCanonical (execRelease a s) :=
  keeps_next (wf_of_mem (mem_mgmtOut ..) (wf_manage ho ..))

theorem keeps_execWarplock (a : MgmtArgs) : KeepsCanonical (execWarplock a s) :=
  keeps_next (wf_of_mem (mem_mgmtOut ..) (wf_manage ho ..))

theorem keeps_execJournalRead (from_ : Authority) (first count : Nat) : KeepsCanonical (execJournalRead from_ first count s) :=
  keeps_ite (keeps_next (wf_of_mem (mem_answer ..) ho)) (keeps_ite (keeps_next (wf_of_mem (mem_answer ..) ho))
      (keeps_next (wf_of_mem (mem_answer ..) ho)))

theorem keeps_execJournalAck (from_ : Authority) (seq : Nat) : KeepsCanonical (execJournalAck from_ seq s) :=
  keeps_ite (keeps_next (wf_of_mem (mem_answer ..) ho)) (keeps_next (wf_of_mem ((mem_answer ..).trans (mem_jAck ..)) ho))

theorem keeps_execLeaAckWrite (who : Requester) (value : Word) : KeepsCanonical (execLeaAckWrite who value s) :=
  keeps_next (wf_regWrite ho ..)

theorem keeps_execFlush (who : Requester) : KeepsCanonical (execFlush who s) :=
  keeps_next (wf_regWrite ho ..)

theorem keeps_execFlushDone : KeepsCanonical (execFlushDone s) :=
  keeps_ite (keeps_next ho) (keeps_ite (keeps_next wf_powerOff)
      (keeps_next (wf_of_mem (mem_endFlush ..) ho)))

theorem keeps_execFlushTimeout : KeepsCanonical (execFlushTimeout s) :=
  keeps_ite (keeps_next ho) (keeps_ite (keeps_next (wf_of_mem ((mem_pwrEnd ..).trans (mem_pwrIdle ..))
      (wf_of_mem (mem_failFlush _) ho))) (keeps_next (wf_of_mem (mem_failFlush ..) ho)))

theorem keeps_execEpochProgramRetry (ok : Bool) : KeepsCanonical (execEpochProgramRetry ok s) :=
  keeps_ite (keeps_next (wf_of_mem (mem_programEpoch ..) ho)) (keeps_next ho)

theorem keeps_execStage (from_ : Authority) (part : Nat) : KeepsCanonical (execStage from_ part s) :=
  keeps_next (wf_of_mem (mem_stageCmd ..) ho)

theorem keeps_execStageComplete (ok : Bool) : KeepsCanonical (execStageComplete ok s) :=
  keeps_next (wf_of_mem (mem_stageEnd ..) ho)

theorem keeps_execActivate (from_ : Authority) (part : Nat) : KeepsCanonical (execActivate from_ part s) :=
  keeps_next (wf_of_mem (mem_activateCmd ..) ho)

theorem keeps_execCommit (from_ : Authority) (part : Nat) : KeepsCanonical (execCommit from_ part s) :=
  keeps_next (wf_of_mem (mem_commitCmd ..) ho)

theorem keeps_execRevert (from_ : Authority) (part : Nat) : KeepsCanonical (execRevert from_ part s) :=
  keeps_next (wf_of_mem (mem_revertCmd ..) ho)

theorem keeps_execEnrollOwner (from_ : Authority) (key serial r_ s_ : Nat) : KeepsCanonical (execEnrollOwner from_ key serial r_ s_ s) :=
  keeps_next (wf_of_mem (mem_enrollCmd ..) ho)

theorem keeps_execRevokeOwner (from_ : Authority) (slot keyId serial signer r_ s_ : Nat) :
    KeepsCanonical (execRevokeOwner from_ slot keyId serial signer r_ s_ s) :=
  keeps_next (wf_of_mem (mem_revokeCmd ..) ho)

theorem keeps_execTrialCommitTest (part : Nat) (passed : Bool) : KeepsCanonical (execTrialCommitTest part passed s) :=
  keeps_next (wf_of_mem (mem_trialTest ..) ho)

theorem keeps_execFaultReport (index cause : Nat) : KeepsCanonical (execFaultReport index cause s) :=
  keeps_next (wf_takeReports (wf_of_mem (mem_report ..) ho))

theorem keeps_execUnitNoResponse (index : Nat) : KeepsCanonical (execUnitNoResponse index s) :=
  keeps_next (wf_takeReports (wf_of_mem (mem_report ..) ho))

theorem keeps_execSuspectClear (index : Nat) : KeepsCanonical (execSuspectClear index s) :=
  keeps_ite (keeps_next (wf_of_mem (mem_writeUnit ..) ho)) (keeps_next ho)

theorem keeps_execDrainLimitExpiry (index : Nat) : KeepsCanonical (execDrainLimitExpiry index s) :=
  keeps_ite (keeps_next (wf_leaveService (wf_foldl (fun _ _ h => wf_drainStop h ..) _ _ ho) ..)) (keeps_next ho)

theorem keeps_execUnitDrained (index : Nat) : KeepsCanonical (execUnitDrained index s) :=
  keeps_ite (keeps_next (wf_leaveService ho ..)) (keeps_next ho)

theorem keeps_execGranuleBoundary (places : List Placement) : KeepsCanonical (execGranuleBoundary places s) :=
  keeps_next (wf_granuleStep ho ..)

theorem keeps_execPwrEnOffTime : KeepsCanonical (execPwrEnOffTime s) :=
  keeps_ite (keeps_next ho) (keeps_ite (keeps_next ho) (keeps_next ho))

omit ho in
theorem keeps_execVddWakeFall : KeepsCanonical (execVddWakeFall s) :=
  keeps_next (wf_powerOff (s := { s with out := [] }))

theorem keeps_execPmbusAlert (master : Nat) (words : List Nat) : KeepsCanonical (execPmbusAlert master words s) :=
  keeps_next (wf_of_mem (mem_foldl (by intros; rfl) _ _) ho)

theorem keeps_execAudioFrame (late : List Nat) : KeepsCanonical (execAudioFrame late s) :=
  keeps_next (wf_of_mem (mem_audioFrame ..) ho)

theorem keeps_execFrameAbort : KeepsCanonical (execFrameAbort s) :=
  keeps_next (ho)

theorem keeps_execIdleAreaErased : KeepsCanonical (execIdleAreaErased s) :=
  keeps_next (ho)

theorem keeps_execPcieLinkUp (width rate : Nat) : KeepsCanonical (execPcieLinkUp width rate s) :=
  keeps_next (wf_of_mem (mem_linkUp ..) ho)

theorem keeps_execEthLinkChange (port : Nat) (up : Bool) (speed : Nat) : KeepsCanonical (execEthLinkChange port up speed s) :=
  keeps_next (wf_ite (wf_of_mem (mem_ethUpd ..) ho) ho)

theorem keeps_execVfEnable (count : Nat) : KeepsCanonical (execVfEnable count s) :=
  keeps_next (wf_of_mem (mem_setVfs ..) ho)
end

section
variable {s : State} (hw : Memory.wf s.mem = true)
include hw

theorem keeps_exec (c : Instr) : KeepsCanonical (exec c s) := by
  have ho : Memory.wf ({ s with out := [] } : State).mem = true := hw
  cases c with
  | registerWrite who block off value => exact keeps_execRegisterWrite ho who block off value
  | peakWrite who value => exact keeps_execPeakWrite ho who value
  | jobReserveWrite who value => exact keeps_execJobReserveWrite ho who value
  | drainTicksWrite who ply value => exact keeps_execDrainTicksWrite ho who ply value
  | latchingLowRead who block off => exact keeps_execLatchingLowRead ho who block off
  | errLatchRearmRead who block off => exact keeps_execErrLatchRearmRead ho who block off
  | porNAssert lowNs => exact keeps_execPorNAssert ho lowNs
  | porNRelease env => exact keeps_execPorNRelease ho env
  | servicesReady => exact keeps_execServicesReady ho
  | recoveryImage image => exact keeps_execRecoveryImage ho image
  | vddWakeRise => exact keeps_execVddWakeRise ho
  | wakeNQualified lowNs => exact keeps_execWakeNQualified ho lowNs
  | functionLevelReset fn => exact keeps_execFunctionLevelReset ho fn
  | perst => exact keeps_execPerst ho
  | pcieLinkDown => exact keeps_execPcieLinkDown ho
  | reset frm confirmed => exact keeps_execReset ho frm confirmed
  | load frm => exact keeps_execLoad ho frm
  | weaveComplete places => exact keeps_execWeaveComplete ho places
  | reweave frm ply => exact keeps_execReweave ho frm ply
  | cancel frm ply => exact keeps_execCancel ho frm ply
  | plyBoundary ply input => exact keeps_execPlyBoundary ho ply input
  | submitDoorbell who count => exact keeps_execSubmitDoorbell ho who count
  | jobSlotAcquire => exact keeps_execJobSlotAcquire ho
  | memoryRequest r => exact keeps_execMemoryRequest ho r
  | regionCreate who slot => exact keeps_execRegionCreate ho who slot
  | regionDestroy who slot => exact keeps_execRegionDestroy ho who slot
  | regionScrubDone slot => exact keeps_execRegionScrubDone ho slot
  | grant who peer => exact keeps_execGrant ho who peer
  | revoke who index => exact keeps_execRevoke ho who index
  | revokeComplete index => exact keeps_execRevokeComplete ho index
  | poolAllocate reqs => exact keeps_execPoolAllocate ho reqs
  | poolFree who ply pool index => exact keeps_execPoolFree ho who ply pool index
  | poolBufferScrubDone ply pool index => exact keeps_execPoolBufferScrubDone ho ply pool index
  | mr4Poll readings => exact keeps_execMr4Poll ho readings
  | dramHotRelease => exact keeps_execDramHotRelease ho
  | patrolScrub addr ecc read => exact keeps_execPatrolScrub ho addr ecc read
  | flitArrival f => exact keeps_execFlitArrival ho f
  | creditReturn route count => exact keeps_execCreditReturn ho route count
  | spindleTaskStart core => exact keeps_execSpindleTaskStart ho core
  | spindleTaskComplete core cycles => exact keeps_execSpindleTaskComplete ho core cycles
  | interruptEntry core => exact keeps_execInterruptEntry ho core
  | nop core => exact keeps_execNop hw core
  | add core => exact keeps_execAdd hw core
  | sub core => exact keeps_execSub hw core
  | and core => exact keeps_execAnd hw core
  | or core => exact keeps_execOr hw core
  | xor core => exact keeps_execXor hw core
  | sll core => exact keeps_execSll hw core
  | srl core => exact keeps_execSrl hw core
  | sra core => exact keeps_execSra hw core
  | slt core => exact keeps_execSlt hw core
  | sltu core => exact keeps_execSltu hw core
  | mul core => exact keeps_execMul hw core
  | mulh core => exact keeps_execMulh hw core
  | min core => exact keeps_execMin hw core
  | max core => exact keeps_execMax hw core
  | movi core => exact keeps_execMovi hw core
  | movhi core => exact keeps_execMovhi hw core
  | localScalarLoad core => exact keeps_execLocalScalarLoad hw core
  | localScalarStore core => exact keeps_execLocalScalarStore hw core
  | amod core => exact keeps_execAmod hw core
  | farScalarLoad core => exact keeps_execFarScalarLoad hw core
  | farScalarStore core => exact keeps_execFarScalarStore hw core
  | br core => exact keeps_execBr hw core
  | brr core => exact keeps_execBrr hw core
  | call core => exact keeps_execCall hw core
  | callr core => exact keeps_execCallr hw core
  | ret core => exact keeps_execRet hw core
  | rti core => exact keeps_execRti hw core
  | rep core => exact keeps_execRep hw core
  | repr core => exact keeps_execRepr hw core
  | tend core => exact keeps_execTend hw core
  | evp core => exact keeps_execEvp ho core
  | fence core => exact keeps_execFence hw core
  | waiti core => exact keeps_execWaiti hw core
  | movcRead core => exact keeps_execMovcRead hw core
  | movcWrite core => exact keeps_execMovcWrite hw core
  | skip core => exact keeps_execSkip hw core
  | vadd core => exact keeps_execVadd hw core
  | vsub core => exact keeps_execVsub hw core
  | vadds core => exact keeps_execVadds hw core
  | vsubs core => exact keeps_execVsubs hw core
  | vmul core => exact keeps_execVmul hw core
  | vmulq core => exact keeps_execVmulq hw core
  | vand core => exact keeps_execVand hw core
  | vor core => exact keeps_execVor hw core
  | vxor core => exact keeps_execVxor hw core
  | vsll core => exact keeps_execVsll hw core
  | vsra core => exact keeps_execVsra hw core
  | vsrl core => exact keeps_execVsrl hw core
  | vmin core => exact keeps_execVmin hw core
  | vmax core => exact keeps_execVmax hw core
  | vabs core => exact keeps_execVabs hw core
  | vsel core => exact keeps_execVsel hw core
  | vsld core => exact keeps_execVsld hw core
  | vbcast core => exact keeps_execVbcast hw core
  | vpack core => exact keeps_execVpack hw core
  | vunpk core => exact keeps_execVunpk hw core
  | vcmpeq core => exact keeps_execVcmpeq hw core
  | vcmplt core => exact keeps_execVcmplt hw core
  | vcmple core => exact keeps_execVcmple hw core
  | pand core => exact keeps_execPand hw core
  | por core => exact keeps_execPor hw core
  | pxor core => exact keeps_execPxor hw core
  | pandn core => exact keeps_execPandn hw core
  | vld core => exact keeps_execVld hw core
  | vst core => exact keeps_execVst hw core
  | vldh core => exact keeps_execVldh hw core
  | vsth core => exact keeps_execVsth hw core
  | vldb core => exact keeps_execVldb hw core
  | vldf core => exact keeps_execVldf hw core
  | vstf core => exact keeps_execVstf hw core
  | mac core => exact keeps_execMac hw core
  | macxy core => exact keeps_execMacxy hw core
  | cmac core => exact keeps_execCmac hw core
  | cmacxy core => exact keeps_execCmacxy hw core
  | acclr core => exact keeps_execAcclr hw core
  | vtoac core => exact keeps_execVtoac hw core
  | acadd core => exact keeps_execAcadd hw core
  | acsub core => exact keeps_execAcsub hw core
  | acmov core => exact keeps_execAcmov hw core
  | bexp core => exact keeps_execBexp hw core
  | bexpM core => exact keeps_execBexpM hw core
  | smov core => exact keeps_execSmov hw core
  | whorlJobStage array => exact keeps_execWhorlJobStage ho array
  | whorlJobStart array ce ue => exact keeps_execWhorlJobStart ho array ce ue
  | whorlJobEnd array cycles => exact keeps_execWhorlJobEnd ho array cycles
  | outputTableSwap array => exact keeps_execOutputTableSwap ho array
  | headroomLoop ply ctx => exact keeps_execHeadroomLoop ho ply ctx
  | ctxHWrite who ply ctx value => exact keeps_execCtxHWrite ho who ply ctx value
  | cvtGo who ply => exact keeps_execCvtGo ho who ply
  | conversionDone hank => exact keeps_execConversionDone ho hank
  | ethFrameReceive f => exact keeps_execEthFrameReceive ho f
  | gapWaitExpiry flow => exact keeps_execGapWaitExpiry ho flow
  | auAdmit flow info => exact keeps_execAuAdmit ho flow info
  | decodeStart engine => exact keeps_execDecodeStart ho engine
  | pictureDecoded flow d => exact keeps_execPictureDecoded ho flow d
  | samplingRateLoop flow sub => exact keeps_execSamplingRateLoop ho flow sub
  | augDoorbell who count => exact keeps_execAugDoorbell ho who count
  | augRecord hank => exact keeps_execAugRecord ho hank
  | bqCfgWrite who queue value => exact keeps_execBqCfgWrite ho who queue value
  | batchRecordWrite hank queue => exact keeps_execBatchRecordWrite ho hank queue
  | tokenizerJobStart => exact keeps_execTokenizerJobStart ho
  | tokenizerJobEnd => exact keeps_execTokenizerJobEnd ho
  | bobbinProgramStart ch => exact keeps_execBobbinProgramStart ho ch
  | move ch => exact keeps_execMove ho ch
  | loop ch => exact keeps_execLoop ho ch
  | wait ch => exact keeps_execWait ho ch
  | pace ch => exact keeps_execPace ho ch
  | signal ch => exact keeps_execSignal ho ch
  | end_ ch => exact keeps_execEnd ho ch
  | channelWaitSatisfied event => exact keeps_execChannelWaitSatisfied ho event
  | moveDrainDone ch => exact keeps_execMoveDrainDone ho ch
  | bobbinBusError ch => exact keeps_execBobbinBusError ho ch
  | channelHalt ch => exact keeps_execChannelHalt ho ch
  | channelStopDone ch => exact keeps_execChannelStopDone ho ch
  | resume who ch => exact keeps_execResume ho who ch
  | abort who ch => exact keeps_execAbort ho who ch
  | start who ch => exact keeps_execStart ho who ch
  | evtPulse who value => exact keeps_execEvtPulse ho who value
  | msixMessage fn vector enabled => exact keeps_execMsixMessage ho fn vector enabled
  | barAccess fn bar off len data => exact keeps_execBarAccess ho fn bar off len data
  | mailboxRequestPost fn tail => exact keeps_execMailboxRequestPost ho fn tail
  | mailboxReply fn => exact keeps_execMailboxReply ho fn
  | ping fn => exact keeps_execPing ho fn
  | routeEvent fn appCore => exact keeps_execRouteEvent ho fn appCore
  | playPrompt fn voice => exact keeps_execPlayPrompt ho fn voice
  | publish fn dropped => exact keeps_execPublish ho fn dropped
  | frameTransmit port bytes ptpEvent oneStep => exact keeps_execFrameTransmit ho port bytes ptpEvent oneStep
  | txtsPop who port => exact keeps_execTxtsPop ho who port
  | phaseAdjWrite who value => exact keeps_execPhaseAdjWrite ho who value
  | ptpSyncLoss => exact keeps_execPtpSyncLoss ho
  | holdoverExpired => exact keeps_execHoldoverExpired ho
  | voiceQueue who voice value => exact keeps_execVoiceQueue ho who voice value
  | voiceStop who voice value => exact keeps_execVoiceStop ho who voice value
  | clipEnd voice => exact keeps_execClipEnd ho voice
  | ampFault amp => exact keeps_execAmpFault ho amp
  | ampRetry amp inputHigh => exact keeps_execAmpRetry ho amp inputHigh
  | ampRetryClean amp => exact keeps_execAmpRetryClean ho amp
  | clear frm amp inputLow => exact keeps_execClear ho frm amp inputLow
  | regulatorConfirm island vout monitor statusOk => exact keeps_execRegulatorConfirm ho island vout monitor statusOk
  | linkLost island => exact keeps_execLinkLost ho island
  | confirmTimeout island => exact keeps_execConfirmTimeout ho island
  | monitorCheck island monitor => exact keeps_execMonitorCheck ho island monitor
  | pmbusRetry island ok => exact keeps_execPmbusRetry ho island ok
  | thermalSample sites => exact keeps_execThermalSample ho sites
  | throttleStep => exact keeps_execThrottleStep ho
  | thermalTrip site temp => exact keeps_execThermalTrip ho site temp
  | forcedHold => exact keeps_execForcedHold ho
  | powerSample r => exact keeps_execPowerSample ho r
  | tdpCapStep => exact keeps_execTdpCapStep ho
  | run frm => exact keeps_execRun ho frm
  | hold frm => exact keeps_execHold ho frm
  | dormant frm => exact keeps_execDormant ho frm
  | holdEntryComplete => exact keeps_execHoldEntryComplete ho
  | holdExitComplete confirmed => exact keeps_execHoldExitComplete ho confirmed
  | fanCurveUpdate rpm => exact keeps_execFanCurveUpdate ho rpm
  | fanFault fan => exact keeps_execFanFault ho fan
  | fanFaultClear fan => exact keeps_execFanFaultClear ho fan
  | watchdogKick who value => exact keeps_execWatchdogKick ho who value
  | watchdogExpiry => exact keeps_execWatchdogExpiry ho
  | wdogRelease who sites confirmed => exact keeps_execWdogRelease ho who sites confirmed
  | overrideExpiry object index => exact keeps_execOverrideExpiry ho object index
  | dangerAfterReading => exact keeps_execDangerAfterReading ho
  | pollCycle => exact keeps_execPollCycle ho
  | discoverRound => exact keeps_execDiscoverRound ho
  | pollMissed peer => exact keeps_execPollMissed ho peer
  | poll h epoch => exact keeps_execPoll ho h epoch
  | reply h id => exact keeps_execReply ho h id
  | discover h => exact keeps_execDiscover ho h
  | announce h id => exact keeps_execAnnounce ho h id
  | mgmt h op object value durationS origin data => exact keeps_execMgmt ho h op object value durationS origin data
  | mgmtRpl h op status data => exact keeps_execMgmtRpl ho h op status data
  | relay f => exact keeps_execRelay ho f
  | relayAck f => exact keeps_execRelayAck ho f
  | relayJobStart job => exact keeps_execRelayJobStart ho job
  | masterLost => exact keeps_execMasterLost ho
  | login key r s0 => exact keeps_execLogin ho key r s0
  | logout => exact keeps_execLogout ho
  | sessionTimeout => exact keeps_execSessionTimeout ho
  | status frm => exact keeps_execStatus ho frm
  | unit a => exact keeps_execUnit ho a
  | power a => exact keeps_execPower ho a
  | pin a => exact keeps_execPin ho a
  | tdp a => exact keeps_execTdp ho a
  | fan a => exact keeps_execFan ho a
  | release a => exact keeps_execRelease ho a
  | warplock a => exact keeps_execWarplock ho a
  | journalRead frm first count => exact keeps_execJournalRead ho frm first count
  | journalAck frm seq => exact keeps_execJournalAck ho frm seq
  | leaAckWrite who value => exact keeps_execLeaAckWrite ho who value
  | flush who => exact keeps_execFlush ho who
  | flushDone => exact keeps_execFlushDone ho
  | flushTimeout => exact keeps_execFlushTimeout ho
  | epochProgramRetry ok => exact keeps_execEpochProgramRetry ho ok
  | stage frm part => exact keeps_execStage ho frm part
  | stageComplete ok => exact keeps_execStageComplete ho ok
  | activate frm part => exact keeps_execActivate ho frm part
  | commit frm part => exact keeps_execCommit ho frm part
  | revert frm part => exact keeps_execRevert ho frm part
  | enrollOwner frm key serial r s0 => exact keeps_execEnrollOwner ho frm key serial r s0
  | revokeOwner frm slot keyId serial signer r s0 => exact keeps_execRevokeOwner ho frm slot keyId serial signer r s0
  | trialCommitTest part passed => exact keeps_execTrialCommitTest ho part passed
  | faultReport index cause => exact keeps_execFaultReport ho index cause
  | unitNoResponse index => exact keeps_execUnitNoResponse ho index
  | suspectClear index => exact keeps_execSuspectClear ho index
  | drainLimitExpiry index => exact keeps_execDrainLimitExpiry ho index
  | unitDrained index => exact keeps_execUnitDrained ho index
  | selftestDone index passed => exact keeps_execSelftestDone ho index passed
  | granuleBoundary places => exact keeps_execGranuleBoundary ho places
  | pwrEnOffTime => exact keeps_execPwrEnOffTime ho
  | vddWakeFall => exact keeps_execVddWakeFall
  | pmbusAlert master statusWords => exact keeps_execPmbusAlert ho master statusWords
  | audioFrame late => exact keeps_execAudioFrame ho late
  | frameAbort => exact keeps_execFrameAbort ho
  | idleAreaErased => exact keeps_execIdleAreaErased ho
  | pcieLinkUp width rate => exact keeps_execPcieLinkUp ho width rate
  | ethLinkChange port up speed => exact keeps_execEthLinkChange ho port up speed
  | vfEnable count => exact keeps_execVfEnable ho count

end

end Sys2Proof.Machine
end

section
namespace Sys2Proof.Proofs

open Machine

/-- Settles O60: an idle step serves what waits and takes the reports, another is one command, and each keeps memory canonical. -/
theorem everyStepKeepsMemoryCanonical : Obligations.EveryStepKeepsMemoryCanonical := by
  intro s t hw ht
  rw [step] at ht
  split at ht
  · cases ht
    exact wf_idle hw
  · next c rest _ =>
    have hr : Memory.wf ({ s with pending := rest } : State).mem = true := hw
    exact keeps_exec hr c t ht

end Sys2Proof.Proofs
end

section
/-! SUPPORT. The journal: what a change of several entries and a record of fact write, acknowledgement, reading in order of SEQ, and the flash
areas of a flush (R371, R372, R378 to R381). -/

namespace Sys2Proof.Machine

open Safety

/-! ### Entries taken -/

theorem lea_jRing (s : State) (e : JEntry) :
    (s.jRing e).lea = { s.lea with ring := s.lea.ring ++ [s.jStamp e false], head := s.lea.head + 1 } :=
  (congrArg State.lea (sansPulses_jRing s e) :)

/-- What an entry says, but for its stamp. -/
def JEntry.said (e : JEntry) : Nat × Nat × Nat × Nat × Nat × Nat := (e.kind, e.hank, e.object, e.old, e.new, e.data)

theorem range_succ_map_add (a n : Nat) : (List.range (n + 1)).map (a + ·) = a :: (List.range n).map (a + 1 + ·) := by
  rw [List.range_succ_eq_map, List.map_cons, List.map_map]
  congr 1
  exact List.map_congr_left fun i _ => by simp [Nat.add_assoc, Nat.add_comm 1]

/-- Entries taken into the ring stand at its end, with consecutive SEQ in their order. -/
theorem ring_foldl_jRing (es : List JEntry) (s : State) : (es.foldl State.jRing s).lea.head = s.lea.head + es.length
    ∧ ∃ l, (es.foldl State.jRing s).lea.ring = s.lea.ring ++ l ∧ l.length = es.length
      ∧ l.map (·.seq) = (List.range es.length).map (s.lea.head + ·) ∧ l.map JEntry.said = es.map JEntry.said := by
  induction es generalizing s with
  | nil => exact ⟨rfl, [], by simp⟩
  | cons e es ih =>
    obtain ⟨hhead, l, hring, hlen, hseq, hsaid⟩ := ih (s.jRing e)
    rw [lea_jRing] at hhead hring hseq
    refine ⟨by simpa [Nat.add_assoc, Nat.add_comm 1] using hhead, s.jStamp e false :: l, by simpa using hring, by simp [hlen], ?_, ?_⟩
    · simp only [List.map_cons, hseq, List.length_cons, range_succ_map_add, State.jStamp]
    · simp [hsaid, State.jStamp, JEntry.said]

/-- While the epoch's count lasts, a change that the ring has room for takes all its entries. -/
theorem change_of_room {s : State} {es : List JEntry} (h : s.lea.head / 2 ^ 32 = s.lea.epoch)
    (hroom : s.lea.ring.length + es.length ≤ 4096) : s.change es = (true, es.foldl State.jRing s) := by
  simp [State.change, jRoll_of_epoch h, State.jRoom, hroom]

/-- One that it has no room for is refused and counted. -/
theorem change_of_noRoom {s : State} {es : List JEntry} (h : s.lea.head / 2 ^ 32 = s.lea.epoch)
    (hroom : 4096 < s.lea.ring.length + es.length) :
    s.change es = (false, { s with lea := { s.lea with refused := satAdd 32 s.lea.refused 1 } }) := by
  have hfull : s.jRoom es.length = false := by
    rw [State.jRoom, decide_eq_false_iff_not]
    omega
  simp [State.change, jRoll_of_epoch h, hfull]

/-! ### Acknowledgement -/

/-- An acknowledgement from a source that does not count is counted, and does no more. -/
theorem jAck_bad {s : State} {b : Option Nat} (v : Nat) (h : ¬∃ k, b = some k ∧ bit s.lea.sources k = true) :
    s.jAck b v = { s with lea := { s.lea with badAcks := satAdd 32 s.lea.badAcks 1 } } := by
  cases b with
  | none => rfl
  | some k =>
    have hk : bit s.lea.sources k = false := by simpa using h
    simp [State.jAck, hk]

theorem jAck_below {s : State} {k : Nat} {v : Nat} (hk : bit s.lea.sources k = true) (hv : v < s.lea.ack) : s.jAck (some k) v = s := by
  simp [State.jAck, hk, hv]

/-- One that counts and is not below the last releases the entries up to its SEQ, or to the last assigned. -/
theorem jAck_counts {s : State} {k : Nat} {v : Nat} (hk : bit s.lea.sources k = true) (hv : s.lea.ack ≤ v) (hh : 0 < s.lea.head) :
    ∃ l, s.jAck (some k) v = { s with lea := l } ∧ l.head = s.lea.head ∧ l.ack = min v (s.lea.head - 1)
      ∧ l.ring = s.lea.ring.filter (fun e => decide (l.ack < e.seq))
      ∧ l.reserve = s.lea.reserve.filter (fun e => decide (l.ack < e.2.seq)) := by
  have hn : ¬(v < s.lea.ack ∨ s.lea.head = 0) := by omega
  simp [State.jAck, hk, hn]

/-! ### Reading -/

theorem mem_insertSeq {a e : JEntry} {l : List JEntry} : a ∈ insertSeq e l ↔ a = e ∨ a ∈ l := by
  induction l with
  | nil => simp [insertSeq]
  | cons x l ih =>
    rw [insertSeq]
    split
    · simp
    · simp only [List.mem_cons, ih]
      tauto

theorem pairwise_insertSeq {e : JEntry} {l : List JEntry} (h : l.Pairwise (fun a b => a.seq ≤ b.seq)) :
    (insertSeq e l).Pairwise (fun a b => a.seq ≤ b.seq) := by
  induction l with
  | nil => simp [insertSeq]
  | cons x l ih =>
    obtain ⟨hx, hl⟩ := List.pairwise_cons.mp h
    rw [insertSeq]
    split
    · refine List.pairwise_cons.mpr ⟨fun a ha => ?_, h⟩
      rcases List.mem_cons.mp ha with rfl | ha
      · assumption
      · exact le_trans (by assumption) (hx a ha)
    · refine List.pairwise_cons.mpr ⟨fun a ha => ?_, ih hl⟩
      rcases mem_insertSeq.mp ha with rfl | ha
      · omega
      · exact hx a ha

/-- Inserted one after another, entries keep the order of SEQ. -/
theorem foldl_insertSeq (es l : List JEntry) : (∀ a, a ∈ es.foldl (fun l e => insertSeq e l) l ↔ a ∈ es ∨ a ∈ l)
    ∧ (l.Pairwise (fun a b => a.seq ≤ b.seq) → (es.foldl (fun l e => insertSeq e l) l).Pairwise (fun a b => a.seq ≤ b.seq)) := by
  induction es generalizing l with
  | nil => simp
  | cons e es ih =>
    obtain ⟨hmem, hsorted⟩ := ih (insertSeq e l)
    refine ⟨fun a => ?_, fun h => hsorted (pairwise_insertSeq h)⟩
    rw [List.foldl_cons, hmem, mem_insertSeq, List.mem_cons]
    tauto

/-- The merged journal holds every unacknowledged entry, in ascending order. -/
theorem mem_jMerged {s : State} {a : JEntry} : a ∈ s.jMerged ↔ a ∈ s.jAll := by
  rw [State.jMerged, (foldl_insertSeq _ _).1 a, State.jAll, List.append_assoc, List.mem_append (s := s.lea.ring)]
  exact or_comm

theorem pairwise_jMerged {s : State} (h : s.lea.ring.Pairwise (fun a b => a.seq < b.seq)) :
    s.jMerged.Pairwise (fun a b => a.seq ≤ b.seq) :=
  (foldl_insertSeq _ _).2 (h.imp le_of_lt)

/-! ### The registers of LEA -/

/-- Hank 0 writes a register of LEA. -/
theorem regWrite_lea {s : State} {who : Requester} (off v : Nat) (h0 : s.reqHank who = 0) :
    s.regWrite who 45 off v = (s.leaWrite who off v).served := by
  rw [regWrite_hank0 off v (by rw [h0]; decide) h0 rfl (by decide) (by decide)]
  simp [State.writeWord, State.plainWrite]

/-- What an acknowledgement written into the register does. -/
theorem exec_leaAckWrite {s : State} {who : Requester} (v : Word) (h0 : s.reqHank who = 0) : exec (.leaAckWrite who v) s =
    .next ((fresh s).jAck (ackBit who) (v.toNat * 2 ^ 32 + s.lea.ackLo)).served := by
  refine congrArg Host.Outcome.next ((regWrite_lea (s := fresh s) 0x00C v.toNat h0).trans ?_)
  simp [State.leaWrite, Nat.mod_eq_of_lt v.isLt, fresh]

/-! ### The commands of the authorities -/

theorem noSession_of_open {s : State} {from_ : Authority} (h : s.stw.session = true ∨ from_ ≠ .console) : s.noSession from_ = false := by
  rcases h with h | h <;> simp [State.noSession, h]

theorem exec_journalAck {s : State} {from_ : Authority} {seq : Nat} (h : s.stw.session = true ∨ from_ ≠ .console) :
    exec (.journalAck from_ seq) s = .next (((fresh s).jAck (authBit from_) seq).answer from_ 0 0 []) :=
  if_neg (by simp [noSession_of_open (s := { s with out := [] }) h])

theorem exec_journalRead {s : State} {from_ : Authority} (seq n : Nat) (h : s.stw.session = true ∨ from_ ≠ .console) (hc : from_ = .console) :
    exec (.journalRead from_ seq n) s = .next { s with
      out := [.entries ((s.jMerged.filter (fun e => decide (seq ≤ e.seq))).take n), .mgmt (authCode from_) 0 0 []] } := by
  have hopen := noSession_of_open (s := { s with out := [] }) h
  subst hc
  change (if _ then _ else _) = _
  rw [hopen]
  rfl

/-! ### The flash areas -/

theorem Flash.cur_setIdle (f : Flash) (a : JArea) : (f.setIdle a).cur = f.cur := by
  rw [Flash.cur, Flash.setIdle, Flash.cur]
  split <;> simp [*]

theorem Flash.idle_setIdle (f : Flash) (a : JArea) : (f.setIdle a).idle = a := by
  rw [Flash.idle, Flash.setIdle]
  split <;> simp [*]

theorem Flash.current_setIdle (f : Flash) (a : JArea) : (f.setIdle a).current = f.current := by
  rw [Flash.setIdle]
  split <;> rfl

theorem Flash.cur_setCur (f : Flash) (a : JArea) : (f.setCur a).cur = a := by
  rw [Flash.cur, Flash.setCur]
  split <;> simp [*]

theorem Flash.idle_setCur (f : Flash) (a : JArea) : (f.setCur a).idle = f.idle := by
  rw [Flash.idle, Flash.setCur, Flash.idle]
  split <;> simp [*]

/-- The area that was idle is current once it is programmed, and the one that was current is idle. -/
theorem Flash.cur_swap (f : Flash) : ({ f with current := !f.current } : Flash).cur = f.idle := by
  cases h : f.current <;> simp [Flash.cur, Flash.idle, h]

/-- The epoch log of the current area takes an epoch while it has room. -/
theorem programEpoch_of_room {s : State} (e : Nat) (h : s.nv.flash.cur.epochs.length < 512) : s.programEpoch e true = { s with
    nv := { s.nv with flash := (s.nv.flash.setCur { s.nv.flash.cur with epochs := s.nv.flash.cur.epochs ++ [e], erased := false }) }
    lea := { s.lea with epochUnsaved := false } } := by
  simp [State.programEpoch, h]

theorem Flash.idle_swap (f : Flash) : ({ f with current := !f.current } : Flash).idle = f.cur := by
  cases h : f.current <;> simp [Flash.cur, Flash.idle, h]

end Sys2Proof.Machine
end

section
namespace Sys2Proof.Proofs

open Machine Safety

/-- Settles O40: a change by the room of the ring, an acknowledgement by its source and its SEQ. -/
theorem journalEntriesAreKeptReadAndAcknowledged : Obligations.JournalEntriesAreKeptReadAndAcknowledged := by
  refine ⟨fun s es hepoch => ⟨fun hroom => ?_, change_of_noRoom hepoch, fun e => ?_⟩,
    fun s from_ seq n who v => ⟨fun hopen => ⟨fun hbad => ?_, ?_, ?_, fun hc => ?_⟩, fun hclosed => ?_, fun h0 hbad => ?_, ?_, ?_⟩⟩
  · obtain ⟨hhead, l, hring, hlen, hseq, hsaid⟩ := ring_foldl_jRing es s
    rw [change_of_room hepoch hroom]
    refine ⟨rfl, hhead, by simp [hring, hlen], by simp [hring], by simpa [hring] using hseq, ?_, mem_foldl (fun s e => mem_jRing s e) es s⟩
    rw [hring, List.drop_left]
    exact hsaid
  · rw [State.fact, jRoll_of_epoch hepoch]
    exact head_lt_jFact s e
  · rw [exec_journalAck hopen, jAck_bad (s := fresh s) seq hbad]
    rfl
  · rintro ⟨k, hk, hbit⟩ hseq hhead
    obtain ⟨l, hlea, hend, hack, hring, hres⟩ := jAck_counts (s := fresh s) hbit hseq hhead
    rw [exec_journalAck hopen, hk, hlea]
    exact ⟨_, rfl, hack, hend, hring, hres, rfl⟩
  · rintro ⟨k, hk, hbit⟩ hseq
    rw [exec_journalAck hopen, hk, jAck_below (s := fresh s) hbit hseq]
    rfl
  · refine ⟨(s.jMerged.filter (fun e => decide (seq ≤ e.seq))).take n, exec_journalRead seq n hopen hc, List.length_take_le .., fun e he => ?_,
      fun hr => ((pairwise_jMerged hr).filter _).take⟩
    obtain ⟨hmem, hle⟩ := List.mem_filter.mp (List.mem_of_mem_take he)
    exact ⟨of_decide_eq_true hle, mem_jMerged.mp hmem⟩
  · have hno : (fresh s).noSession .console = true := by simp [State.noSession, fresh, hclosed]
    exact ⟨if_pos hno, if_pos hno⟩
  · rw [exec_leaAckWrite v h0, jAck_bad (s := fresh s) _ hbad]
    rfl
  · rintro h0 ⟨k, hk, hbit⟩ hhead hle
    obtain ⟨l, hlea, -, hack, hring, hres⟩ := jAck_counts (s := fresh s) hbit hle hhead
    rw [exec_leaAckWrite v h0, hk, hlea]
    exact ⟨_, rfl, hack, hring, hres, rfl⟩
  · rintro h0 ⟨k, hk, hbit⟩ hlt
    rw [exec_leaAckWrite v h0, hk, jAck_below (s := fresh s) hbit hlt]
    rfl

/-- Settles O41: each command by what it writes to the flash areas. -/
theorem flushMakesTheIdleAreaCurrent : Obligations.FlushMakesTheIdleAreaCurrent := by
  intro s f
  refine ⟨fun hoff hidle who h0 => ?_, fun hon hawake => ⟨(fresh s).endFlush, ?_, ?_, ?_, ?_, rfl, rfl, rfl⟩,
    fun hon hawake => ⟨(fresh s).failFlush, ?_, ?_, ?_, rfl, rfl⟩, ⟨_, rfl, rfl, ?_, ?_, ?_⟩, fun hunsaved hlen => ?_⟩
  · refine congrArg Host.Outcome.next ((regWrite_lea (s := fresh s) 0x02C 1 h0).trans ?_)
    have hstart : (fresh s).startFlush = { f with lea := { s.lea with flushing := true } } := by simp [State.startFlush, fresh, hoff, hidle, f]
    exact congrArg State.served hstart
  · change (if !s.lea.flushing then _ else if s.pwr.state = 4 then _ else _) = _
    simp [hon, hawake]
    rfl
  · exact congrArg not (Flash.current_setIdle ..)
  · exact (Flash.cur_swap _).trans (Flash.idle_setIdle ..)
  · exact (Flash.idle_swap _).trans (Flash.cur_setIdle ..)
  · change (if !s.lea.flushing then _ else if s.pwr.state = 4 then _ else _) = _
    simp [hon, hawake]
    rfl
  · exact Flash.current_setIdle ..
  · exact Flash.cur_setIdle ..
  · rw [show _ = _ from Flash.idle_setIdle ..]
  · rw [show _ = _ from Flash.idle_setIdle ..]
  · exact Flash.cur_setIdle ..
  · refine ⟨_, (if_pos hunsaved).trans (congrArg Host.Outcome.next (programEpoch_of_room (s := fresh s) s.lea.epoch hlen)), rfl, ?_, ?_⟩
    · exact congrArg JArea.epochs (Flash.cur_setCur ..)
    · exact Flash.idle_setCur ..

end Sys2Proof.Proofs
end

section
/-! SUPPORT. The PCIe endpoint: a table cut at a key, the pending bit that a message clears, and what a function-level reset, a lost link and
a message leave (R300, R304, R305, R308). -/

namespace Sys2Proof.Machine

open Safety

/-! ### Tables -/

section
variable {α : Type} {m : NMap α}

/-- A table with every entry changed has the changed entry under each key. -/
theorem mget?_map_snd (f : α → α) (m : NMap α) (k : Nat) : mget? (m.map (fun e => (e.1, f e.2))) k = (mget? m k).map f := by
  induction m with
  | nil => rfl
  | cons e m ih =>
    obtain ⟨j, x⟩ := e
    simp only [List.map_cons, mget?, ih]
    split
    · rfl
    split
    · rfl
    · rfl

/-- Cut after `n`, a table in the order of its keys keeps the entries up to `n` and has none beyond. -/
theorem mget?_filter_le (h : m.Pairwise (fun a b => a.1 < b.1)) (n k : Nat) :
    mget? (m.filter (fun e => decide (e.1 ≤ n))) k = if k ≤ n then mget? m k else none := by
  induction m with
  | nil => simp [mget?]
  | cons e m ih =>
    obtain ⟨j, x⟩ := e
    obtain ⟨hj, hm⟩ := List.pairwise_cons.mp h
    by_cases hjn : j ≤ n
    · rw [List.filter_cons_of_pos (by simpa using hjn), mget?, mget?, ih hm]
      grind
    · have hnone : m.filter (fun e => decide (e.1 ≤ n)) = [] :=
        List.filter_eq_nil_iff.mpr fun a ha => by simpa using (not_le.mp hjn).trans (hj a ha)
      rw [List.filter_cons_of_neg (by simpa using hjn), hnone, mget?, mget?]
      grind

/-- Without its entry under 0, such a table has no entry up to 0. -/
theorem filter_le_zero_mdel (h : m.Pairwise (fun a b => a.1 < b.1)) : (mdel m 0).filter (fun e => decide (e.1 ≤ 0)) = [] := by
  refine List.filter_eq_nil_iff.mpr fun a ha => ?_
  cases m with
  | nil => simp [mdel] at ha
  | cons e m =>
    obtain ⟨j, x⟩ := e
    obtain ⟨hj, -⟩ := List.pairwise_cons.mp h
    rcases Nat.eq_zero_or_pos j with rfl | hpos
    · have := hj a (by simpa [mdel] using ha)
      simpa using this.ne'
    · have hdel : mdel ((j, x) :: m) 0 = (j, x) :: m := by simp [mdel, hpos.ne', hpos]
      rw [hdel] at ha
      rcases List.mem_cons.mp ha with rfl | ha
      · simpa using hpos.ne'
      · simpa using (hpos.trans (hj a ha)).ne'

end

/-! ### Bits -/

/-- A bit that is set is cleared by taking its weight away, and the others stay. -/
theorem testBit_sub_two_pow {n v : Nat} (h : n.testBit v = true) (u : Nat) : (n - 2 ^ v).testBit u = (n.testBit u && u != v) := by
  obtain ⟨q, hq⟩ : ∃ q, n / 2 ^ v = 2 * q + 1 := by
    rw [Nat.testBit_eq_decide_div_mod_eq, decide_eq_true_eq] at h
    exact ⟨n / 2 ^ v / 2, by omega⟩
  have hr : n % 2 ^ v < 2 ^ v := Nat.mod_lt _ (Nat.two_pow_pos v)
  have hn : n = 2 ^ v * (2 * q + 1) + n % 2 ^ v := by rw [← hq, Nat.div_add_mod]
  have hsub : n - 2 ^ v = 2 ^ v * (2 * q) + n % 2 ^ v := by
    rw [hn, Nat.mul_add_mod, Nat.mod_eq_of_lt hr, Nat.mul_add, Nat.mul_one]
    omega
  rw [hsub, hn, Nat.mul_add_mod, Nat.mod_eq_of_lt hr, Nat.testBit_two_pow_mul_add _ hr, Nat.testBit_two_pow_mul_add _ hr]
  rcases Nat.lt_trichotomy u v with huv | rfl | huv
  · simp [huv, huv.ne]
  · simp
  · obtain ⟨k, rfl⟩ := Nat.exists_eq_add_of_lt huv
    have hk : v + k + 1 - v = k + 1 := by omega
    simp [hk, Nat.testBit_succ, show ¬v + k + 1 < v by omega, show (2 * q + 1) / 2 = q by omega, show 2 * q / 2 = q by omega,
      show ¬v + k + 1 = v by omega]

/-! ### Messages -/

theorem fnPage_emit (s : State) (o : Out) (fn : Nat) : (s.emit o).fnPage fn = s.fnPage fn := rfl

/-- The page of a function whose MSI-X is enabled as the command says. -/
def State.configured (s : State) (fn : Nat) (cfg : Option Bool) : FnPage := { s.fnPage fn with enabled := cfg.getD (s.fnPage fn).enabled }

/-- A pending, unmasked vector of an enabled function is sent. -/
theorem sendMsix_sent {s : State} {fn v : Nat} {cfg : Option Bool} (hup : s.fnUp fn = true) (hv : v < 32)
    (he : (s.configured fn cfg).enabled = true) (hb : (s.fnPage fn).pba.testBit v = true) (hm : (s.configured fn cfg).masked v = false) :
    s.sendMsix fn v cfg = (s.setFn fn { s.configured fn cfg with pba := (s.fnPage fn).pba - 2 ^ v }).emit (.msix fn v) := by
  rw [State.sendMsix, if_pos hup]
  exact if_pos ⟨hv, he, hb, congrArg not hm⟩

/-- Any other is not. -/
theorem sendMsix_kept {s : State} {fn v : Nat} {cfg : Option Bool} (hup : s.fnUp fn = true)
    (h : ¬(v < 32 ∧ (s.configured fn cfg).enabled = true ∧ (s.fnPage fn).pba.testBit v = true ∧ (s.configured fn cfg).masked v = false)) :
    s.sendMsix fn v cfg = s.setFn fn (s.configured fn cfg) := by
  rw [State.sendMsix, if_pos hup]
  exact if_neg fun ⟨hv, he, hb, hm⟩ => h ⟨hv, he, hb, Bool.not_inj hm⟩

/-! ### The link -/

/-- A page after the loss of the link: its waiting replies are gone, and the requests without one are counted (R308). -/
def FnPage.unlinked (p : FnPage) : FnPage := { p with replies := [], lost := (p.reqTail + 65536 - p.reqHead) % 65536 }

theorem linkDown_of_up {s : State} (h : s.pci.up = true) : s.linkDown = { s with pci := { s.pci with
    up := false, width := 0, rate := 0, downEvents := satAdd 16 s.pci.downEvents 1
    fns := s.pci.fns.map (fun e => (e.1, e.2.unlinked)) } } := if_pos h

theorem linkDown_of_down {s : State} (h : s.pci.up = false) : s.linkDown = s := if_neg (by simp [h])

end Sys2Proof.Machine
end

section
namespace Sys2Proof.Proofs

open Machine Safety

/-- Settles O42: each command by what it leaves of the endpoint's pages. -/
theorem pcieFunctionsResetAndSignal : Obligations.PcieFunctionsResetAndSignal := by
  intro s fn f
  refine ⟨fun h1 hup => ?_, fun hsorted => ⟨_, rfl, rfl, rfl, fun g => ?_, rfl⟩, ?_, fun hup => ?_, fun w r hw h1 h4 href => ?_,
    fun w r hbad => ?_, fun n hsorted => ⟨_, rfl, rfl, rfl, fun g hg => ?_, fun g hg => ?_⟩, fun v cfg hup => ?_⟩
  · change Host.Outcome.next (if fn = 0 then _ else if s.fnUp fn then _ else _) = _
    rw [if_neg (by omega), if_pos hup]
    rfl
  · exact congrArg (mget? · g) (filter_le_zero_mdel hsorted)
  · refine ⟨_, rfl, ?_⟩
    cases hup : s.pci.up with
    | false =>
      rw [linkDown_of_down (s := { s with out := [] }) hup]
      exact ⟨hup, rfl, rfl, rfl, rfl⟩
    | true =>
      rw [linkDown_of_up (s := { s with out := [] }) hup]
      exact ⟨rfl, rfl, rfl, rfl, rfl⟩
  · refine ⟨_, congrArg Host.Outcome.next (linkDown_of_up (s := { s with out := [] }) hup), rfl, rfl, rfl, fun g hg => ?_⟩
    obtain ⟨p, hp⟩ := Option.isSome_iff_exists.mp hg
    have hpage : s.fnPage g = p := by rw [State.fnPage, mget, hp, Option.getD_some]
    have hnew : mget (s.pci.fns.map (fun e => (e.1, e.2.unlinked))) g {} = p.unlinked := by rw [mget, mget?_map_snd, hp]; rfl
    rw [hpage]
    exact ⟨congrArg FnPage.replies hnew, congrArg FnPage.lost hnew⟩
  · exact congrArg Host.Outcome.next (if_pos ⟨href, by simpa using hw, h1, h4⟩)
  · refine congrArg Host.Outcome.next (if_neg fun ⟨href, hw, h1, h4⟩ => ?_)
    rcases hbad with hno | hno | hno | hno
    · exact absurd (hno.symm.trans href) (by decide)
    · exact hno (by simpa using hw)
    · omega
    · omega
  · have hcut := mget?_filter_le hsorted (min n 63) g
    rw [if_pos hg] at hcut
    exact congrArg (Option.getD · {}) hcut
  · have hcut := mget?_filter_le hsorted (min n 63) g
    rwa [if_neg (not_le.mpr hg)] at hcut
  · refine ⟨_, rfl, ?_⟩
    by_cases h : v < 32 ∧ (s.configured fn cfg).enabled = true ∧ (s.fnPage fn).pba.testBit v = true
        ∧ (s.configured fn cfg).masked v = false
    · obtain ⟨hv, he, hb, hm⟩ := h
      rw [sendMsix_sent (s := { s with out := [] }) hup hv he hb hm]
      simp only [fnPage_emit, State.fnPage_setFn]
      refine ⟨rfl, rfl, fun u hu => ?_, fun _ _ _ _ => ⟨rfl, ?_⟩, fun hno => ?_⟩
      · exact (testBit_sub_two_pow hb u).trans (by simp [hu])
      · exact (testBit_sub_two_pow hb v).trans (by simp)
      · exact (hno.elim (fun hoff => absurd (hoff.symm.trans he) (by decide)) fun hmask => absurd (hmask.symm.trans hm) (by decide))
    · rw [sendMsix_kept (s := { s with out := [] }) hup h]
      simp only [State.fnPage_setFn]
      exact ⟨rfl, rfl, fun u _ => rfl, fun hv he hb hm => absurd ⟨hv, he, hb, hm⟩ h, fun _ => ⟨rfl, rfl⟩⟩

end Sys2Proof.Proofs
end

section
/-! SUPPORT. Reads over the fabric answer as many bytes as asked for, and what an access through a BAR does (05; R302, R303). -/

namespace Sys2Proof.Machine

open Safety

/-! ### Bytes read -/

theorem length_slice (bs : List Byte) (off n : Nat) : (slice bs off n).length = n := by
  simp [slice]

theorem length_bytesAt (s : State) (a n : Nat) : (s.bytesAt a n).length = n := by
  induction n generalizing a with
  | zero => rfl
  | succ n ih => simp [State.bytesAt, ih]

theorem length_heldBytes (s : State) (a n : Nat) : (s.heldBytes a n).1.length = n := by
  rw [State.heldBytes]
  split_ifs
  · exact length_bytesAt s a n
  · exact length_leBytes n _
  · simp [State.tagBytes]

theorem length_memRead (s : State) (h req a n : Nat) : (s.memRead h req a n).2.1.length = n := by
  unfold State.memRead
  dsimp only
  split
  · exact List.length_replicate
  split_ifs
  · exact length_leBytes n _
  · exact List.length_replicate
  · exact List.length_replicate
  split
  · exact length_leBytes n _
  · exact length_heldBytes ..

theorem length_read1 (s : State) (who : Requester) (a n : Nat) : (s.read1 who a n).2.1.length = n := by
  unfold State.read1
  dsimp only
  split
  · exact length_memRead ..
  · exact length_memRead ..
  · split_ifs
    · rw [State.spdBytes]
      split_ifs
      · exact length_slice ..
      · exact List.length_replicate
    · rw [Core.wbytes]
      split_ifs <;> simp [Core.lbytes]
    · exact List.length_replicate
  · exact length_slice ..
  · simp
  · exact List.length_replicate
  · exact List.length_replicate

/-! ### An access cut at the 64-byte blocks -/

/-- The pieces make up the whole access. -/
theorem sum_pieces (f a n : Nat) (h : n = 0 ∨ n + a % 64 ≤ 64 * f) : ((pieces f a n).map (·.2)).sum = n := by
  induction f generalizing a n with
  | zero => simp only [pieces, List.map_nil, List.sum_nil]; omega
  | succ f ih =>
    rw [pieces]
    split_ifs with hn
    · simp [hn]
    · rw [List.map_cons, List.sum_cons, ih _ _ (by omega)]
      omega

theorem sum_blocksOf (a n : Nat) : ((blocksOf a n).map (·.2)).sum = n := sum_pieces _ a n (by omega)

/-- Bytes appended piece by piece, each as long as its piece. -/
theorem length_foldl_append {σ : Type} {f : List Byte × σ → Nat × Nat → List Byte × σ}
    (h : ∀ acc p, (f acc p).1.length = acc.1.length + p.2) (l : List (Nat × Nat)) (acc : List Byte × σ) :
    (l.foldl f acc).1.length = acc.1.length + (l.map (·.2)).sum := by
  induction l generalizing acc with
  | nil => rfl
  | cons p l ih => rw [List.foldl_cons, ih, h, List.map_cons, List.sum_cons, Nat.add_assoc]

/-- A read through a BAR answers as many bytes as asked for. -/
theorem length_barRead (s : State) (f a n : Nat) : (s.barRead f a n).1.length = n := by
  rw [State.barRead, length_foldl_append, sum_blocksOf]
  · exact Nat.zero_add n
  · intro acc p
    rw [List.length_append]
    congr 1
    split
    · exact length_read1 ..
    · exact length_read1 ..
    · exact List.length_replicate

/-! ### The access through a BAR -/

section
variable {s : State} {fn bar off n : Nat} (hlink : s.pci.up = true) (hup : s.fnUp fn = true) (hn : 1 ≤ n) (hsize : off + n ≤ barSize fn bar)
include hlink hup hn hsize

theorem not_barRefused : ¬((!s.pci.up) = true ∨ (!s.fnUp fn) = true ∨ n = 0 ∨ barSize fn bar < off + n) := by
  rw [hlink, hup]
  rintro (h | h | h | h)
  · exact absurd h (by decide)
  · exact absurd h (by decide)
  · omega
  · omega

theorem barAccess_unbound (hbar : bar ≠ 4) (hb : s.fnBound fn = false) : s.barAccess fn bar off n none =
    (s.updPci (fun p => { p with unbound := satAdd 32 p.unbound 1 })).emit .unsupported := by
  unfold State.barAccess
  dsimp only
  rw [if_neg (not_barRefused hlink hup hn hsize), if_neg hbar, if_pos (by rw [hb]; rfl)]

theorem barAccess_page (hbar : bar = 4) : s.barAccess fn bar off n none =
    s.emit (.answer 0 ((List.range n).map (fun k => (s.fnPage fn).byte fn (off + k)))) := by
  unfold State.barAccess
  dsimp only
  rw [if_neg (not_barRefused hlink hup hn hsize), if_pos hbar]

section
variable (hbar : bar ≠ 4) (hb : s.fnBound fn = true)
include hbar hb

theorem barAccess_read (hawake : s.memAsleep = false) : s.barAccess fn bar off n none =
    (s.barRead fn (s.barAddr fn bar off) n).2.emit (.answer 0 (s.barRead fn (s.barAddr fn bar off) n).1) := by
  unfold State.barAccess
  dsimp only
  rw [if_neg (not_barRefused hlink hup hn hsize), if_neg hbar, if_neg (by simp [hb]), if_neg (by simp [hawake])]

theorem barAccess_write {bs : List Byte} (hlen : bs.length = n) (hawake : s.memAsleep = false) : s.barAccess fn bar off n (some bs) =
    (s.barWrite fn (s.barAddr fn bar off) bs).emit (.answer 0 []) := by
  subst hlen
  unfold State.barAccess
  dsimp only
  rw [if_neg (not_barRefused hlink hup hn hsize), if_neg hbar, if_neg (by simp [hb]), if_neg (by simp [hawake])]

theorem barAccess_asleep (hasleep : s.memAsleep = true) : s.barAccess fn bar off n none = s.emit (.answer 0 (List.replicate n 0)) := by
  unfold State.barAccess
  dsimp only
  rw [if_neg (not_barRefused hlink hup hn hsize), if_neg hbar, if_neg (by simp [hb]), if_pos hasleep]

theorem barAccess_asleep_write {bs : List Byte} (hlen : bs.length = n) (hasleep : s.memAsleep = true) :
    s.barAccess fn bar off n (some bs) = s.emit (.answer 0 []) := by
  subst hlen
  unfold State.barAccess
  dsimp only
  rw [if_neg (not_barRefused hlink hup hn hsize), if_neg hbar, if_neg (by simp [hb]), if_pos hasleep]

end

end

end Sys2Proof.Machine
end

section
namespace Sys2Proof.Proofs

open Machine Safety

/-- Settles O25: an access is answered by its function's binding, the power state and the BAR. -/
theorem barAccessCompletes : Obligations.BarAccessCompletes := by
  intro s fn bar off n hlink hup hn hsize hcalm
  have hend {t : State} {data : Option (List Byte)} (h : (fresh s).barAccess fn bar off n data = t) :
      exec (.barAccess fn bar off n data) s = .next t.settle := congrArg (fun u : State => Host.Outcome.next u.settle) h
  have hcalmly {t : State} {data : Option (List Byte)} (h : (fresh s).barAccess fn bar off n data = t) (ht : Calm t) :
      exec (.barAccess fn bar off n data) s = .next t := (hend h).trans (congrArg Host.Outcome.next (settle_of_calm ht))
  refine ⟨fun hbar hb => ?_, fun hbar hb hawake => ⟨rfl, length_barRead .., ?_, fun bs hlen => ?_⟩,
    fun hbar hb hasleep => ⟨?_, fun bs hlen => ?_⟩, fun hbar => ?_⟩
  · exact hcalmly (barAccess_unbound (s := fresh s) hlink hup hn hsize hbar hb) hcalm
  · exact hend (barAccess_read (s := fresh s) hlink hup hn hsize hbar hb hawake)
  · exact hend (barAccess_write (s := fresh s) hlink hup hn hsize hbar hb hlen hawake)
  · exact hcalmly (barAccess_asleep (s := fresh s) hlink hup hn hsize hbar hb hasleep) hcalm
  · exact hcalmly (barAccess_asleep_write (s := fresh s) hlink hup hn hsize hbar hb hlen hasleep) hcalm
  · exact hcalmly (barAccess_page (s := fresh s) hlink hup hn hsize hbar) hcalm

end Sys2Proof.Proofs
end

section
/-! SUPPORT. The tokenizer's jobs: the one it takes, its start after each read, and its end (R270, R271, R274, R276). -/

namespace Sys2Proof.Machine

open Safety

/-! ### The job taken -/

/-- `j` goes before `x`, or neither before the other: by class, then by slot. -/
def Job.NotAfter (j x : Job) : Prop := j.cls < x.cls ∨ (j.cls = x.cls ∧ j.slotSeq ≤ x.slotSeq)

theorem Job.NotAfter.refl (j : Job) : j.NotAfter j := .inr ⟨rfl, le_rfl⟩

theorem Job.NotAfter.trans {j x y : Job} (h : j.NotAfter x) (h' : x.NotAfter y) : j.NotAfter y := by
  unfold Job.NotAfter at *
  omega

/-- A choice that each job replaces exactly when it goes before is a first one of all. -/
theorem foldl_first {f : Option Job → Job → Option Job} (hnone : ∀ y, f none y = some y)
    (hsome : ∀ x y, f (some x) y = if y.cls < x.cls ∨ (y.cls = x.cls ∧ y.slotSeq < x.slotSeq) then some y else some x)
    {l : List Job} {b : Option Job} {j : Job} (h : l.foldl f b = some j) :
    (j ∈ l ∨ b = some j) ∧ (∀ x ∈ l, j.NotAfter x) ∧ ∀ x, b = some x → j.NotAfter x := by
  induction l generalizing b with
  | nil =>
    refine ⟨.inr h, by simp, fun x hx => ?_⟩
    cases hx.symm.trans h
    exact .refl j
  | cons y l ih =>
    obtain ⟨hin, hl, hb⟩ := ih h
    have hchoice : ∃ c, f b y = some c ∧ (c = y ∨ b = some c) ∧ c.NotAfter y ∧ ∀ x, b = some x → c.NotAfter x := by
      cases b with
      | none => exact ⟨y, hnone y, .inl rfl, .refl y, by simp⟩
      | some x =>
        rw [hsome]
        split_ifs with hlt
        · refine ⟨y, rfl, .inl rfl, .refl y, ?_⟩
          rintro _ ⟨⟩
          exact hlt.imp_right fun ⟨hc, hs⟩ => ⟨hc, hs.le⟩
        · refine ⟨x, rfl, .inr rfl, ?_, ?_⟩
          · unfold Job.NotAfter
            omega
          · rintro _ ⟨⟩
            exact .refl x
    obtain ⟨c, hc, hfrom, hy, hbefore⟩ := hchoice
    refine ⟨?_, List.forall_mem_cons.mpr ⟨(hb c hc).trans hy, hl⟩, fun x hx => (hb c hc).trans (hbefore x hx)⟩
    rcases hin with hin | hin
    · exact .inl (List.mem_cons_of_mem y hin)
    · cases hc.symm.trans hin
      exact hfrom.imp (fun h => List.mem_cons.mpr (.inl h)) id

/-- The engine takes an admitted tokenizer job that no other goes before. -/
theorem nextTok_first {s : State} {j : Job} (h : s.nextTok = some j) :
    j ∈ s.jobs ∧ j.kind = 4 ∧ j.phase = .admitted ∧ ∀ x ∈ s.jobs, x.kind = 4 → x.phase = .admitted → j.NotAfter x := by
  have hwaits : ∀ x, x ∈ s.jobs.filter (fun j => j.kind == 4 && j.phase == .admitted) ↔ x ∈ s.jobs ∧ x.kind = 4 ∧ x.phase = .admitted := by
    simp
  obtain ⟨hin, hfirst, -⟩ := foldl_first (fun _ => rfl) (fun _ _ => rfl) h
  obtain ⟨hj, hkind, hphase⟩ := (hwaits j).mp (hin.resolve_right (by simp))
  exact ⟨hj, hkind, hphase, fun x hx hk hp => hfirst x ((hwaits x).mpr ⟨hx, hk, hp⟩)⟩

/-! ### Start -/

/-- The state in which a job that starts has its descriptor read. -/
def State.tokTaken (s : State) (j : Job) : State :=
  { s.updJob j.id (fun j => { j with phase := .running }) with tok := { s.tok with hank := j.hank, state := 1 } }

/-- What a job that starts becomes, by what is read of its descriptor and of its dictionary. -/
theorem tokStart_outcome {s : State} {j : Job} (hidle : s.tok.run = none) (hnext : s.nextTok = some j) (hcounts : s.counts 27 = true)
    (hlatch : (s.unitSt 27).latch = false) :
    (∀ e s2, (s.tokTaken j).tokRead j.hank j.desc 64 = (.error e, s2) →
      s.tokStart = s2.tokFinish (({ job := j.id, hank := j.hank } : TokRun).stop e))
    ∧ ∀ b s2, (s.tokTaken j).tokRead j.hank j.desc 64 = (.ok b, s2) →
      let r : TokRun := { job := j.id, hank := j.hank, desc := b, usedDram := dramBytes j.desc 64 }
      (tokDescOk j.desc b = false → s.tokStart = s2.tokFinish (r.stop { cause := 1 }))
      ∧ (tokDescOk j.desc b = true →
        (∀ e s3, s2.openDict j.hank (leAt b 8 8) (tokMode b).fold = (.error e, s3) → s.tokStart = s3.tokFinish (r.stop e))
        ∧ ∀ d s3, s2.openDict j.hank (leAt b 8 8) (tokMode b).fold = (.ok d, s3) →
          (bit (leAt b 2 1) 0 = false → s.tokStart = { s3 with tok := { s3.tok with run := some { r with dict := d } } })
          ∧ (bit (leAt b 2 1) 0 = true → s.tokStart =
            ({ s3 with tok := { s3.tok with run := some { r with dict := d, streaming := true } } } : State).drainPort 0x6000)) := by
  unfold State.tokStart
  rw [hidle, hnext, startCheck_passes hcounts hlatch]
  dsimp -zeta only
  extract_lets u _ v read s1 r0
  have hread : (s.tokTaken j).tokRead j.hank j.desc 64 = read := rfl
  rw [hread]
  clear_value read
  refine ⟨?_, ?_⟩
  · rintro e s2 rfl
    rfl
  · rintro b s2 rfl r
    refine ⟨fun hbad => if_pos (by rw [hbad]; rfl), fun hok => ?_⟩
    have hgood : ¬(!tokDescOk j.desc b) = true := by simp [hok]
    refine ⟨fun e s3 hopen => ?_, fun d s3 hopen => ⟨fun hmem => ?_, fun hstream => ?_⟩⟩
    · refine (if_neg hgood).trans ?_
      rw [show s1.openDict _ _ _ = _ from hopen]
    · refine (if_neg hgood).trans ?_
      rw [show s1.openDict _ _ _ = _ from hopen]
      exact if_neg (by simp [hmem])
    · refine (if_neg hgood).trans ?_
      rw [show s1.openDict _ _ _ = _ from hopen]
      exact if_pos hstream

/-! ### End -/

section
variable {s : State} {r : TokRun} (hrun : s.tok.run = some r)
include hrun

theorem tokEnd_stopped (hc : r.cause ≠ 0) : s.tokEnd = s.tokFinish r := by
  rw [State.tokEnd, hrun]
  exact if_pos hc

section
variable {p : List Packet × State} {q : TokRun × State} (hp : s.tokPackets r = p) (hq : p.2.runTok r p.1 false = q) (hc : r.cause = 0)
include hp hq hc

/-- A streamed job whose strings have not all come goes on. -/
theorem tokEnd_short (hstream : r.streaming = true) (hlen : p.1.length < leAt r.desc 4 4) (hgo : q.1.cause = 0) : s.tokEnd = s := by
  subst hp hq
  rw [State.tokEnd, hrun]
  exact (if_neg (not_not.mpr hc)).trans (if_pos ⟨hstream, hlen, hgo⟩)

/-- Any other is served what has come. -/
theorem tokEnd_served (h : ¬(r.streaming = true ∧ p.1.length < leAt r.desc 4 4) ∨ q.1.cause ≠ 0) : s.tokEnd = q.2.tokFinish q.1 := by
  subst hp hq
  rw [State.tokEnd, hrun]
  refine (if_neg (not_not.mpr hc)).trans (if_neg ?_)
  rintro ⟨hstream, hlen, hgo⟩
  exact h.elim (fun hn => hn ⟨hstream, hlen⟩) fun hn => hn hgo

end

end

end Sys2Proof.Machine
end

section
namespace Sys2Proof.Proofs

open Machine Safety

/-- Settles O35: a start by what is read, the choice by class and slot, an end by what the strings that came make of the job. -/
theorem tokenizerJobsRun : Obligations.TokenizerJobsRun := by
  intro s j r ends
  have hstart {t : State} (h : (fresh s).tokStart = t) : exec .tokenizerJobStart s = .next t.takeReports :=
    congrArg (fun u : State => Host.Outcome.next u.takeReports) h
  have hend {t : State} (h : (fresh s).tokEnd = t) : exec .tokenizerJobEnd s = .next t.takeReports :=
    congrArg (fun u : State => Host.Outcome.next u.takeReports) h
  refine ⟨fun hidle hnext hcounts hlatch => ?_, nextTok_first, fun hrun => ?_⟩
  · obtain ⟨hunread, hread⟩ := tokStart_outcome (s := fresh s) hidle hnext hcounts hlatch
    refine ⟨fun e s2 h => hstart (hunread e s2 h), fun b s2 h => ?_⟩
    obtain ⟨hbad, hgood⟩ := hread b s2 h
    refine ⟨fun hno => hstart (hbad hno), fun hok => ?_⟩
    obtain ⟨hclosed, hopen⟩ := hgood hok
    exact ⟨fun e s3 hd => hstart (hclosed e s3 hd), fun d s3 hd =>
      ⟨fun hmem => hstart ((hopen d s3 hd).1 hmem), fun hstream => hstart ((hopen d s3 hd).2 hstream)⟩⟩
  · intro packets q short go
    refine ⟨fun hc => hend (tokEnd_stopped (s := fresh s) hrun hc),
      fun hc ⟨hstream, hlen⟩ hgo => hend (tokEnd_short (s := fresh s) (q := q) hrun rfl rfl hc hstream hlen hgo),
      fun hc h => hend (tokEnd_served (s := fresh s) (q := q) hrun rfl rfl hc h)⟩

end Sys2Proof.Proofs
end

section
/-! SUPPORT. What a channel does with the instruction it has fetched (12 R281 to R289). -/
namespace Sys2Proof.Machine
open Safety

/-! ### Fetched instructions -/

section
variable {s t : State} {n : Nat} {i : BobIns}

/-- R281, R282: a ready channel runs the well-formed instruction it has fetched. -/
theorem bobRun_of_fetched (hready : (s.chan n).ready = true) (hfetch : s.bobFetch n = ((some i, 0), t)) (hi : i ≠ .bad)
    (f : State → BobIns → Option State) : s.bobRun n f = (f t i).getD s := by
  unfold State.bobRun
  rw [if_pos hready, hfetch]
  cases i with
  | bad => exact absurd rfl hi
  | move | loop | wait | pace | signal | finish => rfl

/-- R282, R292: a malformed instruction halts the channel with cause 4. -/
theorem bobRun_of_bad (hready : (s.chan n).ready = true) (hfetch : s.bobFetch n = ((some .bad, 0), t))
    (f : State → BobIns → Option State) : s.bobRun n f = t.setChan n { t.chan n with cause := 4, halting := true } := by
  unfold State.bobRun
  rw [if_pos hready, hfetch]
  rfl

end

/-! ### MOVE and LOOP -/

section
variable {s t u : State} {n : Nat}

/-- R283, R291: blocks that all succeed end the MOVE of a running channel. -/
theorem moveFrom_of_moved {src dst len : Nat} {drain : Bool} (hmoved : s.moveBlocks n src dst (len / 64) 0 = (none, u))
    (hrun : (u.chan n).state = 1) : s.moveFrom n src dst len 0 drain = u.setChan n { u.chan n with
      scur := (src + len) % 2 ^ 64, dcur := (dst + len) % 2 ^ 64, pc := (u.chan n).pc + 1, bad := none
      state := if drain then 4 else 1 } := by
  unfold State.moveFrom
  rw [Nat.sub_zero, hmoved]
  simp only [State.moveDone, hrun, and_true]

variable {drain sc dc : Bool} {len src dst : Nat}

/-- R283: a MOVE whose addresses and length keep the rules copies its blocks from the start. -/
theorem bobMove_of_legal (hready : (s.chan n).ready = true) (hfetch : s.bobFetch n = ((some (.move drain sc dc len src dst), 0), t))
    (ha : (if sc then (t.chan n).scur else src) % 64 = 0) (hd : (if dc then (t.chan n).dcur else dst) % 64 = 0)
    (hlen : len % 64 = 0) (hpos : 0 < len) (hmax : len ≤ 0x100000) :
    s.bobMove n = (t.setChan n { t.chan n with moveLen := len, moveDrain := drain }).moveFrom n (if sc then (t.chan n).scur else src)
      (if dc then (t.chan n).dcur else dst) len 0 drain := by
  refine (bobRun_of_fetched hready hfetch BobIns.noConfusion _).trans ?_
  refine (if_neg (by rw [ha]; decide)).trans ?_
  refine (if_neg (by rw [hd]; decide)).trans ?_
  refine (if_neg (by rw [hlen]; decide)).trans ?_
  exact if_neg (by omega)

/-- R284: a LOOP counts its level down and branches, with both cursors strided, while the count lasts. -/
theorem bobLoop_eq {level count target : Nat} {ss ds : Int} (hready : (s.chan n).ready = true)
    (hfetch : s.bobFetch n = ((some (.loop level count target ss ds), 0), t)) :
    let c := t.chan n
    let old := if level = 0 then c.lc0 else c.lc1
    let k := (if old = 0 then count else old) - 1
    s.bobLoop n = t.setChan n { c with
      lc0 := if level = 0 then k else c.lc0, lc1 := if level = 0 then c.lc1 else k
      pc := if 0 < k then target else c.pc + 1
      scur := if 0 < k then low 64 (c.scur + ss * 64) else c.scur, dcur := if 0 < k then low 64 (c.dcur + ds * 64) else c.dcur } := by
  intro c old k
  refine (bobRun_of_fetched hready hfetch BobIns.noConfusion _).trans (congrArg (t.setChan n) ?_)
  change (if 0 < k then _ else _) = _
  have hk : k = (if (if level = 0 then (t.chan n).lc0 else (t.chan n).lc1) = 0 then count
    else (if level = 0 then (t.chan n).lc0 else (t.chan n).lc1)) - 1 := rfl
  rw [← hk]
  clear_value k
  by_cases hlevel : level = 0 <;> by_cases hpos : 0 < k <;> simp only [hlevel, hpos, if_true, if_false, strided, c]

end

/-! ### PACE and END -/

section
variable {s t : State} {n : Nat}

/-- R298: what a channel takes from the tally of an event. -/
theorem takeTally_eq (s : State) (n e k : Nat) : s.takeTally n e k =
    { s with evt := { s.evt with tally := mset s.evt.tally e (s.tallyOf e - k), last := mset s.evt.last e n } } := rfl

/-- R286, R287: a PACE on an event of the hank first lets the waiters of the event take; then it goes on or waits. -/
theorem bobPace_of_owned {e high low take : Nat} (hready : (s.chan n).ready = true)
    (hfetch : s.bobFetch n = ((some (.pace e high low take), 0), t)) (howned : t.ownsEvent (t.chan n).hank e = true) :
    let u := t.serveEvent e
    let d := u.chan n
    s.bobPace n =
      if (d.paceOn && d.paceIdx == some d.pc) = true ∧ low < u.tallyOf e then (u.takeTally n e take).setChan n { d with pc := d.pc + 1 }
      else (u.setChan n { d with
        state := 3, paceOn := false, paceIdx := some d.pc, waitEvent := e, waitHigh := high, waitTake := take }).serveEvent e :=
  (bobRun_of_fetched hready hfetch BobIns.noConfusion _).trans (if_neg (by simp [howned]))

/-- R287, R107: an instruction that names a foreign event is an access error, and halts the channel with cause 6. -/
theorem chanForeign_eq (e : Nat) : t.chanForeign n e =
    let u := t.accessError (t.chan n).hank e 5
    u.setChan n { u.chan n with cause := 6, halting := true } := rfl

/-- R295: an event of the hank is pulsed when a job names one. -/
theorem hankPulse_of_owned {h e : Nat} (he : e ≠ 0xFFFF) (howned : s.ownsEvent h e = true) : s.hankPulse h e = s.pulse e := by
  unfold State.hankPulse
  rw [if_neg he, if_pos howned]

/-- R288: END ends the program: the job is served, or DONE_EVENT of a program without a job is pulsed. -/
theorem bobEnd_of_finish (hready : (s.chan n).ready = true) (hfetch : s.bobFetch n = ((some .finish, 0), t)) :
    s.bobEnd n = match (t.chan n).job with
      | some id => ((t.setChan n { t.chan n with state := 0, job := none }).updJob id
          (fun j => { j with usedDram := (t.chan n).dramBytes })).serve id
      | none => (t.setChan n { t.chan n with state := 0, job := none }).hankPulse (t.chan n).hank (t.chan n).doneEvent := by
  refine (bobRun_of_fetched hready hfetch BobIns.noConfusion _).trans ?_
  cases hjob : (t.chan n).job <;> simp only [hjob, Option.getD_some]

end

end Sys2Proof.Machine
end

section
namespace Sys2Proof.Proofs
open Machine Safety

/-- Settles O36: each channel instruction, from the instruction that the channel has fetched. -/
theorem channelInstructionsRun : Obligations.ChannelInstructionsRun := by
  unfold Obligations.ChannelInstructionsRun
  intro s t n i hready hfetch c next
  have hready' : ((fresh s).chan n).ready = true := hready
  have hnext {u v : State} (h : u = v) : (.next u.settle : Host.Outcome State Fault Refusal) = .next v.settle :=
    congrArg (fun x : State => Host.Outcome.next x.settle) h
  have hown {e : Nat} (h : t.ownsEvent (t.chan n).hank e = true) : ¬(!t.ownsEvent (t.chan n).hank e) = true := by simp [h]
  refine ⟨?malformed, ?move, ?loop, ?wait, ?foreign, ?pace, ?signal, ?finishJob, ?finishOwn⟩
  case malformed =>
    rintro rfl cmd hcmd
    simp only [List.mem_cons, List.not_mem_nil, or_false] at hcmd
    obtain rfl | rfl | rfl | rfl | rfl | rfl := hcmd <;> exact hnext (bobRun_of_bad hready' hfetch _)
  case move =>
    rintro drain sc dc len src dst rfl a d
    have hrun := bobRun_of_fetched hready' hfetch BobIns.noConfusion
    refine ⟨fun ha => ?_, fun ha hd => ?_, fun ha hd hlen hpos hmax u hmoved hstate => ?_⟩
    · exact hnext ((hrun _).trans (if_pos ha))
    · exact hnext ((hrun _).trans ((if_neg (not_not.mpr ha)).trans (if_pos hd)))
    · exact hnext ((bobMove_of_legal hready' hfetch ha hd hlen hpos hmax).trans (moveFrom_of_moved hmoved hstate))
  case loop =>
    rintro level count target ss ds rfl old k
    exact hnext (bobLoop_eq hready' hfetch)
  case wait =>
    rintro e rfl howned
    exact hnext ((bobRun_of_fetched hready' hfetch BobIns.noConfusion _).trans (if_neg (hown howned)))
  case foreign =>
    intro e hforeign u v
    have hnot : (!t.ownsEvent (t.chan n).hank e) = true := by simp [show t.ownsEvent (t.chan n).hank e = false from hforeign]
    refine ⟨?_, fun high low take => ?_, ?_⟩ <;> rintro rfl <;>
      exact hnext ((bobRun_of_fetched hready' hfetch BobIns.noConfusion _).trans (if_pos hnot))
  case pace =>
    rintro e high low take rfl howned u d
    refine ⟨fun hon hidx hlow => ?_, fun hnot => ?_⟩
    · have hpaced : (d.paceOn && d.paceIdx == some d.pc) = true := by rw [hon, hidx, Bool.true_and, beq_self_eq_true]
      rw [← takeTally_eq]
      refine hnext ((bobPace_of_owned hready' hfetch howned).trans (if_pos ?_))
      exact ⟨hpaced, hlow⟩
    · refine hnext ((bobPace_of_owned hready' hfetch howned).trans (if_neg ?_))
      rintro ⟨hon, hlow⟩
      simp only [Bool.and_eq_true, beq_iff_eq] at hon
      obtain h | h | h := hnot
      · exact absurd (hon.1.symm.trans h) (by decide)
      · exact h hon.2
      · exact absurd hlow (Nat.not_lt.mpr h)
  case signal =>
    rintro e rfl howned
    exact hnext ((bobRun_of_fetched hready' hfetch BobIns.noConfusion _).trans (if_neg (hown howned)))
  case finishJob =>
    rintro rfl id hjob
    have hjob' : (t.chan n).job = some id := hjob
    exact hnext ((bobEnd_of_finish hready' hfetch).trans (by rw [hjob']))
  case finishOwn =>
    rintro rfl hjob he howned
    have hjob' : (t.chan n).job = none := hjob
    exact hnext ((bobEnd_of_finish hready' hfetch).trans (by rw [hjob']; exact hankPulse_of_owned he howned))

end Sys2Proof.Proofs
end

section
/-! SUPPORT. What moves a channel beside its instructions: starts, waits, retries, halts, stops and commands (12 R279 to R298). -/
namespace Sys2Proof.Machine
open Safety

/-! ### Start -/

section
variable {s : State} {n : Nat}

/-- R279: a free channel of a unit that counts takes the first job that may run on it. -/
theorem chanTake_of_job {j : Job} (hfree : (s.chan n).free = true) (hjob : s.chanJob n = some j) (hcounts : s.counts (128 + n) = true)
    (hlatch : (s.unitSt (128 + n)).latch = false) :
    s.chanTake n = (s.updJob j.id (fun j => { j with phase := .running, unit := n })).chanBegin n j.hank j.cls j.desc (some j.id) := by
  unfold State.chanTake
  rw [if_pos hfree, hjob]
  dsimp only
  rw [startCheck_passes hcounts hlatch]

/-- R294: START of a free channel among the first four whose unit counts. -/
theorem chanStart_of_free (hn : n < 4) (hfree : (s.chan n).free = true) (hcounts : s.counts (128 + n) = true)
    (hlatch : (s.unitSt (128 + n)).latch = false) : s.chanStart n = s.chanBegin n 0 0 (s.chan n).start none := by
  unfold State.chanStart
  rw [if_pos ⟨hn, hfree⟩, startCheck_passes hcounts hlatch]

/-- R280: the descriptor's own fetch is metered. -/
theorem chan_chanMeter (a k : Nat) : (s.chanMeter n a k).chan n =
    { s.chan n with dramBytes := (s.chan n).dramBytes + if dramBase ≤ a then k else 0 } := by
  unfold State.chanMeter
  split_ifs <;> simp

/-- A job's update leaves the channels. -/
theorem chan_updJob (id : Nat) (f : Job → Job) : (s.updJob id f).chan n = s.chan n := rfl

/-- R278 to R280: a channel that begins a program: its registers before the descriptor is read. -/
def Chan.begun (c : Chan) (h cls : Nat) (job : Option Nat) : Chan :=
  { c with
    hank := h, cls := cls, job := job, own := job.isNone, state := 1, pc := 0, paceOn := false, paceIdx := none, lc0 := 0, lc1 := 0
    cause := 0, dir := false, tries := 0, dramBytes := 0, bad := none, halting := false, resumed := false
    prog := 0, progLen := 0, errMode := 0, errRetries := 0, doneEvent := 0xFFFF, haltEvent := 0xFFFF }

/-- R278: a channel with the fields of the descriptor that it has read. -/
def Chan.described (c : Chan) (d : List Byte) : Chan :=
  { c with
    prog := leAt d 0 8, progLen := leAt d 8 4, errMode := leAt d 13 1, errRetries := leAt d 14 1
    doneEvent := leAt d 16 2, haltEvent := leAt d 18 2, scur := leAt d 24 8, dcur := leAt d 32 8 }

/-- R278 to R280: a channel whose descriptor is read and keeps the rules holds its fields. -/
theorem chan_chanBegin {h cls addr a : Nat} {job : Option Nat} {d : List Byte} {u : State}
    (hread : (s.setChan n ((s.chan n).begun h cls job)).engRead h (16 + n) addr 64 = (.ok, a, d, u)) (hok : bobDescOk addr d = true)
    (hchan : u.chan n = (s.chan n).begun h cls job) : (s.chanBegin n h cls addr job).chan n =
      { ((s.chan n).begun h cls job).described d with dramBytes := if dramBase ≤ addr then 64 else 0 } := by
  have hread' : (s.setChan n ((s.chan n).begun h cls job)).engRead h (chanReq n) addr 64 = (.ok, a, d, u) := hread
  have hset : ((u.chanMeter n addr 64).setChan n (((u.chanMeter n addr 64).chan n).described d)).chan n =
      { ((s.chan n).begun h cls job).described d with dramBytes := if dramBase ≤ addr then 64 else 0 } := by
    rw [State.chan_setChan, chan_chanMeter, hchan]
    simp only [Chan.described, Chan.begun, Nat.zero_add]
  unfold State.chanBegin
  simp only [Chan.begun] at hread'
  dsimp only
  rw [hread']
  dsimp only
  rw [if_pos hok]
  cases job with
  | none => exact hset
  | some id => exact (chan_updJob id _).trans hset

end

/-! ### Waits -/

section
variable {s : State} {e n : Nat}

/-- What a channel takes from a tally leaves the channels. -/
theorem chan_takeTally (k m : Nat) : (s.takeTally n e k).chan m = s.chan m := rfl

/-- R298: an event's pulses leave a channel that does not wait for it, or for more. -/
theorem serveChan_of_not (h : ¬(((s.chan n).state = 2 ∨ (s.chan n).state = 3) ∧ (s.chan n).waitEvent = e ∧ (s.chan n).waitHigh ≤ s.tallyOf e)) :
    s.serveChan e n = s := if_neg h

/-- R285, R286, R298: a waiting channel whose event has pulses enough goes on, and takes its count. -/
theorem serveChan_of_waiting (hwait : (s.chan n).state = 2 ∨ (s.chan n).state = 3) (hevent : (s.chan n).waitEvent = e)
    (hhigh : (s.chan n).waitHigh ≤ s.tallyOf e) : s.serveChan e n = (s.takeTally n e (s.chan n).waitTake).setChan n
      { s.chan n with state := 1, pc := (s.chan n).pc + 1, paceOn := (s.chan n).paceOn || decide ((s.chan n).state = 3) } := by
  refine (if_pos ⟨hwait, hevent, hhigh⟩).trans (congrArg (State.setChan _ n) ?_)
  by_cases h3 : (s.chan n).state = 3 <;> simp [h3]

/-- R298: with one waiter whose event has pulses enough, the channels served in any order that has it leave it gone on. -/
theorem foldl_serveChan {f : Nat → Nat} {l : List Nat} (hf : ∀ k, f k < 64)
    (hwait : (s.chan n).state = 2 ∨ (s.chan n).state = 3) (hevent : (s.chan n).waitEvent = e) (hhigh : (s.chan n).waitHigh ≤ s.tallyOf e)
    (hothers : ∀ m, m < 64 → m ≠ n → (s.chan m).state ∈ [2, 3] → (s.chan m).waitEvent ≠ e) (hmem : ∃ k ∈ l, f k = n) :
    l.foldl (fun s k => s.serveChan e (f k)) s = s.serveChan e n := by
  have hother {m : Nat} (hm : m < 64) (hne : m ≠ n) : s.serveChan e m = s := serveChan_of_not fun ⟨hst, hev, _⟩ =>
    hothers m hm hne (by simpa using hst) hev
  have hserved {m : Nat} (hm : m < 64) : (s.serveChan e n).serveChan e m = s.serveChan e n := by
    rw [serveChan_of_waiting hwait hevent hhigh]
    refine serveChan_of_not fun ⟨hst, hev, _⟩ => ?_
    by_cases hne : m = n
    · subst hne
      rw [State.chan_setChan] at hst
      revert hst
      simp
    · rw [State.chan_setChan_ne _ _ _ _ hne] at hst hev
      exact hothers m hm hne (by simpa [chan_takeTally] using hst) hev
  induction l with
  | nil => obtain ⟨k, hk, -⟩ := hmem; exact absurd hk List.not_mem_nil
  | cons k l ih =>
    rw [List.foldl_cons]
    by_cases hkn : f k = n
    · rw [hkn]
      exact List.foldl_fixed' (fun j => hserved (hf j)) l
    · rw [hother (hf k) hkn]
      refine ih ?_
      obtain ⟨j, hj, hjn⟩ := hmem
      obtain rfl | hj := List.mem_cons.mp hj
      · exact absurd hjn hkn
      · exact ⟨j, hj, hjn⟩

end

/-- Each of the 64 channels has its turn in an order that starts anywhere. -/
theorem exists_rotated (first : Nat) {n : Nat} (hn : n < 64) : ∃ k ∈ List.range 64, (first + k) % 64 = n :=
  ⟨(n + 64 - first % 64) % 64, List.mem_range.mpr (Nat.mod_lt _ (by decide)), by omega⟩

/-- R298: the consumers of an event, in their rotating order, are all the channels. -/
theorem serveEvent_of_waiting {s : State} {e n : Nat} (hn : n < 64)
    (hwait : (s.chan n).state = 2 ∨ (s.chan n).state = 3) (hevent : (s.chan n).waitEvent = e) (hhigh : (s.chan n).waitHigh ≤ s.tallyOf e)
    (hothers : ∀ m, m < 64 → m ≠ n → (s.chan m).state ∈ [2, 3] → (s.chan m).waitEvent ≠ e) : s.serveEvent e = s.serveChan e n := by
  unfold State.serveEvent
  dsimp only
  exact foldl_serveChan (fun k => Nat.mod_lt _ (by decide)) hwait hevent hhigh hothers (exists_rotated _ hn)

/-! ### Retries, halts and stops -/

section
variable {s : State} {n : Nat}

/-- The last of two writes of a channel stands. -/
theorem setChan_setChan (x y : Chan) : (s.setChan n x).setChan n y = s.setChan n y := by
  simp only [State.setChan, mset_mset]

/-- R292: an error beyond the retries of the channel starts the halt. -/
theorem busError_of_spent {b : BadAccess} (hbad : (s.chan n).bad = some b) (hrun : (s.chan n).state = 1) (hhalt : (s.chan n).halting = false)
    (hspent : (s.chan n).retryLimit ≤ b.tries) : s.busError n = s.setChan n { s.chan n with
      tries := b.tries, cause := b.cause, halting := true, dir := b.write, haddr := if b.write then b.dst + b.off else b.src + b.off } := by
  unfold State.busError
  simp only [hbad]
  rw [if_neg (by simp [hrun, hhalt]), if_neg (Nat.not_lt.mpr hspent)]
  simp only [State.chanFail, State.chan_setChan, setChan_setChan]

/-- R293: an error within the retries of the channel is counted, and its access is issued again. -/
theorem busError_of_retry {b : BadAccess} (hbad : (s.chan n).bad = some b) (hrun : (s.chan n).state = 1) (hhalt : (s.chan n).halting = false)
    (hmay : b.tries < (s.chan n).retryLimit) : s.busError n = (s.setChan n { s.chan n with
      retried := min ((s.chan n).retried + 1) (2 ^ 32 - 1), tries := b.tries + 1, bad := some { b with tries := b.tries + 1 } }).moveRetry n
        { b with tries := b.tries + 1 } := by
  unfold State.busError
  simp only [hbad]
  rw [if_neg (by simp [hrun, hhalt]), if_pos hmay]
  rfl

/-- R292: the halt of a channel with a job halts the job, and pulses HALT_EVENT. -/
theorem chanHalt_of_job {id : Nat} (hhalt : (s.chan n).halting = true) (hjob : (s.chan n).job = some id) : s.chanHalt n =
    ((s.setChan n { s.chan n with halting := false, state := 6 }).updJob id
      (fun j => { j with phase := .halted, excused := true })).hankPulse (s.chan n).hank (s.chan n).haltEvent := by
  unfold State.chanHalt
  simp only [hhalt, hjob, if_true]

/-- R296: a stopping channel with no failed access ends its job at its boundary. -/
theorem chanStopDone_of_job {id : Nat} (hstop : (s.chan n).state = 5) (hbad : (s.chan n).bad = none) (hjob : (s.chan n).job = some id) :
    s.chanStopDone n = ((s.setChan n { s.chan n with state := 0, job := none, bad := none, halting := false }).updJob id
      (fun j => { j with usedDram := (s.chan n).dramBytes })).complete id .dropped 0 := by
  unfold State.chanStopDone
  simp only [hstop, hbad, hjob, if_true]

/-! ### Commands -/

/-- R294: a halted channel with a job resumes; an access that failed is issued again at the command's end. -/
theorem chanResume_of_job {id : Nat} (hhalted : (s.chan n).state = 6) (hjob : (s.chan n).job = some id) : s.chanResume n =
    (fun u : State => u.setChan n { u.chan n with resumed := (s.chan n).bad.isSome })
      ((s.setChan n { s.chan n with state := 1 }).updJob id (fun j => { j with phase := .running, excused := false })) := by
  unfold State.chanResume
  simp only [hhalted, hjob, if_true]

/-- R294: a halted channel with a job gives it up. -/
theorem chanAbort_of_job {id : Nat} (hhalted : (s.chan n).state = 6) (hjob : (s.chan n).job = some id) : s.chanAbort n =
    (s.setChan n { s.chan n with state := 0, job := none, bad := none, resumed := false }).updJob id
      (fun j => { j with usedDram := (s.chan n).dramBytes }) := by
  unfold State.chanAbort
  simp only [hhalted, hjob, if_true]

variable {who : Requester}

/-- R294: a command of a hank that the channel does not serve is denied. -/
theorem chanCommand_of_foreign (h0 : s.reqHank who ≠ 0) (hc : s.reqHank who ≠ (s.chan n).hank) (v : Nat) :
    s.chanCommand who n v = s.denyReg who (28 + n / 16) (chanCmdOff n) 0 :=
  if_pos (.inl (by simp [State.mayCommand, h0, hc]))

/-- R294: RESUME and ABORT of hank 0 or of the channel's own hank are done. -/
theorem chanCommand_of_owner (howner : s.reqHank who = 0 ∨ s.reqHank who = (s.chan n).hank) :
    s.chanCommand who n 1 = (s.chanResume n).served ∧ s.chanCommand who n 2 = (s.chanAbort n).served := by
  have hmay : s.mayCommand who n = true := by simpa [State.mayCommand] using howner
  exact ⟨if_neg (by simp [hmay]), if_neg (by simp [hmay])⟩

/-- R294: START is hank 0's. -/
theorem chanCommand_start_denied (h0 : s.reqHank who ≠ 0) :
    s.chanCommand who n 3 = s.denyReg who (28 + n / 16) (chanCmdOff n) 0 := if_pos (.inr ⟨rfl, h0⟩)

theorem chanCommand_start (h0 : s.reqHank who = 0) : s.chanCommand who n 3 = (s.chanStart n).served :=
  if_neg (by simp [State.mayCommand, h0])

end

end Sys2Proof.Machine
end

section
namespace Sys2Proof.Proofs
open Machine Safety

/-- Settles O37: each way a channel starts, waits, retries, halts, stops and is commanded. -/
theorem channelsStartHaltAndStop : Obligations.ChannelsStartHaltAndStop := by
  unfold Obligations.ChannelsStartHaltAndStop
  intro s who n e c f
  have hnext {u v : State} (h : u = v) : (.next u.settle : Host.Outcome State Fault Refusal) = .next v.settle :=
    congrArg (fun x : State => Host.Outcome.next x.settle) h
  have hserved {u v : State} (h : u = v) : u.served = v.served := congrArg State.served h
  refine ⟨?take, ?begin, ?waiter, ?drain, ?spent, ?retry, ?halt, ?stop, ?denied, ?startDenied, ?command, ?start, ?pulse⟩
  case take =>
    intro j hfree hjob hcounts hlatch
    exact hnext (chanTake_of_job (s := fresh s) hfree hjob hcounts hlatch)
  case begin =>
    intro h cls addr job a d u c0 hread hok hchan
    refine (chan_chanBegin hread hok hchan).trans ?_
    rfl
  case waiter =>
    intro hn hwait hevent hhigh hothers
    exact congrArg Host.Outcome.next
      ((serveEvent_of_waiting (s := fresh s) hn hwait hevent hhigh hothers).trans (serveChan_of_waiting hwait hevent hhigh))
  case drain =>
    intro hdrain
    exact congrArg Host.Outcome.next (if_pos hdrain)
  case spent =>
    intro b hbad hrun hhalt hspent
    exact hnext (busError_of_spent (s := fresh s) hbad hrun hhalt hspent)
  case retry =>
    intro b hbad hrun hhalt hmay
    exact hnext (busError_of_retry (s := fresh s) hbad hrun hhalt hmay)
  case halt =>
    intro id hhalt hjob
    exact congrArg Host.Outcome.next (chanHalt_of_job (s := fresh s) hhalt hjob)
  case stop =>
    intro id hstop hbad hjob
    exact hnext (chanStopDone_of_job (s := fresh s) hstop hbad hjob)
  case denied =>
    intro h0 hc hhank
    exact ⟨hnext ((asHank_of_hank (s := fresh s) hhank _).trans (chanCommand_of_foreign (s := fresh s) h0 hc 1)),
      hnext ((asHank_of_hank (s := fresh s) hhank _).trans (chanCommand_of_foreign (s := fresh s) h0 hc 2))⟩
  case startDenied =>
    intro h0 hhank
    exact hnext ((asHank_of_hank (s := fresh s) hhank _).trans (chanCommand_start_denied (s := fresh s) h0))
  case command =>
    intro id howner hhank hhalted hjob
    obtain ⟨hresume, habort⟩ := chanCommand_of_owner (s := fresh s) howner
    exact ⟨hnext ((asHank_of_hank (s := fresh s) hhank _).trans (hresume.trans (hserved (chanResume_of_job (s := fresh s) hhalted hjob)))),
      hnext ((asHank_of_hank (s := fresh s) hhank _).trans (habort.trans (hserved (chanAbort_of_job (s := fresh s) hhalted hjob))))⟩
  case start =>
    intro h0 hn hfree hcounts hlatch
    have hhank : (fresh s).reqHank who ≠ noHank := fun h => absurd (h.symm.trans h0) (by decide)
    exact hnext ((asHank_of_hank hhank _).trans ((chanCommand_start (s := fresh s) h0).trans
      (hserved (chanStart_of_free (s := fresh s) hn hfree hcounts hlatch))))
  case pulse =>
    intro value hhank ev
    exact ⟨fun howned => congrArg Host.Outcome.next ((asHank_of_hank (s := fresh s) hhank _).trans (if_pos howned)),
      fun hforeign => congrArg Host.Outcome.next ((asHank_of_hank (s := fresh s) hhank _).trans
        (if_neg (Bool.eq_false_iff.mp hforeign)))⟩

end Sys2Proof.Proofs
end

section
/-! SUPPORT. Ethernet frames as they are received, sent and stamped (13 R309 to R312). -/
namespace Sys2Proof.Machine
open Safety

/-! ### Received frames -/

section
variable {s : State} {f : EthFrame}

/-- R309: a frame with a bad FCS, or under 64 bytes, is counted so. -/
theorem ethReceive_of_bad (hup : s.ethUp f.port = true) (hbad : ¬(f.fcsOk = true ∧ 64 ≤ f.bytes.length + 4)) :
    s.ethReceive f = s.ethUpd f.port (fun e => { e with fcsErrors := satAdd 32 e.fcsErrors 1 }) := by
  unfold State.ethReceive
  dsimp only
  rw [if_neg (by simp [hup]), if_pos]
  by_cases hfcs : f.fcsOk = true
  · exact .inr (Nat.not_le.mp fun h => hbad ⟨hfcs, h⟩)
  · exact .inl (by simpa using hfcs)

/-- R309: a good frame over 9,216 bytes is counted so. -/
theorem ethReceive_of_oversize (hup : s.ethUp f.port = true) (hgood : f.fcsOk = true ∧ 64 ≤ f.bytes.length + 4)
    (hlong : 9216 < f.bytes.length + 4) : s.ethReceive f = s.ethUpd f.port (fun e => { e with oversize := satAdd 32 e.oversize 1 }) := by
  unfold State.ethReceive
  dsimp only
  rw [if_neg (by simp [hup]), if_neg (by simp [hgood.1, hgood.2]), if_pos hlong]

/-- R309: a good frame of no accepted VLAN is counted so. -/
theorem ethReceive_of_strange (hup : s.ethUp f.port = true) (hgood : f.fcsOk = true ∧ 64 ≤ f.bytes.length + 4)
    (hlen : f.bytes.length + 4 ≤ 9216)
    (hvlan : untag f.bytes = none ∨ ∃ v t p, untag f.bytes = some (v, t, p) ∧ s.acceptsVlan f.port v = false) :
    s.ethReceive f = s.ethUpd f.port (fun e => { e with vlanDrop := satAdd 32 e.vlanDrop 1 }) := by
  unfold State.ethReceive
  dsimp only
  rw [if_neg (by simp [hup]), if_neg (by simp [hgood.1, hgood.2]), if_neg (Nat.not_lt.mpr hlen)]
  obtain hnone | ⟨v, t, p, hsome, hnot⟩ := hvlan
  · simp only [hnone]
  · simp only [hsome, hnot, Bool.false_eq_true, if_false]

/-- R309: a good frame of an accepted VLAN is delivered. -/
theorem ethReceive_of_accepted {v t : Nat} {p : List Byte} (hup : s.ethUp f.port = true)
    (hgood : f.fcsOk = true ∧ 64 ≤ f.bytes.length + 4) (hlen : f.bytes.length + 4 ≤ 9216) (hsome : untag f.bytes = some (v, t, p))
    (hvlan : s.acceptsVlan f.port v = true) : s.ethReceive f = s.ethDeliver f v t p := by
  unfold State.ethReceive
  dsimp only
  rw [if_neg (by simp [hup]), if_neg (by simp [hgood.1, hgood.2]), if_neg (Nat.not_lt.mpr hlen)]
  simp only [hsome, hvlan, if_true]

end

/-! ### PTP messages and datagrams -/

/-- R309: whether a frame's payload is a PTP message, over Ethernet or over UDP. -/
def IsPtp (t : Nat) (p : List Byte) : Prop :=
  t = 0x88F7 ∨ ∃ src data, udpOf t p = some (src, 319, data) ∨ udpOf t p = some (src, 320, data)

theorem ptpStart_of_isPtp {t : Nat} {p : List Byte} (h : IsPtp t p) : ∃ k, ptpStart t p = some k := by
  unfold ptpStart
  by_cases ht : t = 0x88F7
  · exact ⟨0, if_pos ht⟩
  · obtain h | ⟨src, data, h | h⟩ := h
    · exact absurd h ht
    · exact ⟨_, by simp only [ht, h, if_false, true_or, if_true]; rfl⟩
    · exact ⟨_, by simp only [ht, h, if_false, or_true, if_true]; rfl⟩

theorem ptpStart_of_not_isPtp {t : Nat} {p : List Byte} (h : ¬IsPtp t p) : ptpStart t p = none := by
  unfold IsPtp at h
  push Not at h
  obtain ⟨ht, hu⟩ := h
  unfold ptpStart
  rw [if_neg ht]
  cases hudp : udpOf t p with
  | none => rfl
  | some x =>
    obtain ⟨src, port, data⟩ := x
    refine if_neg fun hport => ?_
    obtain rfl | rfl : port = 319 ∨ port = 320 := hport
    · exact (hu src data).1 hudp
    · exact (hu src data).2 hudp

/-- A frame that is no IP packet holds no datagram. -/
theorem udpOf_of_other {t : Nat} (h4 : t ≠ 0x0800) (h6 : t ≠ 0x86DD) (p : List Byte) : udpOf t p = none := by
  unfold udpOf
  rw [if_neg h4, if_neg h6]

/-- A pause frame is no PTP message. -/
theorem not_isPtp_of_pause (p : List Byte) : ¬IsPtp 0x8808 p := by
  rintro (h | ⟨src, data, h | h⟩)
  · exact absurd h (by decide)
  · rw [udpOf_of_other (by decide) (by decide)] at h; cases h
  · rw [udpOf_of_other (by decide) (by decide)] at h; cases h

/-! ### Accepted frames -/

section
variable {s : State} {f : EthFrame} {v t : Nat} {p : List Byte}

/-- R309, R312: a PTP message goes to the protocol engine, and the clock hears the one of its port. -/
theorem ethDeliver_of_ptp {k : Nat} (hk : ptpStart t p = some k) : s.ethDeliver f v t p =
    if f.port = s.tck.port then
      ((s.ethUpd f.port (fun e => { e with rxFrames := satAdd 32 e.rxFrames 1 })).emit (.toPtp f.port f.bytes s.tck.time)).ptpMessage
        (p.drop k)
    else (s.ethUpd f.port (fun e => { e with rxFrames := satAdd 32 e.rxFrames 1 })).emit (.toPtp f.port f.bytes s.tck.time) := by
  unfold State.ethDeliver
  simp only [hk]
  rfl

/-- R309: a pause frame ends in the MAC. -/
theorem ethDeliver_of_pause (hpause : t = 0x8808 ∧ beAt p 0 2 = 1) :
    s.ethDeliver f v t p = s.ethUpd f.port (fun e => { e with rxFrames := satAdd 32 e.rxFrames 1 }) := by
  obtain ⟨rfl, hop⟩ := hpause
  unfold State.ethDeliver
  simp only [ptpStart_of_not_isPtp (not_isPtp_of_pause p), hop, and_self, if_true]

/-- R309: a frame that is neither PTP, nor pause, nor a datagram goes to the services. -/
theorem ethDeliver_of_other (hptp : ¬IsPtp t p) (hpause : ¬(t = 0x8808 ∧ beAt p 0 2 = 1)) (hudp : udpOf t p = none) :
    s.ethDeliver f v t p = s.toQueue f := by
  unfold State.ethDeliver
  simp only [ptpStart_of_not_isPtp hptp, hudp]
  rw [if_neg hpause]

/-- The camera whose RTP (`d` 0) or RTCP (`d` 1) a datagram is. -/
def State.camOf (s : State) (f : EthFrame) (v src port d : Nat) : Option CamRec :=
  s.img.cams.find? (fun c => c.eth == f.port && c.vlan == v && c.srcAddr == src && c.port + d == port)

/-- R309: a datagram goes to the services, or to the flow of its camera. -/
theorem ethDeliver_of_udp {src port : Nat} {data : List Byte} (hptp : ¬IsPtp t p) (hudp : udpOf t p = some (src, port, data)) :
    s.ethDeliver f v t p = if f.port = 2 then s.toQueue f else
      match s.camOf f v src port 0, s.camOf f v src port 1 with
      | some c, _ => (s.ethUpd f.port (fun e => { e with rxFrames := satAdd 32 e.rxFrames 1 })).rtp c s.tck.time data
      | none, some c => (s.ethUpd f.port (fun e => { e with rxFrames := satAdd 32 e.rxFrames 1 })).rtcp c data
      | none, none => ({ s with crd := { s.crd with unmatched := satAdd 32 s.crd.unmatched 1 } } : State).toQueue f := by
  have hpause : ¬(t = 0x8808 ∧ beAt p 0 2 = 1) := by
    rintro ⟨rfl, -⟩
    rw [udpOf_of_other (by decide) (by decide)] at hudp
    cases hudp
  unfold State.ethDeliver
  simp only [ptpStart_of_not_isPtp hptp, hudp]
  rw [if_neg hpause]
  rfl

end

/-! ### Sent frames -/

section
variable {s : State} {n : Nat} {bytes : List Byte} {event oneStep : Bool}

/-- The PTP message that a whole frame holds. -/
def ptpMessageOf (bytes : List Byte) : Option (List Byte) := (ptpIn bytes).map (bytes.drop ·)

/-- R310, R312: no frame leaves without services, and no Sync of the clock's port while it follows a better clock. -/
theorem ethSend_of_not (h : s.servicesUp = false ∨ ¬∀ x, ptpMessageOf bytes = some x → s.maySync n x = true) :
    s.ethSend n bytes event oneStep = s := by
  refine if_pos (.inr ?_)
  obtain hdown | hnot := h
  · exact .inl (by simp [hdown])
  · push Not at hnot
    obtain ⟨x, hx, hmay⟩ := hnot
    refine .inr ?_
    change (ptpMessageOf bytes).any _ = true
    rw [hx]
    simpa using hmay

/-- R312: the clock as a sent frame leaves it. -/
def State.sentOn (s : State) (n : Nat) (bytes : List Byte) : State :=
  match ptpMessageOf bytes with | some m => s.ptpSent n m | none => s

/-- R312: a sent frame leaves in the state at most the clock's request. -/
theorem sentOn_eq (s : State) (n : Nat) (bytes : List Byte) :
    ∃ req, s.sentOn n bytes = { s with tck := { s.tck with ptp := { s.tck.ptp with req := req } } } := by
  unfold State.sentOn
  cases ptpMessageOf bytes with
  | none => exact ⟨s.tck.ptp.req, rfl⟩
  | some m =>
    by_cases h : n = s.tck.port ∧ ptpType m = 1
    · exact ⟨_, if_pos h⟩
    · exact ⟨s.tck.ptp.req, if_neg h⟩

/-- What goes out does not count for what a sent frame leaves to the clock. -/
theorem sentOn_emit (s : State) (n : Nat) (bytes : List Byte) (o : Out) : (s.emit o).sentOn n bytes = (s.sentOn n bytes).emit o := by
  unfold State.sentOn
  cases ptpMessageOf bytes with
  | none => rfl
  | some m =>
    change (s.emit o).ptpSent n m = (s.ptpSent n m).emit o
    unfold State.ptpSent
    rw [apply_ite (State.emit · o)]
    rfl

/-- R310, R312: a frame leaves, with its time in it in one-step mode; a two-step event message keeps its time. -/
theorem ethSend_of_may (hup : s.ethUp n = true) (hservices : s.servicesUp = true)
    (hmay : ∀ x, ptpMessageOf bytes = some x → s.maySync n x = true) (hout : s.out = []) :
    let sent := { s.sentOn n bytes with out := [.ethFrame n (if event && oneStep then stamped bytes s.tck.time else bytes)
      (if event && oneStep then some s.tck.time else none)] }
    s.ethSend n bytes event oneStep = if event ∧ !oneStep then
        sent.ethUpd n (fun e => if e.txts.length < 16 then { e with txts := e.txts ++ [s.tck.time] }
          else { e with txtsLost := satAdd 32 e.txtsLost 1 })
      else sent := by
  intro sent
  have hnot : ¬(!s.ethUp n ∨ !s.servicesUp ∨ (ptpMessageOf bytes).any (fun m => !s.maySync n m)) := by
    rintro (h | h | h)
    · simp [hup] at h
    · simp [hservices] at h
    · cases hm : ptpMessageOf bytes with
      | none => rw [hm] at h; cases h
      | some x => rw [hm] at h; simp [hmay x hm] at h
  have hsent : (s.emit (.ethFrame n (if event && oneStep then stamped bytes s.tck.time else bytes)
      (if event && oneStep then some s.tck.time else none))).sentOn n bytes = sent := by
    rw [sentOn_emit]
    obtain ⟨req, hreq⟩ := sentOn_eq s n bytes
    simp only [sent, hreq, State.emit, hout, List.nil_append]
  have htime : sent.tck.time = s.tck.time := by
    obtain ⟨req, hreq⟩ := sentOn_eq s n bytes
    simp only [sent, hreq]
  refine (if_neg hnot).trans ?_
  change (if event ∧ !oneStep then
      ((s.emit (.ethFrame n _ _)).sentOn n bytes).ethUpd n (fun e => if e.txts.length < 16 then
        { e with txts := e.txts ++ [((s.emit (.ethFrame n _ _)).sentOn n bytes).tck.time] } else _)
    else (s.emit (.ethFrame n _ _)).sentOn n bytes) = _
  rw [hsent, htime]

end

end Sys2Proof.Machine
end

section
namespace Sys2Proof.Proofs
open Machine Safety

/-- Settles O38: what becomes of a received frame, by the table of R309, of a sent one, and of its stamp. -/
theorem ethernetFramesAreCountedAndDelivered : Obligations.EthernetFramesAreCountedAndDelivered := by
  unfold Obligations.EthernetFramesAreCountedAndDelivered
  intro s f hup e n counts good seen
  have hup' : (fresh s).ethUp f.port = true := hup
  have hnext {u v : State} (h : u = v) : (.next u : Host.Outcome State Fault Refusal) = .next v := congrArg Host.Outcome.next h
  refine ⟨?bad, ?oversize, ?vlan, ?delivered, ?transmit, ?stamp, ?noStamp, ?link⟩
  case bad => exact fun hbad => hnext (ethReceive_of_bad hup' hbad)
  case oversize => exact fun hgood hlong => hnext (ethReceive_of_oversize hup' hgood hlong)
  case vlan => exact fun hgood hlen hvlan => hnext (ethReceive_of_strange hup' hgood hlen hvlan)
  case delivered =>
    intro v t p hgood hlen hsome hvlan u pause ptp heard services cam
    have hdeliver {x : State} (h : (fresh s).ethDeliver f v t p = x) : exec (.ethFrameReceive f) s = .next x :=
      hnext ((ethReceive_of_accepted hup' hgood hlen hsome hvlan).trans h)
    have hqueue (x : State) (hout : x.out = []) (heth : x.ethPort f.port = e) (htck : x.tck.time = s.tck.time)
        (h : (fresh s).ethDeliver f v t p = x.toQueue f) : services x := by
      refine (hdeliver h).trans (hnext ?_)
      simp only [State.toQueue, State.ethUpd, State.emit, State.setEth, heth, htck, hout, List.nil_append]
      rfl
    refine ⟨fun hptp => ?_, fun hpause => hdeliver (ethDeliver_of_pause hpause), fun hptp hpause hudp => ?_, fun src port data hptp hudp => ?_⟩
    · obtain ⟨k, hk⟩ := ptpStart_of_isPtp hptp
      exact ⟨k, hk, hdeliver (ethDeliver_of_ptp hk)⟩
    · exact hqueue _ rfl rfl rfl (ethDeliver_of_other hptp hpause hudp)
    · have hcase := ethDeliver_of_udp (s := fresh s) (f := f) (v := v) hptp hudp
      refine ⟨fun hport => ?_, fun c hport hrtp => ?_, fun c hport hrtp hrtcp => ?_, fun hport hrtp hrtcp => ?_⟩
      · exact hqueue _ rfl rfl rfl (hcase.trans (if_pos hport))
      · have hrtp' : (fresh s).camOf f v src port 0 = some c := hrtp
        exact hdeliver (hcase.trans ((if_neg hport).trans (by rw [hrtp']; rfl)))
      · have hrtp' : (fresh s).camOf f v src port 0 = none := hrtp
        have hrtcp' : (fresh s).camOf f v src port 1 = some c := hrtcp
        exact hdeliver (hcase.trans ((if_neg hport).trans (by rw [hrtp', hrtcp']; rfl)))
      · have hrtp' : (fresh s).camOf f v src port 0 = none := hrtp
        have hrtcp' : (fresh s).camOf f v src port 1 = none := hrtcp
        exact hqueue _ rfl rfl rfl (hcase.trans ((if_neg hport).trans (by rw [hrtp', hrtcp']; rfl)))
  case transmit =>
    intro event oneStep m may sent
    refine ⟨fun hnot => hnext (ethSend_of_not hnot), fun hservices hmay => ?_⟩
    have hsend := ethSend_of_may (event := event) (oneStep := oneStep) hup' hservices hmay rfl
    refine ⟨?_, ?_, ?_⟩
    · rintro rfl
      exact hnext (hsend.trans (if_neg (by simp)))
    · rintro rfl rfl
      exact hnext (hsend.trans (if_neg (by simp)))
    · rintro rfl rfl
      obtain ⟨req, hreq⟩ := sentOn_eq (fresh s) f.port f.bytes
      have heth : ((fresh s).sentOn f.port f.bytes).ethPort f.port = e := by rw [hreq]; rfl
      refine hnext (hsend.trans ((if_pos ⟨rfl, rfl⟩).trans ?_))
      rw [← heth]
      rfl
  case stamp =>
    intro who t ts hts
    have hts' : (s.ethPort f.port).txts = t :: ts := hts
    refine hnext ?_
    change ((fresh s).setEth f.port { e with txts := (s.ethPort f.port).txts.drop 1 }).servedWord (s.ethPort f.port).txtsHi = _
    simp only [Eth.txtsHi, hts', List.drop_succ_cons, List.drop_zero]
    rfl
  case noStamp =>
    intro who hts
    have hts' : (s.ethPort f.port).txts = [] := hts
    refine ⟨_, rfl, ?_, ?_, rfl⟩
    · change [Out.answer 0 (leBytes 4 (s.ethPort f.port).txtsHi)] = _
      simp only [Eth.txtsHi, hts']
    · change ((fresh s).setEth f.port { e with txts := (s.ethPort f.port).txts.drop 1 }).ethPort f.port = e
      rw [State.ethPort_setEth, hts', List.drop_nil, ← hts']
  case link =>
    intro up speed hport
    exact hnext (if_pos hport)

end Sys2Proof.Proofs
end

section
/-! SUPPORT. The rings of a function and the requests that the services answer (13 R307). -/
namespace Sys2Proof.Machine
open Safety

/-! ### Replies -/

/-- Bytes written at consecutive keys are read back. -/
theorem mget_foldl_mset_mapIdx (b : Nat) (r : List Byte) (m : NMap Byte) {k : Nat} (hk : k < r.length) :
    mget ((r.mapIdx (fun k x => (k, x))).foldl (fun m e => mset m (b + e.1) e.2) m) (b + k) 0 = r.getD k 0 := by
  induction r using List.reverseRecOn with
  | nil => exact absurd hk (Nat.not_lt_zero k)
  | append_singleton r x ih =>
    rw [List.mapIdx_concat, List.foldl_append, List.foldl_cons, List.foldl_nil]
    by_cases hlast : k = r.length
    · subst hlast
      rw [mget_mset, List.getD_append_right _ _ _ _ le_rfl, Nat.sub_self]
      rfl
    · have hlt : k < r.length := by
        rw [List.length_append, List.length_singleton] at hk
        omega
      rw [List.getD_append _ _ _ _ hlt, ← ih hlt]
      exact mget_mset_ne _ _ _ _ _ (show b + k ≠ b + r.length by omega)

section
variable {s : State} {n : Nat}

/-- R307: the function's page after its oldest reply is written and vector 0 signalled. -/
theorem fnPage_writeReply {r : List Byte} {rest : List (List Byte)} (hreplies : (s.fnPage n).replies = r :: rest)
    (hfree : ((s.fnPage n).rplHead + 65536 - (s.fnPage n).rplTail) % 65536 < 16) : (s.writeReply n).fnPage n = { s.fnPage n with
      replies := rest, rplHead := ((s.fnPage n).rplHead + 1) % 65536
      rplSlots := (r.mapIdx (fun k x => (k, x))).foldl (fun m e => mset m ((s.fnPage n).rplHead % 16 * 64 + e.1) e.2) (s.fnPage n).rplSlots
      pba := (s.fnPage n).pba ||| 2 ^ 0 } := by
  unfold State.writeReply
  simp only [hreplies]
  rw [if_pos hfree]
  simp only [State.signal, State.fnPage_setFn]

/-! ### Requests -/

/-- Whether the services take `req` at the head of a function's request ring. -/
structure State.Takes (s : State) (n : Nat) (req : List Byte) : Prop where
  up : s.servicesUp = true
  fnUp : s.fnUp n = true
  free : (s.fnPage n).waiting = none
  head : (s.fnPage n).request = some req

variable {req : List Byte} {op : Nat} {serve : State → List Byte → Reply × State}

theorem mail_of_takes (h : s.Takes n req) : s.mail n op serve =
    if !s.fnBound n then s.reply n req 0x03 0 []
    else if leAt req 0 2 = op then
      (if 56 < leAt req 4 1 then s.reply n req 0x02 0 []
       else (serve s (slice req 8 (leAt req 4 1))).2.reply n req (serve s (slice req 8 (leAt req 4 1))).1.1
         (serve s (slice req 8 (leAt req 4 1))).1.2.1 (serve s (slice req 8 (leAt req 4 1))).1.2.2)
    else if 1 ≤ leAt req 0 2 ∧ leAt req 0 2 ≤ 4 then s
    else if 0x0101 ≤ leAt req 0 2 ∧ leAt req 0 2 ≤ 0x010A then
      (if n = 0 then s.mailManage req (leAt req 0 2) (if 56 < leAt req 4 1 then [] else slice req 8 (leAt req 4 1))
       else s.reply n req 0x03 0 [])
    else s.reply n req 0x01 0 [] := by
  unfold State.mail
  dsimp only
  rw [if_neg (by simp [h.up, h.fnUp, h.free]), h.head]

/-- R307: a request of an unbound function is answered with its code. -/
theorem mail_of_unbound (h : s.Takes n req) (hbound : s.fnBound n = false) : s.mail n op serve = s.reply n req 0x03 0 [] :=
  (mail_of_takes h).trans (if_pos (by simp [hbound]))

/-- R307: an OP that the services do not know is answered with its code. -/
theorem mail_of_unknown (h : s.Takes n req) (hbound : s.fnBound n = true) (hop : leAt req 0 2 ≠ op) (hlo : 4 < leAt req 0 2)
    (hhi : leAt req 0 2 < 0x0101) : s.mail n op serve = s.reply n req 0x01 0 [] := by
  rw [mail_of_takes h, if_neg (by simp [hbound]), if_neg hop, if_neg (by omega), if_neg (by omega)]

/-- R307: a request of the OP served is answered as it is served. -/
theorem mail_of_served {st : Nat} {out : List Byte} {t : State} (h : s.Takes n req) (hbound : s.fnBound n = true) (hop : leAt req 0 2 = op)
    (hlen : leAt req 4 1 ≤ 56) (hserve : serve s (slice req 8 (leAt req 4 1)) = ((st, 0, out), t)) :
    s.mail n op serve = t.reply n req st 0 out := by
  rw [mail_of_takes h, if_neg (by simp [hbound]), if_pos hop, if_neg (Nat.not_lt.mpr hlen), hserve]

end

/-! ### What the requests do -/

section
variable {s : State} {n : Nat}

/-- What the services may read does not hang on what was sent out. -/
theorem servable_fresh (a k : Nat) : (fresh s).servable n a k = s.servable n a k := by
  have hread (fuel a k : Nat) : (fresh s).readableByServices n fuel a k = s.readableByServices n fuel a k := by
    induction fuel generalizing a k with
    | zero => rfl
    | succ fuel ih =>
      unfold State.readableByServices
      split
      · rfl
      · exact congrArg (_ && ·) (ih ..)
  exact hread ..

/-- R307: PUBLISH of a buffer that the services may read sends what they read on its topic. -/
theorem publish_of_read {p b : List Byte} {a : Nat} {t : State} (dropped : Bool) (hlen : p.length = 14)
    (hmay : s.servable n (leAt p 0 8) (leAt p 8 4) = true)
    (hread : s.engRead 0 80 (leAt p 0 8) (leAt p 8 4) = (.ok, a, b, t)) :
    s.publish n dropped p = ((if dropped then 0x07 else 0, 0, []), t.emit (.publish (leAt p 12 2) b)) := by
  unfold State.publish
  dsimp only
  rw [if_neg (not_not.mpr hlen), if_neg (by simp [hmay]), hread]
  exact if_neg (by simp)

/-- R307: PLAY_PROMPT of a descriptor whose clip the services may read is queued. -/
theorem playPrompt_of_room {p : List Byte} {v : Nat} {d : Voice1} (haud : hasAud s.variant = true) (hlen : p.length = 32)
    (hparse : parseVoice (s.fnHank n) p = some d) (hmay : s.servable n d.clip (4 * d.frames) = true) (hv : v < 4)
    (hroom : (s.voice v).queue.length < 8) : s.playPrompt n v p = ((0, 0, []), s.queueVoice v d) := by
  unfold State.playPrompt
  dsimp only
  rw [if_neg (by simp [haud]), if_pos hlen, hparse, Nat.mod_eq_of_lt hv]
  dsimp only
  rw [if_neg (by simp [hmay]), if_neg (Nat.not_le.mpr hroom)]

/-- R307: ROUTE_EVENT of a foreign event is refused. -/
theorem routeEvent_of_foreign {p : List Byte} (core : Nat) (hlen : p.length = 4) (htarget : leAt p 2 1 ≤ 2) (hvec : leAt p 3 1 ≤ 31)
    (hforeign : s.ownsEvent (s.fnHank n) (leAt p 0 2) = false) : s.routeEvent n core p = ((0x03, 0, []), s) := by
  unfold State.routeEvent
  dsimp only
  rw [if_neg (by omega), if_pos (by simp [hforeign])]

/-- R307, R299: the route of an event to an application core. -/
def routedTo (cur core : Nat) : Nat := setBits (setBits cur 15 15 1) 14 13 core

/-- R299: a route is written when the journal takes its entry. -/
theorem writeRoute_of_hasRoom (origin hank e v : Nat) (hroom : HasRoom s) :
    ∃ t, s.writeRoute origin hank e v = (true, t) ∧ mget t.evt.route e 0#32 = BitVec.ofNat 32 (v &&& routeMask) := by
  unfold State.writeRoute
  dsimp only
  rw [change_of_hasRoom hroom]
  exact ⟨_, rfl, mget_mset ..⟩

/-- R307: ROUTE_EVENT to an application core writes the event's route when the journal takes its entry. -/
theorem routeEvent_of_core {p : List Byte} {core : Nat} (hlen : p.length = 4) (htarget : leAt p 2 1 = 1) (hvec : leAt p 3 1 ≤ 31)
    (howned : s.ownsEvent (s.fnHank n) (leAt p 0 2) = true) (hroom : HasRoom s) :
    ∃ t, s.routeEvent n core p = ((0, 0, []), t) ∧ mget t.evt.route (leAt p 0 2) 0#32
      = BitVec.ofNat 32 (routedTo (mget s.evt.route (leAt p 0 2) 0#32).toNat core &&& routeMask) := by
  unfold State.routeEvent
  dsimp only
  rw [if_neg (by omega), if_neg (by simp [howned]), htarget]
  obtain ⟨t, ht, hroute⟩ := writeRoute_of_hasRoom 1 (s.fnHank n) (leAt p 0 2)
    (routedTo (mget s.evt.route (leAt p 0 2) 0#32).toNat core) hroom
  refine ⟨t, ?_, hroute⟩
  change ((if (s.writeRoute _ _ _ (routedTo _ _)).1 then 0 else 0x50, 0, []), (s.writeRoute _ _ _ (routedTo _ _)).2) = _
  rw [ht]
  rfl

/-- R299: the target and the core of an event's route are bits 15 and 14:13. -/
theorem routedTo_div {cur core : Nat} (hcore : core < 4) : routedTo cur core / 2 ^ 13 % 8 = 4 + core := by
  unfold routedTo setBits bits
  simp only [Nat.shiftRight_eq_div_pow]
  omega

theorem route_of_core {cur core : Nat} (hcore : core < 4) :
    let w := (BitVec.ofNat 32 (routedTo cur core &&& routeMask)).toNat
    bit w 15 = true ∧ bits w 14 13 = core := by
  intro w
  have hmask : (routedTo cur core &&& routeMask) / 2 ^ 13 % 8 = 4 + core := by
    rw [← Nat.shiftRight_eq_div_pow, Nat.shiftRight_and_distrib, show 8 = 2 ^ 3 from rfl, Nat.and_mod_two_pow,
      Nat.shiftRight_eq_div_pow, show 2 ^ 3 = 8 from rfl, routedTo_div hcore]
    interval_cases core <;> decide
  have hw : w / 2 ^ 13 % 8 = 4 + core := by
    change (BitVec.ofNat 32 _).toNat / 2 ^ 13 % 8 = _
    rw [BitVec.toNat_ofNat]
    omega
  refine ⟨?_, ?_⟩
  · rw [bit, Nat.testBit_eq_decide_div_mod_eq, decide_eq_true_iff]
    omega
  · rw [bits, Nat.shiftRight_eq_div_pow]
    omega

end

end Sys2Proof.Machine
end

section
namespace Sys2Proof.Proofs
open Machine Safety

/-- Settles O48: posts, replies and each mailbox operation, on a function that is up. -/
theorem mailboxRequestsAreAnswered : Obligations.MailboxRequestsAreAnswered := by
  unfold Obligations.MailboxRequestsAreAnswered
  intro s fn req hup f p n body answers
  have hnext {u v : State} (h : u = v) : (.next u : Host.Outcome State Fault Refusal) = .next v := congrArg Host.Outcome.next h
  refine ⟨?post, ?refused, ?written, ?served⟩
  case post =>
    intro tail htail hroom
    have hmod : tail % 65536 = tail := Nat.mod_eq_of_lt htail
    have hpost : f.postReq fn tail = f.setFn fn { p with reqTail := tail % 65536 } := if_pos ⟨hup, hmod.symm ▸ hroom⟩
    exact hnext (hpost.trans (by rw [hmod]))
  case refused =>
    exact fun tail hover => hnext (if_neg fun h => absurd h.2 (Nat.not_le.mpr hover))
  case written =>
    intro r rest hreplies hfree hlen
    have hpage := fnPage_writeReply (s := fresh s) hreplies hfree
    refine ⟨(fresh s).writeReply fn, rfl, ?_, ?_, ?_, fun k hk => ?_⟩ <;> rw [hpage]
    · rfl
    · change ((s.fnPage fn).pba ||| 2 ^ 0).testBit 0 = true
      rw [Nat.testBit_or]
      simp
    · exact mget_foldl_mset_mapIdx _ r _ (hlen.symm ▸ hk)
  case served =>
    intro hservices hwaiting hreq hlen
    have htakes : f.Takes fn req := ⟨hservices, hup, hwaiting, hreq⟩
    refine ⟨fun hbound => hnext (mail_of_unbound htakes hbound), fun hbound => ?_⟩
    have hserved {op st : Nat} {out : List Byte} {t : State} {serve : State → List Byte → Reply × State} (hop : leAt req 0 2 = op)
        (h : serve f body = ((st, 0, out), t)) : f.mail fn op serve = t.reply fn req st 0 out := mail_of_served htakes hbound hop hlen h
    have hbody {k : Nat} (h : n = k) : body.length = k := (length_slice ..).trans h
    refine ⟨?ping, ?unknown, ?route, ?foreign, ?prompt, ?publish⟩
    case ping => exact fun hop => hnext (hserved hop rfl)
    case unknown => exact fun hlo hhi => hnext (mail_of_unknown htakes hbound (by omega) hlo hhi)
    case route =>
      intro c hop hn htarget hvec hc howned hevent hroom
      obtain ⟨t, ht, hroute⟩ := routeEvent_of_core (s := f) (n := fn) (core := c) (hbody hn) htarget hvec howned hroom
      refine ⟨_, hnext (hserved hop ht), ?_⟩
      have hkept : (t.reply fn req 0 0 []).evt = t.evt := rfl
      rw [hkept, hroute]
      exact route_of_core hc
    case foreign =>
      exact fun hop hn htarget hvec hforeign => hnext (hserved hop (routeEvent_of_foreign 0 (hbody hn) htarget hvec hforeign))
    case prompt =>
      intro v d hop haud hn hlength hparse hmay hv hroom
      exact hnext (hserved hop (playPrompt_of_room (s := f) haud hlength hparse ((servable_fresh ..).trans hmay) hv hroom))
    case publish =>
      intro a b t hop hn hlength hmay hread
      have hpub (dropped : Bool) := publish_of_read (s := f) dropped hlength ((servable_fresh (n := fn) ..).trans hmay) hread
      exact ⟨hnext (hserved hop (hpub false)), hnext (hserved hop (hpub true))⟩

end Sys2Proof.Proofs
end

section
/-! SUPPORT. Voices, audio frames and amplifiers (13 R315 to R318). -/
namespace Sys2Proof.Machine
open Safety

/-! ### Voices -/

section
variable {s : State} {v : Nat}

@[simp] theorem voice_setVoice (x : Voice) : (s.setVoice v x).voice v = x := mget_mset ..

/-- R316: what the voices' queue holds, with a descriptor more. -/
theorem queueVoice_of_room {d : Voice1} (hroom : (s.voice v).queue.length < 8) : s.queueVoice v d =
    s.setVoice v (match (s.voice v).cur with
      | some _ => { s.voice v with queue := (s.voice v).queue ++ [d] }
      | none => match (s.voice v).queue with
        | [] => { s.voice v with cur := some d, queue := [], pos := 0 }
        | e :: rest => { s.voice v with cur := some e, queue := rest ++ [d], pos := 0 }) := by
  unfold State.queueVoice
  dsimp only
  rw [if_neg (Nat.not_le.mpr hroom)]
  congr 1
  generalize s.voice v = x
  unfold Voice.next
  cases hcur : x.cur with
  | some c => rfl
  | none => cases hqueue : x.queue <;> rfl

/-- R316: the descriptor that is read within its ranges is queued. -/
theorem queueAt_of_read {h addr a : Nat} {b : List Byte} {t : State} {d : Voice1} (hroom : (s.voice v).queue.length < 8)
    (hread : s.engRead 0 158 addr 32 = (.ok, a, b, t)) (hparse : parseVoice h b = some d) : s.queueAt v h addr = t.queueVoice v d := by
  unfold State.queueAt
  dsimp only
  rw [if_neg (Nat.not_le.mpr hroom), hread]
  dsimp only
  rw [hparse]

variable {who : Requester}

theorem voiceCmd_of_hank0 (haud : hasAud s.variant = true) (h0 : s.reqHank who = 0) (hv : v < 4) (hi : Nat) :
    s.voiceCmd who v hi = (s.queueAt v 0 ((s.voice v).cmdLo + hi * 2 ^ 32)).served := by
  unfold State.voiceCmd
  rw [if_neg (by simp [haud]), if_neg (not_not.mpr h0), if_pos hv]

theorem voiceCmd_of_other (haud : hasAud s.variant = true) (h0 : s.reqHank who ≠ 0) (hi : Nat) :
    s.voiceCmd who v hi = s.denyReg who 37 (0x44 + 0x10 * v) 0 := by
  unfold State.voiceCmd
  rw [if_neg (by simp [haud]), if_pos h0]

theorem voiceHalt_of_hank0 {w : Nat} (haud : hasAud s.variant = true) (h0 : s.reqHank who = 0) (hv : v < 4) (hw : bit w 0 = true) :
    s.voiceHalt who v w = (s.setVoice v { s.voice v with queue := [], stop := (s.voice v).cur.isSome }).served := by
  unfold State.voiceHalt
  rw [if_neg (by simp [haud]), if_neg (not_not.mpr h0), if_pos ⟨hv, hw⟩]

theorem voiceHalt_of_other (haud : hasAud s.variant = true) (h0 : s.reqHank who ≠ 0) (w : Nat) :
    s.voiceHalt who v w = s.denyReg who 37 (0x4C + 0x10 * v) 0 := by
  unfold State.voiceHalt
  rw [if_neg (by simp [haud]), if_pos h0]

/-- R316: the end of a clip pulses its event, and the next one plays. -/
theorem endClip_of_playing {d : Voice1} (hcur : (s.voice v).cur = some d) :
    s.endClip v = (s.setVoice v ({ s.voice v with cur := none, stop := false } : Voice).next).hankPulse d.hank d.doneEvent := by
  unfold State.endClip
  simp only [hcur]

/-- R316: with an empty queue no clip follows. -/
theorem next_of_empty {x : Voice} (h : x.queue = []) :
    ({ x with cur := none, stop := false } : Voice).next = { x with cur := none, stop := false } := by
  unfold Voice.next
  simp only [h]

/-- R316: the next clip of the queue plays. -/
theorem next_of_queued {x : Voice} {e : Voice1} {rest : List Voice1} (h : x.queue = e :: rest) :
    ({ x with cur := none, stop := false } : Voice).next = { x with cur := some e, queue := rest, pos := 0, stop := false } := by
  unfold Voice.next
  simp only [h]

/-- A clip that has played its last sample ends. -/
theorem exec_clipEnd_eq {d : Voice1} {y : Voice} (hcur : (s.voice v).cur = some d) (hdone : d.frames ≤ (s.voice v).pos)
    (hnext : ({ s.voice v with cur := none, stop := false } : Voice).next = y) :
    exec (.clipEnd v) s = .next (((fresh s).setVoice v y).hankPulse d.hank d.doneEvent) := by
  subst hnext
  have hcur' : ((fresh s).voice v).cur = some d := hcur
  change Host.Outcome.next (match ((fresh s).voice v).cur with
    | some d => if d.frames ≤ ((fresh s).voice v).pos then (fresh s).endClip v else fresh s
    | none => fresh s) = _
  rw [hcur']
  exact congrArg Host.Outcome.next ((if_pos hdone).trans (endClip_of_playing (s := fresh s) hcur))

end

/-! ### A frame without voices -/

section
variable {s : State}

/-- A loop whose every step leaves the state leaves it. -/
theorem foldl_stays {α : Type} {f : State → α → State} {l : List α} (h : ∀ x ∈ l, f s x = s) : l.foldl f s = s := by
  induction l with
  | nil => rfl
  | cons x l ih =>
    obtain ⟨hx, hl⟩ := List.forall_mem_cons.mp h
    rw [List.foldl_cons, hx]
    exact ih hl

theorem amps_stay {m : NMap Amp} {l : List Nat} (h : ∀ a ∈ l, (mget m a {}).left = 0) :
    l.foldl (fun m a => if (mget m a {}).left = 0 then m else mset m a (mget m a {}).advance) m = m := by
  induction l with
  | nil => rfl
  | cons a l ih =>
    obtain ⟨ha, hl⟩ := List.forall_mem_cons.mp h
    rw [List.foldl_cons, if_pos ha]
    exact ih hl

/-- R316: a voice that plays nothing gives a zero and reads nothing. -/
theorem voiceSamples_of_silent {l : List Nat} (h : ∀ u ∈ l, (s.voice u).cur = none) (late : List Nat) (zs : List Int) :
    l.foldl (fun (acc : List Int × State) v => (acc.1 ++ [(acc.2.voiceSample late v).1], (acc.2.voiceSample late v).2)) (zs, s)
      = (zs ++ List.replicate l.length 0, s) := by
  induction l generalizing zs with
  | nil => simp
  | cons u l ih =>
    obtain ⟨hu, hl⟩ := List.forall_mem_cons.mp h
    have hsample : s.voiceSample late u = (0, s) := by
      unfold State.voiceSample
      simp only [hu]
    rw [List.foldl_cons, hsample, ih hl, List.append_assoc, List.length_cons, List.replicate_succ, List.singleton_append]

/-- R317: a slot of zero products is zero. -/
theorem slotOut_of_zeros {vs : List (Nat × Int)} (h : ∀ v ∈ vs, v.2 = 0) (slot : Nat) : s.slotOut vs slot = 0 := by
  have hsum : ((vs.filter (fun v => bit v.1 slot)).map (·.2)).sum = 0 :=
    List.sum_eq_zero fun x hx => by
      obtain ⟨v, hv, rfl⟩ := List.mem_map.mp hx
      exact h v (List.mem_of_mem_filter hv)
  have hout : satS 24 (rneShr 0 16) = 0 := by decide
  have hdiv : rneDiv 0 (2400 * 65536) = 0 := by decide
  unfold State.slotOut
  simp only [hsum, hout, Int.zero_mul, hdiv, ite_self]

/-- R315: with no voice and no ramp, a frame sends zeros in each slot and leaves the state. -/
theorem audioFrame_of_silent (haud : hasAud s.variant = true) (henable : s.aud.enable = true)
    (hvoices : ∀ u, u < 4 → (s.voice u).cur = none ∧ (s.voice u).stop = false) (hamps : ∀ a, a < 4 → (s.amp a).left = 0) :
    s.audioFrame [] = s.emit (.audio (audWire s.aud.i2s (List.replicate (if s.aud.i2s then 2 else 8) 0))) := by
  have hstops : (List.range 4).foldl (fun s v => if (s.voice v).stop then s.endClip v else s) s = s :=
    foldl_stays fun u hu => if_neg (by simp [(hvoices u (List.mem_range.mp hu)).2])
  have hsamples := voiceSamples_of_silent (s := s) (fun u hu => (hvoices u (List.mem_range.mp hu)).1) [] []
  have hramps := amps_stay (m := s.aud.amps) (l := List.range 4) fun a ha => hamps a (List.mem_range.mp ha)
  have hslots (masks : List Nat) (n : Nat) :
      (List.range n).map (s.slotOut (masks.zip (List.replicate 4 0))) = List.replicate n 0 := by
    refine List.eq_replicate_iff.mpr ⟨by simp, fun x hx => ?_⟩
    obtain ⟨slot, -, rfl⟩ := List.mem_map.mp hx
    exact slotOut_of_zeros (fun v hv => List.eq_of_mem_replicate (List.of_mem_zip hv).2) slot
  rw [List.nil_append, List.length_range] at hsamples
  unfold State.audioFrame
  rw [if_pos ⟨haud, henable⟩]
  dsimp only
  rw [hstops, hsamples]
  dsimp only
  rw [hramps]
  exact congrArg (fun l => s.emit (.audio (audWire s.aud.i2s l))) (hslots _ _)

end

/-! ### Gains -/

/-- The largest `g` within the bound: what `gainBits` keeps at each bit. -/
def GainFits (n g : Nat) : Prop := (2 * g - 1) ^ 40 * 10 ^ n ≤ (2 ^ 17) ^ 40

theorem gainBits_fits {n k g : Nat} (hlo : GainFits n g) (hhi : ¬GainFits n (g + 2 ^ k)) :
    GainFits n (gainBits n k g) ∧ ¬GainFits n (gainBits n k g + 1) := by
  induction k generalizing g with
  | zero => exact ⟨hlo, hhi⟩
  | succ k ih =>
    unfold gainBits
    dsimp only
    split_ifs with hfits
    · refine ih hfits ?_
      rwa [Nat.add_assoc, ← Nat.two_mul, ← Nat.pow_succ']
    · exact ih hlo hfits

/-- R317: a gain is the nearest integer. -/
theorem gainOf_nearest (n : Nat) : (2 * gainOf n - 1) ^ 40 * 10 ^ n ≤ (2 ^ 17) ^ 40 ∧ (2 ^ 17) ^ 40 < (2 * gainOf n + 1) ^ 40 * 10 ^ n := by
  have hzero : GainFits n 0 := by simp [GainFits]
  have htop : ¬GainFits n (0 + 2 ^ 17) := by
    unfold GainFits
    have hpow : 1 ≤ 10 ^ n := Nat.one_le_pow _ _ (by decide)
    have hbig : (2 ^ 17) ^ 40 < (2 * (0 + 2 ^ 17) - 1) ^ 40 := Nat.pow_lt_pow_left (by decide) (by decide)
    exact Nat.not_le.mpr (hbig.trans_le (Nat.le_mul_of_pos_right _ hpow))
  have hgain : GainFits n (gainOf n) ∧ ¬GainFits n (gainOf n + 1) := gainBits_fits hzero htop
  obtain ⟨hlo, hhi⟩ := hgain
  generalize gainOf n = g at hlo hhi ⊢
  unfold GainFits at hlo hhi
  have hsucc : 2 * (g + 1) - 1 = 2 * g + 1 := by omega
  rw [hsucc] at hhi
  exact ⟨hlo, Nat.not_le.mp hhi⟩

/-! ### Amplifiers -/

section
variable {s : State} {a : Nat}

@[simp] theorem amp_setAmp (x : Amp) : (s.setAmp a x).amp a = x := mget_mset ..

theorem amp_setAmp_ne {b : Nat} (x : Amp) (hb : b ≠ a) : (s.setAmp a x).amp b = s.amp b := mget_mset_ne _ _ _ _ _ hb

@[simp] theorem setAmp_setAmp (x y : Amp) : (s.setAmp a x).setAmp a y = s.setAmp a y := by
  simp only [State.setAmp, mset_mset]

/-- What an amplifier's record writes leaves the amplifiers. -/
theorem amp_ampFact (b kind old : Nat) : (s.ampFact a kind old).amp b = s.amp b :=
  (congrArg (State.amp · b) (sansRecords_fact s _) :)

theorem amp_pulse (b e : Nat) : (s.pulse e).amp b = s.amp b := (congrArg (State.amp · b) (sansPulses_pulse s e) :)

/-- With room in the journal, the record of an amplifier is one entry. -/
theorem oneEntry_ampFact (hroom : HasRoom s) (kind old : Nat) : OneEntry s (s.ampFact a kind old) (jObj 15 a) old (s.amp a).st := by
  unfold State.ampFact
  rw [fact_of_hasRoom hroom]
  exact oneEntry_jRing s _

/-- R318: a fault mutes a playing or retrying amplifier, or latches it once its retries are used. -/
theorem ampFault_of_audible (haud : hasAud s.variant = true) (ha : a < 4) (hst : (s.amp a).st = 0 ∨ (s.amp a).st = 2) :
    s.ampFault a = ((s.setAmp a { (s.amp a).cut with
      faults := satAdd 8 (s.amp a).faults 1, inputHigh := false, st := if (s.amp a).retries = 3 then 3 else 1 }).ampFact a 3
        (s.amp a).st).pulse 0x008 := by
  unfold State.ampFault State.ampMute
  rw [if_pos ⟨haud, ha⟩]
  dsimp only
  rw [if_pos hst, setAmp_setAmp, amp_setAmp]
  rfl

/-- R318: a fault of a muted amplifier whose retries are used latches it. -/
theorem ampFault_of_spent (haud : hasAud s.variant = true) (ha : a < 4) (hst : (s.amp a).st = 1) (hspent : (s.amp a).retries = 3) :
    s.ampFault a = (s.setAmp a { s.amp a with st := 3, faults := satAdd 8 (s.amp a).faults 1, inputHigh := false }).ampFact a 3 1 := by
  unfold State.ampFault
  rw [if_pos ⟨haud, ha⟩]
  dsimp only
  rw [if_neg (by simp [hst]), if_pos ⟨hst, hspent⟩, setAmp_setAmp, amp_setAmp]

/-- R318: a fault of an amplifier that is muted or latched is only counted. -/
theorem ampFault_of_muted (haud : hasAud s.variant = true) (ha : a < 4)
    (hst : (s.amp a).st = 3 ∨ ((s.amp a).st = 1 ∧ (s.amp a).retries ≠ 3)) :
    s.ampFault a = s.setAmp a { s.amp a with faults := satAdd 8 (s.amp a).faults 1, inputHigh := false } := by
  unfold State.ampFault
  rw [if_pos ⟨haud, ha⟩]
  dsimp only
  rw [if_neg (by omega), if_neg (by omega)]

/-- R318: the retry of a muted amplifier whose input is high ramps to the reduced level. -/
theorem ampRetry_of_high (hst : (s.amp a).st = 1) (hleft : (s.amp a).retries < 3) : s.ampRetry a true =
    (s.setAmp a { s.amp a with
      retries := (s.amp a).retries + 1, inputHigh := true, st := 2, from_ := (s.amp a).factor, goal := 16462, left := 2400 }).ampFact a 1 1 :=
  if_pos ⟨hst, hleft⟩

/-- R318: 60 s without a fault give an amplifier in a retry full gain again. -/
theorem exec_ampRetryClean (hst : (s.amp a).st = 2) : exec (.ampRetryClean a) s =
    .next ((fresh s).setAmp a { s.amp a with st := 0, retries := 0, from_ := (s.amp a).factor, goal := 65536, left := 2400 }) :=
  congrArg Host.Outcome.next (if_pos hst)

/-- R318: CLEAR from an open console, when the journal takes its entry, gives full gain again. -/
theorem ampClear_of_hasRoom (hsession : s.stw.session = true) (haud : hasAud s.variant = true) (ha : a < 4) (hroom : HasRoom s) :
    s.ampClear .console a false = (0,
      (s.jRing { origin := authOrigin .console, kind := 1, object := jObj 15 a, old := (s.amp a).st, new := 0 }).setAmp a
      { s.amp a with st := 0, retries := 0, inputHigh := true, from_ := (s.amp a).factor, goal := 65536, left := 2400 }) := by
  unfold State.ampClear
  rw [if_neg (by simp [State.noSession, hsession]), if_pos ⟨haud, ha⟩]
  dsimp only
  rw [change_of_hasRoom hroom]
  rfl

end

end Sys2Proof.Machine
end

section
namespace Sys2Proof.Proofs
open Machine Safety

/-- Settles O49: voices, clips, silent frames and gains, and each change of an amplifier. -/
theorem voicesPlayAndAmplifiersMute : Obligations.VoicesPlayAndAmplifiersMute := by
  unfold Obligations.VoicesPlayAndAmplifiersMute
  constructor
  · intro s who v w haud hv f x
    refine ⟨fun h0 => ?hank0, fun h0 hhank => ?others, ?last, ?next, ?silent, fun g _ => gainOf_nearest g⟩
    case hank0 =>
      have hhank : (fresh s).reqHank who ≠ noHank := fun h => absurd (h.symm.trans h0) (by decide)
      have hcmd {u : State} (h : (fresh s).queueAt v 0 (x.cmdLo + w.toNat * 2 ^ 32) = u) :
          exec (.voiceQueue who v w) s = .next u.served :=
        congrArg Host.Outcome.next ((asHank_of_hank hhank _).trans
          ((voiceCmd_of_hank0 (s := fresh s) haud h0 hv _).trans (congrArg State.served h)))
      refine ⟨fun hfull => hcmd (if_pos hfull), fun a b t d hroom hread hparse haudio => ?_, fun hw => ?_⟩
      · have hvoice : t.voice v = x := congrArg (fun u : Aud => mget u.voices v {}) haudio
        have hqueue := queueVoice_of_room (s := t) (v := v) (d := d) (by rw [hvoice]; exact hroom)
        rw [hvoice] at hqueue
        exact hcmd ((queueAt_of_read (s := fresh s) hroom hread hparse).trans hqueue)
      · exact congrArg Host.Outcome.next ((asHank_of_hank hhank _).trans (voiceHalt_of_hank0 (s := fresh s) haud h0 hv hw))
    case others =>
      exact ⟨congrArg Host.Outcome.next ((asHank_of_hank (s := fresh s) hhank _).trans (voiceCmd_of_other (s := fresh s) haud h0 _)),
        congrArg Host.Outcome.next ((asHank_of_hank (s := fresh s) hhank _).trans (voiceHalt_of_other (s := fresh s) haud h0 _))⟩
    case last =>
      intro d hcur hdone hqueue
      exact exec_clipEnd_eq hcur hdone (next_of_empty hqueue)
    case next =>
      intro d e rest hcur hdone hqueue
      exact exec_clipEnd_eq hcur hdone (next_of_queued hqueue)
    case silent =>
      exact fun henable hvoices hamps => congrArg Host.Outcome.next (audioFrame_of_silent (s := fresh s) haud henable hvoices hamps)
  · intro s a haud ha hroom x
    have hentry (kind old : Nat) (y : Amp) :
        OneEntry s (((fresh s).setAmp a y).ampFact a kind old) (jObj 15 a) old y.st := by
      have h := oneEntry_ampFact (s := (fresh s).setAmp a y) (a := a) hroom kind old
      rwa [amp_setAmp] at h
    refine ⟨fun hst => ?fault, fun hst hspent => ?spent, ?muted, fun hst hleft => ?retry, ?clean, fun hsession => ?clear⟩
    case fault =>
      have hamp (b : Nat) (y : Amp) : (((((fresh s).setAmp a y).ampFact a 3 x.st).pulse 0x008)).amp b = ((fresh s).setAmp a y).amp b :=
        (amp_pulse b 0x008).trans (amp_ampFact b 3 x.st)
      refine ⟨_, congrArg Host.Outcome.next (ampFault_of_audible (s := fresh s) haud ha hst), ?_, ?_, ?_, ?_, fun b hb => ?_,
        oneEntry_pulse (hentry 3 x.st _) 0x008⟩
      · exact (congrArg Amp.st ((hamp a _).trans (amp_setAmp _)) :)
      · exact (congrArg Amp.factor ((hamp a _).trans (amp_setAmp _)) :)
      · exact (congrArg Amp.left ((hamp a _).trans (amp_setAmp _)) :)
      · exact (congrArg Amp.faults ((hamp a _).trans (amp_setAmp _)) :)
      · exact (hamp b _).trans (amp_setAmp_ne _ hb)
    case spent =>
      exact ⟨_, congrArg Host.Outcome.next (ampFault_of_spent (s := fresh s) haud ha hst hspent), hentry 3 1 _,
        (amp_ampFact a 3 1).trans (amp_setAmp _)⟩
    case muted => exact fun hst => congrArg Host.Outcome.next (ampFault_of_muted (s := fresh s) haud ha hst)
    case retry =>
      exact ⟨_, congrArg Host.Outcome.next (ampRetry_of_high (s := fresh s) hst hleft), hentry 1 1 _,
        (amp_ampFact a 1 1).trans (amp_setAmp _)⟩
    case clean => exact fun hst => exec_ampRetryClean hst
    case clear =>
      have hclear := ampClear_of_hasRoom (s := fresh s) hsession haud ha hroom
      refine ⟨_, congrArg (fun r : Nat × State => Host.Outcome.next (r.2.answer .console r.1 0 [])) hclear, ?_, ?_, ?_⟩
      · exact oneEntry_jRing (fresh s) _
      · exact amp_setAmp _
      · exact List.mem_append_right _ (List.mem_singleton_self _)

end Sys2Proof.Proofs
end

section
/-! SUPPORT. Regulators: confirmations, lost links, monitors, retries and alerts (14 R328 to R332). -/
namespace Sys2Proof.Machine
open Safety

/-! ### Islands -/

section
variable {s : State} {i : Nat}

@[simp] theorem setIsl_setIsl (x y : Island) : (s.setIsl i x).setIsl i y = s.setIsl i y := by
  simp only [State.setIsl, mset_mset]

theorem isl_fact (e : JEntry) (j : Nat) : (s.fact e).isl j = s.isl j := (congrArg (State.isl · j) (sansRecords_fact s e) :)

theorem reports_fact (e : JEntry) : (s.fact e).stw.reports = s.stw.reports :=
  (congrArg (fun u : State => u.stw.reports) (sansRecords_fact s e) :)

/-- R330: no decision waits for the transition. -/
theorem resumeDecision_of_none (h : (s.isl i).waiting = none) : s.resumeDecision i = s := by
  unfold State.resumeDecision
  rw [h]

/-! ### Confirmations -/

/-- R328: readings within 10 mV and 25 mV of the voltage commanded. -/
abbrev Island.Near (x : Island) (v m : Nat) : Prop := v ≤ x.volt + 10 ∧ x.volt ≤ v + 10 ∧ m ≤ x.volt + 25 ∧ x.volt ≤ m + 25

theorem confirm_of_far {v m : Nat} (h : ¬(s.isl i).Near v m) (ok : Bool) :
    s.confirm i v m ok = s.setIsl i { s.isl i with readback := v, monitor := m } :=
  if_pos (by
    change (!(ok && decide ((s.isl i).Near v m))) = true
    simp [h])

/-- R328: a confirmation ends a lowering. -/
theorem confirm_of_lowered {v m : Nat} (hst : (s.isl i).st = 1) (hwaiting : (s.isl i).waiting = none) (h : (s.isl i).Near v m) :
    s.confirm i v m true = s.setIsl i { s.isl i with readback := v, monitor := m, st := 0 } := by
  refine (if_neg ?_).trans ((if_pos hst).trans ?_)
  · change ¬(!(true && decide ((s.isl i).Near v m))) = true
    simp [h]
  · rw [setIsl_setIsl, resumeDecision_of_none (by rw [State.isl_setIsl]; exact hwaiting)]

/-- R328: a confirmation ends a raise at its target. -/
theorem confirm_of_raised {v m : Nat} (hst : (s.isl i).st = 2) (hwaiting : (s.isl i).waiting = none) (h : (s.isl i).Near v m) :
    s.confirm i v m true = s.setIsl i { s.isl i with
      readback := v, monitor := m, st := 0, cur := (s.isl i).target, stopped := (s.isl i).stopped && s.clockHeld } := by
  refine (if_neg ?_).trans ((if_neg ?_).trans ((if_pos hst).trans ?_))
  · change ¬(!(true && decide ((s.isl i).Near v m))) = true
    simp [h]
  · change ¬(s.isl i).st = 1
    omega
  · rw [setIsl_setIsl, resumeDecision_of_none (by rw [State.isl_setIsl]; exact hwaiting)]
    rfl

/-! ### Lost links -/

/-- R331: an island in transition whose link is lost. -/
def Island.linkLost (x : Island) (held : Bool) : Island :=
  { x with st := 3, target := x.cur, losses := satAdd 16 x.losses 1, waiting := none, recover := false
           stopped := x.stopped && held, lowVolt := x.lowVolt || (x.stopped && !held) }

/-- R331: the loss is recorded. -/
theorem loseLink_of_moving (hst : (s.isl i).st = 1 ∨ (s.isl i).st = 2) :
    ∃ e, s.loseLink i = (s.setIsl i ((s.isl i).linkLost s.clockHeld)).fact e := ⟨_, if_pos hst⟩

/-! ### Monitors -/

/-- R331: a drop, a stop or a restart of a clock changes the island alone, with two records. -/
theorem dropEntry_isl (old x : Island) : (s.dropEntry i old x).isl i = x := by
  unfold State.dropEntry
  rw [isl_fact, State.isl_setIsl]

theorem dropEntry_reports (old x : Island) : (s.dropEntry i old x).stw.reports = s.stw.reports := by
  unfold State.dropEntry
  rw [reports_fact]
  exact reports_fact _

theorem head_lt_dropEntry (old x : Island) : s.lea.head < (s.dropEntry i old x).lea.head := by
  unfold State.dropEntry
  exact (head_lt_fact s _).trans (head_lt_fact (State.setIsl _ i x) _)

/-- R331: a LINK_LOST island that runs loses its clock under 525 mV. -/
theorem checkMonitor_of_low {m : Nat} (hst : (s.isl i).st = 3) (hrun : (s.isl i).stopped = false) (hvolt : (s.isl i).lowVolt = false)
    (hm : m < 525) : s.checkMonitor i m =
      s.dropEntry i (s.isl i) { s.isl i with monitor := m, lowVolt := true, cur := 0, target := 0 } :=
  (if_pos hst).trans ((if_neg (by simp [hrun])).trans ((if_neg (by simp [hvolt])).trans (if_pos hm)))

/-- R331: from 525 mV on it has a clock at OP0 again. -/
theorem checkMonitor_of_restored {m : Nat} (hst : (s.isl i).st = 3) (hrun : (s.isl i).stopped = false)
    (hvolt : (s.isl i).lowVolt = true) (hm : 525 ≤ m) : s.checkMonitor i m =
      s.dropEntry i (s.isl i) { s.isl i with monitor := m, lowVolt := false, cur := 0, target := 0 } :=
  (if_pos hst).trans ((if_neg (by simp [hrun])).trans ((if_pos hvolt).trans (if_pos hm)))

/-- R331: a settled island's monitor is shown, and one far from its voltage is reported. -/
theorem checkMonitor_of_settled {m : Nat} (hst : (s.isl i).st = 0) : s.checkMonitor i m =
    if opVolt (s.isl i).cur + 50 < m ∨ m + 50 < opVolt (s.isl i).cur then
      (s.setIsl i { s.isl i with monitor := m }).report 43 7
    else s.setIsl i { s.isl i with monitor := m } := by
  refine (if_neg (show ¬(s.isl i).st = 3 by omega)).trans ?_
  by_cases h : opVolt (s.isl i).cur + 50 < m ∨ m + 50 < opVolt (s.isl i).cur
  · rw [if_pos h]
    exact if_pos ⟨hst, h⟩
  · rw [if_neg h]
    exact if_neg fun h' => h h'.2

/-- R402: the one report that waits is taken. -/
theorem takeReports_report {n cause : Nat} (h : s.stw.reports = []) (hunit : unitPresent s.variant n = true) :
    (s.report n cause).takeReports = s.takeReport n cause := by
  have hlist : (s.report n cause).stw.reports = [(n, cause)] := by
    change s.stw.reports ++ _ = _
    rw [h, List.nil_append]
  unfold State.takeReports
  dsimp only
  rw [hlist]
  refine (if_pos hunit).trans ?_
  change State.takeReport { s with stw := { s.stw with reports := [] } } n cause = _
  rw [← h]

theorem unitPresent_43 (v : Variant) : unitPresent v 43 = true := by cases v <;> decide

/-! ### Retries -/

/-- R332: a retry that succeeds commands the voltage again. -/
theorem retryLink_of_ok (hst : (s.isl i).st = 3) : s.retryLink i true =
    (s.setIsl i { s.isl i with recover := true, volt := opVolt (s.isl i).cur }).emit (.vout i (opVolt (s.isl i).cur)) := by
  refine (if_pos ⟨hst, rfl⟩).trans ?_
  unfold State.command
  rw [State.isl_setIsl, setIsl_setIsl]

end

/-! ### Alerts -/

/-- R433: the STATUS_WORD read from an island's regulator. -/
def Island.alerted (words : List Nat) (i : Nat) (x : Island) : Island := { x with status := words.getD i x.status }

/-- A loop that changes each island by itself, as its number says, changes each of its islands once. -/
theorem isl_foldl_at {g : State → Nat → State} {F : Nat → Island → Island} (hsame : ∀ s i, (g s i).isl i = F i (s.isl i))
    (hother : ∀ s i j, j ≠ i → (g s i).isl j = s.isl j) {l : List Nat} (hnodup : l.Nodup) (s : State) (j : Nat) :
    (l.foldl g s).isl j = if j ∈ l then F j (s.isl j) else s.isl j := by
  induction l generalizing s with
  | nil => simp
  | cons i l ih =>
    obtain ⟨hi, hl⟩ := List.nodup_cons.mp hnodup
    rw [List.foldl_cons, ih hl]
    rcases eq_or_ne j i with rfl | hne
    · simp [hi, hsame]
    · simp [hne, hother _ _ _ hne]

theorem nodup_islands (s : State) : s.islands.Nodup := by
  unfold State.islands
  cases s.variant <;> decide

/-- A loop that writes the power state alone leaves the rest. -/
theorem pwr_only_foldl {g : State → Nat → State} (h : ∀ s i, g s i = { s with pwr := (g s i).pwr }) (l : List Nat) (s : State) :
    l.foldl g s = { s with pwr := (l.foldl g s).pwr } := by
  induction l generalizing s with
  | nil => rfl
  | cons i l ih =>
    rw [List.foldl_cons, ih (g s i), h s i]

end Sys2Proof.Machine
end

section
namespace Sys2Proof.Proofs
open Machine Safety

/-- Settles O50: what each reading, loss, retry and alert of a regulator does to its island. -/
theorem regulatorsConfirmOrLoseTheirIslands : Obligations.RegulatorsConfirmOrLoseTheirIslands := by
  unfold Obligations.RegulatorsConfirmOrLoseTheirIslands
  intro s i v m hi hreports f x near
  have hnext {u v : State} (h : u = v) : (.next u : Host.Outcome State Fault Refusal) = .next v := congrArg Host.Outcome.next h
  have hcontains : s.islands.contains i = true := List.contains_iff_mem.mpr hi
  have hnone : (fresh s).stw.reports = [] := hreports
  have hconfirm {ok : Bool} {u : State} (h : (fresh s).confirm i v m ok = u) : exec (.regulatorConfirm i v m ok) s = .next u :=
    (if_pos hcontains).trans (hnext h)
  have hcheck {u : State} (h : (fresh s).checkMonitor i m = u) : exec (.monitorCheck i m) s = .next u.takeReports :=
    (if_pos hcontains).trans (congrArg (fun u : State => Host.Outcome.next u.takeReports) h)
  refine ⟨?raised, ?lowered, ?far, ?lost, ?settled, ?reported, ?low, ?restored, ?retry, ?alert⟩
  case raised => exact fun hst hwaiting hnear => hconfirm (confirm_of_raised (s := fresh s) hst hwaiting hnear)
  case lowered => exact fun hst hwaiting hnear => hconfirm (confirm_of_lowered (s := fresh s) hst hwaiting hnear)
  case far => exact fun hfar ok => hconfirm (confirm_of_far (s := fresh s) hfar ok)
  case lost =>
    intro cmd hcmd hst
    obtain ⟨e, he⟩ := loseLink_of_moving (s := fresh s) hst
    have hexec : exec cmd s = .next ((fresh s).loseLink i) := by
      simp only [List.mem_cons, List.not_mem_nil, or_false] at hcmd
      obtain rfl | rfl := hcmd
      · rfl
      · exact if_pos (or_assoc.mp (.inl hst))
    refine ⟨_, hexec.trans (hnext he), ?_, fun j hj => ?_, ?_⟩
    · exact (isl_fact e i).trans (State.isl_setIsl _ _ _)
    · exact (isl_fact e j).trans (State.isl_setIsl_ne _ _ _ _ hj)
    · exact head_lt_fact ((fresh s).setIsl i _) e
  case settled =>
    intro hst hhi hlo
    have hclose : ¬(opVolt x.cur + 50 < m ∨ m + 50 < opVolt x.cur) := by omega
    exact (hcheck ((checkMonitor_of_settled (s := fresh s) hst).trans (if_neg hclose))).trans (hnext (takeReports_of_none hnone))
  case reported =>
    intro hst hhi
    exact (hcheck ((checkMonitor_of_settled (s := fresh s) hst).trans (if_pos (.inl hhi)))).trans
      (hnext (takeReports_report hnone (unitPresent_43 _)))
  case low =>
    intro hst hrun hvolt hm
    refine ⟨_, (hcheck (checkMonitor_of_low (s := fresh s) hst hrun hvolt hm)).trans
      (hnext (takeReports_of_none ((dropEntry_reports _ _).trans hnone))), dropEntry_isl _ _, head_lt_dropEntry (s := fresh s) _ _⟩
  case restored =>
    intro hst hrun hvolt hm
    refine ⟨_, (hcheck (checkMonitor_of_restored (s := fresh s) hst hrun hvolt hm)).trans
      (hnext (takeReports_of_none ((dropEntry_reports _ _).trans hnone))), dropEntry_isl _ _, head_lt_dropEntry (s := fresh s) _ _⟩
  case retry => exact fun hst => hnext (retryLink_of_ok (s := fresh s) hst)
  case alert =>
    intro p words
    refine ⟨_, rfl, pwr_only_foldl (fun s i => rfl) _ f, ?_⟩
    refine (isl_foldl_at (F := Island.alerted words) (fun s i => State.isl_setIsl _ _ _) (fun s i j hj => State.isl_setIsl_ne _ _ _ _ hj)
      ((nodup_islands s).filter _) f i).trans ?_
    refine if_congr ?_ rfl rfl
    rw [List.mem_filter, beq_iff_eq]
    exact and_iff_right hi

end Sys2Proof.Proofs
end

section
/-! SUPPORT. Thermal samples, the trip, the forced Hold and the TDP cap (14 R334 to R336). -/
namespace Sys2Proof.Machine
open Safety

/-! ### Records and pulses -/

section
variable {s : State}

theorem pwr_fact (e : JEntry) : (s.fact e).pwr = s.pwr := (congrArg State.pwr (sansRecords_fact s e) :)

theorem stw_fact (e : JEntry) : (s.fact e).stw = s.stw := (congrArg State.stw (sansRecords_fact s e) :)

theorem wrp_fact (e : JEntry) : (s.fact e).wrp = s.wrp := (congrArg State.wrp (sansRecords_fact s e) :)

theorem pins_fact (e : JEntry) : (s.fact e).pins = s.pins := (congrArg State.pins (sansRecords_fact s e) :)

theorem pwr_pulse (e : Nat) : (s.pulse e).pwr = s.pwr := (congrArg State.pwr (sansPulses_pulse s e) :)

theorem stw_pulse (e : Nat) : (s.pulse e).stw = s.stw := (congrArg State.stw (sansPulses_pulse s e) :)

theorem wrp_pulse (e : Nat) : (s.pulse e).wrp = s.wrp := (congrArg State.wrp (sansPulses_pulse s e) :)

theorem pins_pulse (e : Nat) : (s.pulse e).pins = s.pins := (congrArg State.pins (sansPulses_pulse s e) :)

/-! ### Samples -/

/-- R334: the level that a sample of a device that has not tripped leaves, from its hottest site. -/
def levelAfter (level top : Nat) : Nat :=
  if 100 ≤ top then 2
  else if level = 2 then (if top < 92 then 0 else if top < 97 then 1 else 2)
  else if 95 ≤ top then 1 else if top < 92 then 0 else level

/-- R334: the state with a sample's sites and its level. -/
def State.sampled (s : State) (l : List Nat) : State :=
  { s with
    stw := { s.stw with sites := l, peaks := (List.range 16).map (fun i => max (s.stw.peaks.getD i 0) (l.getD i 0)) }
    pwr := { s.pwr with level := levelAfter s.pwr.level (hottest l 0 (0, 0)).2 } }

/-- R334: a sample sets the sites and the level, and records that it enters warn or throttle. -/
theorem thermal_of_untripped {l : List Nat} (h3 : s.pwr.level ≠ 3) :
    ∃ e, s.thermal l = if s.pwr.level = 0 ∧ levelAfter s.pwr.level (hottest l 0 (0, 0)).2 ≠ 0 then ((s.sampled l).fact e).pulse 0x009
      else s.sampled l := ⟨_, if_neg h3⟩

theorem thermal_state {l : List Nat} (h3 : s.pwr.level ≠ 3) :
    (s.thermal l).stw = (s.sampled l).stw ∧ (s.thermal l).pwr = (s.sampled l).pwr := by
  obtain ⟨e, he⟩ := thermal_of_untripped (l := l) h3
  rw [he]
  split
  · exact ⟨(stw_pulse _).trans (stw_fact e), (pwr_pulse _).trans (pwr_fact e)⟩
  · exact ⟨rfl, rfl⟩

theorem head_lt_thermal {l : List Nat} (h0 : s.pwr.level = 0) (hne : (s.thermal l).pwr.level ≠ 0) :
    s.lea.head < (s.thermal l).lea.head := by
  have h3 : s.pwr.level ≠ 3 := by omega
  rw [(thermal_state h3).2] at hne
  obtain ⟨e, he⟩ := thermal_of_untripped (l := l) h3
  rw [he, if_pos ⟨h0, hne⟩, head_pulse]
  exact head_lt_fact (s.sampled l) e

theorem map_getD_range {l : List Nat} {n : Nat} (h : l.length = n) : (List.range n).map (fun i => l.getD i 0) = l := by
  subst h
  refine List.ext_getElem (by simp) fun i hi hi' => ?_
  rw [List.getElem_map, List.getElem_range, List.getD_eq_getElem _ _ hi']

/-! ### Caps -/

theorem thermCap_applyCaps : s.applyCaps.pwr.thermCap = s.pwr.thermCap :=
  (congrArg (fun u : State => u.pwr.thermCap) (sansIslands_applyCaps s) :)

theorem tdpCap_applyCaps : s.applyCaps.pwr.tdpCap = s.pwr.tdpCap :=
  (congrArg (fun u : State => u.pwr.tdpCap) (sansIslands_applyCaps s) :)

theorem below_applyCaps : s.applyCaps.pwr.below = s.pwr.below :=
  (congrArg (fun u : State => u.pwr.below) (sansIslands_applyCaps s) :)

theorem thermCap_fact (e : JEntry) : (s.fact e).pwr.thermCap = s.pwr.thermCap :=
  (congrArg (fun u : State => u.pwr.thermCap) (sansIslands_fact s e) :)

/-- R334: the cap that a step leaves. -/
theorem thermCap_throttle : s.throttle.pwr.thermCap =
    if s.pwr.level = 2 then s.pwr.thermCap - 1
    else if s.pwr.level < 2 ∧ (hottest s.stw.sites 0 (0, 0)).2 < 97 then min 7 (s.pwr.thermCap + 1) else s.pwr.thermCap := by
  unfold State.throttle
  dsimp only
  generalize (if s.pwr.level = 2 then s.pwr.thermCap - 1
    else if s.pwr.level < 2 ∧ (hottest s.stw.sites 0 (0, 0)).2 < 97 then min 7 (s.pwr.thermCap + 1) else s.pwr.thermCap) = c
  split
  case isTrue hsame => exact hsame.symm
  case isFalse => rw [thermCap_applyCaps, thermCap_fact]

/-- R336: the cap falls a point over the limit. -/
theorem tdpCap_tdpStep_of_over (hover : s.tdpNow * 5000 < s.pwr.powers.sum) (hcap : 1 ≤ s.pwr.tdpCap) :
    s.tdpStep.pwr.tdpCap = s.pwr.tdpCap - 1 := by
  unfold State.tdpStep
  dsimp only
  rw [if_pos hover, if_neg (by omega), tdpCap_applyCaps]

/-- R336: the cap rises a point after a second below the limit. -/
theorem tdpStep_of_below (hunder : s.pwr.powers.sum ≤ s.tdpNow * 5000) (hbelow : 100 ≤ s.pwr.below) (hcap : s.pwr.tdpCap < 7) :
    s.tdpStep.pwr.tdpCap = s.pwr.tdpCap + 1 ∧ s.tdpStep.pwr.below = 0 := by
  have hrise : min 7 (s.pwr.tdpCap + 1) = s.pwr.tdpCap + 1 := by omega
  unfold State.tdpStep
  dsimp only
  rw [if_neg (Nat.not_lt.mpr hunder), if_pos hbelow, hrise, if_neg (by omega), if_pos (Nat.lt_succ_self _)]
  exact ⟨tdpCap_applyCaps, below_applyCaps⟩

/-! ### The trip -/

/-- R334: an island that is forced down to OP0 runs at its clock. -/
theorem cur_forceDown {i : Nat} (h4 : (s.isl i).st ≠ 4) (h5 : (s.isl i).st ≠ 5) : ((s.forceDown i 0).isl i).cur = 0 := by
  unfold State.forceDown
  dsimp only
  split
  case isTrue h =>
    obtain h | h | h := h
    · exact absurd h h4
    · exact absurd h h5
    · exact Nat.le_zero.mp h.1
  case isFalse =>
    split
    · rw [State.isl_setIsl]
      exact Nat.min_zero _
    · unfold State.lower
      rw [isl_command, State.isl_setIsl]
      exact Nat.min_zero _

theorem isl_forceDown_ne {i j : Nat} (op : Nat) (h : j ≠ i) : (s.forceDown i op).isl j = s.isl j := by
  unfold State.forceDown
  dsimp only
  split
  · rfl
  · split
    · rw [State.isl_setIsl_ne _ _ _ _ h, isl_pointFact]
    · unfold State.lower
      rw [isl_command_ne _ _ h, State.isl_setIsl_ne _ _ _ _ h, isl_pointFact]

/-- R334: every island of a list that is forced down to OP0 runs at its clock. -/
theorem cur_foldl_forceDown {i : Nat} {l : List Nat} (hl : l.Nodup) (hi : i ∈ l) (h4 : (s.isl i).st ≠ 4) (h5 : (s.isl i).st ≠ 5) :
    ((l.foldl (fun s i => s.forceDown i 0) s).isl i).cur = 0 := by
  have hkeep (l : List Nat) (hni : i ∉ l) (s : State) : (l.foldl (fun s i => s.forceDown i 0) s).isl i = s.isl i := by
    induction l generalizing s with
    | nil => rfl
    | cons j l ih =>
      obtain ⟨hij, hil⟩ := List.ne_and_not_mem_of_not_mem_cons hni
      exact (ih hil _).trans (isl_forceDown_ne 0 hij)
  induction l generalizing s with
  | nil => exact absurd hi List.not_mem_nil
  | cons j l ih =>
    obtain ⟨hj, hl⟩ := List.nodup_cons.mp hl
    rw [List.foldl_cons]
    obtain rfl | hil := List.mem_cons.mp hi
    · rw [hkeep l hj]
      exact cur_forceDown h4 h5
    · have hne : i ≠ j := fun h => hj (h ▸ hil)
      refine ih hl hil ?_ ?_ <;> rw [isl_forceDown_ne 0 hne]
      · exact h4
      · exact h5

/-- R334: the state of a trip before its islands are forced down. -/
def State.tripped (s : State) (site temp : Nat) : State :=
  { s with
    stw := { s.stw with
      sites := ((List.range 16).map (fun i => s.stw.sites.getD i 0)).set site temp
      peaks := ((List.range 16).map (fun i => s.stw.peaks.getD i 0)).set site (max temp (s.stw.peaks.getD site 0)) }
    pwr := { s.pwr with level := 3 }, pins := { s.pins with thermAlert := true } }

theorem trip_of_untripped {site temp : Nat} (h3 : s.pwr.level ≠ 3) : ∃ e, s.trip site temp =
    ((s.tripped site temp).fact e).heldIslands.foldl (fun s i => s.forceDown i 0) ((s.tripped site temp).fact e) := ⟨_, if_neg h3⟩

/-- R334: forcing islands down leaves the rest. -/
theorem sansIslands_forcedDown (l : List Nat) : (l.foldl (fun s i => s.forceDown i 0) s).sansIslands = s.sansIslands :=
  sansIslands_foldl (fun s i => sansIslands_forceDown s i 0) l s

/-- A site's new reading. -/
theorem getD_set_range (f : Nat → Nat) {site n : Nat} (hsite : site < n) (temp : Nat) :
    (((List.range n).map f).set site temp).getD site 0 = temp := by
  rw [List.getD_eq_getElem _ _ (by simpa using hsite), List.getElem_set_self]

/-! ### Forced Hold -/

/-- R339: Hold entry sets the power state and cancels the pending reweave. -/
theorem enterHold_state (origin : Nat) : (s.enterHold origin).pwr = { s.pwr with state := 1 } ∧ (s.enterHold origin).wrp.pending = none
    ∧ (s.enterHold origin).pins = s.pins := by
  unfold State.enterHold
  cases hpending : s.wrp.pending with
  | none => simp only [hpending, and_self]
  | some d =>
    simp only [hpending]
    unfold State.wrpEnd
    refine ⟨(pwr_pulse _).trans (pwr_fact _), ?_, (pins_pulse _).trans (pins_fact _)⟩
    rw [wrp_pulse]
    exact congrArg Wrp.pending (wrp_fact _)

/-- R335: an island whose clock is stopped. -/
def Island.halted (x : Island) : Island := { x with stopped := true }

/-- R335: the device is to be held for its heat. -/
def State.heatForced (s : State) : State := { s with pwr := { s.pwr with forced := true } }

/-- R335: a site that stays hot forces Hold: islands 0 to 3 stop, and Hold entry begins. -/
theorem exec_forcedHold (h3 : s.pwr.level = 3) (hhot : ∃ x ∈ s.stw.sites, 110 ≤ x) (h0 : s.pwr.state = 0) :
    ∃ e, let u := (fresh s).heatForced.fact e
      exec .forcedHold s = .next (((u.islands.filter (fun i => decide (i < 4))).foldl (fun s i => s.setIsl i (s.isl i).halted) u).enterHold 8)
      := by
  obtain ⟨x, hx, h110⟩ := hhot
  have hnot : ¬(s.pwr.level ≠ 3 ∨ s.stw.sites.all (fun t => decide (t < 110)) = true) := by
    rintro (h | h)
    · exact h h3
    · have := of_decide_eq_true (List.all_eq_true.mp h x hx)
      omega
  have hrun : ¬(s.pwr.state = 2 ∨ s.pwr.state = 4) := by omega
  exact ⟨_, (if_neg hnot).trans (if_neg hrun)⟩

/-! ### Power samples -/

/-- R345: the read-backs of a sample. -/
def Island.sampled (vout : List Nat) (i : Nat) (x : Island) : Island :=
  match vout[i]? with
  | some v => { x with readback := v }
  | none => x

/-- R345: an island takes its read-back from a sample. -/
def State.sampleIsl (vout : List Nat) (s : State) (i : Nat) : State :=
  match vout[i]? with
  | some v => s.setIsl i { s.isl i with readback := v }
  | none => s

theorem isl_sampleIsl (vout : List Nat) (i : Nat) : (s.sampleIsl vout i).isl i = (s.isl i).sampled vout i := by
  unfold State.sampleIsl Island.sampled
  split
  · exact State.isl_setIsl _ _ _
  · rfl

theorem isl_sampleIsl_ne (vout : List Nat) {i j : Nat} (h : j ≠ i) : (s.sampleIsl vout i).isl j = s.isl j := by
  unfold State.sampleIsl
  split
  · exact State.isl_setIsl_ne _ _ _ _ h
  · rfl

theorem sampleIsl_pwr (vout : List Nat) (i : Nat) :
    s.sampleIsl vout i = { s with pwr := { s.pwr with islands := (s.sampleIsl vout i).pwr.islands } } := by
  unfold State.sampleIsl
  split <;> rfl

/-- R345: each island of the list takes its read-back. -/
theorem readback_foldl_sampleIsl {vout l : List Nat} {i v : Nat} (hl : l.Nodup) (hi : i ∈ l) (hv : vout[i]? = some v) (s : State) :
    ((l.foldl (State.sampleIsl vout) s).isl i).readback = v := by
  have hloop := isl_foldl_at (g := State.sampleIsl vout) (fun s i => isl_sampleIsl vout i) (fun s i j hj => isl_sampleIsl_ne vout hj) hl s i
  rw [hloop, if_pos hi]
  simp only [Island.sampled, hv]

/-- R336, R345: a sample's power, and its read-backs. -/
theorem powerSample_eq (s : State) (r : PowerReading) : ∃ below, s.powerSample r =
    s.islands.foldl (State.sampleIsl r.vout)
      { s with pwr := { s.pwr with powers := (r.power :: s.pwr.powers).take 100, below := below } } :=
  ⟨_, rfl⟩

/-- R345: a sample leaves the power state's other fields. -/
theorem foldl_sampleIsl (vout l : List Nat) (s : State) : l.foldl (State.sampleIsl vout) s =
    { s with pwr := { s.pwr with islands := (l.foldl (State.sampleIsl vout) s).pwr.islands } } := by
  induction l generalizing s with
  | nil => rfl
  | cons i l ih =>
    rw [List.foldl_cons, ih (s.sampleIsl vout i), sampleIsl_pwr vout i]

end

end Sys2Proof.Machine
end

section
namespace Sys2Proof.Proofs
open Machine Safety

/-- Settles O51: samples, caps, the trip, the forced Hold and the power samples. -/
theorem thermalAndPowerLimitsHold : Obligations.ThermalAndPowerLimitsHold := by
  unfold Obligations.ThermalAndPowerLimitsHold
  intro s f
  refine ⟨?sample, ?falls, ?rises, ?trip, ?forced, ?power, ?overLimit, ?below⟩
  case sample =>
    intro l hlen h3
    obtain ⟨hstw, hpwr⟩ := thermal_state (s := fresh s) (l := l) h3
    refine ⟨(fresh s).thermal l, congrArg (fun l => Host.Outcome.next ((fresh s).thermal l)) (map_getD_range hlen), ?_, ?_,
      fun h0 hne => head_lt_thermal (s := fresh s) h0 hne⟩
    · exact congrArg Stw.sites hstw
    · exact congrArg Pwr.level hpwr
  case falls =>
    intro h2 hcap
    exact ⟨_, rfl, (thermCap_throttle (s := fresh s)).trans (if_pos h2)⟩
  case rises =>
    intro h2 hcool hcap
    have hwarm : ¬s.pwr.level = 2 := by omega
    exact ⟨_, rfl, (thermCap_throttle (s := fresh s)).trans
      ((if_neg hwarm).trans ((if_pos ⟨h2, hcool⟩).trans (Nat.min_eq_right hcap)))⟩
  case trip =>
    intro site temp hsite htemp h3
    obtain ⟨e, he⟩ := trip_of_untripped (s := fresh s) (site := site) (temp := temp) h3
    refine ⟨_, (if_pos ⟨htemp, hsite⟩).trans (congrArg Host.Outcome.next he), ?_, ?_, ?_, fun i hi h5 hst4 hst5 => ?_⟩
    · exact ((congrArg (fun u : State => u.pwr.level) (sansIslands_forcedDown _) :) : _ = _).trans (congrArg Pwr.level (pwr_fact e))
    · exact ((congrArg (fun u : State => u.pins.thermAlert) (sansIslands_forcedDown _) :) : _ = _).trans (congrArg Pins.thermAlert (pins_fact e))
    · refine ((congrArg (fun u : State => u.stw.sites.getD site 0) (sansIslands_forcedDown _) :) : _ = _).trans
        ((congrArg (fun x : Stw => x.sites.getD site 0) (stw_fact e)).trans ?_)
      exact getD_set_range _ hsite temp
    · have hmem : i ∈ (((fresh s).tripped site temp).fact e).heldIslands :=
        mem_heldIslands ((islands_fact _ e).symm ▸ hi : i ∈ (((fresh s).tripped site temp).fact e).islands) h5
      have hisl : (((fresh s).tripped site temp).fact e).isl i = s.isl i := isl_fact e i
      exact cur_foldl_forceDown (nodup_heldIslands _) hmem (hisl.symm ▸ hst4) (hisl.symm ▸ hst5)
  case forced =>
    intro h3 hhot h0
    obtain ⟨e, he⟩ := exec_forcedHold h3 hhot h0
    refine ⟨_, he, ?_, ?_, fun i hi h4 => ?_⟩
    · refine (congrArg Pwr.forced (enterHold_state 8).1).trans ?_
      exact (congrArg (fun u : State => u.pwr.forced) (sansIslands_foldl (fun s i => sansIslands_setIsl s i _) _ _) :).trans
        (congrArg Pwr.forced (pwr_fact e))
    · exact congrArg Pwr.state (enterHold_state 8).1
    · refine (congrArg (fun p : Pwr => (mget p.islands i {}).stopped) (enterHold_state 8).1).trans ?_
      have hmem : i ∈ (((fresh s).heatForced.fact e).islands.filter (fun i => decide (i < 4))) :=
        List.mem_filter.mpr ⟨(islands_fact _ e).symm ▸ hi, decide_eq_true h4⟩
      have hloop := isl_foldl (F := Island.halted) (fun s i => State.isl_setIsl s i _) (fun s i j hj => State.isl_setIsl_ne s i j _ hj)
        ((nodup_islands ((fresh s).heatForced.fact e)).filter (fun i => decide (i < 4)))
        ((fresh s).heatForced.fact e) i
      rw [if_pos hmem] at hloop
      exact congrArg Island.stopped hloop
  case power =>
    intro r
    obtain ⟨below, hr⟩ := powerSample_eq (fresh s) r
    refine ⟨_, congrArg Host.Outcome.next hr, ?_, ?_, fun i v hi hv => ?_⟩
    · exact (foldl_sampleIsl _ _ _).trans (congrArg (fun p => { f with pwr := p }) (congrArg State.pwr (foldl_sampleIsl _ _ _)).symm)
    · exact congrArg (fun u : State => u.pwr.powers) (foldl_sampleIsl _ _ _)
    · exact readback_foldl_sampleIsl (nodup_islands s) hi hv _
  case overLimit =>
    intro hover hcap
    exact ⟨_, rfl, tdpCap_tdpStep_of_over (s := fresh s) hover hcap⟩
  case below =>
    intro hunder hbelow hcap
    exact ⟨_, rfl, tdpStep_of_below (s := fresh s) hunder hbelow hcap⟩

end Sys2Proof.Proofs
end

section
/-! SUPPORT. Orders of the power state, and how Hold and Dormant entry and Hold exit end (14 R335 to R344). -/
namespace Sys2Proof.Machine
open Safety

/-! ### What an order does -/

section
variable {s : State} {from_ : Authority}

/-- R335: no authority holds the power state. -/
theorem powerHolder_of_free (hlevel : s.pwr.level ≠ 3) (hforced : s.pwr.forced = false) (hholder : s.holder 0x0103 0 = none) (cmd : Nat) :
    s.powerHolder from_ cmd = none := by
  unfold State.powerHolder
  dsimp only
  rw [if_neg (by simp [hlevel, hforced]), hholder]

/-- R334: a tripped device is held by the hardware against all but the console. -/
theorem powerHolder_of_tripped (hlevel : s.pwr.level = 3) (hfrom : from_ ≠ .console) (cmd : Nat) : s.powerHolder from_ cmd = some 1 :=
  if_pos ⟨.inl hlevel, fun h => hfrom h.1⟩

/-- R344: an order in execution. -/
def State.ordered (s : State) : State := { s with pwr := { s.pwr with result := { s.pwr.result with busy := true } } }

/-- R339: HOLD of a running device begins Hold entry when the journal takes its entry. -/
theorem powerOrder_hold (hrun : s.pwr.state = 0) (hfree : s.powerHolder from_ 2 = none) (hroom : HasRoom s) :
    ∃ e : JEntry, e.object = jObj 7 0 ∧ e.old = 0 ∧ e.new = 1
      ∧ s.powerOrder from_ 2 0xFFFF = (.ok, (s.jRing e).ordered.enterHold (authOrigin from_)) := by
  refine ⟨{ origin := authOrigin from_, kind := 1, aux := 0xFFFF, object := jObj 7 0, old := 0, new := 1 }, rfl, rfl, rfl, ?_⟩
  unfold State.powerOrder
  simp only [hrun, hfree, change_of_hasRoom hroom]
  rfl

theorem powerOrder_hold_full (hrun : s.pwr.state = 0) (hfree : s.powerHolder from_ 2 = none) (hepoch : s.lea.head / 2 ^ 32 = s.lea.epoch)
    (hfull : 4096 ≤ s.lea.ring.length) : ∃ t, s.powerOrder from_ 2 0xFFFF = (.journalFull, t) ∧ t.pwr = s.pwr := by
  unfold State.powerOrder
  simp only [hrun, hfree, change_of_full hepoch hfull]
  exact ⟨_, rfl, rfl⟩

theorem pwr_jRing (e : JEntry) : (s.jRing e).pwr = s.pwr := (congrArg State.pwr (sansPulses_jRing s e) :)

/-- R340: RUN of a device in Hold begins Hold exit. -/
theorem powerOrder_run (hhold : s.pwr.state = 2) (hfree : s.powerHolder from_ 1 = none) (hlevel : s.pwr.level ≠ 3) (hroom : HasRoom s) :
    ∃ e : JEntry, e.object = jObj 7 0 ∧ e.old = 2 ∧ e.new = 3 ∧ s.powerOrder from_ 1 0xFFFF = (.ok, (s.jRing e).ordered.leaveHold) := by
  refine ⟨{ origin := authOrigin from_, kind := 1, aux := 0xFFFF, object := jObj 7 0, old := 2, new := 3 }, rfl, rfl, rfl, ?_⟩
  have hlevel' (e : JEntry) : (s.jRing e).pwr.level ≠ 3 := by
    rw [pwr_jRing]
    exact hlevel
  unfold State.powerOrder
  simp only [hhold, hfree, change_of_hasRoom hroom]
  exact congrArg (fun u : State => (Verdict.ok, u.leaveHold)) (if_neg (hlevel' _))

/-- R341: an order of DORMANT in execution, with the wake pin armed. -/
def State.dormantOrdered (s : State) : State :=
  { s with pwr := { s.pwr with result := { s.pwr.result with busy := true }, wantDormant := true }
           pins := { s.pins with wakeArmed := true, wakeLatched := false } }

/-- R341: DORMANT of a running device arms the wake pin and begins Hold entry. -/
theorem powerOrder_dormant (hrun : s.pwr.state = 0) (hwant : s.pwr.wantDormant = false) (hfree : s.powerHolder from_ 3 = none)
    (hdanger : s.dangerOk from_ = true) (hroom : HasRoom s) : ∃ e : JEntry, s.powerOrder from_ 3 0xFFFF =
      (.ok, (s.jRing e).dormantOrdered.enterHold (authOrigin from_)) := by
  unfold State.powerOrder
  simp only [hrun, hfree, hwant, hdanger, change_of_hasRoom hroom]
  exact ⟨_, rfl⟩

/-- R344: HOLD and RUN during a transition find it. -/
theorem powerOrder_busy {cmd : Nat} (hcmd : cmd ≠ 3) (hmoving : s.pwr.state = 1 ∨ s.pwr.state = 3 ∨ s.pwr.state = 4) (aux : Nat) :
    s.powerOrder from_ cmd aux = (.busy, s) :=
  (if_neg fun h => hcmd h.1).trans (if_pos ⟨hcmd, hmoving⟩)

/-- R335: RUN of a tripped device that runs is refused, with an entry. -/
theorem powerOrder_run_tripped (hrun : s.pwr.state = 0) (hlevel : s.pwr.level = 3) (hfrom : from_ ≠ .console) (hroom : HasRoom s) :
    ∃ e : JEntry, e.object = jObj 7 0 ∧ e.old = 0 ∧ e.new = 0 ∧ s.powerOrder from_ 1 0xFFFF = (.overridden 1, s.jRing e) := by
  have hheld := powerHolder_of_tripped hlevel hfrom 1
  have hjroom : s.jRoom 1 = true := by simpa [State.jRoom] using hroom.2
  unfold State.powerOrder
  simp only [hrun, hheld, State.refusal, jRoll_of_epoch hroom.1, hjroom]
  exact ⟨_, rfl, rfl, rfl, rfl⟩

/-- R344: an authority that is heard has its order, and PWR_RESULT. -/
theorem pwrCommand_of_heard {cmd : Nat} {v : Verdict} {t : State} (hheard : s.noSession from_ = false)
    (horder : s.powerOrder from_ cmd 0xFFFF = (v, t)) : s.pwrCommand from_ cmd = t.pwrResult v := by
  unfold State.pwrCommand
  rw [if_neg (by simp [hheard]), horder]

/-- R344: PWR_RESULT at an order's end. -/
theorem result_pwrEnd {t : State} (h : t.pwr = s.pwr) (code auth : Nat) :
    (t.pwrEnd code auth).pwr.result = { s.pwr.result with done := true, authority := auth, code := code } := by
  unfold State.pwrEnd
  rw [h]

/-- R344: an order under way has no result yet. -/
theorem pwrResult_of_busy (hbusy : s.pwr.result.busy = true) : s.pwrResult .ok = s := if_pos hbusy

/-! ### Entries of the ring -/

/-- A record leaves the entries that the ring has. -/
theorem mem_ring_jRing {x : JEntry} (h : x ∈ s.lea.ring) (e : JEntry) : x ∈ (s.jRing e).lea.ring := by
  rw [lea_jRing]
  exact List.mem_append_left _ h

theorem ring_programEpoch (e : Nat) (ok : Bool) : (s.programEpoch e ok).lea.ring = s.lea.ring := by
  unfold State.programEpoch
  dsimp only
  repeat' split
  all_goals rfl

theorem mem_ring_jFact {x : JEntry} (h : x ∈ s.lea.ring) (e : JEntry) : x ∈ (s.jFact e).lea.ring := by
  unfold State.jFact
  dsimp only
  split
  · exact mem_ring_jRing h e
  repeat' split
  all_goals exact h

theorem mem_ring_fact {x : JEntry} (h : x ∈ s.lea.ring) (e : JEntry) : x ∈ (s.fact e).lea.ring := by
  refine mem_ring_jFact ?_ e
  unfold State.jRoll State.beginEpoch
  split
  · exact h
  · exact mem_ring_jFact ((ring_programEpoch (s := s) _ _).symm ▸ h) _

theorem mem_ring_pulse {x : JEntry} (h : x ∈ s.lea.ring) (e : Nat) : x ∈ (s.pulse e).lea.ring := by
  have hlea : (s.pulse e).lea = s.lea := (congrArg State.lea (sansPulses_pulse s e) :)
  rwa [hlea]

theorem mem_ring_wrpEnd {x : JEntry} (h : x ∈ s.lea.ring) (code auth : Nat) : x ∈ (s.wrpEnd code auth).lea.ring := by
  unfold State.wrpEnd
  refine mem_ring_pulse ?_ 0x004
  exact h

theorem mem_ring_enterHold {x : JEntry} (h : x ∈ s.lea.ring) (origin : Nat) : x ∈ (s.enterHold origin).lea.ring := by
  unfold State.enterHold
  dsimp only
  split
  · exact h
  · refine mem_ring_wrpEnd ?_ _ _
    refine mem_ring_fact ?_ _
    exact h

/-! ### Hold exit begins -/

theorem lea_leaveHold : s.leaveHold.lea = s.lea := by
  rw [leaveHold_eq]
  exact foldl_keeps State.lea (f := State.raiseToOp0) (fun _ _ => rfl) _ _

/-! ### What memory serves at Hold entry leaves -/

/-- The power state and the OTP. -/
def State.powerView (s : State) : Pwr × Otp := (s.pwr, s.nv.otp)

theorem powerView_of_sansReads {u v : State} (h : u.sansReads = v.sansReads) : u.powerView = v.powerView := (congrArg State.powerView h :)

theorem powerView_tagUpdate (lo hi : Nat) : (s.tagUpdate lo hi).powerView = s.powerView := by
  unfold State.tagUpdate
  dsimp only
  split
  · rfl
  · exact foldl_keeps State.powerView (fun _ _ => powerView_of_sansReads (sansReads_tagTouch ..)) _ _

theorem powerView_putBytes (a : Nat) (bs : List Byte) : (s.putBytes a bs).powerView = s.powerView := by
  unfold State.putBytes
  dsimp only
  split
  · rfl
  · exact powerView_tagUpdate ..

theorem powerView_memWrite (h req a : Nat) (bs : List Byte) : (s.memWrite h req a bs).2.powerView = s.powerView := by
  have hfetch : (s.tagFetch a req).powerView = s.powerView := powerView_of_sansReads (sansReads_tagFetch ..)
  have hcorrect (u : State) (us : List Nat) : (u.correctAll a req us).powerView = u.powerView := powerView_of_sansReads (sansReads_correctAll ..)
  unfold State.memWrite
  dsimp only
  rw [← hfetch]
  generalize s.tagFetch a req = t
  split
  · rfl
  split
  · rfl
  generalize (if t.isWritten a = true then mergedWords a bs.length else []) = us
  split
  · exact (powerView_of_sansReads (sansReads_uncorrectable ..)).trans (hcorrect t us)
  split
  · exact hcorrect t us
  · exact (powerView_putBytes ..).trans (hcorrect t us)

theorem powerView_emit (o : Out) : (s.emit o).powerView = s.powerView := rfl

theorem powerView_perform (own : Bool) (w : MemWork) : (s.perform own w).powerView = s.powerView := by
  cases w with
  | request r h cls =>
    unfold State.perform
    dsimp only
    rw [powerView_emit]
    split
    iterate 2
      rw [if_neg (by decide)]
      split
      · exact powerView_memWrite ..
      · exact powerView_of_sansReads (sansReads_memRead ..)
    rw [if_pos (by decide)]
    rfl
  | scrub a passDone =>
    have hcorrect (us : List Nat) : (s.correctAll a 158 us).powerView = s.powerView := powerView_of_sansReads (sansReads_correctAll ..)
    have hread : (s.scrubRead a).powerView = s.powerView := by
      unfold State.scrubRead
      dsimp only
      split
      · rfl
      split
      · exact (powerView_of_sansReads (sansReads_uncorrectable ..)).trans (hcorrect _)
      · exact hcorrect _
    refine Eq.trans ?_ hread
    rw [State.perform]
    unfold State.passEnd
    dsimp only
    repeat' split
    all_goals rfl
  | tagLine l => rfl

theorem powerView_serveOne (own : Bool) (u : Nat) : (s.serveOne own u).powerView = s.powerView := by
  unfold State.serveOne
  split
  · rfl
  · refine (powerView_perform _ _).trans ?_
    unfold State.grantMem State.acceptOne
    dsimp only
    repeat' split
    all_goals rfl

/-- R127: completing what memory has accepted leaves the power state. -/
theorem powerView_drainMemory : s.drainMemory.powerView = s.powerView := by
  have htick (u : State) : u.serveTick.powerView = u.powerView := foldl_keeps State.powerView (fun _ _ => powerView_serveOne ..) _ _
  have hticks (k : Nat) (u : State) : (State.serveTicks k u).powerView = u.powerView := by
    induction k generalizing u with
    | zero => rfl
    | succ k ih => exact (ih u.serveTick).trans (htick u)
  unfold State.drainMemory
  dsimp only
  exact (foldl_keeps State.powerView (fun _ _ => powerView_perform ..) _ _).trans (hticks _ _)

theorem islands_of_powerView {u v : State} (h : u.powerView = v.powerView) : u.islands = v.islands :=
  congrArg (fun p : Pwr × Otp => islandsOf p.2.variant) h

/-! ### Hold entry ends -/

/-- R339: an island off, at `st`, with its voltage commanded. -/
def Island.off (st volt : Nat) (x : Island) : Island :=
  { x with st := st, cur := 0, target := 0, stopped := true, lowVolt := false, waiting := none, recover := false, volt := volt }

/-- R339: an island goes off, with a record where its point changes. -/
def State.islandOff (st volt : Nat) (s : State) (i : Nat) : State :=
  ((s.pointFact 1 i (s.isl i).cur 0).setIsl i { (s.pointFact 1 i (s.isl i).cur 0).isl i with
    st := st, cur := 0, target := 0, stopped := true, lowVolt := false, waiting := none, recover := false }).command i volt

theorem isl_islandOff (st volt i : Nat) : (s.islandOff st volt i).isl i = (s.isl i).off st volt := by
  unfold State.islandOff
  rw [isl_command, State.isl_setIsl, isl_pointFact]
  rfl

theorem isl_islandOff_ne (st volt : Nat) {i j : Nat} (h : j ≠ i) : (s.islandOff st volt i).isl j = s.isl j := by
  unfold State.islandOff
  rw [isl_command_ne _ _ h, State.isl_setIsl_ne _ _ _ _ h, isl_pointFact]

theorem sansIslands_islandOff (st volt i : Nat) : (s.islandOff st volt i).sansIslands = s.sansIslands := by
  unfold State.islandOff
  simp

/-- R339: the interfaces of a device that enters Hold. -/
def State.dramHeld (s : State) : State :=
  { s with dram := s.dram.map (fun (e : Nat × Dram) => (e.1, if e.2.state = 2 then { e.2 with state := 3 } else e.2)) }

/-- R339 t2, t3: the device with islands 0 to 3 off and FAB in retention. -/
def State.islandsOff (s : State) : State :=
  (((s.drainMemory.islands.filter (fun i => decide (i < 4))).foldl (State.islandOff 4 0) s.drainMemory).dramHeld).islandOff 5 500 4

/-- The order in execution hangs on no island. -/
theorem order_of_sansIslands {u v : State} (h : u.sansIslands = v.sansIslands) :
    u.pwr.result = v.pwr.result ∧ u.pwr.wantDormant = v.pwr.wantDormant :=
  ⟨(congrArg (fun u : State => u.pwr.result) h :), (congrArg (fun u : State => u.pwr.wantDormant) h :)⟩

theorem order_islandsOff : s.islandsOff.pwr.result = s.pwr.result ∧ s.islandsOff.pwr.wantDormant = s.pwr.wantDormant := by
  have hmem : s.drainMemory.pwr = s.pwr := congrArg Prod.fst powerView_drainMemory
  unfold State.islandsOff
  generalize hloop : (s.drainMemory.islands.filter (fun i => decide (i < 4))).foldl (State.islandOff 4 0) s.drainMemory = u
  have hu : u.sansIslands = s.drainMemory.sansIslands := by
    rw [← hloop]
    exact sansIslands_foldl (fun s i => sansIslands_islandOff 4 0 i) _ _
  obtain ⟨hresult, hwant⟩ := order_of_sansIslands hu
  obtain ⟨hresult', hwant'⟩ := order_of_sansIslands (sansIslands_islandOff (s := u.dramHeld) 5 500 4)
  rw [hmem] at hresult hwant
  exact ⟨hresult'.trans hresult, hwant'.trans hwant⟩

/-- R339 t2: islands 0 to 3 are off. -/
theorem isl_islandsOff {i : Nat} (hi : i ∈ s.islands) (h4 : i < 4) : s.islandsOff.isl i = (s.isl i).off 4 0 := by
  have hislands : s.drainMemory.islands = s.islands := islands_of_powerView powerView_drainMemory
  have hsame : s.drainMemory.isl i = s.isl i := congrArg (fun p : Pwr × Otp => mget p.1.islands i {}) powerView_drainMemory
  have hmem : i ∈ s.drainMemory.islands.filter (fun i => decide (i < 4)) := List.mem_filter.mpr ⟨hislands ▸ hi, decide_eq_true h4⟩
  have hloop := isl_foldl (g := State.islandOff 4 0) (F := Island.off 4 0) (fun s i => isl_islandOff 4 0 i)
    (fun s i j h => isl_islandOff_ne 4 0 h) ((nodup_islands s.drainMemory).filter (fun i => decide (i < 4))) s.drainMemory i
  rw [if_pos hmem, hsame] at hloop
  exact (isl_islandOff_ne 5 500 (Nat.ne_of_lt h4)).trans hloop

/-- R339 t3: FAB is in retention. -/
theorem isl_islandsOff_fab : ∃ x : Island, s.islandsOff.isl 4 = x.off 5 500 := ⟨_, isl_islandOff 5 500 4⟩

/-- R337, R339 t4: Hold is entered, and the order has ended. -/
def State.holdDone (s : State) : State :=
  (({ s.appDown.zeroUnits with pwr := { s.pwr with state := 2 } } : State).pwrIdle).pwrEnd 0 0

theorem pwr_holdDone : s.holdDone.pwr =
    { s.pwr with state := 2, result := { s.pwr.result with busy := false, done := true, authority := 0, code := 0 } } := rfl

theorem isl_holdDone (i : Nat) : s.holdDone.isl i = s.isl i := rfl

theorem core_holdDone (c : Nat) : s.holdDone.core c = s.appDown.zeroUnits.core c := rfl

/-- R339: Hold entry that no Dormant entry follows ends the order. -/
theorem holdEntered_eq (hwant : s.pwr.wantDormant = false) : s.holdEntered = s.islandsOff.holdDone := by
  have hnot : ¬s.islandsOff.pwr.wantDormant = true := by simp [order_islandsOff.2, hwant]
  exact if_neg hnot

/-- R337: a core whose memories are lost. -/
def Core.lost (k : Core) : Core := { k with x := [], y := [], pm := [] }

theorem core_zeroUnits (c : Nat) : (s.zeroUnits.core c).x = [] ∧ (s.zeroUnits.core c).y = [] ∧ (s.zeroUnits.core c).pm = [] := by
  have hcore : s.zeroUnits.core c = ((mget? s.cores c).map Core.lost).getD {} :=
    congrArg (fun o : Option Core => o.getD {}) (mget?_map_snd Core.lost s.cores c)
  rw [hcore]
  cases mget? s.cores c <;> exact ⟨rfl, rfl, rfl⟩

/-! ### Hold exit ends -/

theorem islands_of_change {t : State} {es : List JEntry} {b : Bool} (h : s.change es = (b, t)) : t.pwr.islands = s.pwr.islands := by
  have hs := sansRecords_change s es
  rw [h] at hs
  exact (congrArg (fun u : State => u.pwr.islands) hs :)

theorem isl_decideIsland_ne {i j : Nat} (h : j ≠ i) (op ply load rho : Nat) : (s.decideIsland i op ply load rho).isl j = s.isl j := by
  have hlower (u : State) : (u.lower i op).isl j = u.isl j := by
    unfold State.lower
    rw [isl_command_ne _ _ h, State.isl_setIsl_ne _ _ _ _ h]
  unfold State.decideIsland
  dsimp only
  split
  · rfl
  split
  · exact State.isl_setIsl_ne _ _ _ _ h
  split
  · rfl
  split
  · unfold State.lowerAsked
    dsimp only
    split
    case h_1 hchange => exact (hlower _).trans (congrArg (mget · j {}) (islands_of_change hchange) :)
    case h_2 hchange => exact (congrArg (mget · j {}) (islands_of_change hchange) :)
  · unfold State.raise
    dsimp only
    rw [isl_command_ne _ _ h, State.isl_setIsl_ne _ _ _ _ h, isl_fact]

theorem isl_appDecide_ne {j : Nat} (h : j ≠ 5) : s.appDecide.isl j = s.isl j := by
  unfold State.appDecide
  split
  · exact isl_decideIsland_ne h ..
  · rfl

/-- R340: a confirmed island runs at its target. -/
def Island.raised (x : Island) : Island := { x with st := 0, cur := x.target, stopped := false }

/-- R340 u1: a confirmed island is raised, one that is not loses its link. -/
def State.islandUp (confirmed : List Nat) (s : State) (i : Nat) : State :=
  if (s.isl i).st = 2 then
    if confirmed.contains i then s.setIsl i (s.isl i).raised else s.loseLink i
  else s

/-- R340 u2 to u4: what follows the raises of Hold exit. -/
def State.exitEnded (s : State) : State :=
  { s.zeroUnits with
    dram := s.dram.map (fun (e : Nat × Dram) => (e.1, if e.2.state = 3 then { e.2 with state := 2 } else e.2))
    pwr := { s.pwr with state := 0 }
    plies := s.plies.map (fun (e : Nat × Ply) => (e.1, { e.2 with
      openAt := max e.2.openAt s.tck.time, gov := { e.2.gov with rhoOne := true } })) }

theorem isl_islandUp {confirmed : List Nat} {i : Nat} (hi : i ∈ confirmed) :
    (s.islandUp confirmed i).isl i = if (s.isl i).st = 2 then (s.isl i).raised else s.isl i := by
  unfold State.islandUp
  split
  · rw [if_pos (List.contains_iff_mem.mpr hi), State.isl_setIsl]
  · rfl

theorem isl_islandUp_ne (confirmed : List Nat) {i j : Nat} (h : j ≠ i) : (s.islandUp confirmed i).isl j = s.isl j := by
  unfold State.islandUp
  split
  · split
    · exact State.isl_setIsl_ne _ _ _ _ h
    · unfold State.loseLink
      dsimp only
      split
      · rw [isl_fact, State.isl_setIsl_ne _ _ _ _ h]
      split
      · exact State.isl_setIsl_ne _ _ _ _ h
      · rfl
  · rfl

theorem sansIslands_islandUp (confirmed : List Nat) (i : Nat) : (s.islandUp confirmed i).sansIslands = s.sansIslands := by
  unfold State.islandUp
  repeat' split
  all_goals simp

/-- R340: Hold exit that no Dormant entry follows ends the order. -/
theorem holdLeft_eq (confirmed : List Nat) (hwant : s.pwr.wantDormant = false) :
    s.holdLeft confirmed = ((s.heldIslands.foldl (State.islandUp confirmed) s).exitEnded.appDecide.pwrIdle).pwrEnd 0 0 := by
  have hup := (order_of_sansIslands (sansIslands_foldl (fun s i => sansIslands_islandUp confirmed i) s.heldIslands s)).2
  have happ := (order_of_sansIslands (sansIslands_appDecide (s.heldIslands.foldl (State.islandUp confirmed) s).exitEnded)).2
  have hexit (u : State) : u.exitEnded.pwr.wantDormant = u.pwr.wantDormant := rfl
  refine if_neg ?_
  change ¬(s.heldIslands.foldl (State.islandUp confirmed) s).exitEnded.appDecide.pwr.wantDormant = true
  rw [happ, hexit, hup, hwant]
  decide

theorem state_exitEnded : (s.exitEnded.appDecide.pwrIdle.pwrEnd 0 0).pwr.state = 0 :=
  (congrArg (fun u : State => u.pwr.state) (sansIslands_appDecide s.exitEnded) :)

/-- R340: every confirmed island of a device that leaves Hold runs at its target. -/
theorem isl_holdLeft {confirmed : List Nat} {i : Nat} (hwant : s.pwr.wantDormant = false) (hi : i ∈ s.islands) (h5 : i < 5)
    (hall : ∀ j ∈ s.islands, j ∈ confirmed) (hst : (s.isl i).st = 2) : (s.holdLeft confirmed).isl i = (s.isl i).raised := by
  rw [holdLeft_eq confirmed hwant]
  have hidle (u : State) : (u.pwrIdle.pwrEnd 0 0).isl i = u.isl i := rfl
  have hexit (u : State) : u.exitEnded.isl i = u.isl i := rfl
  rw [hidle, isl_appDecide_ne (Nat.ne_of_lt h5), hexit]
  have hloop (l : List Nat) (hl : l.Nodup) (hin : ∀ j ∈ l, j ∈ confirmed) (u : State) :
      (l.foldl (State.islandUp confirmed) u).isl i =
        if i ∈ l then (if (u.isl i).st = 2 then (u.isl i).raised else u.isl i) else u.isl i := by
    induction l generalizing u with
    | nil => simp
    | cons j l ih =>
      obtain ⟨hj, hl⟩ := List.nodup_cons.mp hl
      obtain ⟨hinj, hinl⟩ := List.forall_mem_cons.mp hin
      rw [List.foldl_cons, ih hl hinl]
      rcases eq_or_ne i j with rfl | hne
      · rw [if_neg hj, if_pos List.mem_cons_self, isl_islandUp hinj]
      · rw [isl_islandUp_ne _ hne]
        simp [hne]
  rw [hloop _ (nodup_heldIslands s) (fun j hj => hall j (List.mem_of_mem_filter hj)), if_pos (mem_heldIslands hi h5), if_pos hst]

end

end Sys2Proof.Machine
end

section
namespace Sys2Proof.Proofs
open Machine Safety

/-- Settles O52: each order of the power state, and each end of Hold entry, Hold exit and Dormant entry. -/
theorem powerStatesFollowTheirOrders : Obligations.PowerStatesFollowTheirOrders := by
  unfold Obligations.PowerStatesFollowTheirOrders
  intro s from_ hheard f free result
  have horder {cmd : Nat} {v : Verdict} {t : State} (h : (fresh s).powerOrder from_ cmd 0xFFFF = (v, t)) :
      (fresh s).pwrCommand from_ cmd = t.pwrResult v := pwrCommand_of_heard (s := fresh s) hheard h
  have hnext {u v : State} (h : u = v) : (.next u : Host.Outcome State Fault Refusal) = .next v := congrArg Host.Outcome.next h
  have hfree (h : free) (cmd : Nat) : (fresh s).powerHolder from_ cmd = none :=
    powerHolder_of_free (s := fresh s) h.1 h.2.1 h.2.2 cmd
  refine ⟨?hold, ?run, ?dormant, ?busy, ?tripped, ?full, ?entered, ?left, ?flushed, ?late, ?closed⟩
  case hold =>
    intro hrun hfr hroom
    obtain ⟨e, hobj, hold, hnew, he⟩ := powerOrder_hold (s := fresh s) (from_ := from_) hrun (hfree hfr 2) hroom
    obtain ⟨hpwr, hpending, -⟩ := enterHold_state (s := ((fresh s).jRing e).ordered) (authOrigin from_)
    have hbusy : (((fresh s).jRing e).ordered.enterHold (authOrigin from_)).pwr.result.busy = true := by rw [hpwr]; rfl
    refine ⟨_, hnext ((horder he).trans (pwrResult_of_busy hbusy)), ?_, hpending, hbusy, (fresh s).jStamp e false, ?_, rfl, hobj, hold, hnew⟩
    · rw [hpwr]
    · refine mem_ring_enterHold ?_ _
      change _ ∈ ((fresh s).jRing e).lea.ring
      rw [lea_jRing]
      exact List.mem_append_right _ (List.mem_singleton_self _)
  case run =>
    intro hhold hfr hroom
    obtain ⟨e, hobj, hold, hnew, he⟩ := powerOrder_run (s := fresh s) (from_ := from_) hhold (hfree hfr 1) hfr.1 hroom
    obtain ⟨hstate, hresult⟩ := leaveHold_pwr ((fresh s).jRing e).ordered
    have hbusy : ((fresh s).jRing e).ordered.leaveHold.pwr.result.busy = true := by rw [hresult]; rfl
    have hview : ((fresh s).jRing e).ordered.islands = s.islands :=
      (congrArg State.islands (sansPulses_jRing (fresh s) e) :)
    refine ⟨_, hnext ((horder he).trans (pwrResult_of_busy hbusy)), hstate, hbusy, ?_,
      fun i hi h5 => raising_leaveHold _ (hview ▸ hi) h5⟩
    have hentry := oneEntry_jRing (fresh s) e
    rw [hobj, hold, hnew] at hentry
    rw [OneEntry, lea_leaveHold]
    exact hentry
  case dormant =>
    intro hrun hwant hfr hroom hdanger
    obtain ⟨e, he⟩ := powerOrder_dormant (s := fresh s) (from_ := from_) hrun hwant (hfree hfr 3) hdanger hroom
    obtain ⟨hpwr, -, hpins⟩ := enterHold_state (s := ((fresh s).jRing e).dormantOrdered) (authOrigin from_)
    have hbusy : (((fresh s).jRing e).dormantOrdered.enterHold (authOrigin from_)).pwr.result.busy = true := by rw [hpwr]; rfl
    refine ⟨_, hnext ((horder he).trans (pwrResult_of_busy hbusy)), ?_, ?_, ?_⟩
    · rw [hpwr]
    · rw [hpwr]; rfl
    · rw [hpins]; rfl
  case busy =>
    intro hmoving
    exact ⟨⟨_, hnext (horder (powerOrder_busy (s := fresh s) (by decide) hmoving _)), rfl, rfl⟩,
      ⟨_, hnext (horder (powerOrder_busy (s := fresh s) (by decide) hmoving _)), rfl, rfl⟩⟩
  case tripped =>
    intro hrun hlevel hfrom hroom
    obtain ⟨e, hobj, hold, hnew, he⟩ := powerOrder_run_tripped (s := fresh s) hrun hlevel hfrom hroom
    have hpwr : ((fresh s).jRing e).pwr = s.pwr := pwr_jRing e
    refine ⟨_, hnext (horder he), result_pwrEnd hpwr 0x51 1, ?_, ?_⟩
    · exact (congrArg Pwr.level hpwr).trans hlevel
    · have hentry := oneEntry_jRing (fresh s) e
      rw [hobj, hold, hnew] at hentry
      exact hentry
  case full =>
    intro hrun hfr hepoch hfull
    obtain ⟨t, ht, hpwr⟩ := powerOrder_hold_full (s := fresh s) (from_ := from_) hrun (hfree hfr 2) hepoch hfull
    exact ⟨_, hnext (horder ht), result_pwrEnd hpwr 0x50 0, (congrArg Pwr.state hpwr).trans hrun⟩
  case entered =>
    intro hstate hready hwant
    have hpwr := pwr_holdDone (s := (fresh s).islandsOff)
    obtain ⟨x, hx⟩ := isl_islandsOff_fab (s := fresh s)
    refine ⟨(fresh s).islandsOff.holdDone, (if_pos ⟨hstate, hready⟩).trans (hnext (holdEntered_eq (s := fresh s) hwant)),
      congrArg Pwr.state hpwr, ?_, fun i hi h4 => ?_, ?_, ?_, fun c => ?_⟩
    · rw [hpwr]
      dsimp only
      rw [order_islandsOff.1]
      rfl
    · rw [isl_holdDone, isl_islandsOff (s := fresh s) hi h4]
      exact ⟨rfl, rfl⟩
    · rw [isl_holdDone, hx]; rfl
    · rw [isl_holdDone, hx]; rfl
    · rw [core_holdDone]
      exact core_zeroUnits c
  case left =>
    intro hstate hwant hst
    refine ⟨_, if_pos hstate, ?_, fun i hi h5 => isl_holdLeft (s := fresh s) hwant hi h5 (fun _ hj => hj) (hst i hi h5)⟩
    exact (congrArg (fun u : State => u.pwr.state) (holdLeft_eq (s := fresh s) _ hwant)).trans state_exitEnded
  case flushed =>
    intro hflush hstate
    have hcur : ((fresh s).endFlush.nv.flash).cur.entries = s.jAll :=
      congrArg JArea.entries ((Flash.cur_swap _).trans (Flash.idle_setIdle ..))
    have hexec : exec .flushDone s = .next (fresh s).endFlush.powerOff :=
      (if_neg (by simp [hflush])).trans (if_pos hstate)
    exact ⟨_, hexec, rfl, rfl, rfl, hcur, rfl⟩
  case late =>
    intro hflush hstate
    exact ⟨_, (if_neg (by simp [hflush])).trans (if_pos hstate), rfl, rfl, rfl⟩
  case closed =>
    intro u hclosed cmd hcmd
    have hno : (fresh u).noSession .console = true := by simp [State.noSession, fresh, hclosed]
    simp only [List.mem_cons, List.not_mem_nil, or_false] at hcmd
    obtain rfl | rfl | rfl := hcmd <;> exact congrArg Host.Outcome.next (if_pos hno)

end Sys2Proof.Proofs
end

section
/-! SUPPORT. What the WARM reset leaves through its records and its boot (17 R391). -/
namespace Sys2Proof.Machine
open Safety

/-! ### A device that has just been reset -/

/-- What the WARM reset clears or keeps, and no later step of its boot writes. -/
structure ResetView where
  jobs : List Job
  hanks : NMap Hank
  plies : NMap Ply
  cores : NMap Core
  chans : NMap Chan
  wrp : Wrp
  time : Nat
  pending : List Instr
  otp : Otp
  remoteDanger : Bool
  route : NMap Word
  evmap : NMap Word

def State.resetView (s : State) : ResetView :=
  { jobs := s.tck.jobs, hanks := s.hanks, plies := s.plies, cores := s.cores, chans := s.chans, wrp := s.wrp, time := s.tck.time
    pending := s.pending, otp := s.nv.otp, remoteDanger := s.stw.remoteDanger, route := s.evt.route, evmap := s.pci.evmap }

/-- A state that shows `v`, in which no event is routed, and whose journal has `e`. -/
structure WarmKept (v : ResetView) (e : JEntry) (s : State) : Prop where
  view : s.resetView = v
  route : v.route = []
  evmap : v.evmap = []
  entry : e ∈ s.lea.ring

section
variable {s : State} {v : ResetView} {e : JEntry}

/-- A state that differs elsewhere. -/
theorem WarmKept.of_eq {t : State} (h : WarmKept v e s) (hview : t.resetView = s.resetView) (hring : t.lea.ring = s.lea.ring) :
    WarmKept v e t := ⟨hview.trans h.view, h.route, h.evmap, hring ▸ h.entry⟩

/-! ### Records -/

/-- An event that is routed nowhere is not delivered. -/
theorem deliver_of_unrouted (hroute : s.evt.route = []) (hevmap : s.pci.evmap = []) (n : Nat) : s.deliver n = s := by
  have hunset (m : NMap Word) (hm : m = []) (i : Nat) : bit (mget m n 0#32).toNat i = false := by
    subst hm
    exact Nat.zero_testBit i
  unfold State.deliver
  simp only [hunset _ hroute, hunset _ hevmap, Bool.false_and, Bool.false_eq_true, if_false]

theorem WarmKept.setEvt (h : WarmKept v e s) {x : Evt} (hx : x.route = s.evt.route) : WarmKept v e { s with evt := x } := by
  refine h.of_eq ?_ rfl
  simp only [State.resetView, hx]

theorem WarmKept.deliver (h : WarmKept v e s) (n : Nat) : WarmKept v e (s.deliver n) := by
  have hroute : s.evt.route = [] := (congrArg ResetView.route h.view).trans h.route
  have hevmap : s.pci.evmap = [] := (congrArg ResetView.evmap h.view).trans h.evmap
  rw [deliver_of_unrouted hroute hevmap]
  exact h

theorem WarmKept.pulse (h : WarmKept v e s) (n : Nat) : WarmKept v e (s.pulse n) := by
  unfold State.pulse State.pulseN
  split
  · exact h
  · refine WarmKept.deliver (WarmKept.setEvt h ?_) n
    rfl

theorem WarmKept.jRing (h : WarmKept v e s) (x : JEntry) : WarmKept v e (s.jRing x) := by
  have hput : WarmKept v e { s with lea := { s.lea with ring := s.lea.ring ++ [s.jStamp x false], head := s.lea.head + 1 } } :=
    ⟨h.view, h.route, h.evmap, List.mem_append_left _ h.entry⟩
  unfold State.jRing
  dsimp only
  repeat' split
  · exact (hput.pulse _).pulse _
  · exact hput.pulse _
  · exact hput.pulse _
  · exact hput

theorem WarmKept.jFact (h : WarmKept v e s) (x : JEntry) : WarmKept v e (s.jFact x) := by
  unfold State.jFact
  dsimp only
  split
  · exact h.jRing x
  repeat' split
  all_goals exact h.of_eq rfl rfl

theorem WarmKept.fact (h : WarmKept v e s) (x : JEntry) : WarmKept v e (s.fact x) := by
  refine WarmKept.jFact ?_ x
  unfold State.jRoll
  split
  · exact h
  · refine WarmKept.jFact ?_ _
    refine h.of_eq ?_ (ring_programEpoch _ _)
    unfold State.programEpoch
    dsimp only
    repeat' split
    all_goals rfl

/-! ### Islands -/

theorem WarmKept.setIsl (h : WarmKept v e s) (i : Nat) (x : Island) : WarmKept v e (s.setIsl i x) := h.of_eq rfl rfl

theorem WarmKept.command (h : WarmKept v e s) (i mv : Nat) : WarmKept v e (s.command i mv) := h.of_eq rfl rfl

theorem WarmKept.loseLink (h : WarmKept v e s) (i : Nat) : WarmKept v e (s.loseLink i) := by
  unfold State.loseLink
  dsimp only
  split
  · exact (h.setIsl _ _).fact _
  split
  · exact h.setIsl _ _
  · exact h

theorem WarmKept.foldl {α : Type} {f : State → α → State} (hf : ∀ {s : State} (x : α), WarmKept v e s → WarmKept v e (f s x))
    (l : List α)
    (h : WarmKept v e s) : WarmKept v e (l.foldl f s) := by
  induction l generalizing s with
  | nil => exact h
  | cons x l ih => exact ih (hf x h)

theorem WarmKept.islandsUp (h : WarmKept v e s) (confirmed : List Nat) : WarmKept v e (s.islandsUp confirmed) := by
  refine WarmKept.foldl (fun i h => ?_) _ h
  dsimp only
  split
  · split
    · exact ((h.setIsl _ _).command _ _).setIsl _ _
    · exact ((h.setIsl _ _).command _ _).loseLink _
  · exact h.setIsl _ _

/-! ### Parts -/

theorem WarmKept.retier (h : WarmKept v e s) : WarmKept v e s.retier := by
  unfold State.retier
  dsimp only
  split
  · exact h
  · refine WarmKept.pulse (WarmKept.fact ?_ _) _
    exact h.of_eq rfl rfl

theorem WarmKept.writeUnit (h : WarmKept v e s) (i st auth : Nat) : WarmKept v e (s.writeUnit i st auth) := by
  unfold State.writeUnit
  refine WarmKept.retier (WarmKept.pulse (WarmKept.fact ?_ _) _)
  exact h.of_eq rfl rfl

theorem WarmKept.runSlot (h : WarmKept v e s) (part : Nat) (b : Bool) : WarmKept v e (s.runSlot part b) := h.of_eq rfl rfl

theorem WarmKept.startTrial (h : WarmKept v e s) (part : Nat) : WarmKept v e (s.startTrial part) := by
  unfold State.startTrial
  dsimp only
  split
  · exact h.of_eq rfl rfl
  · exact h

theorem WarmKept.loadPart (h : WarmKept v e s) (part : Nat) : WarmKept v e (s.loadPart part) := by
  unfold State.loadPart
  extract_lets d _ u code old
  have hu : WarmKept v e u := h.of_eq rfl rfl
  split_ifs
  · exact (hu.runSlot _ _).startTrial _
  · exact WarmKept.runSlot (hu.fact _) _ _
  · refine WarmKept.foldl (fun i h => ?_) _ (hu.fact _)
    split
    · exact h
    · exact h.writeUnit _ _ _

theorem WarmKept.setBoot (h : WarmKept v e s) (x : Boot) : WarmKept v e { s with boot := x } := h.of_eq rfl rfl

theorem WarmKept.loadParts (h : WarmKept v e s) : WarmKept v e s.loadParts := by
  unfold State.loadParts
  extract_lets u u' _
  have hu : WarmKept v e u := ((h.loadPart 3).loadPart 4).loadPart 5
  clear_value u
  have hu' : WarmKept v e u' := by
    unfold u'
    split
    · exact hu
    · exact hu.loadPart 2
  clear_value u'
  exact hu'.setBoot _

/-! ### The reset -/

/-- What the WARM reset shows from its first step on. -/
def State.warmView (s : State) : ResetView :=
  { jobs := [], hanks := [], plies := [], cores := [], chans := [], wrp := {}, time := s.tck.time, pending := s.pending, otp := s.nv.otp
    remoteDanger := false, route := [], evmap := [] }

/-- R391: the tier falls to 0, with a record. -/
def State.warmTier (s : State) (old : Nat) : State :=
  if old = 0 then s else (s.fact { origin := 3, kind := 1, object := jObj 16 0, old := old, new := 0 }).pulse 0x003

/-- R391: what the WARM reset has cleared stays cleared to its end, and the journal keeps its entries. -/
theorem warmKept_warmReset (he : e ∈ s.lea.ring) (confirmed : List Nat) : WarmKept s.warmView e (s.warmReset confirmed) := by
  have hregs : WarmKept s.warmView e s.warmRegs := ⟨rfl, rfl, rfl, he⟩
  have htier : WarmKept s.warmView e (s.warmRegs.warmTier s.tier) := by
    unfold State.warmTier
    split
    · exact hregs
    · exact (hregs.fact _).pulse _
  unfold State.warmReset
  extract_lets old u u' u'' _ t _
  have hu' : WarmKept s.warmView e u' := htier
  clear_value u'
  have hu'' : WarmKept s.warmView e u'' := hu'.islandsUp confirmed
  clear_value u''
  have ht : WarmKept s.warmView e t := WarmKept.loadParts (hu''.of_eq rfl rfl)
  clear_value t
  exact ht.of_eq rfl rfl

theorem state_loadParts : s.loadParts.boot.state = 4 := rfl

theorem state_warmReset (confirmed : List Nat) : (s.warmReset confirmed).boot.state = 4 := by
  unfold State.warmReset
  extract_lets old u u' u'' _ t _
  have ht : t.boot.state = 4 := state_loadParts
  clear_value t
  exact ht

/-! ### The order -/

variable {from_ : Authority}

/-- R360: the entry of a danger action that the journal takes. -/
theorem danger_of_hasRoom (h : HasRoom s) (x : JEntry) : s.danger x = (true, { s.jRing { x with kind := 4, data := s.readings } with
    stw := { (s.jRing { x with kind := 4, data := s.readings }).stw with
      dangers := (s.jRing { x with kind := 4, data := s.readings }).stw.dangers ++ [{ x with kind := 4, data := s.readings }] } }) := by
  unfold State.danger
  dsimp only
  rw [change_of_hasRoom h]

/-- R391: a running device has no Hold to leave. -/
theorem leaveForReset_of_running (hrun : s.pwr.state = 0) (confirmed : List Nat) :
    s.leaveForReset confirmed = { s with pwr := { s.pwr with wantDormant := false } } := by
  have hhold : ¬(s.pwr.state = 2 ∨ s.pwr.state = 4) := by omega
  have hexit : ¬s.pwr.state = 3 := by omega
  exact (if_neg hhold).trans (if_neg hexit)

/-- R391: RESET of a running device. -/
theorem resetCmd_of_running (hheard : s.noSession from_ = false) (hdanger : s.dangerOk from_ = true) (hwarm : s.boot.warm = false)
    (hbooted : 4 ≤ s.boot.state) (hrecovery : s.boot.state ≠ 7) (hlevel : s.pwr.level ≠ 3) (hforced : s.pwr.forced = false)
    (hrun : s.pwr.state = 0) (hroom : HasRoom s) (aux : Nat) (confirmed : List Nat) : ∃ (x : JEntry) (u : State), x.kind = 4
      ∧ x.object = jObj 9 0x0107 ∧ u.lea = (s.jRing x).lea ∧ u.warmView = s.warmView
      ∧ s.resetCmd from_ aux confirmed = ((0, 0), u.warmReset confirmed) := by
  have hmay : ¬(s.noSession from_ = true ∨ (!s.dangerOk from_) = true) := by simp [hheard, hdanger]
  have hup : ¬(s.boot.warm = true ∨ s.boot.state < 4 ∨ s.boot.state = 7) := by simp [hwarm, hrecovery, Nat.not_lt.mpr hbooted]
  unfold State.resetCmd
  dsimp only
  rw [if_neg hmay, if_neg hup, if_neg (fun h => h.1.elim hlevel (by simp [hforced])), danger_of_hasRoom hroom]
  dsimp only
  generalize hx : ({ origin := authOrigin from_, kind := 4, aux := aux, object := jObj 9 0x0107, old := 0, new := authCode from_
                     data := s.readings } : JEntry) = x
  have hkind : x.kind = 4 := by rw [← hx]
  have hobj : x.object = jObj 9 0x0107 := by rw [← hx]
  have hpwr : (s.jRing x).pwr = s.pwr := pwr_jRing x
  generalize hu : ({ s.jRing x with stw := { (s.jRing x).stw with dangers := (s.jRing x).stw.dangers ++ [x] } } : State) = u
  have hlevel' : ¬u.pwr.level = 3 := by rw [← hu, hpwr]; exact hlevel
  have hrun' : u.pwr.state = 0 := by rw [← hu, hpwr]; exact hrun
  have htrip : u.endTrip = u := if_neg hlevel'
  refine ⟨x, { u with pwr := { u.pwr with wantDormant := false } }, hkind, hobj, by rw [← hu], ?_, ?_⟩
  · rw [← hu]
    exact (congrArg State.warmView (sansPulses_jRing s x) :)
  · rw [htrip, leaveForReset_of_running hrun']

end

end Sys2Proof.Machine
end

section
namespace Sys2Proof.Proofs
open Machine Safety

/-- Settles O46: the reset of a running device, and its refusals. -/
theorem warmResetClearsTheDevice : Obligations.WarmResetClearsTheDevice := by
  unfold Obligations.WarmResetClearsTheDevice
  intro s from_ c
  refine ⟨fun hheard hdanger hwarm hbooted hrecovery hlevel hforced hrun hroom => ?_, fun hnot => ?_, fun hheard hdanger hwarm => ?_⟩
  · obtain ⟨x, u, hkind, hobj, hlea, hview, hcmd⟩ :=
      resetCmd_of_running (s := fresh s) hheard hdanger hwarm hbooted hrecovery hlevel hforced hrun hroom 0xFFFF c
    have hmem : (fresh s).jStamp x false ∈ u.lea.ring := by
      rw [hlea, lea_jRing]
      exact List.mem_append_right _ (List.mem_singleton_self _)
    obtain ⟨hkept, -, -, hentry⟩ := warmKept_warmReset hmem c
    have hkept' := hkept.trans hview
    have hstate := state_warmReset (s := u) c
    have hstep := congrArg (fun r : (Nat × Nat) × State =>
      (Host.Outcome.next (r.2.answer from_ r.1.1 r.1.2 []) : Host.Outcome State Fault Refusal)) hcmd
    generalize u.warmReset c = w at *
    refine ⟨w.answer from_ 0 0 [], ?_, ?_, ?_, ?_, ?_, ?_, ?_, ?_, ?_, ?_, ?_, ?_, ?_,
      List.mem_append_right _ (List.mem_singleton_self _), (fresh s).jStamp x false, hentry, hkind, hobj, rfl⟩
    · exact hstep
    · exact congrArg ResetView.jobs hkept'
    · exact congrArg ResetView.hanks hkept'
    · exact congrArg ResetView.plies hkept'
    · exact congrArg ResetView.cores hkept'
    · exact congrArg ResetView.chans hkept'
    · exact congrArg (fun w : ResetView => w.wrp.image) hkept'
    · exact congrArg (fun w : ResetView => w.wrp.device) hkept'
    · exact hstate
    · exact congrArg ResetView.time hkept'
    · exact congrArg ResetView.pending hkept'
    · exact congrArg ResetView.otp hkept'
    · exact congrArg ResetView.remoteDanger hkept'
  · have hrefused : (fresh s).noSession from_ = true ∨ (!(fresh s).dangerOk from_) = true := by
      obtain ⟨rfl, h⟩ | ⟨rfl, h⟩ := hnot
      · exact .inl (by simp [State.noSession, fresh, h])
      · exact .inr (by simp [State.dangerOk, fresh, h])
    exact congrArg (fun r : (Nat × Nat) × State => Host.Outcome.next (r.2.answer from_ r.1.1 r.1.2 [])) (if_pos hrefused)
  · have hheard' : ¬((fresh s).noSession from_ = true ∨ (!(fresh s).dangerOk from_) = true) := by
      have h1 : (fresh s).noSession from_ = false := hheard
      have h2 : (fresh s).dangerOk from_ = true := hdanger
      simp [h1, h2]
    exact congrArg (fun r : (Nat × Nat) × State => Host.Outcome.next (r.2.answer from_ r.1.1 r.1.2 []))
      ((if_neg hheard').trans (if_pos (.inl hwarm)))

end Sys2Proof.Proofs
end

section
/-! SUPPORT. Overrides, danger actions and the commands that install them (15 R357 to R360, R369). -/
namespace Sys2Proof.Machine
open Safety

section
variable {s : State} {from_ : Authority}

/-! ### The journal's count -/

theorem head_le_change (es : List JEntry) : s.lea.head ≤ (s.change es).2.lea.head := by
  unfold State.change
  dsimp only
  split
  · rw [(ring_foldl_jRing es s.jRoll).1]
    exact (head_le_jRoll s).trans (Nat.le_add_right _ _)
  · exact head_le_jRoll s

/-- A decision on an island takes no entry back. -/
theorem head_le_decideIsland (i op ply load rho : Nat) : s.lea.head ≤ (s.decideIsland i op ply load rho).lea.head := by
  unfold State.decideIsland
  dsimp only
  split
  · exact le_rfl
  split
  · exact le_rfl
  split
  · exact le_rfl
  split
  · unfold State.lowerAsked
    dsimp only
    split
    case h_1 hchange => exact (head_le_change _).trans_eq (congrArg (fun r : Bool × State => r.2.lea.head) hchange)
    case h_2 hchange => exact (head_le_change _).trans_eq (congrArg (fun r : Bool × State => r.2.lea.head) hchange)
  · unfold State.raise
    extract_lets x u v
    have hu : s.lea.head < u.lea.head := head_lt_fact s _
    clear_value u
    exact hu.le

theorem head_le_appDecide : s.lea.head ≤ s.appDecide.lea.head := by
  unfold State.appDecide
  split
  · exact head_le_decideIsland ..
  · exact le_rfl

/-! ### Overrides -/

/-- The override of a command at `s`. -/
def State.overrideOf (s : State) (from_ : Authority) (value dur : Nat) : Override :=
  { auth := authCode from_, value := value, untilNs := s.tck.time + (if dur = 0 then s.stw.dur else dur) * 1000000000 }

/-- `t` has taken entries since `s`, and a command's override at `s` holds the object. -/
def State.Installs (s : State) (from_ : Authority) (object index value dur : Nat) (t : State) : Prop :=
  s.lea.head < t.lea.head ∧ t.holder object index = some (s.overrideOf from_ value dur)

theorem heldAbove_of_free {object index : Nat} (h : s.holder object index = none) : s.heldAbove from_ object index = none := by
  unfold State.heldAbove
  rw [h]

theorem heldAbove_of_higher {object index : Nat} {o : Override} (h : s.holder object index = some o) (hauth : o.auth < authCode from_) :
    s.heldAbove from_ object index = some o.auth := by
  unfold State.heldAbove
  simp only [h, if_pos hauth]

theorem tck_jRing (x : JEntry) : (s.jRing x).tck = s.tck := (congrArg State.tck (sansPulses_jRing s x) :)

theorem stw_jRing (x : JEntry) : (s.jRing x).stw = s.stw := (congrArg State.stw (sansPulses_jRing s x) :)

/-- R357: what `install` does after an entry. -/
theorem installs_install {u : State} (hhead : s.lea.head < u.lea.head) (htck : u.tck = s.tck) (hdur : u.stw.dur = s.stw.dur)
    (object index value dur : Nat) : s.Installs from_ object index value dur (u.install from_ object index value dur) := by
  refine ⟨hhead, (mget?_mset _ _ _).trans ?_⟩
  rw [hdur, htck]
  rfl

/-- R357: a command that no authority holds off installs its override. -/
theorem overrideCmd_installs {dur : Nat} (hdur : dur ≤ 86400) {dangerous : Bool} (hmay : dangerous = false ∨ s.dangerOk from_ = true)
    (hroom : HasRoom s) (aux object index value : Nat) : ∃ t, s.overrideCmd from_ aux object index value dur dangerous none = (mreply 0, t)
      ∧ s.Installs from_ object index value dur t := by
  have hhead (x : JEntry) : s.lea.head < (s.jRing x).lea.head := (head_jRing s x).symm ▸ Nat.lt_succ_self _
  have hmay' : ¬(dangerous = true ∧ (!s.dangerOk from_) = true) := by
    rintro ⟨h1, h2⟩
    obtain h | h := hmay
    · exact absurd h1 (by simp [h])
    · exact absurd h2 (by simp [h])
  unfold State.overrideCmd
  rw [if_neg (Nat.not_lt.mpr hdur), if_neg hmay']
  cases dangerous with
  | false =>
    simp only [Bool.false_eq_true, if_false, change_of_hasRoom hroom]
    exact ⟨_, rfl, installs_install (hhead _) (tck_jRing _) (congrArg Stw.dur (stw_jRing _)) ..⟩
  | true =>
    simp only [if_true, danger_of_hasRoom hroom]
    exact ⟨_, rfl, installs_install (hhead _) (tck_jRing _) (congrArg Stw.dur (stw_jRing _)) ..⟩

/-- R360: a danger action from an authority that may order none is refused. -/
theorem overrideCmd_of_notPermitted {dur : Nat} (hdur : dur ≤ 86400) (hmay : s.dangerOk from_ = false) (aux object index value : Nat)
    (held : Option Nat) : s.overrideCmd from_ aux object index value dur true held = (mreply 0x03, s) :=
  (if_neg (Nat.not_lt.mpr hdur)).trans (if_pos ⟨rfl, by simp [hmay]⟩)

theorem refusal_of_hasRoom (hroom : HasRoom s) (e : JEntry) : s.refusal e = s.jRing { e with kind := 2 } := by
  have hjroom : s.jRoom 1 = true := by simpa [State.jRoom] using hroom.2
  unfold State.refusal
  dsimp only
  rw [jRoll_of_epoch hroom.1, if_pos hjroom]

/-- R357: the refusal of a command on an object that a higher authority holds has an entry. -/
theorem overrideCmd_of_held {dur by_ object index : Nat} {o : Override} (hdur : dur ≤ 86400) (hroom : HasRoom s)
    (ho : s.holder object index = some o) (aux value : Nat) : ∃ e : JEntry, e.object = jObj 9 object ∧ e.old = o.auth
      ∧ e.new = authCode from_ ∧ s.overrideCmd from_ aux object index value dur false (some by_) = (some (0x51, by_, []), s.jRing e) := by
  unfold State.overrideCmd State.refuseHeld
  rw [if_neg (Nat.not_lt.mpr hdur), if_neg (by simp)]
  dsimp only
  rw [refusal_of_hasRoom hroom]
  refine ⟨_, rfl, ?_, rfl, rfl⟩
  simp [State.overrideEntry, ho]

/-- R357: RELEASE by an authority that the holder is not above. -/
theorem releaseCmd_of_holder {object index : Nat} {o : Override}
    (hobj : ([0x0102, 0x0103, 0x0104, 0x0105, 0x0106, 0x0109].contains object) = true) (hindex : index < 256)
    (ho : s.holder object index = some o) (hauth : authCode from_ ≤ o.auth) (hroom : HasRoom s) (aux : Nat) : ∃ e : JEntry,
      e.object = jObj 9 object ∧ e.old = o.auth ∧ e.new = 0
        ∧ s.releaseCmd from_ aux object index = (mreply 0, (s.jRing e).dropOverride object index) := by
  unfold State.releaseCmd
  rw [if_neg (by simp only [hobj]; simpa using hindex)]
  simp only [ho, if_neg (Nat.not_lt.mpr hauth), change_of_hasRoom hroom]
  refine ⟨_, rfl, ?_, rfl, rfl⟩
  simp [State.overrideEntry, ho]

theorem dropOverride_of_other {object index : Nat} (h : ¬(object = 0x0104 ∧ index = 5)) : s.dropOverride object index =
    { s with stw := { s.stw with overrides := mdel s.stw.overrides (object * 256 + index) } } := if_neg h

/-- R357: an override whose duration has ended gives its object back, with a record. -/
theorem exec_overrideExpiry {object index : Nat} {o : Override} (ho : s.holder object index = some o) (h : ¬(object = 0x0104 ∧ index = 5)) :
    ∃ t, exec (.overrideExpiry object index) s = .next t ∧ t.stw.overrides = mdel s.stw.overrides (object * 256 + index)
      ∧ s.lea.head < t.lea.head := by
  have hexec : exec (.overrideExpiry object index) s = execOverrideExpiry object index s := rfl
  have ho' : ({ s with out := [] } : State).holder object index = some o := ho
  rw [hexec]
  unfold execOverrideExpiry
  dsimp only
  rw [ho']
  dsimp only
  rw [dropOverride_of_other h]
  refine ⟨_, rfl, ?_, ?_⟩
  · exact congrArg (fun w : Stw => mdel w.overrides (object * 256 + index)) (stw_fact _)
  · exact head_lt_fact (fresh s) _

/-- R360: the after-readings of the oldest danger action are a record. -/
theorem dangerAfter_of_cons {e : JEntry} {rest : List JEntry} (h : s.stw.dangers = e :: rest) :
    s.dangerAfter.stw.dangers = rest ∧ s.lea.head < s.dangerAfter.lea.head := by
  unfold State.dangerAfter
  simp only [h]
  exact ⟨congrArg Stw.dangers (stw_fact _), head_lt_fact { s with stw := { s.stw with dangers := rest } } _⟩

/-! ### Commands -/

/-- R369: PIN installs its override; APP follows at once. -/
theorem pinCmd_installs {i value dur : Nat} (hi : i ∈ s.islands) (hvalue : value < 2 ^ 24) (hpin : bits value 7 0 = 0xFF)
    (hlo : bits value 15 8 ≤ 7) (hhi : bits value 23 16 ≤ (s.isl i).cur) (hcur : (s.isl i).cur ≤ 7) (hfree : s.holder 0x0104 i = none)
    (hdur : dur ≤ 86400) (hroom : HasRoom s) (aux : Nat) :
    ∃ t, s.pinCmd from_ aux i value dur = (mreply 0, t) ∧ s.Installs from_ 0x0104 i value dur t := by
  obtain ⟨t, hcmd, hhead, hholder⟩ := overrideCmd_installs (from_ := from_) hdur (dangerous := false) (.inl rfl) hroom aux 0x0104 i value
  have hsafe : (decide (bits value 7 0 < 8 ∧ (s.isl i).cur < bits value 7 0) || decide ((s.isl i).cur < bits value 23 16)) = false := by
    simp only [hpin]
    simpa using hhi
  have hrange : ¬((!s.islands.contains i) = true ∨ 2 ^ 24 ≤ value ∨ (7 < bits value 7 0 ∧ bits value 7 0 ≠ 0xFF)
      ∨ 7 < bits value 15 8 ∨ 7 < bits value 23 16) := by
    simp only [hpin]
    have hmem : s.islands.contains i = true := List.contains_iff_mem.mpr hi
    rintro (h | h | ⟨-, h⟩ | h | h)
    · exact absurd h (by simp [hi])
    · exact absurd hvalue (Nat.not_lt.mpr h)
    · exact h rfl
    · omega
    · omega
  unfold State.pinCmd
  dsimp only
  rw [if_neg hrange, hsafe, heldAbove_of_free hfree, hcmd]
  refine ⟨_, rfl, ?_⟩
  dsimp only
  split
  · exact ⟨hhead.trans_le head_le_appDecide, (congrArg (fun u : State => u.holder 0x0104 i) (sansIslands_appDecide t) :).trans hholder⟩
  · exact ⟨hhead, hholder⟩

/-- R369: TDP within the variant's range is one override command. -/
theorem tdpCmd_of_range {value dur : Nat} (hlo : (tdpRange s.variant).1 ≤ 2 * value) (hhi : 2 * value ≤ (tdpRange s.variant).2.1)
    (hfree : s.holder 0x0105 0 = none) (aux : Nat) : s.tdpCmd from_ aux value dur =
      s.overrideCmd from_ aux 0x0105 0 (2 * value) dur (decide (s.tdpNow < 2 * value)) none := by
  unfold State.tdpCmd
  dsimp only
  rw [if_neg (not_or.mpr ⟨Nat.not_lt.mpr hlo, Nat.not_lt.mpr hhi⟩), heldAbove_of_free hfree]

/-- R369: FAN that does not lower the cooling is one override command. -/
theorem fanCmd_of_duty {f value dur : Nat} (hf : f < 4) (hvalue : value ≤ 100) (hduty : s.stw.curveDuty ≤ value)
    (hfree : s.fanHolder f = none)
    (aux : Nat) : s.fanCmd from_ aux f value dur = s.overrideCmd from_ aux 0x0106 f value dur false none := by
  unfold State.fanCmd
  dsimp only
  rw [if_neg (by omega), decide_eq_false (Nat.not_lt.mpr hduty), hfree]

/-- R369, R339: POWER 2 of a running device begins Hold entry and installs its override. -/
theorem powerCmd_hold (hrun : s.pwr.state = 0) (hlevel : s.pwr.level ≠ 3) (hforced : s.pwr.forced = false) (hfree : s.holder 0x0103 0 = none)
    (hpower : s.pins.pwrEn = true) (hroom : HasRoom s) {dur : Nat} (hdur : dur ≤ 86400) : ∃ t, s.powerCmd from_ 0xFFFF 2 dur = (mreply 0, t)
      ∧ t.pwr.state = 1 ∧ (t.holder 0x0103 0).map (·.auth) = some (authCode from_) := by
  obtain ⟨e, -, -, -, horder⟩ := powerOrder_hold (from_ := from_) hrun (powerHolder_of_free hlevel hforced hfree 2) hroom
  obtain ⟨hpwr, -, hpins⟩ := enterHold_state (s := (s.jRing e).ordered) (authOrigin from_)
  generalize (s.jRing e).ordered.enterHold (authOrigin from_) = t at horder hpwr hpins
  have hbusy : t.pwr.result.busy = true := by rw [hpwr]; rfl
  have hpower' : t.pins.pwrEn = true := by
    rw [hpins]
    exact (congrArg (fun u : State => u.pins.pwrEn) (sansPulses_jRing s e) :).trans hpower
  have hstate : t.pwr.state = 1 := by rw [hpwr]
  unfold State.powerCmd
  rw [if_neg (by omega)]
  dsimp only
  rw [horder]
  dsimp only
  rw [pwrResult_of_busy hbusy, if_pos hpower']
  exact ⟨_, rfl, hstate, congrArg (Option.map _) (mget?_mset ..)⟩

/-! ### Answers -/

theorem managed_of_may (hmay : s.mayManage from_ = true) (f : State → MReply × State) : (fresh s).managed from_ f = f (fresh s) := if_pos hmay

section
variable (a : MgmtArgs)

theorem exec_warplock : exec (.warplock a) s = .next (mgmtOut a.from_ ((fresh s).managed a.from_
    (fun s => s.warplockCmd a.from_ (authCode a.from_) a.durationS))) := rfl

theorem exec_pin : exec (.pin a) s = .next (mgmtOut a.from_ ((fresh s).managed a.from_
    (fun s => s.pinCmd a.from_ (authCode a.from_) a.object a.value a.durationS))) := rfl

theorem exec_tdp : exec (.tdp a) s = .next (mgmtOut a.from_ ((fresh s).managed a.from_
    (fun s => s.tdpCmd a.from_ (authCode a.from_) a.value a.durationS))) := rfl

theorem exec_fan : exec (.fan a) s = .next (mgmtOut a.from_ ((fresh s).managed a.from_
    (fun s => s.fanCmd a.from_ (authCode a.from_) a.object a.value a.durationS))) := rfl

theorem exec_release : exec (.release a) s = .next (mgmtOut a.from_ ((fresh s).managed a.from_
    (fun s => s.releaseCmd a.from_ (authCode a.from_) a.object a.value))) := rfl

theorem exec_power : exec (.power a) s = .next (mgmtOut a.from_ ((fresh s).managed a.from_
    (fun s => s.powerCmd a.from_ 0xFFFF a.value a.durationS))) := rfl

theorem exec_unit : exec (.unit a) s = .next (mgmtOut a.from_ ((fresh s).managed a.from_
    (fun s => s.unitCmd a.from_ (authCode a.from_) a.object a.value a.durationS))) := rfl

end

/-- A command that is answered at once is answered last. -/
theorem mem_out_mgmtOut (t : State) (st h : Nat) (d : List Nat) :
    Out.mgmt (authCode from_) st h d ∈ (mgmtOut from_ (some (st, h, d), t)).out :=
  List.mem_append_right _ (List.mem_singleton_self _)

end

end Sys2Proof.Machine
end

section
namespace Sys2Proof.Proofs
open Machine Safety

/-- Settles O54: each command by what it comes to, and its answer. -/
theorem overridesAreHeldByAuthority : Obligations.OverridesAreHeldByAuthority := by
  unfold Obligations.OverridesAreHeldByAuthority
  intro s a hmay hdur au replied installed
  have hanswer {cmd : Instr} {f : State → MReply × State} {r : MReply × State}
      (hexec : exec cmd s = .next (mgmtOut a.from_ ((fresh s).managed a.from_ f))) (hf : f (fresh s) = r) :
      exec cmd s = .next (mgmtOut a.from_ r) :=
    hexec.trans (congrArg (fun r => Host.Outcome.next (mgmtOut a.from_ r)) ((managed_of_may hmay f).trans hf))
  have hinstalled {cmd : Instr} {f : State → MReply × State} {object index value : Nat}
      (hexec : exec cmd s = .next (mgmtOut a.from_ ((fresh s).managed a.from_ f)))
      (hf : ∃ t, f (fresh s) = (mreply 0, t) ∧ (fresh s).Installs a.from_ object index value a.durationS t) :
      installed cmd object index value := by
    obtain ⟨t, hcmd, hhead, hholder⟩ := hf
    exact ⟨_, hanswer hexec hcmd, mem_out_mgmtOut t 0 0 [], hhead, hholder⟩
  refine ⟨fun hfree hroom => ?_, fun o ho hauth hroom => ?_, fun hi hvalue hpin hlo hhi hcur hfree hroom => ?_, ?_,
    fun hf hvalue hduty hfree hroom => ?_, fun o hobj hvalue ho hauth hroom => ?_, fun o ho => ?_, fun e rest hdangers => ?_,
    fun hvalue hrun hlevel hforced hfree hpower hroom => ?_⟩
  · refine hinstalled (exec_warplock a) ?_
    unfold State.warplockCmd
    rw [heldAbove_of_free (s := fresh s) hfree]
    exact overrideCmd_installs (s := fresh s) hdur (.inl rfl) hroom _ _ _ _
  · obtain ⟨e, hobj, hold, hnew, hcmd⟩ := overrideCmd_of_held (s := fresh s) (from_ := a.from_) (by_ := o.auth) hdur hroom ho au 0
    rw [← heldAbove_of_higher (s := fresh s) ho hauth] at hcmd
    refine ⟨_, hanswer (exec_warplock a) hcmd, mem_out_mgmtOut _ 0x51 o.auth [], ?_, ?_⟩
    · exact (congrArg (fun w : Stw => mget? w.overrides (0x0109 * 256 + 0)) (stw_jRing (s := fresh s) e)).trans ho
    · have hone := oneEntry_jRing (fresh s) e
      rw [hobj, hold, hnew] at hone
      exact hone
  · exact hinstalled (exec_pin a) (pinCmd_installs (s := fresh s) hi hvalue hpin hlo hhi hcur hfree hdur hroom au)
  · intro r hlo hhi hfree hroom
    have htdp := tdpCmd_of_range (s := fresh s) (from_ := a.from_) (dur := a.durationS) hlo hhi hfree au
    refine ⟨fun hmay' => hinstalled (exec_tdp a) ?_, fun hrise hmay' => ?_⟩
    · rw [htdp]
      refine overrideCmd_installs (s := fresh s) hdur ?_ hroom _ _ _ _
      exact hmay'.imp_left (fun h => decide_eq_false (Nat.not_lt.mpr h))
    · rw [decide_eq_true (p := (fresh s).tdpNow < 2 * a.value) hrise] at htdp
      exact hanswer (exec_tdp a) (htdp.trans (overrideCmd_of_notPermitted (s := fresh s) hdur hmay' ..))
  · refine hinstalled (exec_fan a) ?_
    rw [fanCmd_of_duty (s := fresh s) hf hvalue hduty hfree]
    exact overrideCmd_installs (s := fresh s) hdur (.inl rfl) hroom _ _ _ _
  · obtain ⟨e, hobj', hold, hnew, hcmd⟩ :=
      releaseCmd_of_holder (s := fresh s) (from_ := a.from_) (object := 0x0109) (index := 0) rfl (by omega) ho hauth hroom au
    rw [dropOverride_of_other (by omega)] at hcmd
    have hone := oneEntry_jRing (fresh s) e
    rw [hobj', hold, hnew] at hone
    have hover : ((fresh s).jRing e).stw.overrides = s.stw.overrides := by
      rw [stw_jRing]
      rfl
    rw [hover] at hcmd
    have hrelease := (congrArg₂ ((fresh s).releaseCmd a.from_ au) hobj hvalue).trans hcmd
    exact ⟨_, hanswer (exec_release a) hrelease, mem_out_mgmtOut _ 0 0 [], hone, rfl⟩
  · obtain ⟨t, hexec, hstw, hhead⟩ := exec_overrideExpiry ho (by omega)
    exact ⟨t, hexec, hstw, hhead⟩
  · obtain ⟨hrest, hhead⟩ := dangerAfter_of_cons (s := fresh s) hdangers
    exact ⟨_, rfl, hrest, hhead⟩
  · obtain ⟨t, hcmd, hstate, hholder⟩ := powerCmd_hold (s := fresh s) (from_ := a.from_) hrun hlevel hforced hfree hpower hroom hdur
    have hpow := (congrArg (fun v => (fresh s).powerCmd a.from_ 0xFFFF v a.durationS) hvalue).trans hcmd
    exact ⟨_, hanswer (exec_power a) hpow, mem_out_mgmtOut t 0 0 [], hstate, hholder⟩

end Sys2Proof.Proofs
end

section
/-! SUPPORT. LOGIN and STATUS (15 R369). -/
namespace Sys2Proof.Machine
open Safety

section
variable {s : State} {from_ : Authority}

/-- R369: LOGIN draws a nonce, and opens the session when the key is an operator's and has signed it. -/
theorem login_eq (hrom : s.boot.state ≠ 7) (key r v : Nat) : s.login key r v =
    let n := Config.free s.freeCount % 2 ^ 256
    let drawn : State := { s with freeCount := s.freeCount + 1, stw := { s.stw with nonce := s.stw.nonce + 1 } }
    if s.operatorKey key = true ∧ Crypto.verify key (Crypto.sha384 (beBytes 32 n ++ beBytes 8 s.nv.otp.serial)) r v = true then
      ({ drawn with stw := { drawn.stw with session := true, sessionKey := key } } : State).answer .console 0 0 [n]
    else drawn.answer .console 0x03 0 [n] := if_neg hrom

/-- R369: a console without a session may give no command. -/
theorem mayManage_of_closed (h : s.stw.session = false) : s.mayManage .console = false := by
  simp [State.mayManage, State.noSession, h]

/-- A command from one that may give none is refused. -/
theorem managed_of_not (hmay : s.mayManage from_ = false) (f : State → MReply × State) :
    mgmtOut from_ ((fresh s).managed from_ f) = { s with out := [.mgmt (authCode from_) 0x03 0 []] } := by
  have hmay' : ¬(fresh s).mayManage from_ = true := by
    intro h
    exact absurd ((hmay.symm.trans h :)) (by decide)
  exact congrArg (mgmtOut from_) (if_neg hmay')

/-- R369: STATUS has the tier, the power state, the level and the power, the 16 sites, and the 192 units. -/
theorem statusData_parts : s.statusData.take 4 = [s.tier, s.pwr.state, s.pwr.level, s.power1s] ∧ s.statusData.length = 4 + 16 + 192
    ∧ ∀ i, i < 192 → s.statusData.getD (20 + i) 0 = (s.unitSt i).state := by
  have hlen : ([s.tier, s.pwr.state, s.pwr.level, s.power1s] ++ (List.range 16).map (fun i => s.stw.sites.getD i 0)).length = 20 := by simp
  refine ⟨rfl, by simp [State.statusData], fun i hi => ?_⟩
  unfold State.statusData
  rw [List.getD_append_right _ _ _ _ (by omega), hlen, Nat.add_sub_cancel_left]
  simp [List.getD_eq_getElem?_getD, hi]

end

end Sys2Proof.Machine
end

section
namespace Sys2Proof.Proofs
open Machine Safety

/-- Settles O55: each command by its branch. -/
theorem sessionsOpenTheConsole : Obligations.SessionsOpenTheConsole := by
  unfold Obligations.SessionsOpenTheConsole
  intro s key r v a f n ok drawn
  refine ⟨fun hrom => ?_, rfl, rfl, fun hconsole hclosed cmd hcmd => ?_, fun hrom from_ => ?_, fun hrom from_ => ?_⟩
  · refine (congrArg Host.Outcome.next (login_eq (s := f) hrom key r v)).trans (congrArg Host.Outcome.next ?_)
    by_cases hok : ok
    · exact (if_pos hok).trans (if_pos hok).symm
    · exact (if_neg hok).trans (if_neg hok).symm
  · obtain ⟨from_, object, value, dur⟩ := a
    obtain rfl : from_ = .console := hconsole
    have hrefused (f : State → MReply × State) : (.next (mgmtOut .console ((fresh s).managed .console f)) : Host.Outcome State Fault Refusal)
        = .next { s with out := [.mgmt 3 0x03 0 []] } := congrArg Host.Outcome.next (managed_of_not (mayManage_of_closed hclosed) f)
    simp only [List.mem_cons, List.not_mem_nil, or_false] at hcmd
    obtain rfl | rfl | rfl | rfl | rfl | rfl | rfl := hcmd
    · exact (exec_unit _).trans (hrefused _)
    · exact (exec_power _).trans (hrefused _)
    · exact (exec_pin _).trans (hrefused _)
    · exact (exec_tdp _).trans (hrefused _)
    · exact (exec_fan _).trans (hrefused _)
    · exact (exec_release _).trans (hrefused _)
    · exact (exec_warplock _).trans (hrefused _)
  · exact congrArg (fun r : MReply × State => Host.Outcome.next (mgmtOut from_ r)) (if_pos (c := f.boot.state = 7) hrom)
  · refine ⟨s.statusData, ?_, statusData_parts⟩
    exact congrArg (fun r : MReply × State => Host.Outcome.next (mgmtOut from_ r)) (if_neg (c := f.boot.state = 7) hrom)

end Sys2Proof.Proofs
end

section
/-! SUPPORT. Frames of the tray link, and what a peer does with them (15 R361 to R369; 18 R414, R416). -/
namespace Sys2Proof.Machine
open Safety

/-! ### Links -/

/-- R362: a link that has received the acknowledgement `ack`. -/
def Link.hears (l : Link) (ack : Nat) : Link :=
  { l with unacked := match l.unacked with
    | some w => if w.seq = ack then none else some w
    | none => none }

section
variable {s : State}

@[simp] theorem link_setLink (a : Nat) (l : Link) : (s.setLink a l).link a = l := mget_mset ..

theorem link_setLink_ne {a b : Nat} (l : Link) (h : b ≠ a) : (s.setLink a l).link b = s.link b := mget_mset_ne _ _ _ _ _ h

@[simp] theorem setLink_setLink (a : Nat) (l m : Link) : (s.setLink a l).setLink a m = s.setLink a m := by
  simp only [State.setLink, mset_mset]

/-- R362: a frame of a link takes its SEQ, has its last accepted SEQ as ACK, and waits. -/
theorem sendFrame_setLink (a ty : Nat) (l : Link) (p : List Nat) : (s.setLink a l).sendFrame a ty p =
    (s.setLink a { l with txSeq := (l.txSeq + 1) % 256, unacked := some { type := ty, seq := l.txSeq, payload := p } }).emit
      (.ebvar a s.stw.trayAddr ty l.txSeq (l.rxSeq.getD 0) p) := by
  unfold State.sendFrame State.putFrame
  simp only [link_setLink, setLink_setLink]
  rfl

/-! ### The opportunity to send again -/

theorem resendOr_of_acked {a : Nat} (h : (s.link a).unacked = none) (f : State → State) : s.resendOr a f = f s := by
  unfold State.resendOr
  simp only [h]

theorem resendOr_of_exhausted {a : Nat} {w : Sent} (h : (s.link a).unacked = some w) (hw : w.left = 0) (f : State → State) :
    s.resendOr a f = f s := by
  unfold State.resendOr
  simp only [h]
  exact if_pos hw

theorem resendOr_of_waiting {a : Nat} {w : Sent} (h : (s.link a).unacked = some w) (hw : w.left ≠ 0) (f : State → State) :
    s.resendOr a f = (s.setLink a { s.link a with unacked := some { w with left := w.left - 1 } }).emit
      (.ebvar a s.stw.trayAddr w.type w.seq ((s.link a).rxSeq.getD 0) w.payload) := by
  unfold State.resendOr State.putFrame
  simp only [h]
  rw [if_neg hw, link_setLink]
  rfl

/-! ### Acceptance -/

variable {h : Ebvar}

/-- R361: a frame without fault that is addressed to this chip. -/
structure State.Addressed (s : State) (h : Ebvar) : Prop where
  joined : s.stw.role ≠ 2
  up : s.boot.state ≠ 7
  crc : h.crcOk = true
  other : h.src ≠ s.stw.trayAddr
  here : h.dst = s.stw.trayAddr
  master : s.stw.role = 0 → h.src = 0

/-- R362: the link of an accepted frame. -/
def State.heardFrom (s : State) (h : Ebvar) : State :=
  s.setLink h.src { (s.link h.src).hears h.ack with rxSeq := some h.seq }

theorem hear_of_addressed (ha : s.Addressed h) : s.hear h = if (s.link h.src).rxSeq = some h.seq then
    (.repeated, s.setLink h.src ((s.link h.src).hears h.ack)) else (.fresh, s.heardFrom h) := by
  obtain ⟨hjoined, hup, hcrc, hother, hhere, hmaster⟩ := ha
  unfold State.hear
  rw [if_neg (not_or.mpr ⟨hjoined, hup⟩), if_neg (by simp [hcrc]), if_neg hother, if_neg (fun hn => hn.1 hhere),
    if_neg (fun hn => hn.2 (hmaster hn.1))]
  extract_lets l l'
  have hl : l' = l.hears h.ack := by
    unfold l'
    clear_value l
    obtain ⟨tx, rx, unacked⟩ := l
    cases unacked with
    | none => rfl
    | some w => by_cases hw : w.seq = h.ack <;> simp [Link.hears, hw]
  simp only [hl]
  rfl

/-- R361: a new frame is answered. -/
theorem onFrame_of_new (ha : s.Addressed h) {role : Nat} (hrole : s.stw.role = role) (hnew : (s.link h.src).rxSeq ≠ some h.seq) (ty : Nat)
    (f : State → State) : s.onFrame role ty h f = f (s.heardFrom h) := by
  unfold State.onFrame
  rw [if_neg (fun hn => hn.1 hrole), hear_of_addressed ha, if_neg hnew]

/-- R362: a repeated frame is acknowledged again. -/
theorem onFrame_of_repeated (ha : s.Addressed h) {role : Nat} (hrole : s.stw.role = role) (hseen : (s.link h.src).rxSeq = some h.seq) (ty : Nat)
    (f : State → State) : s.onFrame role ty h f = (s.setLink h.src ((s.link h.src).hears h.ack)).ackAgain h ty := by
  unfold State.onFrame
  rw [if_neg (fun hn => hn.1 hrole), hear_of_addressed ha, if_pos hseen]

/-- R361: a frame with a bad CRC is counted. -/
theorem onFrame_of_badCrc (hjoined : s.stw.role ≠ 2) (hup : s.boot.state ≠ 7) (hcrc : h.crcOk = false) (role ty : Nat) (f : State → State) :
    s.onFrame role ty h f = { s with stw := { s.stw with crc := satAdd 32 s.stw.crc 1 } } := by
  unfold State.onFrame State.hear
  rw [if_neg (fun hn => by simp [hcrc] at hn), if_neg (not_or.mpr ⟨hjoined, hup⟩), if_pos (by simp [hcrc])]

/-- R363: a frame from the chip's own address isolates it. -/
theorem onFrame_of_conflict (hjoined : s.stw.role ≠ 2) (hup : s.boot.state ≠ 7) (hcrc : h.crcOk = true) (hsrc : h.src = s.stw.trayAddr)
    (role ty : Nat) (f : State → State) : s.onFrame role ty h f = s.isolate (s.stw.role == 1) := by
  unfold State.onFrame State.hear
  rw [if_neg (fun hn => hn.2.2.2 hsrc), if_neg (not_or.mpr ⟨hjoined, hup⟩), if_neg (by simp [hcrc]), if_pos hsrc]

/-- R363: the isolation of an address conflict. -/
theorem isolate_address : (s.isolate false).stw.role = 2 ∧ (s.isolate false).stw.addrConflict = true
    ∧ s.lea.head < (s.isolate false).lea.head := by
  unfold State.isolate
  extract_lets old _ t
  have hrole : t.stw.role = 2 := rfl
  have haddr : t.stw.addrConflict = true := Bool.or_true _
  have hhead : s.lea.head = t.lea.head := rfl
  clear_value t
  rw [stw_fact]
  exact ⟨hrole, haddr, hhead ▸ head_lt_fact t _⟩

/-- R369: STATUS of the tray master is answered in a MGMT_RPL frame. -/
theorem forwarded_status (hup : s.boot.state ≠ 7) (object value dur origin : Nat) (data : List Byte) :
    s.forwarded 0x0101 object value dur origin data =
      (s.answer .trayMaster 0 0 s.statusData).sendFrame 0 6 ([0x0101, 0, 0] ++ s.statusData) := by
  have hmanage (a : MgmtArgs) (aux : Nat) : s.manage 0x0101 a aux = (some (0, 0, s.statusData), s) := if_neg hup
  unfold State.forwarded
  rw [if_neg (by omega), if_neg (by omega), if_neg (by omega), hmanage]

/-! ### Relay work at a peer -/

variable {r : RelayFrame}

theorem relayed_of_stale (hold : r.epoch < (s.peer 0).epoch) :
    s.relayed r = { s with stw := { s.stw with staleRelay := satAdd 32 s.stw.staleRelay 1 } } := if_pos hold

/-- R416: a job of a hank without a record here is refused. -/
theorem relayed_of_noRecord (hepoch : (s.peer 0).epoch ≤ r.epoch) (hstage : s.stage? r = none)
    (hhank : hankRec? s.img r.hank r.remotePly = none) : s.relayed r = s.relayReply r 5 4 0 [] := by
  have hadmit : s.relayAdmit r = ((5, 4), s) := if_pos (by simp [hhank])
  unfold State.relayed
  rw [if_neg (Nat.not_lt.mpr hepoch), hstage]
  dsimp only
  rw [hadmit]
  rfl

/-- R368: a frame of a staged job that runs here is worked on. -/
theorem relayed_of_running {x : RelayStage} (hepoch : (s.peer 0).epoch ≤ r.epoch) (hstage : s.stage? r = some x)
    (hruns : ∀ j, s.job? x.own = some j → j.phase = .running) : s.relayed r = s.relayWork r x := by
  unfold State.relayed State.relayDo
  rw [if_neg (Nat.not_lt.mpr hepoch), hstage]
  dsimp only
  cases hjob : s.job? x.own with
  | none => rfl
  | some j => exact if_pos (by simp [hruns j hjob])

/-- R368: the stages of a peer become `l`. -/
def State.putStages (s : State) (l : List RelayStage) : State := { s with stw := { s.stw with stages := l } }

/-- R368: the stages when the first data of a stage arrive. -/
def State.staged (s : State) (r : RelayFrame) (x : RelayStage) : List RelayStage :=
  s.stw.stages.filter (fun y => !(y.job == x.job && y.epoch == x.epoch)) ++ [{ x with base := r.addr, data := overlay [] 0 r.data }]

/-- R368: the first data of a staged PUT. -/
theorem relayWork_of_firstData {x : RelayStage} (hended : x.ended = 0) (hfirst : x.data = []) (hput : r.put = true) (hdata : r.data ≠ [])
    (hmore : r.commit = false) : s.relayWork r x = (s.putStages (s.staged r x)).relayReply r 0 0 0 [] := by
  unfold State.relayWork
  dsimp only
  rw [if_neg (fun hn => hn hended), if_neg (by simp [hput]), if_pos hfirst, if_neg hdata, if_pos (by simp [hmore]), hfirst, Nat.sub_self]
  rfl

end

end Sys2Proof.Machine
end

section
namespace Sys2Proof.Proofs
open Machine Safety

/-- Settles O56: each frame by what the peer's acceptance makes of it. -/
theorem peersAnswerTheirMaster : Obligations.PeersAnswerTheirMaster := by
  unfold Obligations.PeersAnswerTheirMaster
  intro s h e hrole hrom f l mine l1 me heard sends self_
  have hjoined : s.stw.role ≠ 2 := by omega
  have haddressed (hm : mine) : f.Addressed h := by
    obtain ⟨hcrc, hsrc, hdst, hpos, -⟩ := hm
    exact ⟨hjoined, hrom, hcrc, fun hn => absurd (hsrc.symm.trans hn) (Nat.ne_of_lt hpos), hdst, fun _ => hsrc⟩
  have hheard (hm : mine) : f.heardFrom h = heard := by
    unfold State.heardFrom
    rw [hm.2.1]
    rfl
  have hnewLink (hm : mine) (hnew : l.rxSeq ≠ some h.seq) : (f.link h.src).rxSeq ≠ some h.seq := by
    rw [hm.2.1]
    exact hnew
  have hnew (hm : mine) (hnew : l.rxSeq ≠ some h.seq) (ty : Nat) (g : State → State) :
      (.next (f.onFrame 0 ty h g) : Host.Outcome State Fault Refusal) = .next (g heard) :=
    congrArg Host.Outcome.next ((onFrame_of_new (haddressed hm) hrole (hnewLink hm hnew) ty g).trans (congrArg g (hheard hm)))
  have hunicast (hm : mine) : h.dst ≠ 0xFF := by
    obtain ⟨-, -, hdst, -, hlt⟩ := hm
    omega
  have hnext {u v : State} (h : u = v) : (.next u : Host.Outcome State Fault Refusal) = .next v := congrArg Host.Outcome.next h
  refine ⟨fun hcrc => ?_, fun hcrc hsrc => ?_, fun hm hseen => ?_, fun hm hfresh => ?_, fun hm hfresh => ?_,
    fun hm hfresh object value dur origin data => ?_, ?_, rfl, fun r hr hm hfresh hold => ?_, fun r hr hm hfresh hepoch hstage hhank => ?_,
    fun r x hr hm hfresh hepoch hstage hended hfirst hput hruns hdata hmore => ?_⟩
  · exact hnext (onFrame_of_badCrc (s := f) hjoined hrom hcrc ..)
  · have hiso := onFrame_of_conflict (s := f) hjoined hrom hcrc hsrc 0 2 (fun s => if h.dst = 0xFF then s else s.polled e)
    have hrole' : (f.stw.role == 1) = false := by
      change (s.stw.role == 1) = false
      simp [hrole]
    rw [hrole'] at hiso
    exact ⟨_, hnext hiso, isolate_address (s := f)⟩
  · have hseen' : (f.link h.src).rxSeq = some h.seq := by
      rw [hm.2.1]
      exact hseen
    have hrep := onFrame_of_repeated (haddressed hm) hrole hseen' 2 (fun s => if h.dst = 0xFF then s else s.polled e)
    have hack : (f.setLink h.src ((f.link h.src).hears h.ack)).ackAgain h 2 = (f.setLink 0 l1).resendOr 0
        (fun s => s.putFrame 0 2 (((s.link 0).txSeq + 255) % 256) []) := by
      unfold State.ackAgain
      rw [if_neg (hunicast hm), hm.2.1]
      rfl
    have hlink : (f.setLink 0 l1).link 0 = l1 := link_setLink 0 l1
    have hrx : (l1.rxSeq.getD 0) = h.seq := congrArg (Option.getD · 0) hseen
    have hexec := hnext (hrep.trans hack)
    cases hunacked : l1.unacked with
    | none =>
      rw [resendOr_of_acked (by rw [hlink]; exact hunacked)] at hexec
      refine ⟨_, hexec, rfl, rfl, fun _ => ?_, fun w hw => absurd hw (by simp)⟩
      change [Out.ebvar 0 me 2 ((((f.setLink 0 l1).link 0).txSeq + 255) % 256) (((f.setLink 0 l1).link 0).rxSeq.getD 0) []] = _
      rw [hlink, hrx]
    | some w =>
      by_cases hw : w.left = 0
      · rw [resendOr_of_exhausted (by rw [hlink]; exact hunacked) hw] at hexec
        exact ⟨_, hexec, rfl, rfl, fun hn => absurd hn (by simp), fun w' hw' hleft => absurd ((Option.some.inj hw') ▸ hw) hleft⟩
      · rw [resendOr_of_waiting (by rw [hlink]; exact hunacked) hw, hlink, hrx] at hexec
        refine ⟨_, hexec, rfl, rfl, fun hn => absurd hn (by simp), fun w' hw' _ => ?_⟩
        obtain rfl := Option.some.inj hw'
        exact ⟨rfl, congrArg Link.unacked (link_setLink 0 _)⟩
  · exact (hnew hm hfresh 2 _).trans (hnext (if_neg (hunicast hm)))
  · refine (hnew hm hfresh 4 _).trans (hnext ((if_neg (hunicast hm)).trans ?_))
    exact sendFrame_setLink (s := f) 0 4 _ _
  · exact (hnew hm hfresh 6 _).trans (hnext (forwarded_status (s := heard) hrom object value dur origin data))
  · exact hnext (if_neg (fun hn => hn hrole))
  · subst hr
    exact (hnew hm hfresh 8 _).trans (hnext (relayed_of_stale (s := heard) hold))
  · subst hr
    refine (hnew hm hfresh 8 _).trans (hnext ?_)
    exact (relayed_of_noRecord (s := heard) hepoch hstage hhank).trans (sendFrame_setLink (s := f) 0 8 _ _)
  · subst hr
    refine (hnew hm hfresh 8 _).trans (hnext ?_)
    refine (relayed_of_running (s := heard) hepoch hstage hruns).trans ((relayWork_of_firstData hended hfirst hput hdata hmore).trans ?_)
    exact sendFrame_setLink (s := f.putStages (f.staged r x)) 0 8 _ _

end Sys2Proof.Proofs
end

section
/-! SUPPORT. Poll cycles, peer states and relay jobs of a tray master (15 R363 to R368; 16 R379; 18 R414, R415). -/
namespace Sys2Proof.Machine
open Safety

section
variable {s : State} {a : Nat}

/-! ### Frames to the peers -/

/-- R362: a link that sends a new frame, and the frame. -/
def Link.sends (l : Link) (ty : Nat) (p : List Nat) : Link × Sent :=
  ({ l with txSeq := (l.txSeq + 1) % 256, unacked := some { type := ty, seq := l.txSeq, payload := p } },
    { type := ty, seq := l.txSeq, payload := p })

/-- R362: a link at its opportunity to send, and the frame that it sends: the one that waits, or a new one. -/
def Link.polls (l : Link) (ty : Nat) (p : List Nat) : Link × Sent :=
  match l.unacked with
  | some w => if w.left = 0 then l.sends ty p else ({ l with unacked := some { w with left := w.left - 1 } }, w)
  | none => l.sends ty p

/-- R362: the frame `w` to `a`, from the chip at `tray`, whose link there is `l`. -/
def Sent.toFrame (w : Sent) (a tray : Nat) (l : Link) : Out := .ebvar a tray w.type w.seq (l.rxSeq.getD 0) w.payload

theorem sendFrame_eq (ty : Nat) (p : List Nat) : s.sendFrame a ty p =
    (s.setLink a ((s.link a).sends ty p).1).emit (((s.link a).sends ty p).2.toFrame a s.stw.trayAddr (s.link a)) := by
  unfold State.sendFrame State.putFrame
  dsimp only
  rw [link_setLink]
  rfl

theorem resendOr_eq (ty : Nat) (p : State → List Nat) : s.resendOr a (fun s => s.sendFrame a ty (p s)) =
    (s.setLink a ((s.link a).polls ty (p s)).1).emit (((s.link a).polls ty (p s)).2.toFrame a s.stw.trayAddr (s.link a)) := by
  unfold Link.polls
  cases hunacked : (s.link a).unacked with
  | none => exact (resendOr_of_acked hunacked _).trans (sendFrame_eq ty (p s))
  | some w =>
    by_cases hw : w.left = 0
    · simp only [if_pos hw]
      exact (resendOr_of_exhausted hunacked hw _).trans (sendFrame_eq ty (p s))
    · simp only [if_neg hw]
      exact resendOr_of_waiting hunacked hw _

theorem polls_of_acked {l : Link} (h : l.unacked = none) (ty : Nat) (p : List Nat) : l.polls ty p = l.sends ty p := by
  unfold Link.polls
  rw [h]

theorem polls_of_waiting {l : Link} {w : Sent} (h : l.unacked = some w) (hw : w.left ≠ 0) (ty : Nat) (p : List Nat) :
    l.polls ty p = ({ l with unacked := some { w with left := w.left - 1 } }, w) := by
  unfold Link.polls
  rw [h]
  exact if_neg hw

/-- The chip and its peers, which no frame changes. -/
def State.trayView (s : State) : Nat × NMap Peer := (s.stw.trayAddr, s.stw.peers)

/-- A loop that sends a frame to each address of `l`, as its link says, sends one each, and leaves the other links. -/
theorem foldl_sends {g : State → Nat → State} {v : Nat × NMap Peer} (W : Nat → Link → Link × Sent)
    (hg : ∀ s : State, s.trayView = v → ∀ x,
      g s x = (s.setLink x (W x (s.link x)).1).emit ((W x (s.link x)).2.toFrame x v.1 (s.link x))) {l : List Nat} (hl : l.Nodup)
    (hs : s.trayView = v) : (l.foldl g s).out = s.out ++ l.map (fun x => (W x (s.link x)).2.toFrame x v.1 (s.link x))
      ∧ ∀ x, (l.foldl g s).link x = if x ∈ l then (W x (s.link x)).1 else s.link x := by
  induction l generalizing s with
  | nil => simp
  | cons x l ih =>
    obtain ⟨hx, hl⟩ := List.nodup_cons.mp hl
    have hlink (y : Nat) (hy : y ≠ x) : (g s x).link y = s.link y := by
      rw [hg s hs]
      exact link_setLink_ne _ hy
    have hlinkx : (g s x).link x = (W x (s.link x)).1 := by
      rw [hg s hs]
      exact link_setLink _ _
    have hout : (g s x).out = s.out ++ [(W x (s.link x)).2.toFrame x v.1 (s.link x)] := by
      rw [hg s hs]
      rfl
    have hview : (g s x).trayView = v := by
      rw [hg s hs]
      exact hs
    obtain ⟨hsent, hlinks⟩ := ih hl hview
    refine ⟨?_, fun y => ?_⟩
    · rw [List.foldl_cons, hsent, hout, List.append_assoc, List.map_cons, List.singleton_append]
      congr 2
      exact List.map_congr_left fun y hy => by rw [hlink y (fun hn => hx (hn ▸ hy))]
    · rw [List.foldl_cons, hlinks]
      rcases eq_or_ne y x with rfl | hy
      · simp [hx, hlinkx]
      · simp [hy, hlink y hy]

/-- R364: the peers that a poll cycle polls. -/
def State.polledPeers (s : State) : List Nat :=
  (List.range 16).filter (fun a => decide (1 ≤ (s.peer a).state ∧ (s.peer a).state ≤ 3) && a != 0)

/-- R364: a poll cycle sends each peer's frame. -/
theorem pollPeers_eq (hrole : s.stw.role = 1) (hrom : s.boot.state ≠ 7) :
    s.pollPeers.out = s.out ++ s.polledPeers.map (fun x => ((s.link x).polls 1 [(s.peer x).epoch]).2.toFrame x s.stw.trayAddr (s.link x))
      ∧ ∀ x, s.pollPeers.link x = if x ∈ s.polledPeers then ((s.link x).polls 1 [(s.peer x).epoch]).1 else s.link x := by
  have hstep (u : State) (hu : u.trayView = s.trayView) (x : Nat) :
      u.resendOr x (fun s => s.sendFrame x 1 [(s.peer x).epoch]) = (u.setLink x ((u.link x).polls 1 [(s.peer x).epoch]).1).emit
        (((u.link x).polls 1 [(s.peer x).epoch]).2.toFrame x s.stw.trayAddr (u.link x)) := by
    have hpeer : u.peer x = s.peer x := congrArg (fun v : Nat × NMap Peer => mget v.2 x {}) hu
    have htray : u.stw.trayAddr = s.stw.trayAddr := congrArg Prod.fst hu
    rw [resendOr_eq 1 (fun s => [(s.peer x).epoch]), hpeer, htray]
  unfold State.pollPeers
  rw [if_neg (not_or.mpr ⟨not_not.mpr hrole, hrom⟩)]
  exact foldl_sends (fun x l => l.polls 1 [(s.peer x).epoch]) hstep (List.nodup_range.filter _) rfl

/-- R364: without a TRAY_MAP a discovery round sends DISCOVER to each address whose peer is ABSENT or LOST. -/
theorem discoverPeers_out (hrole : s.stw.role = 1) (hrom : s.boot.state ≠ 7) (hunwoven : s.woven = false) : s.discoverPeers.out = s.out
    ++ (((List.range 16).drop 1).filter (fun a => (s.peer a).state == 0 || (s.peer a).state == 4)).map (fun x =>
        ((s.link x).sends 3 []).2.toFrame x s.stw.trayAddr (s.link x)) := by
  have hstep (u : State) (hu : u.trayView = s.trayView) (x : Nat) : u.sendFrame x 3 [] = (u.setLink x ((u.link x).sends 3 []).1).emit
      (((u.link x).sends 3 []).2.toFrame x s.stw.trayAddr (u.link x)) := by
    have htray : u.stw.trayAddr = s.stw.trayAddr := congrArg Prod.fst hu
    rw [sendFrame_eq, htray]
  have hmapped : s.mapped = false := by simp [State.mapped, hunwoven]
  have hnodup : ((List.range 16).drop 1).Nodup := List.nodup_range.sublist (List.drop_sublist 1 _)
  unfold State.discoverPeers
  rw [if_neg (not_or.mpr ⟨not_not.mpr hrole, hrom⟩)]
  dsimp only
  rw [if_neg (by simp [hmapped])]
  exact (foldl_sends (fun _ l => l.sends 3 []) hstep (hnodup.filter _) rfl).1

/-! ### Peer states -/

theorem stw_retier : s.retier.stw = s.stw := by
  unfold State.retier
  dsimp only
  split
  · rfl
  · exact (stw_pulse _).trans (stw_fact _)

/-- R365: a peer's record when it changes its state. -/
def Peer.moved (p : Peer) (st : Nat) : Peer := { p with state := st, epoch := if st = 2 then (p.epoch + 1) % 2 ^ 32 else p.epoch }

@[simp] theorem peer_setPeerRec (p : Peer) : (s.setPeerRec a p).peer a = p := mget_mset ..

/-- R365, R366: a peer's new state has its record and its event. -/
def State.movePeer (s : State) (a st : Nat) : State :=
  ((s.setPeerRec a ((s.peer a).moved st)).fact { origin := 3, kind := 1, aux := a, object := jObj 14 a, old := (s.peer a).state, new := st
                                                 data := ((s.peer a).moved st).epoch }).pulse 0x00A

theorem stw_movePeer (st : Nat) : (s.movePeer a st).stw = (s.setPeerRec a ((s.peer a).moved st)).stw := (stw_pulse _).trans (stw_fact _)

theorem head_lt_movePeer (st : Nat) : s.lea.head < (s.movePeer a st).lea.head := by
  unfold State.movePeer
  rw [head_pulse]
  exact head_lt_fact (s.setPeerRec a ((s.peer a).moved st)) _

theorem jobs_movePeer (st : Nat) : (s.movePeer a st).jobs = s.jobs :=
  (congrArg State.jobs (sansPulses_pulse _ _) :).trans (congrArg State.jobs (sansRecords_fact _ _) :)

/-- R365, R366: a peer changes its state; here it has no relay job to lose. -/
theorem setPeer_of_moved {st : Nat} (hne : (s.peer a).state ≠ st) (hrelay : (s.peer a).state ≠ 2 ∧ st ≠ 4 ∨ s.jobs = []) :
    s.setPeer a st = (s.movePeer a st).retier := by
  have hlost (w : State) (hw : w.jobs = s.jobs) : (if (s.peer a).state = 2 ∨ st = 4 then
      (w.jobs.filter (fun j => j.kind == 5 && j.unit == a && j.holds)).foldl State.loseRelay w else w) = w := by
    obtain ⟨h2, h4⟩ | hnone := hrelay
    · exact if_neg (not_or.mpr ⟨h2, h4⟩)
    · rw [hw, hnone]
      exact ite_self _
  unfold State.setPeer
  exact (if_neg hne).trans (congrArg State.retier (hlost (s.movePeer a st) (jobs_movePeer st)))

theorem peer_setPeer {st : Nat} (hne : (s.peer a).state ≠ st) (hrelay : (s.peer a).state ≠ 2 ∧ st ≠ 4 ∨ s.jobs = []) :
    (s.setPeer a st).peer a = (s.peer a).moved st ∧ s.lea.head < (s.setPeer a st).lea.head := by
  rw [setPeer_of_moved hne hrelay]
  refine ⟨?_, (head_lt_movePeer st).trans_le (later_retier _).head⟩
  have hstw := stw_retier.trans (stw_movePeer (s := s) (a := a) st)
  exact (congrArg (fun w : Stw => mget w.peers a {}) hstw).trans (peer_setPeerRec _)

/-- R365: an answer that makes a peer PRESENT. -/
theorem peerAnswer_of_woven {id : PeerId} (hunwoven : s.woven = false) (hne : (s.peer a).state ≠ 2) (hid : id.woven = true) :
    (s.peerAnswer a id).peer a = { s.peer a with state := 2, epoch := ((s.peer a).epoch + 1) % 2 ^ 32, misses := 0, deviceId := id.deviceId }
      ∧ s.lea.head < (s.peerAnswer a id).lea.head := by
  have hjudge : s.judge a id = some 2 := by simp [State.judge, State.mapped, hunwoven, hid]
  have hpeer : (s.setPeerRec a { s.peer a with misses := 0, deviceId := id.deviceId }).peer a = _ := peer_setPeerRec _
  have hne' : ((s.setPeerRec a { s.peer a with misses := 0, deviceId := id.deviceId }).peer a).state ≠ 2 := by
    rw [hpeer]
    exact hne
  obtain ⟨hmoved, hhead⟩ := peer_setPeer hne' (.inl ⟨hne', by omega⟩)
  rw [hpeer] at hmoved
  unfold State.peerAnswer
  rw [hjudge]
  exact ⟨hmoved, hhead⟩

/-- R364: a peer that misses a poll. -/
def Peer.missed (p : Peer) : Peer := { p with misses := min 15 (p.misses + 1) }

theorem missPoll_eq (hrole : s.stw.role = 1) (hknown : (s.peer a).state ≠ 0 ∧ (s.peer a).state ≠ 4) :
    s.missPoll a = if s.stw.miss ≤ min 15 ((s.peer a).misses + 1) then (s.setPeerRec a (s.peer a).missed).setPeer a 4
      else s.setPeerRec a (s.peer a).missed := if_neg (by omega)

/-- R364, R366: a peer that misses a poll too many is LOST. -/
theorem missPoll_lost (hrole : s.stw.role = 1) (hstate : (s.peer a).state = 1) (hmiss : s.stw.miss ≤ min 15 ((s.peer a).misses + 1))
    (hjobs : s.jobs = []) : ((s.missPoll a).peer a).state = 4 ∧ s.lea.head < (s.missPoll a).lea.head := by
  have hne : ((s.setPeerRec a (s.peer a).missed).peer a).state ≠ 4 := by
    rw [peer_setPeerRec]
    exact fun hn => absurd (hstate.symm.trans hn) (by decide)
  obtain ⟨hmoved, hhead⟩ := peer_setPeer hne (.inr hjobs)
  rw [missPoll_eq hrole (by omega), if_pos hmiss]
  exact ⟨congrArg Peer.state hmoved, hhead⟩

/-! ### Relay jobs -/

/-- R368: the relay job `id` is no longer under way. -/
def State.dropRelay (s : State) (id : Nat) : State :=
  { s with stw := { s.stw with relays := s.stw.relays.filter (fun x => x.job != id) } }

/-- R368: the peer has delivered a job whose last frame was sent. -/
theorem relayAcked_of_delivered {r : RelayAckFrame} {run : RelayRun} {j : Job} (hepoch : (s.peer r.hdr.src).epoch ≤ r.epoch)
    (hrun : s.stw.relays.find? (fun x => x.job == r.job && x.peer == r.hdr.src) = some run) (hjob : s.job? r.job = some j)
    (hstatus : r.status = 0)
    (hdelivered : r.delivered = true) (hcommitted : run.committed = true) : s.relayAcked r = (s.dropRelay run.job).serve j.id := by
  unfold State.relayAcked
  rw [if_neg (Nat.not_lt.mpr hepoch), hrun, hjob]
  exact (if_neg (not_not.mpr hstatus)).trans ((if_pos hdelivered).trans (if_pos hcommitted))

/-- R368: a relay job of the master starts, when no frames wait for it. -/
theorem relayJobStart_of_master {id : Nat} (hnone : ∀ x ∈ s.stw.stages, x.own = id → x.waiting = []) :
    s.relayJobStart id = s.relayStart id := by
  have hfind : s.stw.stages.find? (fun x => x.own == id && !x.waiting.isEmpty) = none := by
    refine List.find?_eq_none.mpr fun x hx => ?_
    by_cases hown : x.own = id
    · simp [hnone x hx hown]
    · simp [hown]
  unfold State.relayJobStart
  rw [hfind]

variable {j : Job}

theorem relayStart_of_unusable (hjob : s.job? j.id = some j) (hkind : j.kind = 5) (hphase : j.phase = .admitted)
    (husable : s.relayUsable j.ply j.unit = false) : s.relayStart j.id = s.complete j.id .unavailable 2 := by
  unfold State.relayStart
  rw [hjob]
  exact (if_neg (by simp [hkind, hphase])).trans (if_pos (by simp [husable]))

/-- R368: the run of a relay job from its descriptor `d`. -/
def Job.relayRun (j : Job) (d : List Byte) : RelayRun := { job := j.id, peer := j.unit, desc := d }

theorem relayStart_of_usable {u : Nat} {d : List Byte} {t : State} (hjob : s.job? j.id = some j) (hkind : j.kind = 5)
    (hphase : j.phase = .admitted) (husable : s.relayUsable j.ply j.unit = true) (halign : j.desc % 64 = 0)
    (hread : s.engRead j.hank 159 j.desc 64 = (.ok, u, d, t)) (hok : relayDescOk d = true) : s.relayStart j.id =
      State.relayNext (({ t with stw := { t.stw with relays := t.stw.relays ++ [j.relayRun d] } } : State).updJob j.id
        (fun k => { k with phase := .running })) j (j.relayRun d) := by
  unfold State.relayStart
  rw [hjob]
  refine (if_neg (by simp [hkind, hphase])).trans ((if_neg (by simp [husable])).trans ?_)
  rw [hread]
  exact if_neg (by simp [halign, hok])

end

end Sys2Proof.Machine
end

section
namespace Sys2Proof.Proofs
open Machine Safety

/-- Settles O57: each command of the master, by its peers' links and records. -/
theorem masterTracksItsPeers : Obligations.MasterTracksItsPeers := by
  unfold Obligations.MasterTracksItsPeers
  intro s a h id hrole hrom hpos hlt f p l fromA
  have hnext {u v : State} (h : u = v) : (.next u : Host.Outcome State Fault Refusal) = .next v := congrArg Host.Outcome.next h
  have haddressed (hf : fromA) : f.Addressed h := by
    obtain ⟨hcrc, hsrc, htray, hdst, -⟩ := hf
    have hrole' : f.stw.role = 1 := hrole
    have htray' : f.stw.trayAddr = 0 := htray
    exact ⟨by omega, hrom, hcrc, by omega, by omega, by omega⟩
  have hnew (hf : fromA) (ty : Nat) (g : State → State) :
      (.next (f.onFrame 1 ty h g) : Host.Outcome State Fault Refusal) = .next (g (f.heardFrom h)) := by
    refine hnext (onFrame_of_new (haddressed hf) hrole ?_ ty g)
    rw [hf.2.1]
    exact hf.2.2.2.2
  refine ⟨?_, fun hunwoven hstate => ?_, fun h0 h4 hmiss => ?_, fun hstate hmiss hjobs => ?_, fun hf hunwoven hne hid cmd hcmd => ?_,
    fun hf op st d => ?_, fun r run j hr hf hepoch hjob hid' hstatus hdelivered hrun hcommitted hrunjob => ?_,
    fun j hjob hkind hphase hnone husable => ?_, fun j d u t hjob hkind hphase hnone husable halign hread hok => ?_⟩
  · obtain ⟨hout, hlinks⟩ := pollPeers_eq (s := f) hrole hrom
    have hmem (h1 : 1 ≤ p.state) (h3 : p.state ≤ 3) : a ∈ f.polledPeers := by
      refine List.mem_filter.mpr ⟨List.mem_range.mpr hlt, ?_⟩
      have ha : a ≠ 0 := by omega
      have hstate : 1 ≤ (f.peer a).state ∧ (f.peer a).state ≤ 3 := ⟨h1, h3⟩
      simp [ha, hstate]
    have hframe (h1 : 1 ≤ p.state) (h3 : p.state ≤ 3) : (l.polls 1 [p.epoch]).2.toFrame a s.stw.trayAddr l ∈ f.pollPeers.out := by
      rw [hout]
      exact List.mem_append_right _ (List.mem_map.mpr ⟨a, hmem h1 h3, rfl⟩)
    have hlink (h1 : 1 ≤ p.state) (h3 : p.state ≤ 3) : f.pollPeers.link a = (l.polls 1 [p.epoch]).1 :=
      (hlinks a).trans (if_pos (hmem h1 h3))
    refine ⟨f.pollPeers, rfl, ?_, fun h1 h3 hacked => ⟨?_, ?_⟩, fun w h1 h3 hwaits hleft => ⟨?_, ?_⟩⟩
    · rw [hout, List.length_append, List.length_map]
      refine (Nat.zero_add _).trans (congrArg List.length (List.filter_congr fun b _ => ?_))
      exact Bool.and_comm _ _
    · have hsent := hframe h1 h3
      rwa [polls_of_acked hacked] at hsent
    · have hsent := hlink h1 h3
      rw [polls_of_acked hacked] at hsent
      exact congrArg Link.unacked hsent
    · have hsent := hframe h1 h3
      rwa [polls_of_waiting hwaits hleft] at hsent
    · have hsent := hlink h1 h3
      rw [polls_of_waiting hwaits hleft] at hsent
      exact congrArg Link.unacked hsent
  · have hall : ∀ b < 16, 0 < b → b ∈ (List.range 16).drop 1 := by decide
    refine ⟨f.discoverPeers, rfl, ?_⟩
    rw [discoverPeers_out (s := f) hrole hrom hunwoven]
    refine List.mem_append_right _ (List.mem_map.mpr ⟨a, List.mem_filter.mpr ⟨hall a hlt hpos, ?_⟩, rfl⟩)
    have hstate' : (f.peer a).state = 0 ∨ (f.peer a).state = 4 := hstate
    simpa using hstate'
  · exact hnext ((missPoll_eq (s := f) hrole ⟨h0, h4⟩).trans (if_neg (Nat.not_le.mpr hmiss)))
  · exact ⟨_, rfl, missPoll_lost (s := f) hrole hstate hmiss hjobs⟩
  · have hanswer := peerAnswer_of_woven (s := f.heardFrom h) (a := a) hunwoven hne hid
    have hexec (ty : Nat) : (.next (f.onFrame 1 ty h (fun s => s.peerAnswer h.src id)) : Host.Outcome State Fault Refusal)
        = .next ((f.heardFrom h).peerAnswer a id) :=
      (hnew hf ty _).trans (hnext (congrArg (fun b => (f.heardFrom h).peerAnswer b id) hf.2.1))
    obtain ⟨hpeer, hhead⟩ := hanswer
    simp only [List.mem_cons, List.not_mem_nil, or_false] at hcmd
    obtain rfl | rfl := hcmd
    · exact ⟨_, hexec 1, by rw [hpeer], by rw [hpeer]; rfl, by rw [hpeer], by rw [hpeer], hhead⟩
    · exact ⟨_, hexec 3, by rw [hpeer], by rw [hpeer]; rfl, by rw [hpeer], by rw [hpeer], hhead⟩
  · refine ⟨_, hnew hf 5 _, ?_, rfl⟩
    rw [← hf.2.1]
    rfl
  · subst hr
    have hepoch' : ((f.heardFrom r.hdr).peer r.hdr.src).epoch ≤ r.epoch := by
      rw [hf.2.1]
      exact hepoch
    have hrun' : (f.heardFrom r.hdr).stw.relays.find? (fun x => x.job == r.job && x.peer == r.hdr.src) = some run := by
      rw [hf.2.1]
      exact hrun
    refine ⟨_, _, (hnew hf 7 _).trans (hnext (relayAcked_of_delivered hepoch' hrun' hjob hstatus hdelivered hcommitted)), rfl, ?_, rfl⟩
    exact congrArg (fun n => s.stw.relays.filter (fun x => x.job != n)) hrunjob
  · exact hnext ((relayJobStart_of_master (s := f) hnone).trans (relayStart_of_unusable (s := f) hjob hkind hphase husable))
  · exact ⟨_, hnext ((relayJobStart_of_master (s := f) hnone).trans
      (relayStart_of_usable (s := f) hjob hkind hphase husable halign hread hok)), rfl⟩

end Sys2Proof.Proofs
end

section
/-! SUPPORT. The boot directory and the BOOT commands (17 R386, R393 to R395). -/
namespace Sys2Proof.Machine
open Safety

/-! ### A directory entry -/

section
variable (d : DirEntry) (b : Bool) (st : SlotState)

@[simp] theorem slot_setSlot : (d.setSlot b st).slot b = st := by cases b <;> rfl

@[simp] theorem slot_not_setSlot : (d.setSlot (!b) st).slot b = d.slot b := by cases b <;> rfl

@[simp] theorem active_setSlot : (d.setSlot b st).active = d.active := by cases b <;> rfl

/-- R394: an entry whose other slot becomes the active one: in the state `st`, with `tries` tries, the slot that it leaves in `left`. -/
def DirEntry.swapped (left st : SlotState) (tries : Nat) : DirEntry :=
  { (d.setSlot d.active left).setSlot (!d.active) st with active := !d.active, tries := tries }

theorem slot_swapped_new (left : SlotState) (n : Nat) : (d.swapped left st n).slot (!d.active) = st := slot_setSlot _ _ _

theorem slot_swapped_old (left : SlotState) (n : Nat) : (d.swapped left st n).slot d.active = left :=
  (slot_not_setSlot (d.setSlot d.active left) d.active st).trans (slot_setSlot _ _ _)

end

section
variable {s : State} {from_ : Authority} {part : Nat}

/-! ### What directory writes and records leave -/

@[simp] theorem dirEntry_setDir (d : DirEntry) : (s.setDir part d).dirEntry part = d := mget_mset ..

theorem images_setDir (d : DirEntry) : (s.setDir part d).nv.flash.images = s.nv.flash.images := by
  unfold State.setDir State.writeDir
  dsimp only
  split <;> rfl

/-- R393: the point at which a part takes effect is ordered among the engines alone. -/
theorem orderSwap_keeps : (s.orderSwap part).boot = s.boot ∧ (s.orderSwap part).nv = s.nv ∧ (s.orderSwap part).lea = s.lea := by
  unfold State.orderSwap
  split
  · have hswap {α : Type} (view : State → α) (h : ∀ (s : State) (e : Nat), view (s.setSwap e 1) = view s) :=
      foldl_keeps view h (List.range (nDecode s.variant)) s
    exact ⟨hswap State.boot (fun _ _ => rfl), hswap State.nv (fun _ _ => rfl), hswap State.lea (fun _ _ => rfl)⟩
  all_goals exact ⟨rfl, rfl, rfl⟩

theorem boot_jRing (e : JEntry) : (s.jRing e).boot = s.boot := (congrArg State.boot (sansPulses_jRing s e) :)

theorem nv_jRing (e : JEntry) : (s.jRing e).nv = s.nv := (congrArg State.nv (sansPulses_jRing s e) :)

theorem boot_fact (e : JEntry) : (s.fact e).boot = s.boot := (congrArg State.boot (sansRecords_fact s e) :)

theorem otp_fact (e : JEntry) : (s.fact e).nv.otp = s.nv.otp := (congrArg (fun u : State => u.nv.otp) (sansRecords_fact s e) :)

theorem images_fact (e : JEntry) : (s.fact e).nv.flash.images = s.nv.flash.images :=
  (congrArg (fun u : State => u.nv.flash.images) (sansRecords_fact s e) :)

theorem dirEntry_of_boot {t : State} (h : t.boot = s.boot) (part : Nat) : t.dirEntry part = s.dirEntry part :=
  congrArg (fun x : Boot => mget x.dir part {}) h

/-- The rollback count of the active image, by the directory and the images. -/
theorem activeImage_of_images {t : State} (hboot : t.boot = s.boot) (himages : t.nv.flash.images = s.nv.flash.images) (part : Nat) :
    t.activeImage part = s.activeImage part := by
  unfold State.activeImage State.slotImage
  rw [dirEntry_of_boot hboot, himages]

/-! ### Trials -/

theorem activatePart_of_running (h2 : 2 ≤ part) (h5 : part ≤ 5) : s.activatePart part =
    (s.setDir part ((s.dirEntry part).swapped .valid .trial (if part ≤ 2 then 3 else 1))).orderSwap part := by
  unfold State.activatePart
  dsimp only
  rw [if_neg (by omega), if_neg (by omega)]
  simp only [active_setSlot]
  rfl

theorem dirEntry_revertPart (left : SlotState) : (s.revertPart part left).dirEntry part = (s.dirEntry part).swapped left .active 0 := by
  unfold State.revertPart
  simp only [active_setSlot]
  rw [dirEntry_of_boot orderSwap_keeps.1, dirEntry_setDir]
  rfl

theorem result_revertPart (left : SlotState) : (s.revertPart part left).boot.result = s.boot.result := by
  unfold State.revertPart
  dsimp only
  rw [orderSwap_keeps.1]
  rfl

theorem lea_revertPart (left : SlotState) : (s.revertPart part left).lea = s.lea := orderSwap_keeps.2.2

/-- R393: what a committed part leaves. -/
structure State.Committed (s : State) (part : Nat) (t : State) : Prop where
  active : (t.dirEntry part).active = (s.dirEntry part).active
  slot : (t.dirEntry part).slot (s.dirEntry part).active = .active
  tries : (t.dirEntry part).tries = 0
  counter : t.nv.otp.arb.getD (part - 1) 0 = max (s.counter part) (imgRollback (s.activeImage part))

theorem committed_commitPart (h1 : 1 ≤ part) (h6 : part ≤ 6) (harb : part ≤ s.nv.otp.arb.length) : s.Committed part (s.commitPart part)
    ∧ (s.commitPart part).boot.result = s.boot.result ∧ (s.commitPart part).lea = s.lea := by
  unfold State.commitPart
  extract_lets d c o _ u other d₁ d₂ _ v
  have hu : u = { s with nv := { s.nv with otp := { o with arb := o.arb.set (part - 1) c } } } := if_pos h6
  have hactive : d₂.active = d.active := by
    unfold d₂
    split <;> simp [d₁]
  have hslot : d₂.slot d.active = .active := by
    unfold d₂
    split <;> simp [d₁, other]
  have hcounter : u.nv.otp.arb.getD (part - 1) 0 = c := by
    rw [hu]
    have hlt : part - 1 < o.arb.length := Nat.lt_of_lt_of_le (Nat.sub_one_lt_of_lt h1) harb
    simp [List.getD_eq_getElem?_getD, hlt]
  refine ⟨⟨?_, ?_, ?_, hcounter⟩, ?_, ?_⟩
  · rw [dirEntry_setDir]
    exact hactive
  · rw [dirEntry_setDir]
    exact hslot
  · rw [dirEntry_setDir]
  · exact (congrArg (fun w : State => w.boot.result) hu :)
  · exact (congrArg State.lea hu :)

/-! ### Commands -/

/-- R395: a command at `s` has ended in `t` with `code`, and is answered. -/
def State.Ends (s : State) (from_ : Authority) (code : Nat) (t : State) : Prop := t.boot.result.done = true ∧ t.boot.result.code = code
  ∧ t.boot.result.busy = false ∧ t.boot.result.seq = (s.boot.result.seq + 1) % 256 ∧ Out.mgmt (authCode from_) code 0 [] ∈ t.out

theorem ends_bootDone {u : State} (h : u.boot.result = s.bootSeq.boot.result) (code : Nat) : s.Ends from_ code (u.bootDone from_ code) :=
  ⟨rfl, rfl, rfl, (congrArg CmdResult.seq h :), List.mem_append_right _ (List.mem_singleton_self _)⟩

theorem result_jRing_bootSeq (e : JEntry) : (s.bootSeq.jRing e).boot.result = s.bootSeq.boot.result := congrArg Boot.result (boot_jRing e)

theorem dirEntry_jRing_bootSeq (e : JEntry) : (s.bootSeq.jRing e).dirEntry part = s.dirEntry part := dirEntry_of_boot (boot_jRing e) part

theorem heard_bootSeq (hheard : s.noSession from_ = false) : ¬s.bootSeq.noSession from_ = true := by
  have h : s.bootSeq.noSession from_ = false := hheard
  simp [h]

theorem idle_bootSeq (hidle : s.bootBusy = false) : ¬s.bootSeq.bootBusy = true := by
  have h : s.bootSeq.bootBusy = false := hidle
  simp [h]

theorem change_bootSeq (hroom : HasRoom s) (e : JEntry) : s.bootSeq.change [e] = (true, s.bootSeq.jRing e) :=
  change_of_hasRoom (s := s.bootSeq) hroom e

section
variable (hheard : s.noSession from_ = false)
include hheard

/-- R395: a BOOT command while another runs is BUSY. -/
theorem bootCmd_of_busy (hbusy : s.bootBusy = true) : s.stageCmd from_ part = s.bootSeq.bootDone from_ 1
    ∧ s.activateCmd from_ part = s.bootSeq.bootDone from_ 1 ∧ s.commitCmd from_ part = s.bootSeq.bootDone from_ 1
    ∧ s.revertCmd from_ part = s.bootSeq.bootDone from_ 1 := by
  have h := heard_bootSeq hheard
  exact ⟨(if_neg h).trans (if_pos hbusy), (if_neg h).trans (if_pos (.inl hbusy)), (if_neg h).trans (if_pos hbusy),
    (if_neg h).trans (if_pos hbusy)⟩

variable (hidle : s.bootBusy = false)
include hidle

theorem commitCmd_of_untried (htrial : s.onTrial part = false) : s.commitCmd from_ part = s.bootSeq.bootDone from_ 0x36 := by
  have h : s.bootSeq.onTrial part = false := htrial
  exact (if_neg (heard_bootSeq hheard)).trans ((if_neg (idle_bootSeq hidle)).trans (if_pos (by simp [h])))

variable (hroom : HasRoom s)
include hroom

/-- R393: COMMIT of a part on trial. -/
theorem commitCmd_of_tried (htrial : s.onTrial part = true) :
    ∃ e, s.commitCmd from_ part = ((s.bootSeq.jRing e).commitPart part).bootDone from_ 0 := by
  have h : s.bootSeq.onTrial part = true := htrial
  unfold State.commitCmd
  dsimp only
  rw [if_neg (heard_bootSeq hheard), if_neg (idle_bootSeq hidle), if_neg (by simp [h]), change_bootSeq hroom]
  exact ⟨_, rfl⟩

theorem commitCmd_leaves (htrial : s.onTrial part = true) (h1 : 1 ≤ part) (h6 : part ≤ 6) (harb : part ≤ s.nv.otp.arb.length) :
    s.Ends from_ 0 (s.commitCmd from_ part) ∧ s.Committed part (s.commitCmd from_ part) := by
  obtain ⟨e, hcmd⟩ := commitCmd_of_tried hheard hidle hroom htrial
  have hboot : (s.bootSeq.jRing e).boot = s.bootSeq.boot := boot_jRing e
  have hnv : (s.bootSeq.jRing e).nv = s.nv := nv_jRing e
  have harb' : part ≤ (s.bootSeq.jRing e).nv.otp.arb.length := by rwa [hnv]
  have hdir : (s.bootSeq.jRing e).dirEntry part = s.dirEntry part := dirEntry_jRing_bootSeq e
  have hcounter : (s.bootSeq.jRing e).counter part = s.counter part := congrArg (fun x : NonVolatile => x.otp.arb.getD (part - 1) 0) hnv
  have himage : (s.bootSeq.jRing e).activeImage part = s.activeImage part := by
    unfold State.activeImage State.slotImage
    rw [hdir, hnv]
  obtain ⟨⟨hactive, hslot, htries, harbs⟩, hresult, -⟩ := committed_commitPart h1 h6 harb'
  rw [hdir] at hactive hslot
  rw [hcounter, himage] at harbs
  rw [hcmd]
  exact ⟨ends_bootDone (hresult.trans (result_jRing_bootSeq e)) 0, hactive, hslot, htries, harbs⟩

/-- R394: REVERT of a part with a VALID other slot. -/
theorem revertCmd_of_valid (h7 : part < 7) (hslot : (s.dirEntry part).slot (!(s.dirEntry part).active) = .valid) :
    ∃ e, s.revertCmd from_ part = ((s.bootSeq.jRing e).revertPart part .valid).bootDone from_ 0 := by
  have h : ¬(7 ≤ part ∨ (s.bootSeq.dirEntry part).slot (!(s.bootSeq.dirEntry part).active) ≠ .valid) :=
    not_or.mpr ⟨Nat.not_le.mpr h7, fun hn => hn hslot⟩
  unfold State.revertCmd
  dsimp only
  rw [if_neg (heard_bootSeq hheard), if_neg (idle_bootSeq hidle), if_neg h, change_bootSeq hroom]
  exact ⟨_, rfl⟩

theorem revertCmd_leaves (h7 : part < 7) (hslot : (s.dirEntry part).slot (!(s.dirEntry part).active) = .valid) :
    s.Ends from_ 0 (s.revertCmd from_ part) ∧ (s.revertCmd from_ part).dirEntry part = (s.dirEntry part).swapped .valid .active 0 := by
  obtain ⟨e, hcmd⟩ := revertCmd_of_valid hheard hidle hroom h7 hslot
  rw [hcmd]
  refine ⟨ends_bootDone ((result_revertPart _).trans (result_jRing_bootSeq e)) 0, (dirEntry_revertPart .valid).trans ?_⟩
  rw [dirEntry_jRing_bootSeq]

/-- R393: ACTIVATE of a part whose other slot is VALID and fits the firmware that runs. -/
theorem activateCmd_of_valid (h2 : 2 ≤ part) (h5 : part ≤ 5) (htrial : s.onTrial part = false)
    (hslot : (s.dirEntry part).slot (!(s.dirEntry part).active) = .valid)
    (hfits : s.compatible part (s.slotImage part (!(s.dirEntry part).active)) = true) :
    ∃ e, s.activateCmd from_ part = ((s.bootSeq.jRing e).activatePart part).bootDone from_ 0 := by
  have hother : (s.bootSeq.dirEntry part).other part = !(s.dirEntry part).active := if_neg (by omega)
  have hfree : ¬(s.bootSeq.bootBusy = true ∨ s.bootSeq.onTrial part = true) :=
    not_or.mpr ⟨idle_bootSeq hidle, by
      have h : s.bootSeq.onTrial part = false := htrial
      simp [h]⟩
  have hvalid : ¬(part = 0 ∨ 8 < part ∨ (s.bootSeq.dirEntry part).slot ((s.bootSeq.dirEntry part).other part) ≠ .valid) := by
    rw [hother]
    rintro (h | h | h)
    · omega
    · omega
    · exact h hslot
  have hfits' : s.bootSeq.compatible part (s.bootSeq.slotImage part ((s.bootSeq.dirEntry part).other part)) = true := by
    rw [hother]
    exact hfits
  unfold State.activateCmd
  dsimp only
  rw [if_neg (heard_bootSeq hheard), if_neg hfree, if_neg hvalid, if_neg (by rw [if_neg (by omega : ¬part = 6)]; simp [hfits']),
    change_bootSeq hroom]
  exact ⟨_, rfl⟩

theorem activateCmd_leaves (h2 : 2 ≤ part) (h5 : part ≤ 5) (htrial : s.onTrial part = false)
    (hslot : (s.dirEntry part).slot (!(s.dirEntry part).active) = .valid)
    (hfits : s.compatible part (s.slotImage part (!(s.dirEntry part).active)) = true) : s.Ends from_ 0 (s.activateCmd from_ part)
      ∧ (s.activateCmd from_ part).dirEntry part = (s.dirEntry part).swapped .valid .trial (if part ≤ 2 then 3 else 1) := by
  obtain ⟨e, hcmd⟩ := activateCmd_of_valid hheard hidle hroom h2 h5 htrial hslot hfits
  rw [hcmd, activatePart_of_running h2 h5, dirEntry_jRing_bootSeq]
  refine ⟨ends_bootDone ?_ 0, ?_⟩
  · rw [orderSwap_keeps.1]
    exact result_jRing_bootSeq e
  · exact (dirEntry_of_boot orderSwap_keeps.1 part).trans (dirEntry_setDir _)

end

/-! ### STAGE -/

/-- R386: the erased slot of a part being staged. -/
def DirEntry.erased (d : DirEntry) : DirEntry := d.setSlot (!d.active) .empty

/-- R393: STAGE of an image that passes its checks. -/
theorem stageBytes_of_good {b : List Byte} (h6 : part ≤ 6) (htrial : s.onTrial part = false) (hcode : s.partCode part b = 0)
    (hroom : HasRoom s) : ∃ t, s.stageBytes from_ part b = t ∧ t.boot.stage = some (part, b) ∧ t.boot.result.busy = true
      ∧ t.dirEntry part = (s.dirEntry part).erased := by
  have hother : (s.dirEntry part).other part = !(s.dirEntry part).active := if_neg (by omega)
  unfold State.stageBytes
  dsimp only
  rw [if_neg (by simp [htrial]), if_neg (not_not.mpr hcode), change_of_hasRoom hroom, hother]
  exact ⟨_, rfl, rfl, rfl, dirEntry_setDir _⟩

/-- R393: STAGE reads its image first. -/
theorem stageCmd_of_read {a : Nat} {b : List Byte} {t : State} (hheard : s.noSession from_ = false) (hidle : s.bootBusy = false) (h1 : 1 ≤ part)
    (h8 : part ≤ 8) (hlen : s.boot.len ≤ slotSize part) (hread : s.bootSeq.engRead 0 158 s.boot.src s.boot.len = (.ok, a, b, t)) :
    s.stageCmd from_ part = t.stageBytes from_ part b := by
  have hsource : s.bootSeq.stageSource part = (some b, t) := by
    have hlen' : ¬slotSize part < s.bootSeq.boot.len := Nat.not_lt.mpr hlen
    have hread' : s.bootSeq.engRead 0 158 s.bootSeq.boot.src s.bootSeq.boot.len = (.ok, a, b, t) := hread
    unfold State.stageSource
    rw [if_neg hlen', hread']
    rfl
  unfold State.stageCmd
  dsimp only
  rw [if_neg (heard_bootSeq hheard), if_neg (idle_bootSeq hidle), if_neg (by omega), hsource]

/-- R393: the end of programming. -/
theorem stageEnd_of_staged {b : List Byte} (h6 : part ≤ 6) (hstage : s.boot.stage = some (part, b)) (ok : Bool) :
    (s.stageEnd ok).boot.stage = none
      ∧ mget (s.stageEnd ok).nv.flash.images (2 * part + b2n (!(s.dirEntry part).active)) [] = b
      ∧ ((s.stageEnd ok).dirEntry part).slot (!(s.dirEntry part).active) = (if ok then .valid else .bad)
      ∧ (s.stageEnd ok).boot.result.busy = false ∧ (s.stageEnd ok).boot.result.done = true
      ∧ (s.stageEnd ok).boot.result.code = if ok then 0 else 0x37 := by
  have hother : (s.dirEntry part).other part = !(s.dirEntry part).active := if_neg (by omega)
  unfold State.stageEnd
  rw [hstage]
  dsimp only
  rw [hother]
  cases ok with
  | true => exact ⟨rfl, (congrArg (mget · _ []) (images_setDir _)).trans (mget_mset ..),
      (congrArg (DirEntry.slot · _) (dirEntry_setDir _)).trans (slot_setSlot ..), rfl, rfl, rfl⟩
  | false => exact ⟨rfl, (congrArg (mget · _ []) (images_setDir _)).trans (mget_mset ..),
      (congrArg (DirEntry.slot · _) (dirEntry_setDir _)).trans (slot_setSlot ..), rfl, rfl, rfl⟩

/-! ### The automatic test -/

/-- R393: a passed test commits the part, with a record. -/
theorem trialTest_of_passed (h1 : 1 ≤ part) (h6 : part < 6) (htrial : s.onTrial part = true) (harb : part ≤ s.nv.otp.arb.length) :
    s.Committed part (s.trialTest part true) ∧ s.lea.head < (s.trialTest part true).lea.head := by
  have hcmd : ∃ e, s.trialTest part true = (s.fact e).commitPart part :=
    ⟨_, (if_neg (by simp [htrial])).trans ((if_pos rfl).trans (if_neg fun h => absurd h.1 (Nat.ne_of_lt h6)))⟩
  obtain ⟨e, hcmd⟩ := hcmd
  have hotp : (s.fact e).nv.otp = s.nv.otp := otp_fact e
  have harb' : part ≤ (s.fact e).nv.otp.arb.length := by rwa [hotp]
  have hdir : (s.fact e).dirEntry part = s.dirEntry part := dirEntry_of_boot (boot_fact e) part
  have hcounter : (s.fact e).counter part = s.counter part := congrArg (fun x : Otp => x.arb.getD (part - 1) 0) hotp
  have himage : (s.fact e).activeImage part = s.activeImage part := activeImage_of_images (boot_fact e) (images_fact e) part
  obtain ⟨⟨hactive, hslot, htries, harbs⟩, -, hlea⟩ := committed_commitPart h1 h6.le harb'
  rw [hdir] at hactive hslot
  rw [hcounter, himage] at harbs
  rw [hcmd]
  refine ⟨⟨hactive, hslot, htries, harbs⟩, ?_⟩
  rw [hlea]
  exact head_lt_fact s e

theorem trialTest_of_failed (htrial : s.onTrial part = true) : s.trialTest part false = s.failTrial part :=
  (if_neg (by simp [htrial])).trans (if_neg (by simp))

/-- R394: a failed test uses up a try. -/
theorem failTrial_of_tries (htrial : s.onTrial part = true) (htries : 1 < (s.dirEntry part).tries) :
    (s.failTrial part).dirEntry part = { s.dirEntry part with tries := (s.dirEntry part).tries - 1 } := by
  unfold State.failTrial
  rw [if_pos htrial]
  dsimp only
  rw [if_pos htries, dirEntry_setDir]

/-- R394: the last failed test reverts the part, with a record. -/
theorem failTrial_of_last (htrial : s.onTrial part = true) (htries : (s.dirEntry part).tries ≤ 1) :
    (s.failTrial part).dirEntry part = (s.dirEntry part).swapped .bad .active 0 ∧ s.lea.head < (s.failTrial part).lea.head := by
  have hfail : ∃ e, s.failTrial part = (s.revertPart part .bad).fact e := by
    unfold State.failTrial
    rw [if_pos htrial]
    dsimp only
    rw [if_neg (Nat.not_lt.mpr htries)]
    exact ⟨_, rfl⟩
  obtain ⟨e, hfail⟩ := hfail
  rw [hfail]
  refine ⟨(dirEntry_of_boot (boot_fact e) part).trans (dirEntry_revertPart .bad), ?_⟩
  have hhead := head_lt_fact (s.revertPart part .bad) e
  rwa [lea_revertPart] at hhead

/-! ### Owner keys -/

theorem nv_bootDone (code : Nat) : (s.bootDone from_ code).nv = s.nv := rfl

section
variable {key serial r v i : Nat}

/-- R384: the lowest slot without a key. -/
theorem freeOwner_of_lowest (hi : i < 4) (hfree : (s.nv.otp.owners.getD i {}).enrolled = false)
    (hbelow : ∀ j, j < i → (s.nv.otp.owners.getD j {}).enrolled = true) : s.freeOwner = some i := by
  refine List.find?_range_eq_some.mpr ⟨by simpa using hfree, List.mem_range.mpr hi, fun j hj => ?_⟩
  simpa using hbelow j hj

variable (hopen : s.stw.session = true) (hidle : s.bootBusy = false)
include hopen hidle

omit hidle in
theorem heard_console : ¬(Authority.console ≠ .console ∨ s.noSession .console = true) := by
  simp [State.noSession, hopen]

/-- R384: a certificate that the root key has not signed is refused. -/
theorem enrollCmd_of_unsigned (hsigned : ¬Crypto.verify s.nv.otp.rootKey (Crypto.sha384 (beBytes 96 key ++ beBytes 8 serial)) r v = true) :
    s.enrollCmd .console key serial r v = s.bootSeq.bootDone .console 0x21 := by
  refine (if_neg (heard_console hopen)).trans ((if_neg (idle_bootSeq hidle)).trans (if_pos (.inr ?_)))
  rw [Bool.not_eq_true] at hsigned
  exact congrArg not hsigned

/-- R384: a certificate of the root key enrols its key. -/
theorem enrollCmd_of_signed (hroom : HasRoom s) (hserial : serial = s.nv.otp.serial)
    (hsigned : Crypto.verify s.nv.otp.rootKey (Crypto.sha384 (beBytes 96 key ++ beBytes 8 serial)) r v = true) (hslot : s.freeOwner = some i) :
    ∃ e : JEntry, e.object = jObj 10 (16 + i) ∧ e.old = 0 ∧ e.new = 1 ∧ s.enrollCmd .console key serial r v =
      ((s.bootSeq.jRing e).setOwner i { key := key, enrolled := true, revoked := false }).bootDone .console 0 := by
  have hcert : ¬(serial ≠ s.bootSeq.nv.otp.serial
      ∨ (!Crypto.verify s.bootSeq.nv.otp.rootKey (certDigest (beBytes 96 key) serial) r v) = true) := by
    refine not_or.mpr ⟨not_not.mpr hserial, fun h => ?_⟩
    have hverify : Crypto.verify s.bootSeq.nv.otp.rootKey (certDigest (beBytes 96 key) serial) r v = true := hsigned
    rw [hverify] at h
    exact absurd h (by decide)
  have hslot' : s.bootSeq.freeOwner = some i := hslot
  unfold State.enrollCmd
  dsimp only
  rw [if_neg (heard_console hopen), if_neg (idle_bootSeq hidle), if_neg hcert, hslot']
  dsimp only
  rw [change_bootSeq hroom]
  exact ⟨_, rfl, rfl, rfl, rfl⟩

end

/-- R395: what a BUSY command leaves. -/
theorem bootDone_bootSeq (code : Nat) : (s.bootSeq.bootDone from_ code).boot.result.code = code
    ∧ (s.bootSeq.bootDone from_ code).boot.result.done = true ∧ (s.bootSeq.bootDone from_ code).boot.dir = s.boot.dir
    ∧ (s.bootSeq.bootDone from_ code).nv = s.nv := ⟨rfl, rfl, rfl, rfl⟩

/-- R395: a BOOT command while another runs is BUSY. -/
theorem exec_bootCmd_of_busy (hheard : s.noSession from_ = false) (hbusy : s.bootBusy = true) (cmd : Instr)
    (hcmd : cmd ∈ [Instr.stage from_ part, Instr.activate from_ part, Instr.commit from_ part, Instr.revert from_ part]) :
    ∃ t, exec cmd s = .next t ∧ t.boot.result.code = 1 ∧ t.boot.result.done = true ∧ t.boot.dir = s.boot.dir ∧ t.nv = s.nv := by
  obtain ⟨hstage, hactivate, hcommit, hrevert⟩ := bootCmd_of_busy (s := fresh s) (part := part) hheard hbusy
  refine ⟨(fresh s).bootSeq.bootDone from_ 1, ?_, bootDone_bootSeq (s := fresh s) 1⟩
  simp only [List.mem_cons, List.not_mem_nil, or_false] at hcmd
  obtain rfl | rfl | rfl | rfl := hcmd
  · exact congrArg Host.Outcome.next hstage
  · exact congrArg Host.Outcome.next hactivate
  · exact congrArg Host.Outcome.next hcommit
  · exact congrArg Host.Outcome.next hrevert

/-- R393: STAGE of an image that is read and passes its checks. -/
theorem exec_stage_of_read {a : Nat} {b : List Byte} {t : State} (hheard : s.noSession from_ = false) (hidle : s.bootBusy = false)
    (h2 : 2 ≤ part) (h5 : part ≤ 5) (hlen : s.boot.len ≤ slotSize part) (htrial : s.onTrial part = false)
    (hread : (fresh s).bootSeq.engRead 0 158 s.boot.src s.boot.len = (.ok, a, b, t)) (hboot : t.boot = (fresh s).bootSeq.boot)
    (hroom : HasRoom t) (hcode : t.partCode part b = 0) : ∃ u, exec (.stage from_ part) s = .next u ∧ u.boot.stage = some (part, b)
      ∧ u.boot.result.busy = true ∧ (u.dirEntry part).slot (!(s.dirEntry part).active) = .empty
      ∧ (u.dirEntry part).slot (s.dirEntry part).active = (s.dirEntry part).slot (s.dirEntry part).active := by
  have hdir : t.dirEntry part = s.dirEntry part := dirEntry_of_boot hboot part
  have htrial' : t.onTrial part = false := (congrArg (fun d : DirEntry => d.slot d.active == .trial) hdir).trans htrial
  obtain ⟨u, hu, hstage, hbusy, herased⟩ := stageBytes_of_good (from_ := from_) (by omega) htrial' hcode hroom
  rw [hdir] at herased
  have hcmd := stageCmd_of_read (s := fresh s) hheard hidle (by omega) (by omega) hlen hread
  refine ⟨u, congrArg Host.Outcome.next (hcmd.trans hu), hstage, hbusy, ?_, ?_⟩
  · rw [herased]
    exact slot_setSlot _ _ _
  · rw [herased]
    exact slot_not_setSlot _ _ _

/-- A list with two elements of a kind has more than one of them. -/
theorem one_lt_length_filter {α : Type} {p : α → Bool} {l : List α} {d : α} {i j : Nat} (hij : i < j) (hj : j < l.length)
    (hpi : p (l.getD i d) = true) (hpj : p (l.getD j d) = true) : 1 < (l.filter p).length := by
  have hi : i < l.length := hij.trans hj
  rw [List.getD_eq_getElem _ _ hi] at hpi
  rw [List.getD_eq_getElem _ _ hj] at hpj
  have hfirst : 0 < (l.take j).countP p :=
    List.countP_pos_iff.mpr ⟨l[i], List.mem_take_iff_getElem.mpr ⟨i, by omega, rfl⟩, hpi⟩
  have hsecond : 0 < (l.drop j).countP p := by
    refine List.countP_pos_iff.mpr ⟨l[j], ?_, hpj⟩
    rw [List.drop_eq_getElem_cons hj]
    exact List.mem_cons_self
  have hsplit := congrArg (List.countP p) (List.take_append_drop j l)
  rw [List.countP_append] at hsplit
  rw [← List.countP_eq_length_filter]
  omega

/-- R385: with another key in force a revocation does not take the last one. -/
theorem one_lt_owners {slot k : Nat} (hlen : s.nv.otp.owners.length = 4) (hslot : slot < 4)
    (henrolled : (s.nv.otp.owners.getD slot {}).enrolled = true) (hunrevoked : (s.nv.otp.owners.getD slot {}).revoked = false) (hk : k < 4)
    (hne : k ≠ slot) (hkenrolled : (s.nv.otp.owners.getD k {}).enrolled = true) (hkunrevoked : (s.nv.otp.owners.getD k {}).revoked = false) :
    1 < (s.nv.otp.owners.filter (fun o => o.enrolled && !o.revoked)).length := by
  have hslot' : (fun o : OwnerSlot => o.enrolled && !o.revoked) (s.nv.otp.owners.getD slot {}) = true :=
    Bool.and_eq_true_iff.mpr ⟨henrolled, by rw [hunrevoked]; rfl⟩
  have hk' : (fun o : OwnerSlot => o.enrolled && !o.revoked) (s.nv.otp.owners.getD k {}) = true :=
    Bool.and_eq_true_iff.mpr ⟨hkenrolled, by rw [hkunrevoked]; rfl⟩
  obtain hlt | hlt := Nat.lt_or_gt_of_ne hne
  · exact one_lt_length_filter hlt (by omega) hk' hslot'
  · exact one_lt_length_filter hlt (by omega) hslot' hk'

/-- R385: a signed statement revokes a slot. -/
theorem revokeCmd_of_signed {slot id serial signer r v : Nat} (hopen : s.stw.session = true) (hidle : s.bootBusy = false) (hroom : HasRoom s)
    (hslot : slot < 4) (henrolled : (s.nv.otp.owners.getD slot {}).enrolled = true) (hunrevoked : (s.nv.otp.owners.getD slot {}).revoked = false)
    (hid : id = Crypto.keyId (s.nv.otp.owners.getD slot {}).key) (hserial : serial = s.nv.otp.serial) (hmay : s.mayRevoke slot signer = true)
    (hsigned : Crypto.verify signer (Crypto.sha384 (leBytes 8 id ++ beBytes 8 serial)) r v = true)
    (hmore : 1 < (s.nv.otp.owners.filter (fun o => o.enrolled && !o.revoked)).length) : ∃ e : JEntry, e.object = jObj 10 (16 + slot)
      ∧ e.old = 1 ∧ e.new = 2 ∧ s.revokeCmd .console slot id serial signer r v =
        ((s.bootSeq.jRing e).setOwner slot { s.nv.otp.owners.getD slot {} with revoked := true }).bootDone .console 0 := by
  have howner : s.bootSeq.nv.otp.owners.getD slot {} = s.nv.otp.owners.getD slot {} := rfl
  have hmay' : s.bootSeq.mayRevoke slot signer = true := hmay
  have hsigned' : Crypto.verify signer (certDigest (leBytes 8 id) serial) r v = true := hsigned
  have hserial' : serial = s.bootSeq.nv.otp.serial := hserial
  have hmore' : ¬(s.bootSeq.nv.otp.owners.filter (fun o => o.enrolled && !o.revoked)).length ≤ 1 := Nat.not_le.mpr hmore
  unfold State.revokeCmd
  dsimp only
  rw [if_neg (heard_console hopen), if_neg (idle_bootSeq hidle), howner]
  generalize s.nv.otp.owners.getD slot {} = o at *
  have hslot' : ¬(3 < slot ∨ (!o.enrolled) = true ∨ o.revoked = true) := by
    rw [henrolled, hunrevoked]
    exact fun h => by simp at h; omega
  have hstatement : ¬(id ≠ Crypto.keyId o.key ∨ serial ≠ s.bootSeq.nv.otp.serial ∨ (!s.bootSeq.mayRevoke slot signer) = true
      ∨ (!Crypto.verify signer (certDigest (leBytes 8 id) serial) r v) = true) := by
    rw [hmay', hsigned']
    rintro (h | h | h | h)
    · exact h hid
    · exact h hserial'
    · exact absurd h (by decide)
    · exact absurd h (by decide)
  rw [if_neg hslot', if_neg hstatement, if_neg hmore', change_bootSeq hroom]
  exact ⟨_, rfl, rfl, rfl, rfl⟩

/-- R384, R385: an owner slot takes its new record, with one entry, and the command is answered. -/
theorem setOwner_leaves {e : JEntry} {slot old new : Nat} {o : OwnerSlot} (hobj : e.object = jObj 10 (16 + slot)) (hold : e.old = old)
    (hnew : e.new = new) : ∃ t, ((s.bootSeq.jRing e).setOwner slot o).bootDone .console 0 = t ∧ (t.boot.result.done = true
      ∧ t.boot.result.code = 0 ∧ Out.mgmt 3 0 0 [] ∈ t.out) ∧ t.nv.otp.owners = s.nv.otp.owners.set slot o
      ∧ OneEntry s t (jObj 10 (16 + slot)) old new := by
  have hnv : (s.bootSeq.jRing e).nv = s.nv := nv_jRing e
  have hone := oneEntry_jRing s.bootSeq e
  rw [hobj, hold, hnew] at hone
  refine ⟨_, rfl, ⟨rfl, rfl, List.mem_append_right _ (List.mem_singleton_self _)⟩, ?_, hone⟩
  exact congrArg (fun x : NonVolatile => x.otp.owners.set slot o) hnv

/-- R384, R385: owner commands come from the console only. -/
theorem ownerCmd_of_remote (hfrom : from_ ≠ .console) (key slot id serial signer r v : Nat) :
    (fresh s).enrollCmd from_ key serial r v = { s with out := [.mgmt (authCode from_) 3 0 []] }
      ∧ (fresh s).revokeCmd from_ slot id serial signer r v = { s with out := [.mgmt (authCode from_) 3 0 []] } :=
  ⟨if_pos (.inl hfrom), if_pos (.inl hfrom)⟩

end

end Sys2Proof.Machine
end

section
namespace Sys2Proof.Proofs
open Machine Safety

/-- Settles O58: the BOOT commands by the part's directory entry, and the owner commands by their slot. -/
theorem slotsTrialsAndOwnersChange : Obligations.SlotsTrialsAndOwnersChange := by
  unfold Obligations.SlotsTrialsAndOwnersChange
  have hnext {u v : State} (h : u = v) : (.next u : Host.Outcome State Fault Refusal) = .next v := congrArg Host.Outcome.next h
  refine ⟨fun s from_ p hheard h2 h5 harb => ?_, fun s key serial r v slot id signer hopen hidle hroom hlen => ?_⟩
  · intro d o q done asked
    refine ⟨fun cmd hcmd hbusy => ?_, fun a b t ha hlen htrial hread hboot hlea hnv hcode => ?_, fun b ok hstage => ?_,
      fun ha htrial hslot hfits => ?_, fun ha htrial => ?_, fun ha htrial => ?_, fun ha hslot => ?_, fun htrial => ?_,
      fun htrial htries => ?_, fun htrial htries => ?_⟩
    · exact exec_bootCmd_of_busy hheard hbusy cmd hcmd
    · exact exec_stage_of_read hheard ha.1 h2 h5 hlen htrial hread hboot (by unfold HasRoom; rw [hlea]; exact ha.2) hcode
    · exact ⟨_, rfl, stageEnd_of_staged (s := q) (by omega) hstage ok⟩
    · obtain ⟨hends, hdir⟩ := activateCmd_leaves (s := q) (from_ := from_) hheard ha.1 ha.2 h2 h5 htrial hslot hfits
      refine ⟨q.activateCmd from_ p, rfl, hends, ?_⟩
      rw [hdir]
      exact ⟨rfl, slot_swapped_new .., slot_swapped_old .., rfl⟩
    · obtain ⟨hends, hcommitted⟩ := commitCmd_leaves (s := q) (from_ := from_) hheard ha.1 ha.2 htrial (by omega) (by omega) harb
      exact ⟨q.commitCmd from_ p, rfl, hends, hcommitted.active, hcommitted.slot, hcommitted.tries, hcommitted.counter⟩
    · refine ⟨q.bootSeq.bootDone from_ 0x36, hnext (commitCmd_of_untried (s := q) hheard ha.1 htrial), ends_bootDone (s := q) rfl 0x36, ?_⟩
      exact nv_bootDone (s := q.bootSeq) 0x36
    · obtain ⟨hends, hdir⟩ := revertCmd_leaves (s := q) (from_ := from_) hheard ha.1 ha.2 (by omega) hslot
      refine ⟨q.revertCmd from_ p, rfl, hends, ?_⟩
      rw [hdir]
      exact ⟨rfl, slot_swapped_new .., slot_swapped_old ..⟩
    · obtain ⟨hcommitted, hhead⟩ := trialTest_of_passed (s := q) (by omega) (by omega) htrial harb
      exact ⟨q.trialTest p true, rfl, hcommitted.slot, hcommitted.counter, hhead⟩
    · obtain ⟨hdir, hhead⟩ := failTrial_of_last (s := q) htrial htries
      refine ⟨q.failTrial p, hnext (trialTest_of_failed (s := q) htrial), ?_⟩
      rw [hdir]
      exact ⟨rfl, slot_swapped_new .., slot_swapped_old .., hhead⟩
    · exact ⟨q.failTrial p, hnext (trialTest_of_failed (s := q) htrial),
        congrArg DirEntry.tries (failTrial_of_tries (s := q) htrial htries)⟩
  · intro o done signed
    refine ⟨fun i hserial hsigned hi hfree hbelow => ?_, fun hunsigned => ?_,
      fun hslot henrolled hunrevoked hid hserial hmay hsigned hmore => ?_, fun from_ hfrom => ?_⟩
    · obtain ⟨e, hobj, hold, hnew, hcmd⟩ :=
        enrollCmd_of_signed (s := fresh s) hopen hidle hroom hserial hsigned (freeOwner_of_lowest (s := fresh s) hi hfree hbelow)
      obtain ⟨t, ht, hleaves⟩ := setOwner_leaves (s := fresh s) (o := { key := key, enrolled := true, revoked := false }) hobj hold hnew
      exact ⟨t, hnext (hcmd.trans ht), hleaves⟩
    · obtain ⟨hcode, hdone, -, hnv⟩ := bootDone_bootSeq (s := fresh s) (from_ := .console) 0x21
      exact ⟨_, hnext (enrollCmd_of_unsigned (s := fresh s) hopen hidle hunsigned),
        ⟨hdone, hcode, List.mem_append_right _ (List.mem_singleton_self _)⟩, hnv⟩
    · obtain ⟨k, hk, hne, hkenrolled, hkunrevoked⟩ := hmore
      have hmany := one_lt_owners (s := fresh s) hlen hslot henrolled hunrevoked hk hne hkenrolled hkunrevoked
      obtain ⟨e, hobj, hold, hnew, hcmd⟩ :=
        revokeCmd_of_signed (s := fresh s) hopen hidle hroom hslot henrolled hunrevoked hid hserial hmay hsigned hmany
      obtain ⟨t, ht, hleaves⟩ := setOwner_leaves (s := fresh s) (o := { o with revoked := true }) hobj hold hnew
      exact ⟨t, hnext (hcmd.trans ht), hleaves⟩
    · obtain ⟨henroll, hrevoke⟩ := ownerCmd_of_remote (s := s) hfrom key slot id serial signer r v
      exact ⟨hnext henroll, hnext hrevoke⟩

end Sys2Proof.Proofs
end

section
/-! SUPPORT. No work of an engine, of memory or of a pool changes the record of a unit (18 R400). -/
namespace Sys2Proof.Machine
open Safety

section
variable {s : State}

theorem units_of_sansReads {t : State} (h : t.sansReads = s.sansReads) : t.stw.units = s.stw.units :=
  (congrArg (fun u : State => u.stw.units) h :)

theorem units_of_sansFab {t : State} (h : t.sansFab = s.sansFab) : t.stw.units = s.stw.units := (congrArg (fun u : State => u.stw.units) h :)

theorem units_foldl {α : Type} {f : State → α → State} (h : ∀ s x, (f s x).stw.units = s.stw.units) (l : List α) (s : State) :
    (l.foldl f s).stw.units = s.stw.units := foldl_keeps (fun u : State => u.stw.units) h l s

/-! #### Memory -/

@[simp] theorem units_draw : (s.draw).2.stw.units = s.stw.units := units_of_sansReads (sansReads_draw ..)

@[simp] theorem units_pulse (e : Nat) : (s.pulse e).stw.units = s.stw.units := units_of_sansReads (sansReads_pulse ..)

@[simp] theorem units_fact (e : JEntry) : (s.fact e).stw.units = s.stw.units := units_of_sansReads (sansReads_fact ..)

@[simp] theorem units_report (i cause : Nat) : (s.report i cause).stw.units = s.stw.units := units_of_sansReads (sansReads_report ..)

@[simp] theorem units_accessError (h a kind : Nat) : (s.accessError h a kind).stw.units = s.stw.units :=
  units_of_sansReads (sansReads_accessError ..)

@[simp] theorem units_decodeError (req a : Nat) : (s.decodeError req a).stw.units = s.stw.units :=
  units_of_sansReads (sansReads_decodeError ..)

@[simp] theorem units_unlog (lo hi : Nat) : (s.unlog lo hi).stw.units = s.stw.units := units_of_sansReads (sansReads_unlog ..)

@[simp] theorem units_uncorrectable (a req : Nat) : (s.uncorrectable a req).stw.units = s.stw.units :=
  units_of_sansReads (sansReads_uncorrectable ..)

@[simp] theorem units_mend (lo hi : Nat) : (s.mend lo hi).stw.units = s.stw.units := units_of_sansReads (sansReads_mend ..)

@[simp] theorem units_correctAll (a req : Nat) (us : List Nat) : (s.correctAll a req us).stw.units = s.stw.units :=
  units_of_sansReads (sansReads_correctAll ..)

@[simp] theorem units_tagFetch (a req : Nat) : (s.tagFetch a req).stw.units = s.stw.units := units_of_sansReads (sansReads_tagFetch ..)

@[simp] theorem units_memRead (h req a n : Nat) : (s.memRead h req a n).2.2.stw.units = s.stw.units :=
  units_of_sansReads (sansReads_memRead ..)

@[simp] theorem units_engRead (h req a n : Nat) : (s.engRead h req a n).2.2.2.stw.units = s.stw.units :=
  units_of_sansReads (sansReads_engRead ..)

@[simp] theorem units_engBytes (h req a n : Nat) : (s.engBytes h req a n).2.stw.units = s.stw.units := by
  simp [State.engBytes]

@[simp] theorem units_scrub (lo hi : Nat) : (s.scrub lo hi).stw.units = s.stw.units :=
  (congrArg (fun u : State => u.stw.units) (sansFab_scrub s lo hi) :)

@[simp] theorem units_putBytes (a : Nat) (bs : List Byte) : (s.putBytes a bs).stw.units = s.stw.units :=
  (congrArg (fun u : State => u.stw.units) (sansFab_putBytes s a bs) :)

@[simp] theorem units_memWrite (h req a : Nat) (bs : List Byte) : (s.memWrite h req a bs).2.stw.units = s.stw.units := by
  grind [State.memWrite, !units_accessError, !units_unlog, !units_uncorrectable, !units_mend, !units_correctAll, !units_tagFetch, !units_putBytes]

@[simp] theorem units_engWrite (h req a : Nat) (bs : List Byte) : (s.engWrite h req a bs).2.2.stw.units = s.stw.units := by
  unfold State.engWrite
  refine foldl_keeps (fun acc : Status × Nat × State => acc.2.2.stw.units) (fun acc p => ?_) _ _
  obtain ⟨st, x, u⟩ := acc
  cases st
  case ok => grind [!units_memWrite, !units_accessError, !units_decodeError, State.setCore_stw]
  all_goals rfl

@[simp] theorem units_voidRange (lo hi : Nat) : (s.voidRange lo hi).stw.units = s.stw.units :=
  (congrArg (fun u : State => u.stw.units) (sansGrants_voidRange s lo hi) :)

@[simp] theorem units_poolRelease (p q : Nat) : (s.poolRelease p q).stw.units = s.stw.units := by
  grind [State.poolRelease, !units_scrub, !units_voidRange]

/-! #### Skein -/

@[simp] theorem units_consume (e n : Nat) : (s.consume e n).2.stw.units = s.stw.units := by rfl

@[simp] theorem units_clearPort (e : Nat) : (s.clearPort e).stw.units = s.stw.units := units_foldl (by intros; rfl) _ _

@[simp] theorem units_grantFlit (n : Nat) (r : Route) (forced : Bool) : (s.grantFlit n r forced).stw.units = s.stw.units := by
  unfold State.grantFlit
  split
  · rfl
  · exact units_foldl (f := fun s m => s.setRoute m { s.route m with passed := (s.route m).passed + 1 }) (fun _ _ => rfl) _ _

@[simp] theorem units_grantFlits (x1 : Nat) : (State.grantFlits x1 s).stw.units = s.stw.units := by
  fun_induction State.grantFlits x1 s <;> grind [!units_grantFlit]

@[simp] theorem units_arbitrate : s.arbitrate.stw.units = s.stw.units := by
  simp [State.arbitrate]

@[simp] theorem units_sendPacket (e h : Nat) (bs : List Byte) : (s.sendPacket e h bs).stw.units = s.stw.units := by
  unfold State.sendPacket
  exact units_arbitrate.trans (units_foldl (by intros; rfl) _ _)

/-! #### Jobs -/

@[simp] theorem units_setJobs (l : List Job) : (s.setJobs l).stw.units = s.stw.units := by rfl

@[simp] theorem units_updJob (id : Nat) (f : Job → Job) : (s.updJob id f).stw.units = s.stw.units := by rfl

@[simp] theorem units_dropJob (id : Nat) : (s.dropJob id).stw.units = s.stw.units := by rfl

@[simp] theorem units_hankPulse (h e : Nat) : (s.hankPulse h e).stw.units = s.stw.units := by
  grind [State.hankPulse, !units_pulse, !units_accessError]

@[simp] theorem units_countEnd (j : Job) (st : JobStatus) : (s.countEnd j st).stw.units = s.stw.units := by
  unfold State.countEnd
  split <;> rfl

@[simp] theorem units_writeRecord (j : Job) (st : JobStatus) (detail : Nat) : (s.writeRecord j st detail).stw.units = s.stw.units := by
  grind [State.writeRecord, !State.setHank_stw, !units_engWrite, !units_hankPulse, !units_countEnd]

@[simp] theorem units_complete (id : Nat) (st : JobStatus) (detail : Nat) : (s.complete id st detail).stw.units = s.stw.units := by
  grind [State.complete, !units_dropJob, !units_writeRecord]

@[simp] theorem units_writeReport (h req addr : Nat) (bs : List Byte) : (s.writeReport h req addr bs).2.2.stw.units = s.stw.units := by
  grind [State.writeReport, !units_engWrite]

/-! #### Tokenizer -/

@[simp] theorem units_tokRead (h a n : Nat) : (s.tokRead h a n).2.stw.units = s.stw.units := by
  grind [State.tokRead, !units_engRead]

@[simp] theorem units_readNode (h : Nat) (d : Dict) (n : Nat) : (s.readNode h d n).2.stw.units = s.stw.units := by
  grind [State.readNode, !units_tokRead]

@[simp] theorem units_findEdge (h : Nat) (d : Dict) (first x : Nat) (x1 : Nat) (x2 : Int) (x3 : Int) :
    (s.findEdge h d first x x1 x2 x3).2.stw.units = s.stw.units := by
  fun_induction s.findEdge h d first x x1 x2 x3 <;> grind [!units_tokRead]

@[simp] theorem units_walk (h : Nat) (d : Dict) (node : Node) (len : Nat) (best : Option (Nat × Nat)) (x1 : List (Byte × ByteKind)) :
    (s.walk h d node len best x1).2.stw.units = s.stw.units := by
  fun_induction s.walk h d node len best x1 <;> grind [!units_readNode, !units_findEdge]

@[simp] theorem units_scan (h : Nat) (d : Dict) (root : Node) (m : TokMode) (x1 : Nat) (x2 : List (Byte × ByteKind)) (x3 : Toks) :
    (s.scan h d root m x1 x2 x3).2.stw.units = s.stw.units := by
  fun_induction s.scan h d root m x1 x2 x3 <;> grind [!units_walk]

@[simp] theorem units_stringOf (r : TokRun) (packets : List Packet) (i : Nat) : (s.stringOf r packets i).2.stw.units = s.stw.units := by
  grind [State.stringOf, !units_tokRead]

@[simp] theorem units_tokCount (invalid bytes : Nat) : (s.tokCount invalid bytes).stw.units = s.stw.units := by rfl

@[simp] theorem units_runStrings (d : Dict) (root : Node) (packets : List Packet) (x1 : Nat) (x2 : Nat) (x3 : TokRun) :
    (s.runStrings d root packets x1 x2 x3).2.stw.units = s.stw.units := by
  fun_induction s.runStrings d root packets x1 x2 x3 <;> grind [!units_engWrite, !units_sendPacket, !units_scan, !units_stringOf, !units_tokCount]

@[simp] theorem units_runTok (r : TokRun) (packets : List Packet) (stopped : Bool) :
    (s.runTok r packets stopped).2.stw.units = s.stw.units := by
  unfold State.runTok
  extract_lets r1
  have h1 : (s.readNode r1.hank r1.dict 0).2.stw.units = s.stw.units := units_readNode ..
  split <;> rename_i heq <;> rw [heq] at h1
  · exact h1
  · split
    · exact h1
    · refine (units_runStrings ..).trans ?_
      dsimp only
      split
      · exact units_draw.trans h1
      · exact h1

@[simp] theorem units_tokPackets (r : TokRun) : (s.tokPackets r).2.stw.units = s.stw.units := by
  unfold State.tokPackets
  split <;> rfl

@[simp] theorem units_tokHalfway (r : TokRun) : (s.tokHalfway r).2.stw.units = s.stw.units := by
  grind [State.tokHalfway, !units_runTok, !units_tokPackets]

@[simp] theorem units_tokReported (r : TokRun) : (s.tokReported r).2.stw.units = s.stw.units := by
  grind [State.tokReported, !units_writeReport]

@[simp] theorem units_tokRelease (r : TokRun) : (s.tokRelease r).stw.units = s.stw.units := by
  unfold State.tokRelease
  split <;> simp

@[simp] theorem units_tokStop (r : TokRun) : (s.tokStop r).stw.units = s.stw.units := by
  grind [State.tokStop, !units_tokHalfway, !units_tokReported, !units_tokRelease]

@[simp] theorem units_tokUnstarted (j : Job) :
    (s.tokUnstarted j).stw.units = s.stw.units := (units_writeReport ..).trans (units_engBytes ..)

/-! #### Whorl -/

@[simp] theorem units_setCtx (p c : Nat) (x : Ctx) : (s.setCtx p c x).stw.units = s.stw.units := by rfl

@[simp] theorem units_endCtx (p c jobMax narrowed clips : Nat) (stopped : Bool) :
    (s.endCtx p c jobMax narrowed clips stopped).stw.units = s.stw.units := by rfl

@[simp] theorem units_quantCounts (clips invalid : Nat) : (s.quantCounts clips invalid).stw.units = s.stw.units := by rfl

@[simp] theorem units_whlRead (req : Nat) (w : Work) (a n : Nat) : (s.whlRead req w a n).2.stw.units = s.stw.units := by
  grind [State.whlRead, !units_engRead]

@[simp] theorem units_loadB (req : Nat) (d : WDesc) (x1 : Nat) (x2 : Nat) (x3 : Work) :
    (s.loadB req d x1 x2 x3).2.stw.units = s.stw.units := by
  fun_induction s.loadB req d x1 x2 x3 <;> grind [!units_whlRead]

@[simp] theorem units_loadParams (req : Nat) (d : WDesc) (w : Work) : (s.loadParams req d w).2.stw.units = s.stw.units := by
  grind [State.loadParams, !units_whlRead]

@[simp] theorem units_loadA (req : Nat) (d : WDesc) (h m : Nat) (w : Work) : (s.loadA req d h m w).2.stw.units = s.stw.units := by
  grind [State.loadA, !units_whlRead]

@[simp] theorem units_loadAs (req : Nat) (d : WDesc) (h : Nat) (x1 : List Nat) (x2 : Work) :
    (s.loadAs req d h x1 x2).2.stw.units = s.stw.units := by
  fun_induction s.loadAs req d h x1 x2 <;> grind [!units_loadA]

@[simp] theorem units_drawRow (x1 : List (Option Int)) : (s.drawRow x1).2.stw.units = s.stw.units := by
  fun_induction s.drawRow x1 <;> grind [!units_draw]

@[simp] theorem units_requant (w : Work) (d : WDesc) (n : Nat) (x : Int) : (s.requant w d n x).2.stw.units = s.stw.units := by
  grind [State.requant, !units_draw]

@[simp] theorem units_rowZ (d : WDesc) (shape first h m : Nat) (w : Work) (x1 : Nat) (x2 : Nat) (x3 : List Int) :
    (s.rowZ d shape first h m w x1 x2 x3).2.2.stw.units = s.stw.units := by
  fun_induction s.rowZ d shape first h m w x1 x2 x3 <;> grind [!units_requant]

@[simp] theorem units_rowAct (w : Work) (d : WDesc) (tables : Nat) (zs : List Int) :
    (s.rowAct w d tables zs).2.stw.units = s.stw.units := by
  grind [State.rowAct, !units_drawRow]

@[simp] theorem units_oldOrNew (a : Nat) (bs : List Byte) : (s.oldOrNew a bs).2.stw.units = s.stw.units := by rfl

@[simp] theorem units_whlWrite (req h : Nat) (w : Work) (meets : Bool) (a : Nat) (bs : List Byte) :
    (s.whlWrite req h w meets a bs).2.stw.units = s.stw.units := by
  grind [State.whlWrite, !units_engWrite, !units_oldOrNew]

@[simp] theorem units_whlRow (p : WPlace) (d : WDesc) (h m : Nat) (w : Work) : (s.whlRow p d h m w).2.stw.units = s.stw.units := by
  grind [State.whlRow, !units_sendPacket, !units_loadAs, !units_rowZ, !units_rowAct, !units_whlWrite]

@[simp] theorem units_whlRows (p : WPlace) (d : WDesc) (x1 : Nat) (x2 : Nat) (x3 : Work) :
    (s.whlRows p d x1 x2 x3).2.stw.units = s.stw.units := by
  fun_induction s.whlRows p d x1 x2 x3 <;> grind [!units_whlRow]

@[simp] theorem units_whlRun (a : Nat) (run : WhlRun) (packets : List Packet) (stopped : Bool) :
    (s.whlRun a run packets stopped).2.stw.units = s.stw.units := by
  grind [State.whlRun, !units_draw, !units_loadB, !units_loadParams, !units_whlRows]

@[simp] theorem units_whlPackets (a : Nat) (r : WhlRun) : (s.whlPackets a r).2.stw.units = s.stw.units := by
  unfold State.whlPackets
  split <;> rfl

@[simp] theorem units_whlHalfway (a : Nat) (r : WhlRun) : (s.whlHalfway a r).2.stw.units = s.stw.units := by
  grind [State.whlHalfway, !units_whlRun, !units_whlPackets]

@[simp] theorem units_whlCounts (r : WhlRun) : (s.whlCounts r).stw.units = s.stw.units := by
  unfold State.whlCounts
  dsimp only
  have h := units_foldl (f := fun (s : State) (e : Nat × Nat) =>
    s.setTile e.1 { s.tile e.1 with accSat := satAdd 32 (s.tile e.1).accSat e.2 }) (fun _ _ => rfl) r.satTile (s.quantCounts r.clips r.invalid)
  split <;> simp [h]

@[simp] theorem units_whlReported (a cycles : Nat) (r : WhlRun) : (s.whlReported a cycles r).2.stw.units = s.stw.units := by
  grind [State.whlReported, !units_writeReport]

@[simp] theorem units_whlRelease (a cycles : Nat) (r : WhlRun) : (s.whlRelease a cycles r).stw.units = s.stw.units := by
  unfold State.whlRelease
  dsimp only
  rw [units_updJob]
  split
  · rw [units_foldl (by intros; rfl)]
    simp
  · rw [units_foldl (by intros; rfl), units_foldl (by intros; rfl)]
    simp

@[simp] theorem units_whlStop (a : Nat) (r : WhlRun) : (s.whlStop a r).stw.units = s.stw.units := by
  grind [State.whlStop, !units_draw, !units_whlHalfway, !units_whlReported, !units_whlRelease]

@[simp] theorem units_whlUnstarted (j : Job) :
    (s.whlUnstarted j).stw.units = s.stw.units := (units_writeReport ..).trans (units_engBytes ..)

/-! #### Ends of a unit's work -/

@[simp] theorem units_tombstone (j : Job) (peer lenOut reason : Nat) : (s.tombstone j peer lenOut reason).stw.units = s.stw.units := by rfl

@[simp] theorem units_stopUnits (j : Job) : (s.stopUnits j).2.stw.units = s.stw.units := by
  grind [State.stopUnits, !State.setCore_stw, !State.setChan_stw, !State.setArr_stw, !units_draw, !units_updJob, !units_whlStop,
    !units_whlUnstarted, !units_tokStop, !units_tokUnstarted, !units_tombstone]

theorem units_loseBank (b : Nat) : (s.loseBank b).stw.units = s.stw.units :=
  (units_foldl (fun _ _ => units_poolRelease ..) _ _).trans ((units_voidRange ..).trans (units_scrub ..))

theorem units_loseTile (t : Nat) : (s.loseTile t).stw.units = s.stw.units := by
  unfold State.loseTile
  refine units_foldl (fun s e => ?_) _ _
  exact units_foldl (by intros; rfl) _ _

end

end Sys2Proof.Machine
end

section
/-! SUPPORT. Reports, drains, departures and self-tests of a unit (18 R401 to R406). -/
namespace Sys2Proof.Machine
open Safety

section
variable {s : State} {i : Nat} {u : UnitSt}

/-! ### A unit's record -/

/-- The unit state table holds `u` for unit `i`. -/
def State.HasUnit (s : State) (i : Nat) (u : UnitSt) : Prop := mget? s.stw.units i = some u

theorem State.HasUnit.unitSt_eq (h : s.HasUnit i u) : s.unitSt i = u := congrArg (Option.getD · _) h

theorem State.HasUnit.of_units {t : State} (h : s.HasUnit i u) (hunits : t.stw.units = s.stw.units) : t.HasUnit i u :=
  (congrArg (mget? · i) hunits).trans h

theorem hasUnit_setUnit (u : UnitSt) : (s.setUnit i u).HasUnit i u := mget?_mset ..

/-- A unit's record when its state is written. -/
def State.unitAt (s : State) (i st auth : Nat) : UnitSt :=
  { s.unitSt i with state := st, auth := auth, local_ := (s.unitSt i).state, localAt := s.tck.time + 2000 }

theorem stw_writeUnit (st auth : Nat) : (s.writeUnit i st auth).stw = (s.setUnit i (s.unitAt i st auth)).stw :=
  stw_retier.trans ((stw_pulse _).trans (stw_fact _))

theorem hasUnit_writeUnit (st auth : Nat) : (s.writeUnit i st auth).HasUnit i (s.unitAt i st auth) :=
  (hasUnit_setUnit (s := s) _).of_units (congrArg Stw.units (stw_writeUnit st auth))

/-- A record that is put and whose state is then written. -/
theorem hasUnit_writeUnit_setUnit (u : UnitSt) (st auth : Nat) : ∃ v : UnitSt,
    ((s.setUnit i u).writeUnit i st auth).HasUnit i v ∧ v.state = st ∧ v.testing = u.testing ∧ v.latch = u.latch
      ∧ v.lastCause = u.lastCause ∧ v.faults = u.faults := by
  have hunit : (s.setUnit i u).unitSt i = u := State.unitSt_setUnit s i u
  exact ⟨_, hasUnit_writeUnit st auth, rfl, (congrArg UnitSt.testing hunit :), (congrArg UnitSt.latch hunit :),
    (congrArg UnitSt.lastCause hunit :), (congrArg UnitSt.faults hunit :)⟩

theorem head_lt_writeUnit (st auth : Nat) : s.lea.head < (s.writeUnit i st auth).lea.head := by
  unfold State.writeUnit
  extract_lets old t r
  have hhead : s.lea.head < r.lea.head := head_lt_fact t _
  clear_value r
  rw [← head_pulse r 0x00C] at hhead
  exact hhead.trans_le (later_retier _).head

/-! ### Drains -/

/-- R404: the record of a unit that becomes DRAINING. -/
def State.unitDraining (s : State) (i target auth : Nat) : UnitSt := (s.setUnit i { s.unitSt i with target := target }).unitAt i 3 auth

theorem hasUnit_startDrain (target auth : Nat) : (s.startDrain i target auth).HasUnit i (s.unitDraining i target auth) := by
  unfold State.startDrain
  extract_lets _ t r
  have hr : r.HasUnit i (s.unitDraining i target auth) := hasUnit_writeUnit (s := t) 3 auth
  clear_value r
  exact hr.of_units (units_foldl (fun _ j => (units_complete j.id .unavailable 2).trans (units_stopUnits j)) _ r)

theorem unitDraining_target (target auth : Nat) : (s.unitDraining i target auth).target = target :=
  (congrArg UnitSt.target (State.unitSt_setUnit s i { s.unitSt i with target := target }) :)

theorem unitDraining_lastCause (target auth : Nat) : (s.unitDraining i target auth).lastCause = (s.unitSt i).lastCause :=
  (congrArg UnitSt.lastCause (State.unitSt_setUnit s i { s.unitSt i with target := target }) :)

/-- R404: a unit that leaves service has the state that it drained to. -/
theorem state_leaveService (st auth : Nat) : ((s.leaveService i st auth).unitSt i).state = st := by
  obtain ⟨u, hu, hst⟩ : ∃ u : UnitSt, (s.writeUnit i st auth).HasUnit i u ∧ u.state = st := ⟨_, hasUnit_writeUnit st auth, rfl⟩
  unfold State.leaveService
  generalize s.writeUnit i st auth = r at *
  extract_lets _ _ t
  have ht : ∃ u : UnitSt, t.HasUnit i u ∧ u.state = st := by
    unfold t
    split
    · exact ⟨_, hasUnit_setUnit _, (congrArg UnitSt.state hu.unitSt_eq).trans hst⟩
    · exact ⟨u, hu, hst⟩
  obtain ⟨u, hu, hst⟩ := ht
  clear_value t
  split_ifs
  · rw [(hu.of_units (units_loseBank _)).unitSt_eq, hst]
  · rw [(hu.of_units (units_foldl (f := State.loseBank) (fun _ b => units_loseBank b) _ t)).unitSt_eq, hst]
  · rw [(hu.of_units (units_loseTile _)).unitSt_eq, hst]
  · rw [hu.unitSt_eq, hst]

/-- R404: the limit of a drain whose unit runs no job. -/
theorem drainLimit_of_idle (hstate : (s.unitSt i).state = 3) (hjobs : s.jobsOn i true = []) :
    exec (.drainLimitExpiry i) s = .next ((fresh s).leaveService i (s.unitSt i).target (s.unitSt i).auth) := by
  have hexec : exec (.drainLimitExpiry i) s = execDrainLimitExpiry i s := rfl
  have hjobs' : ({ s with out := [] } : State).jobsOn i true = [] := hjobs
  rw [hexec]
  unfold execDrainLimitExpiry
  dsimp only
  rw [hjobs']
  exact if_pos hstate

/-! ### Reports -/

/-- R401: the record of a unit that has been reported; `win` are the reports of the window. -/
def UnitSt.reported (u : UnitSt) (cause : Nat) (win : List Nat) : UnitSt :=
  { u with faults := satAdd 16 u.faults 1, lastCause := cause, latch := true, reports := win }

/-- R401: the reports of a unit in the window that ends now. -/
def State.reportWindow (s : State) (i : Nat) : List Nat :=
  (s.unitSt i).reports.filter (fun t => decide (s.tck.time < t + s.stw.reportWindow * 60 * nsPerS)) ++ [s.tck.time]

def State.reported (s : State) (i cause : Nat) : State := s.setUnit i ((s.unitSt i).reported cause (s.reportWindow i))

/-- R402: a reported unit that is ONLINE becomes SUSPECT. -/
def State.suspected (s : State) (i cause : Nat) : State :=
  if (s.unitSt i).state = 1 then (s.reported i cause).writeUnit i 2 2 else s.reported i cause

theorem takeReport_eq (hfixed : fixedUnit i = false) (cause : Nat) : s.takeReport i cause =
    if ((s.suspected i cause).unitSt i).state = 2
        ∧ ((s.suspected i cause).stw.reportLimit ≤ (s.reportWindow i).length ∨ cause = 4 ∨ cause = 6 ∨ cause = 8) then
      (s.suspected i cause).startDrain i 4 2 else s.suspected i cause :=
  if_neg (by simp [hfixed])

/-- R402: the first report of an ONLINE unit, of a cause that is not serious. -/
theorem takeReport_of_online (hfixed : fixedUnit i = false) (hstate : (s.unitSt i).state = 1) (hfirst : (s.unitSt i).reports = [])
    (hlimit : 2 ≤ s.stw.reportLimit) {cause : Nat} (hcause : cause < 4) : s.takeReport i cause = (s.reported i cause).writeUnit i 2 2 := by
  have hsuspected : s.suspected i cause = (s.reported i cause).writeUnit i 2 2 := if_pos hstate
  have hwindow : (s.reportWindow i).length = 1 := by simp [State.reportWindow, hfirst]
  have hlimit' : (s.suspected i cause).stw.reportLimit = s.stw.reportLimit := by
    rw [hsuspected, stw_writeUnit]
    rfl
  rw [takeReport_eq hfixed, if_neg (by omega), hsuspected]

/-- R403: a report that a unit does not answer drains it. -/
theorem takeReport_of_silent (hfixed : fixedUnit i = false) (hstate : (s.unitSt i).state = 1 ∨ (s.unitSt i).state = 2) :
    s.takeReport i 6 = (s.suspected i 6).startDrain i 4 2 ∧ ((s.suspected i 6).unitSt i).lastCause = 6 := by
  have hsuspect : ((s.suspected i 6).unitSt i).state = 2 ∧ ((s.suspected i 6).unitSt i).lastCause = 6 := by
    have hunit : (s.reported i 6).unitSt i = _ := State.unitSt_setUnit ..
    unfold State.suspected
    split
    · rw [(hasUnit_writeUnit (s := s.reported i 6) 2 2).unitSt_eq]
      exact ⟨rfl, congrArg UnitSt.lastCause hunit⟩
    · rw [hunit]
      exact ⟨hstate.resolve_left (by assumption), rfl⟩
  rw [takeReport_eq hfixed, if_pos ⟨hsuspect.1, .inr (.inr (.inl rfl))⟩]
  exact ⟨rfl, hsuspect.2⟩

/-! ### UNIT -/

theorem overrideCmd_of_free {from_ : Authority} {dur : Nat} (hdur : dur ≤ 86400) (hroom : HasRoom s) (aux object index value : Nat) :
    ∃ e, s.overrideCmd from_ aux object index value dur false none = (mreply 0, (s.jRing e).install from_ object index value dur) := by
  unfold State.overrideCmd
  rw [if_neg (Nat.not_lt.mpr hdur), if_neg (by simp)]
  simp only [Bool.false_eq_true, if_false, change_of_hasRoom hroom]
  exact ⟨_, rfl⟩

/-- R403: UNIT 2 of an ONLINE unit drains it to OFFLINE. -/
theorem unitCmd_offline {from_ : Authority} {dur : Nat} (hlt : i < 192) (hpresent : unitPresent s.variant i = true)
    (hfixed : fixedUnit i = false) (hdur : dur ≤ 86400) (hstate : (s.unitSt i).state = 1) (htesting : (s.unitSt i).testing = none)
    (hhold : (s.unitSt i).policyHold = none) (hfree : s.holder 0x0102 i = none) (hroom : HasRoom s) (aux : Nat) :
    ∃ (t : State) (auth : Nat), s.unitCmd from_ aux i 2 dur = (mreply 0, t.startDrain i 5 auth) := by
  have hheld : s.unitHeld from_ i = none := by
    unfold State.unitHeld
    rw [hhold]
    exact heldAbove_of_free hfree
  obtain ⟨e, hcmd⟩ := overrideCmd_of_free (from_ := from_) hdur hroom aux 0x0102 i 2
  have hargs : ¬(256 ≤ i ∨ (!unitPresent s.variant i) = true ∨ (s.unitSt i).state = 0 ∨ fixedUnit i = true ∨ 2 = 0 ∨ 3 < 2
      ∨ 86400 < dur ∨ (2 = 1 ∧ (s.unitSt i).state = 5)) := by
    rw [hpresent, hfixed]
    simp
    omega
  unfold State.unitCmd
  dsimp only
  rw [if_neg hargs, if_neg (by simp [hstate, htesting]), if_neg (by omega), hheld, hcmd]
  simp only [mreply, hstate]
  exact ⟨_, _, rfl⟩

/-! ### Self-tests -/

theorem units_selftestAnswer (auth status : Nat) : (s.selftestAnswer i auth status).stw.units = s.stw.units := by
  unfold State.selftestAnswer
  split
  · dsimp only
    split
    · split <;> rfl
    · rfl
  · rfl

theorem State.HasUnit.answered (h : s.HasUnit i u) (auth status : Nat) : (s.selftestAnswer i auth status).unitSt i = u :=
  (h.of_units (units_selftestAnswer auth status)).unitSt_eq

/-- R406: an interface that training left out is OFFLINE. -/
theorem state_of_leftOut (h : s.leftOut i = true) : (s.unitSt i).state = 5 := by
  simp only [State.leftOut, Bool.and_eq_true, beq_iff_eq] at h
  exact h.1.2

/-- R406: the record of a unit whose self-test has passed. -/
def UnitSt.tested (u : UnitSt) : UnitSt := { u with testing := none, latch := false, reports := [], lastCause := 0 }

/-- R406: the record of a unit whose self-test has failed. -/
def UnitSt.untested (u : UnitSt) : UnitSt := { u with testing := none, lastCause := 8, faults := satAdd 16 u.faults 1 }

/-- R406: a unit that fails its self-test is QUARANTINED, or stays it. -/
theorem hasUnit_failed (auth : Nat) : ∃ v : UnitSt, (if u.state = 4 then s.setUnit i u.untested
      else (s.setUnit i u.untested).writeUnit i 4 auth).HasUnit i v ∧ v.state = 4 ∧ v.testing = none ∧ v.lastCause = 8
        ∧ v.faults = satAdd 16 u.faults 1 := by
  split
  · exact ⟨_, hasUnit_setUnit _, by assumption, rfl, rfl, rfl⟩
  · obtain ⟨v, hunit, hst, htest, -, hcause, hfaults⟩ := hasUnit_writeUnit_setUnit (s := s) (i := i) u.untested 4 auth
    exact ⟨v, hunit, hst, htest, hcause, hfaults⟩

variable {auth : Nat} (htesting : (s.unitSt i).testing = some auth)
include htesting

/-- R406: the self-test of an interface that training left out. -/
theorem selftest_of_leftOut (hleft : s.leftOut i = true) (ok : Bool) : exec (.selftestDone i ok) s =
    .next (((fresh s).setUnit i { s.unitSt i with testing := none }).selftestAnswer i auth 0x06) := by
  have htesting' : ((fresh s).unitSt i).testing = some auth := htesting
  have hexec : exec (.selftestDone i ok) s = execSelftestDone i ok s := rfl
  rw [hexec, execSelftestDone]
  change (match ((fresh s).unitSt i).testing with | none => _ | some auth => _) = _
  rw [htesting']
  exact if_pos hleft

theorem selftest_of_passed (hleft : s.leftOut i = false) : exec (.selftestDone i true) s =
    .next ((((fresh s).setUnit i (s.unitSt i).tested).writeUnit i 1 (auth % 16)).selftestAnswer i auth 0) := by
  have htesting' : ((fresh s).unitSt i).testing = some auth := htesting
  have hleft' : ¬(fresh s).leftOut i = true := by
    have h : (fresh s).leftOut i = false := hleft
    simp [h]
  have hexec : exec (.selftestDone i true) s = execSelftestDone i true s := rfl
  rw [hexec, execSelftestDone]
  change (match ((fresh s).unitSt i).testing with | none => _ | some auth => _) = _
  rw [htesting']
  exact (if_neg hleft').trans (if_pos rfl)

theorem selftest_of_failed (hleft : s.leftOut i = false) : exec (.selftestDone i false) s =
    .next ((if (s.unitSt i).state = 4 then (fresh s).setUnit i (s.unitSt i).untested
      else ((fresh s).setUnit i (s.unitSt i).untested).writeUnit i 4 (auth % 16)).selftestAnswer i auth 0x06) := by
  have htesting' : ((fresh s).unitSt i).testing = some auth := htesting
  have hleft' : ¬(fresh s).leftOut i = true := by
    have h : (fresh s).leftOut i = false := hleft
    simp [h]
  have hexec : exec (.selftestDone i false) s = execSelftestDone i false s := rfl
  rw [hexec, execSelftestDone]
  change (match ((fresh s).unitSt i).testing with | none => _ | some auth => _) = _
  rw [htesting']
  exact (if_neg hleft').trans (if_neg (by simp))

end

end Sys2Proof.Machine
end

section
namespace Sys2Proof.Proofs
open Machine Safety

/-- Settles O59: each command by the record that the unit has after it. -/
theorem unitsAreReportedDrainedAndReturned : Obligations.UnitsAreReportedDrainedAndReturned := by
  unfold Obligations.UnitsAreReportedDrainedAndReturned
  intro s i hlt hpresent hfixed hreports u st
  have hnext {u v : State} (h : u = v) : (.next u : Host.Outcome State Fault Refusal) = .next v := congrArg Host.Outcome.next h
  refine ⟨fun c hc hstate hfirst hlimit => ?_, fun hstate => ?_, fun hstate => ?_, fun hstate hidle => ?_, fun hstate hbusy => ?_,
    fun hstate hjobs => ?_, fun a hmay hobj hvalue hdur hstate htesting hhold hfree hroom => ?_, fun au ok htesting hleft => ?_,
    fun au htesting hleft => ?_, fun au htesting hleft => ?_⟩
  · obtain ⟨v, hunit, hst, -, hlatch, hcause, hfaults⟩ :=
      hasUnit_writeUnit_setUnit (s := fresh s) (i := i) (u.reported c ((fresh s).reportWindow i)) 2 2
    have hexec := hnext ((takeReports_report (s := fresh s) (cause := c) hreports hpresent).trans
      (takeReport_of_online (s := fresh s) hfixed hstate hfirst hlimit hc))
    have hhead := head_lt_writeUnit (s := (fresh s).reported i c) (i := i) 2 2
    refine ⟨_, hexec, ?_, ?_, ?_, ?_, hhead⟩
    · exact (congrArg UnitSt.state hunit.unitSt_eq).trans hst
    · exact (congrArg UnitSt.latch hunit.unitSt_eq).trans hlatch
    · exact (congrArg UnitSt.lastCause hunit.unitSt_eq).trans hcause
    · exact (congrArg UnitSt.faults hunit.unitSt_eq).trans hfaults
  · obtain ⟨hdrain, hcause⟩ := takeReport_of_silent (s := fresh s) hfixed hstate
    have hunit := (hasUnit_startDrain (s := (fresh s).suspected i 6) (i := i) 4 2).unitSt_eq
    refine ⟨_, hnext ((takeReports_report (s := fresh s) (cause := 6) hreports hpresent).trans hdrain), ?_, ?_⟩
    · exact congrArg UnitSt.state hunit
    · exact (congrArg UnitSt.lastCause hunit).trans ((unitDraining_lastCause 4 2).trans hcause)
  · obtain ⟨v, hunit, hst, -, hlatch, -, -⟩ := hasUnit_writeUnit_setUnit (s := fresh s) (i := i) { u with latch := false, reports := [] } 1 2
    have hhead := head_lt_writeUnit (s := (fresh s).setUnit i { u with latch := false, reports := [] }) (i := i) 1 2
    refine ⟨_, if_pos hstate, ?_, ?_, hhead⟩
    · exact (congrArg UnitSt.state hunit.unitSt_eq).trans hst
    · exact (congrArg UnitSt.latch hunit.unitSt_eq).trans hlatch
  · exact ⟨_, if_pos ⟨hstate, hidle⟩, state_leaveService _ _⟩
  · exact if_neg (fun h => absurd (hbusy.symm.trans h.2) (by decide))
  · exact ⟨_, drainLimit_of_idle hstate hjobs, state_leaveService _ _⟩
  · obtain ⟨t, auth, hcmd⟩ := unitCmd_offline (s := fresh s) (from_ := a.from_) hlt hpresent hfixed hdur hstate htesting hhold hfree hroom
      (authCode a.from_)
    have hunit := hasUnit_startDrain (s := t) (i := i) 5 auth
    have hcmd' := (congrArg₂ (fun o v => (fresh s).unitCmd a.from_ (authCode a.from_) o v a.durationS) hobj hvalue).trans hcmd
    refine ⟨mgmtOut a.from_ (mreply 0, t.startDrain i 5 auth), ?_, ?_, ?_, mem_out_mgmtOut _ 0 0 []⟩
    · exact (exec_unit a).trans (hnext (congrArg (mgmtOut a.from_) ((managed_of_may hmay _).trans hcmd')))
    · exact congrArg UnitSt.state hunit.unitSt_eq
    · exact (congrArg UnitSt.target hunit.unitSt_eq).trans (unitDraining_target 5 auth)
  · have hunit := (hasUnit_setUnit (s := fresh s) (i := i) { u with testing := none }).answered au 0x06
    refine ⟨_, selftest_of_leftOut htesting hleft ok, ?_, ?_⟩
    · exact (congrArg UnitSt.state hunit).trans (state_of_leftOut hleft)
    · exact congrArg UnitSt.testing hunit
  · obtain ⟨v, hunit, hst, htest, hlatch, -, -⟩ := hasUnit_writeUnit_setUnit (s := fresh s) (i := i) u.tested 1 (au % 16)
    have hunit' := hunit.answered au 0
    refine ⟨_, selftest_of_passed htesting hleft, ?_, ?_, ?_⟩
    · exact (congrArg UnitSt.state hunit').trans hst
    · exact (congrArg UnitSt.testing hunit').trans htest
    · exact (congrArg UnitSt.latch hunit').trans hlatch
  · obtain ⟨v, hunit, hst, htest, hcause, hfaults⟩ := hasUnit_failed (s := fresh s) (i := i) (u := u) (au % 16)
    have hunit' := hunit.answered au 0x06
    refine ⟨_, selftest_of_failed htesting hleft, ?_, ?_, ?_, ?_⟩
    · exact (congrArg UnitSt.state hunit').trans hst
    · exact (congrArg UnitSt.testing hunit').trans htest
    · exact (congrArg UnitSt.lastCause hunit').trans hcause
    · exact (congrArg UnitSt.faults hunit').trans hfaults

end Sys2Proof.Proofs
end
